-- ==== Sys2Proof/Word.lean ====
section
/-! DEFINITION. The widths the spec fixes: bytes, 32-bit registers (R45), 64-byte submission entries (R105), and
plain byte strings. -/

namespace Sys2Proof

/-- A byte. -/
abbrev Byte := BitVec 8

/-- A register (R45). -/
abbrev Word := BitVec 32

/-- A 64-bit number, stored low byte first (R6). -/
abbrev DWord := BitVec 64

/-- A submission entry: 64 bytes, byte 0 in the least significant bits (R105, R6). -/
abbrev Entry := BitVec 512

/-- A byte string, in address order. -/
abbrev Bytes := List Byte

/-- A sparse table: keys strictly rising; what an unlisted key holds is the reader's default. -/
abbrev Tab (α : Type) := List (Nat × α)

end Sys2Proof
end

