-- ==== Sys2Proof/Types.lean ====
section
/-! DEFINITION. The kinds of thing a command names: who sends it, which block a register access goes to, and the
pieces of host memory that travel with it. -/

namespace Sys2Proof

/-- A function of the device (R58): 256 × partition + index, index 0 for the PF and v for VF v. -/
abbrev Fn := Nat

/-- Who makes a register access: a function over its PCIe link, or the SMBus sideband (R505). -/
inductive Port where
  | fn (f : Nat)
  | sideband
  deriving DecidableEq, Repr

/-- The block or page a register access falls in: the 16 blocks of R32, the KLT region (R26), a function's QE
register page (R75), a peal page (R82), the task-register window (R102), the MSI-X table (R60) and the doorbell region
(R79). -/
inductive Blk where
  | hi | qe | pe | bm | mc | cx | ce | df | ee | wc | rc | ed | sm | vc | ct | ms
  | klt | qePage | peal | task | msix | bells
  deriving DecidableEq, Repr

/-- The allocation registers of R65 and R66, HI_FN_TENANT and HI_VF_QUOTA apart. -/
inductive AllocKind where
  | sqBase | sqCount | cqBase | cqCount | vecBase | vecCount | streamQuota | keyBase | keyCount
  | bufMin | bufMax | weight
  deriving DecidableEq, Repr

/-- One piece of a buffer list (R108): address and length. -/
structure BufPiece where
  addr : Nat
  len : Nat
  deriving DecidableEq, Repr

/-- One entry of a record list (R109). -/
structure RecItem where
  len : Nat
  crc : BitVec 32
  flags : BitVec 16
  pegClass : BitVec 16
  deriving DecidableEq, Repr

/-- Who owns a buffer or makes a request to BM: a unit of a subsystem, or a ring of a function (R189). -/
inductive Party where
  | unit (blk : Blk) (n : Nat)
  | ring (fn ring : Nat)
  deriving DecidableEq, Repr

/-- What an uncorrectable block of buffer memory held (R203). -/
inductive UeContent where
  | recordData (stream record : Nat)  -- record data or a sealed parcel of the write stream with this key
  | ringContext (cq : Bool) (fn ring : Nat)
  | readData (dataset : Nat)       -- data read from tape and not yet delivered
  | cxContext (image : Nat)        -- a saved compressor context
  | legPage (leg : Nat)
  | c3Parity (group : Nat)
  | free                           -- a block that holds nothing
  deriving DecidableEq, Repr

/-- A frame on tape: dataset number, restart count, slot and position (R269, R273). -/
structure FramePos where
  dataset : Nat
  restart : Nat
  slot : Nat
  pos : Nat
  deriving DecidableEq, Repr

/-- What a decoder lane and its channel report of one frame (R325, R354 to R361). -/
structure FrameRead where
  /-- The frame. -/
  place : FramePos
  /-- The decoder lane that took it; none where it found every lane busy and the buffers full (R355). -/
  lane : Option Nat
  /-- Read back behind the write head (R324), or read for a host. -/
  verify : Bool
  /-- The hard decisions after the last iteration run, 16,384 bits. -/
  code : List Bool
  /-- Iterations of the decode that ended, bits it corrected, marks missed, E (R325). -/
  iters : Nat
  corrected : Nat
  missed : Nat
  mse : Nat
  /-- It decoded in an alignment retry (R359). -/
  retried : Bool
  /-- Channel bits flagged as defective (R360). -/
  flagged : Nat
  deriving DecidableEq, Repr

/-- What a channel measures on a benchmark (R371): timing lock kept, errors, E. -/
structure BenchRead where
  locked : Bool
  errors : Nat
  mse : Nat
  deriving DecidableEq, Repr

/-- A C3 member as DF re-reads it (R307): number, tier count, restart count, and its parcel area, if it can be read. -/
structure MemberRead where
  num : Nat
  tiers : Nat
  restart : Nat
  area : Option (List (BitVec 8))
  deriving DecidableEq, Repr

/-- What the board, the part and its surroundings present to a start (R1, R56, R62, R201, R457). -/
structure Board where
  /-- PART_SEL[1:0] as sampled (R56); 2 bits; model's board 0. -/
  partSel : Nat
  /-- OWNER_SEL[1:0] as sampled (R62); 2 bits; model's board 0. -/
  ownerSel : Nat
  /-- The part is an RFX-7096 (R1); model's board false. -/
  lite : Bool
  /-- Density code of each LPDDR5X channel (R206 dens0, dens1); 8 values 0 to 4; model's board 3 each. -/
  density : List Nat
  /-- Highest data rate in MT/s at which every active channel trains (R201); model's board 8533. -/
  mts : Nat
  /-- Slot A and slot B as read at step 6 of R447 still verify under R455; model's board true, true. -/
  okA : Bool
  okB : Bool
  /-- The NV flash as detected (R457): MiB, 0 where it is absent or unreadable; MHz; mode of MS_XS_CFG; model's board
  32, 200, 2. -/
  flashMib : Nat
  flashMhz : Nat
  flashMode : Nat
  /-- The TRNG passes its start-up tests (R256); model's board true. -/
  trngOk : Bool
  deriving DecidableEq, Repr

/-- One island's entry of a test run (R480). -/
structure IslandResult where
  flags : Nat
  sram : Nat
  stuck : Nat
  trans : Nat
  units : Nat
  ms : Nat
  used : Nat
  left : Nat
  deriving DecidableEq, Repr

/-- What a test run found (R479 to R482): entries in island-code order; failed units as COUNT type and number; soft
repairs added, by unit; duration. -/
structure TestRead where
  islands : List IslandResult
  failed : List (Nat × Nat)
  repairs : List (Nat × Nat × Nat)
  ms : Nat
  deriving DecidableEq, Repr

/-- The datum copy of one band as read (R263, R419): format bytes of the valid preambles found, and the start of the
parcel area of each dataset that decodes. -/
structure DatumRead where
  formats : List Nat
  label : Option (List (BitVec 8))
  rootA : Option (List (BitVec 8))
  rootB : Option (List (BitVec 8))
  deriving DecidableEq, Repr

/-- One extent as the mount scan reads it (R173): number, kind and restart count from its preambles; header and book
content where they decode; every tier decodes. -/
structure ScanItem where
  num : Nat
  kind : Nat
  restart : Nat
  header : Option (List (BitVec 8))
  book : Option (List (BitVec 8))
  whole : Bool
  deriving DecidableEq, Repr

/-- What a MOUNT, or a session that starts, finds on the cartridge (R414, R418, R419, R173). -/
structure MediaRead where
  /-- Cartridge memory from address 0, where it can be read. -/
  cm : Option (List (BitVec 8))
  /-- The leader was threaded to the hub (step 3); tension rose and the stepper homed (step 4). -/
  threaded : Bool
  tension : Bool
  /-- Datum copies, by band in wrap order. -/
  datum : List DatumRead
  /-- Book datasets as read, by dataset number. -/
  books : List (Nat × List (BitVec 8))
  /-- The extents after the root's last book, in order, as the scan finds them; every read of it could be made. -/
  scan : List ScanItem
  scanOk : Bool
  deriving DecidableEq, Repr

/-- What a loop-back has found (R491): bits compared, errors, items, items with an error, errors per lane, and for depth
0x33 the pattern it wrote first. -/
structure LoopReport where
  bits : Nat
  errors : Nat
  items : Nat
  itemsBad : Nat
  lanes : List Nat
  deriving DecidableEq, Repr

/-- What a corrupted item of a crossing carried (R18). -/
inductive DbeItem where
  | frame (place : FramePos) (verify : Bool)
  | parcel (dataset index : Nat)
  | other
  deriving DecidableEq, Repr

/-- A register write, or a doorbell word, that waits in the wake buffer (R440). -/
inductive HeldWrite where
  | reg (src : Port) (blk : Blk) (inst off width value : Nat)
  | bell (fn off width value : Nat)
  deriving DecidableEq, Repr

end Sys2Proof
end

