-- ==== Sys2Proof/Syntax.lean ====
section
/-! DEFINITION. The commands of spec/opcode_table.json, one constructor per row. -/

namespace Sys2Proof

/-- A command: what reaches the part from outside, or an event of one of its engines, with what it carries. -/
inductive Instr where
  /-- R80: A 32-bit write to a submission ring's tail doorbell publishes entries up to the new tail, or is dropped and counted. -/
  | sqDoorbell (fn off width value : Nat)
  /-- R80: A 32-bit write to a completion ring's head doorbell releases the slots before the new head, or is dropped and counted. -/
  | cqDoorbell (fn off width value : Nat)
  /-- R83: A write to QE_PEAL_COMMIT snapshots the page's pairs, applies each one as a doorbell in k order, and writes QE_PEAL_STATUS. -/
  | qePealCommit (fn page : Nat) (seq : Word)
  /-- R84: QE picks the next eligible function by weighted deficit round robin and fetches up to 64 consecutive published entries of one of its rings, running the fetch-phase checks on each. -/
  | entryFetch (entries : List Entry)
  /-- R85: Once every earlier-published entry of its function has been fetched, a fetched entry resolves at the range-lock table in publication order and runs the resolution-phase checks. -/
  | entryResolve (id : Nat)
  /-- R136: A resolved command waiting on an overlapping lock takes its range lock when the conflicting earlier command completes, and is handed to its executing subsystem. -/
  | lockGrant (id : Nat)
  /-- R192: The data transfer of a waiting write-class command starts once credit, the function cap and the overdraft reserve all allow it. -/
  | dataTransferStart (id : Nat) (pieces : List BufPiece) (recs : List RecItem)
  /-- R97: A write-class command's data is wholly in the buffer and sequenced into its stream, so the command is accepted and earns BUFFERED. -/
  | dataSequenced (id : Nat) (data : Bytes)
  /-- R88: QE writes a ready completion entry at the completion ring's tail with the current phase once the ring has room, advancing the tail. -/
  | completionPost
  /-- R91: QE_CQ_MOD.time microseconds after the first entry posted since the last signal, the moderation condition is met and the ring signals its vector if it can. -/
  | cqModerationTimer (fn cq : Nat)
  /-- R94: Once the event ring has room or exists again, waiting completions, then CHIME_LOST, then the pending chimes in code order are posted. -/
  | chimePost (fn : Nat)
  /-- R91: Setting a function's MSI-X Enable removes an obstacle, so every completion ring whose moderation condition is met signals its vector. -/
  | msixEnable (fn : Nat) (enable : Bool)
  /-- R98: A write to QE_SQ_RESET stops fetching the ring, drops its unaccepted commands with their locks and buffers, and lets its accepted commands finish. -/
  | qeSqReset (fn : Nat) (value : Word)
  /-- R99: After the last completion of a reset ring is posted, QE zeroes head and tail, clears resetting and posts RESET_DONE with the dropped and completed counts. -/
  | resetDone (fn ring : Nat)
  /-- R76: Writing QE_SQ_CTRL.enable = 1 puts a submission ring in service, or is refused and sets enable_refused. -/
  | sqEnable (fn : Nat) (value : Word)
  /-- R77: Writing QE_SQ_CTRL.enable = 0 on an enabled ring performs a queue reset, and the ring's enabled bit clears when RESET_DONE is posted. -/
  | sqDisable (fn : Nat) (value : Word)
  /-- R76: Writing QE_CQ_CTRL.enable = 1 sets the completion ring's tail to 0 and phase to 1, or is refused for a zero size or a bad vector. -/
  | cqEnable (fn : Nat) (value : Word)
  /-- R76: Writing QE_CQ_CTRL.enable = 0 disables the completion ring, or is refused while a bound ring is enabled or an entry waits to be posted to it. -/
  | cqDisable (fn : Nat) (value : Word)
  /-- R103: A write of 1 to TASK_GO while not busy sets busy and publishes a window-form entry with tag 0 on the function's hidden ring. -/
  | taskGoStart (fn : Nat) (value : Word)
  /-- R104: A write of 2 to TASK_GO while busy resets the hidden ring, and an unaccepted command is dropped with aborted set. -/
  | taskGoAbort (fn : Nat) (value : Word)
  /-- R101: An uncorrectable error in a ring context marks the ring failed, stops fetching, logs EV_QE_CTX_UE and posts RING_FAILED. -/
  | ringContextUe (cq : Bool) (fn ring : Nat)
  /-- R59: A write to HI_FN_TENANT sets the selected function's tenant number, or is refused for 0, a duplicate number or a failed RWL condition. -/
  | hiFnTenantWrite (src : Port) (part : Nat) (value : Word)
  /-- R59: A write to HI_VF_QUOTA changes the PF's TotalVFs, giving new VF indices the lowest free tenant numbers or erasing the numbers of removed ones. -/
  | hiVfQuotaWrite (src : Port) (part : Nat) (value : Word)
  /-- R65: A write to an allocation base, count, quota, buffer or weight register is checked for overlap, device totals and its RWL condition, then applied or rejected. -/
  | hiFnAllocWrite (src : Port) (part : Nat) (kind : AllocKind) (value : Word)
  /-- R64: A sideband write to MS_SB_OWNER changes the owner once fetched owner-only commands complete, ends an open update session, rebuilds both PFs' KLT views and posts OWNER_CHANGED. -/
  | msSbOwnerWrite (value : Word)
  /-- R42: The RFX sets the generation to 0 in every view, rewrites the affected views and their CRCs, then gives every view the new generation within 20 µs, running once more for triggers that arrived meanwhile. -/
  | kltRebuild
  /-- R48: A write to a register without a row of its own applies each field by its access code, holds or applies 64-bit word pairs, and drops narrow or misaligned writes. -/
  | registerWrite (src : Port) (blk : Blk) (inst off width value : Nat)
  /-- R47: A read covering all bytes of an RC field returns its value and clears it. -/
  | readClear (src : Port) (blk : Blk) (inst off width : Nat)
  /-- R45: A read of a 64-bit register's low word returns it and latches the current high word for the next high-word read. -/
  | lowWordRead (src : Port) (blk : Blk) (inst off : Nat)
  /-- R70: PERST_N of a partition resets its link and its P, F and Q registers, stops its rings, closes its write streams, discards its read streams and empties its key slots. -/
  | perstNAssert (part : Nat)
  /-- R448: Deassertion of a partition's PERST_N lets its link leave Detect and train within 20 ms, and wakes the device from a low-power state. -/
  | perstNDeassert (part : Nat)
  /-- R100: An FLR clears the function's F and Q registers, disables its rings, ends any reset in progress without RESET_DONE and handles its work as a partition reset does. -/
  | flr (fn : Nat)
  /-- R100: When a PF changes its number of enabled VFs, each VF that ceases to exist is handled as an FLR, and the PF's VF views are rebuilt. -/
  | vfCountChange (part count : Nat)
  /-- R185: BM grants a buffer from the smallest fitting pool, falling back to larger pools, or leaves the request waiting on credit. -/
  | bufferAllocate (who : Party) (fn : Nat) (size : Nat)
  /-- R191: A waiting buffer request is granted from the cycle after a fitting buffer is freed, serving functions below their reservation first. -/
  | bufferWaitGrant
  /-- R189: The owner's free clears a buffer's state bit and returns the buffer to its pool. -/
  | bufferFree (who : Party) (pool index : Nat)
  /-- R189: The owner of a buffer passes its ownership to another unit. -/
  | bufferTransfer (who dest : Party) (pool index : Nat)
  /-- R187: A write to BM_POOL_SPLIT redivides pool space among pools 1 to 4, or is dropped if the shares are invalid. -/
  | bmPoolSplitWrite (src : Port) (value : Word)
  /-- R193: A write to BM_STREAM_WIN changes the stream window at once and recomputes every credit. -/
  | bmStreamWinWrite (src : Port) (value : Word)
  /-- R197: A write to BM_WM_CFG sets the selected watch point's watermarks, or is dropped when low is not below high. -/
  | bmWmCfgWrite (src : Port) (value : Word)
  /-- R198: A write to BM_FCW_CFG sets each FCW pin to low, high or a watch state, and the change applies within 100 ns. -/
  | bmFcwCfgWrite (src : Port) (value : Word)
  /-- R18: A double-bit error on an island crossing discards the item at its last word, returns its credits, logs EV_MS_XING_DBE and fails the owning work item. -/
  | crossingDbe (producer consumer : Nat) (item : DbeItem)
  /-- R203: An uncorrectable buffer-memory block is counted, its address latched and the event logged, and its content gives a deferred error, a ring failure, a re-read or a rerun. -/
  | mcUe (inst addr : Nat) (content : UeContent)
  /-- R202: Over each MC_SCRUB period the patrol scrub reads all of buffer memory and writes back each corrected block, as background work. -/
  | patrolScrub (inst corr0 corr1 : Nat)
  /-- R204: When a channel's corrected errors in one hour pass MC_CORR_LIMIT, MC schedules its pair for retirement at the next interleave rebuild. -/
  | mcCorrLimit (inst errors : Nat)
  /-- R158: When a stream's oldest ready byte has been held for PE_HOLD_MAX ms, the stream becomes eligible and its ready data becomes its run. -/
  | holdMaxExpiry (stream : Nat)
  /-- R271: When DF needs a dataset to keep the tape-side queue fed, it fixes the steps, T, L and the rewrite assignments, and PE fills the parcels or fill. -/
  | datasetForm
  /-- R337: When the queue reaches the resume level or a SYNC, close or book dataset is pending, the transport accelerates, settles and writes the frontier extent. -/
  | backhitchResume (ms : Nat)
  /-- R221: A granted compressor encodes a parcel's input into GSF blocks, choosing the smallest encoding for each block. -/
  | parcelCompress (engine stream budget : Nat) (finish : Bool)
  /-- R178: When a stream with a SYNC or close pending has waited 2 ms behind a parcel in progress, PE saves that parcel's context and serves the waiting stream. -/
  | compressorWaitSave (engine stream budget : Nat)
  /-- R226: An engine reads a saved context image back and rebuilds its hash chains before emitting anything. -/
  | contextRestore (engine image : Nat)
  /-- R249: A cipher core seals a parcel in GCM under the stream's slot, with the header as additional data, consuming one invocation. -/
  | parcelSeal (dataset index : Nat)
  /-- R300: EE computes C2 parity for a tier, then encodes and modulates each of its frames with C1. -/
  | tierEncode (dataset tier faults : Nat)
  /-- R319: The RFX selects the write module, raises the gates of groups with active tracks and starts every preamble at the extent's first tick. -/
  | writeRunStart
  /-- R319: After the last tail bit of a write run, every gate falls and WMOD_SEL returns to 0b00. -/
  | writeRunEnd (count : Nat)
  /-- R354: A decoder lane takes a frame's soft values and iterates layered min-sum C1 decoding with detector re-runs until the syndrome is zero or the limit is reached. -/
  | frameDecode (frame : FrameRead)
  /-- R327: VC grades a verified frame as good, poor or failed from its margin and sends poor or failed frames to the rewrite list. -/
  | frameGrade (place : FramePos)
  /-- R380: On an idle lane, VC re-decodes a good frame's stored soft values with a share erased and records whether the probe passes. -/
  | marginProbe (place : FramePos) (pass : Bool)
  /-- R350: A channel decodes a track preamble's BCH code, learns the dataset geometry and switches to its track's step, and ED shares the step with every channel. -/
  | preambleDecode (slot : Nat) (bits : List Bool) (verify : Bool)
  /-- R349: A channel whose timing frequency error leaves range, or whose phase error stays above a quarter bit for 64 bits, declares loss of lock and zeroes its soft values. -/
  | lossOfLock (slot : Nat)
  /-- R403: Assertion of SHOCK_N triggers the write inhibit within 200 ns, for as long as the pin stays asserted. -/
  | shockN
  /-- R403: Every 50 µs SM reads the accelerometer's three axes and triggers the write inhibit if any axis exceeds the limit. -/
  | accRead (x y z : Int)
  /-- R320: Assertion of WFAULT_N drops every write gate and idles every write output within 200 ns. -/
  | wfaultN
  /-- R323: WFAULT_N held for 50 ms trips the transport to its safe state and makes tape writes fail with WRITE_FAULT. -/
  | wfaultPersist
  /-- R321: After 32 consecutive in-window LAT samples with every trigger clear, the gates rise and each channel resumes at its next frame boundary. -/
  | gateResume (cut : List FramePos)
  /-- R371: All 136 channels read the wrap's benchmark, adapt and measure on it, and each slot is judged trained or not. -/
  | benchmarkTrain (results : List BenchRead)
  /-- R405: At a wrap's end, the tape stops, the stepper moves for a band change, the band is confirmed and LAT seeks to the new wrap while SPD accelerates. -/
  | wrapChange (wrap : Nat) (bands : List Nat)
  /-- R176: PE chooses the next dataset run to read: a long-waiting read first, then the nearest target ahead, then the shortest locate. -/
  | readTargetSelect
  /-- R176: When the oldest tape read has waited PE_READ_WAIT ms during writing, PE stops writing at a dataset boundary and serves the pending reads. -/
  | readWaitExpiry (cmd : Nat) (long : Bool)
  /-- R175: SM lands the tape PE_LOC_RUNUP ticks before the target dataset, and the detectors train on the run-up preambles. -/
  | locateLanding
  /-- R363: A C2 decoder decodes all codewords of a tier with frame erasures, in two passes if needed. -/
  | tierDecode (dataset tier : Nat)
  /-- R365: The C3 decoder recovers a failed tier or missing member by erasure from the group's other members and parity, or fails the read. -/
  | c3Recover (dataset tier : Nat)
  /-- R251: CE finds the reading function's slot for the parcel's label and verifies the tag before any byte reaches a decompressor. -/
  | parcelOpen (cmd dataset index : Nat)
  /-- R227: A decompressor decodes a verified parcel into pool 2 buffers, checking record CRCs, up to the end of the record the command needs. -/
  | parcelDecompress (unit dataset index upto : Nat)
  /-- R307: After an unclean end, DF re-reads an open group's members, recomputes its parity and writes P0 and P1 before any new member. -/
  | c3GroupClose (members : List MemberRead)
  /-- R389: A servo channel times a frame's R and S bursts and computes the reader's lateral position, or rejects the frame. -/
  | servoFrame (reader : Nat) (refs bias : List Int)
  /-- R394: A loop engine takes a measurement, runs its set-point, PID, filter, feed-forward and limiter stages, and applies its output 600 ns after the sample instant. -/
  | loopSample (engine : Nat) (meas ext vmot : Int) (late : Bool)
  /-- R397: Three consecutive overruns on one engine trip the transport to its safe state with cause 1. -/
  | overrunTrip (engine : Nat)
  /-- R406: 64 consecutive missing LAT samples with the tape above 0.5 m/s trip the transport with cause 2. -/
  | missingSampleTrip
  /-- R406: VMOT_SENSE below SM_LIMITS.vmin for 3 reel samples trips the transport with cause 5. -/
  | vmotUndervoltage (millivolts : List Nat)
  /-- R406: A Hall code of 0b000 or 0b111 for 3 samples trips the transport with cause 6. -/
  | hallCodeFault (engine : Nat) (codes : List Nat)
  /-- R406: A phase current above SM_LIMITS.imax for 3 samples trips the transport with cause 7. -/
  | overcurrent (engine : Nat) (milliamps : List Nat)
  /-- R404: When its condition holds for the stated number of samples, an engine switches coefficient set with its integrator preloaded for a smooth hand-over. -/
  | loopModeSwitch (engine mode : Nat)
  /-- R408: When tape speed falls below 0.05 m/s after a trip, the tape is held stopped at SM_TENSION. -/
  | tripTapeStopped
  /-- R408: After SM_SAFE.hold ms, tension ramps to zero, BRAKE_N is asserted, the PWM outputs go low and the state becomes safe. -/
  | safeHoldExpiry
  /-- R408: During a reel-loop trip, BRAKE_N is asserted once both Hall rates fall below 1 rev/s, or after 3 s. -/
  | reelBrakeEngage
  /-- R406: The owner's write of 1 to SM_TRANSPORT.safe_req trips the transport with cause 8. -/
  | smTransportSafeReq (src : Port) (value : Word)
  /-- R401: Writing SM_LOOP_CTRL.close = 1 starts the selected engine in mode 0, with its integrator preloaded from the idle output. -/
  | smLoopClose (src : Port) (value : Word)
  /-- R401: Writing SM_LOOP_CTRL.close = 0 opens the engine and idles its output, or is refused and logs EV_SM_OPEN_REJECT. -/
  | smLoopOpen (src : Port) (value : Word)
  /-- R397: A write of SM_LOOP_RATE on an open engine sets its sample rate, or is dropped and logs EV_SM_RATE_REJECT. -/
  | smLoopRateWrite (src : Port) (value : Word)
  /-- R401: A write of SM_COEF_DATA on an open engine sets the addressed coefficient word, or is dropped if its stage word breaks the timing rule. -/
  | smCoefDataWrite (src : Port) (value : Word)
  /-- R409: Setting SM_INJ_CFG.start injects a sweep, PRBS or step at the chosen point of a closed engine. -/
  | smInjStart (src : Port) (value : Word)
  /-- R409: After the stated number of engine samples, the injection ends and start clears. -/
  | injectionEnd
  /-- R410: Setting SM_CAP_CFG.arm discards the buffer and starts a ring capture of up to four signals per sample. -/
  | smCapArm (src : Port) (value : Word)
  /-- R410: When the post-trigger part of the buffer is full, the capture sets done. -/
  | captureFull
  /-- R416: A debounced change of a SENSE input updates CT_SENSE, posts CARTRIDGE_CHANGE and wakes the device. -/
  | senseChange (pins : Nat)
  /-- R428: When a FORMAT or SANITIZE session ends, the progress records are written with kind 0 and SESSION_DONE is posted. -/
  | mediaSessionEnd (ok : Bool) (phase done elapsed : Nat)
  /-- R418: MOUNT checks for a cartridge, reads cartridge memory, threads and tensions the tape, classes the cartridge, chooses the root and scans if needed. -/
  | mount (id : Nat) (pieces : List BufPiece) (media : MediaRead)
  /-- R171: UNMOUNT writes any due book dataset, the root replica and the closed summary, then optionally rewinds, unthreads and ejects. -/
  | unmount (id : Nat) (rootOk : Bool)
  /-- R116: OPEN_STREAM binds a stream to a local handle for reading or writing, creating the stream if asked. -/
  | openStream (id : Nat)
  /-- R118: CLOSE_STREAM locks the whole stream and completes once its records are durable and its closing book dataset is verified. -/
  | closeStream (id : Nat)
  /-- R119: WRITE_RECORDS numbers, locks and transfers records into the stream's buffer and completes with BUFFERED. -/
  | writeRecords (id : Nat) (pieces : List BufPiece) (recs : List RecItem) (data : Bytes)
  /-- R122: WRITE_PEG writes a peg of the given class as one record and completes with BUFFERED. -/
  | writePeg (id : Nat)
  /-- R123: READ_RECORDS delivers records from the buffer or from tape into host memory and fills the record list. -/
  | readRecords (id : Nat) (pieces : List BufPiece)
  /-- R124: DISCARD_REMAINDER drops the rest of a partly delivered record and moves the position to the next record. -/
  | discardRemainder (id : Nat)
  /-- R126: LOCATE positions the tape at the first dataset that holds the record and sets the read position. -/
  | locate (id : Nat)
  /-- R127: SPACE moves the read position by a signed count of records or pegs. -/
  | space (id : Nat)
  /-- R130: SYNC completes once every record below the stream's end at resolution is durable. -/
  | sync (id : Nat)
  /-- R137: QUERY_STREAM writes the stream's 64-byte state, including its end, position, credit and any deferred error. -/
  | queryStream (id : Nat) (pieces : List BufPiece)
  /-- R138: GET_LOG copies the selected log page into the data buffer. -/
  | getLog (id : Nat) (pieces : List BufPiece)
  /-- R139: GET_FIELD_BOOK_EXTENT writes the field-book records of the stream's on-tape parcels, starting at the given record. -/
  | getFieldBookExtent (id : Nat) (pieces : List BufPiece)
  /-- R240: KEY_INSTALL unwraps a data key under the tenant KEK into a slot, taking a fresh epoch and advancing the generation. -/
  | keyInstall (id : Nat) (pieces : List BufPiece) (blob : Bytes)
  /-- R237: KEY_INSTALL with the kek flag derives a key-wrapping key by ECDH with the identity key and installs the tenant KEK. -/
  | keyInstallKek (id : Nat) (pieces : List BufPiece) (blob : Bytes)
  /-- R253: KEY_ERASE zeroises a slot or the KEK at once and revokes every operation holding a copy of it. -/
  | keyErase (id : Nat)
  /-- R241: KEY_QUERY writes the 32-byte status of a key slot. -/
  | keyQuery (id : Nat) (pieces : List BufPiece)
  /-- R140: KEY_QUERY with identity writes the device certificate and returns its full length. -/
  | keyQueryIdentity (id : Nat) (pieces : List BufPiece)
  /-- R247: CIPHER_RAW applies single-block AES-256 in ECB form to each 16-byte block of the input. -/
  | cipherRaw (id : Nat) (pieces : List BufPiece) (data : Bytes)
  /-- R248: CIPHER_AEAD encrypts or decrypts in GCM, releasing decrypted output only after the tag verifies. -/
  | cipherAead (id : Nat) (pieces : List BufPiece) (data aad area : Bytes)
  /-- R423: FORMAT checks the cartridge, then writes each band's datum copy, every wrap's benchmark and the cartridge-memory label and summary with a new numbering base. -/
  | format (id : Nat) (pieces : List BufPiece) (label : List (BitVec 8)) (media : MediaRead)
  /-- R425: SANITIZE in the overwrite form writes every extent void and re-runs FORMAT's datum and finish phases. -/
  | sanitizeOverwrite (id : Nat) (media : MediaRead)
  /-- R426: SANITIZE in the crypto form erases the named tenants' keys, writes a new book of the other tenants' parcels and voids the earlier books. -/
  | sanitizeCrypto (id : Nat) (pieces : List BufPiece) (tenants : List (BitVec 8)) (media : MediaRead)
  /-- R485: SELF_TEST runs the slice test at once on one unit, or on every unit of a type, and returns the number that failed. -/
  | selfTest (id : Nat) (test : TestRead)
  /-- R145: SHUTDOWN_PREP closes every stream, unmounts the cartridge, completes, and takes the device out of service. -/
  | shutdownPrep (id : Nat) (rootOk : Bool)
  /-- R22: UNIT_CTRL aux 1 retires a unit, records it in the NV store and updates the COUNT and LIMIT records. -/
  | unitCtrlRetire (id : Nat)
  /-- R486: UNIT_CTRL aux 2 tests a retired unit and, on a pass, clears its retirement and returns it to service. -/
  | unitCtrlReturn (id : Nat) (test : TestRead)
  /-- R481: UNIT_CTRL aux 3 burns the named units' soft repairs into repair fuses, one record at a time. -/
  | unitCtrlBurn (id : Nat) (good : Bool) (burned : Nat)
  /-- R146: DEVRST posts its completion and then resets the device as RESET_N does, within 10 µs. -/
  | devrst (id : Nat)
  /-- R461: UPDATE_OPEN starts an update session, erases the staging slot and starts the session timer. -/
  | updateOpen (id : Nat)
  /-- R462: UPDATE_BLOCK writes image pages into the staging slot and clears its verified state. -/
  | updateBlock (id : Nat) (pieces : List BufPiece) (data : List (BitVec 8))
  /-- R463: UPDATE_VERIFY checks that the staged image is complete, well formed, authentic and not below the fused minimum. -/
  | updateVerify (id : Nat)
  /-- R466: UPDATE_ACTIVATE copies the image to the other slot, writes the settings and a trial pointer, switches every table and rebuilds the KLT. -/
  | updateActivate (id : Nat) (holdup : Bool)
  /-- R468: UPDATE_CONFIRM makes the trial image confirmed and blows fuses up to its floor. -/
  | updateConfirm (id : Nat)
  /-- R469: UPDATE_REVERT restores the previous image during a trial, or abandons an open session. -/
  | updateRevert (id : Nat) (holdup : Bool)
  /-- R464: A session with no update command for 60 s is abandoned, staging is discarded and UPDATE_ABANDONED is posted. -/
  | updateSessionTimeout
  /-- R71: LOOP_TEST at a host depth takes another partition's link down, runs PRBS-31 through the chosen loop and retrains the link. -/
  | loopTestHost (id : Nat)
  /-- R489: LOOP_TEST depth 0x10 completes every entry fetched from the named ring with the CRC of its 64 bytes, without executing it. -/
  | loopTestDescriptorEcho (id : Nat)
  /-- R488: LOOP_TEST at the LPDDR5X depths tests a channel pair in short bursts while leaving buffer memory content intact. -/
  | loopTestLpddr5x (id : Nat)
  /-- R487: LOOP_TEST depths 0x30 to 0x32 send frames from EE, the detector input or the on-die write replica through to the decoder and count errors. -/
  | loopTestDecoder (id : Nat)
  /-- R490: LOOP_TEST depth 0x33 threads an unmounted cartridge and reads, or writes then reads, a wrap's benchmark on every slot. -/
  | loopTestHeadTape (id : Nat) (threaded tension formatted : Bool)
  /-- R487: LOOP_TEST depth 0x40 feeds the HACT DAC into a servo ADC and counts samples outside ±2 LSB. -/
  | loopTestServo (id : Nat)
  /-- R487: LOOP_TEST depth 0x50 feeds a reel's PWM into its sense inputs through the external fixture. -/
  | loopTestMotion (id : Nat)
  /-- R487: LOOP_TEST depth 0x60 echoes transceiver registers over CM_SPI. -/
  | loopTestCartridgeSpi (id : Nat)
  /-- R487: LOOP_TEST depth 0x61 repeatedly reads the flash's SFDP table and both pointer copies without writing. -/
  | loopTestNvFlash (id : Nat)
  /-- R491: When the requested duration ends, the loop-back stops, the report is written and LOOP_TEST completes. -/
  | loopTestDurationEnd (id : Nat) (pieces : List BufPiece) (report : LoopReport)
  /-- R483: Every MS_BIST_CFG.period seconds, PE takes the next unit in turn out of service and starts its BIST and known-answer run. -/
  | sliceTestStart
  /-- R484: At the end of a slice test, a passing unit returns to service and a failing one is retired. -/
  | sliceTestEnd (test : TestRead)
  /-- R256: A failed TRNG health test stops CE from starting blocks and begins a 1 ms retest. -/
  | trngHealthFail
  /-- R256: At the end of a TRNG retest, CE resumes on a pass, or after the third failure sets CE_TRNG_STATUS.failed and refuses cipher work. -/
  | trngRetestEnd (pass : Bool)
  /-- R255: After 65,536 generate requests the DRBG reseeds from the TRNG. -/
  | drbgReseed
  /-- R253: An uncorrectable error in a slot's stored key erases the slot as KEY_ERASE does and logs EV_CE_KEY_UE. -/
  | keyStoreUe (slot : Nat)
  /-- R243: Before handing out the first epoch of a batch of 1,024, the epoch counter writes the batch's upper bound to the NV store. -/
  | epochBatchReserve
  /-- R492: Before issuing the first sequence number of a block of 4,096, MGMT writes the block's upper bound and the NV summary. -/
  | eventLogBlockReserve
  /-- R460: When the settings journal passes three quarters full, the RFX writes fresh snapshots of every referenced mark and erases the freed sectors. -/
  | journalCompact
  /-- R384: A write to VC_CAL_CTRL freezes the selected slot's trims or step, or forces its step toward force_step one step per dataset. -/
  | vcCalCtrlWrite (src : Port) (value : Word)
  /-- R498: Writing 0x5C to MS_DBG_CTRL.key takes the device out of service, zeroises the keys and unlocks scan and EXTEST. -/
  | msDbgCtrlUnlock (src : Port) (value : Word)
  /-- R505: An SMBus Block Write with a valid PEC writes a 32-bit value to an MS register offset, or is NACKed. -/
  | smbBlockWrite (off : Nat) (value : Word) (ok : Bool)
  /-- R505: An SMBus Block Read returns the 32-bit value at an MS register offset. -/
  | smbBlockRead (off : Nat) (ok : Bool)
  /-- R505: The ARA reply clears the SMB_ALERT_N assertion. -/
  | alertResponse
  /-- R443: A sideband write of 0xD5 to MS_SB_DEVRST starts a device reset within 10 µs. -/
  | msSbDevrstWrite (value : Word)
  /-- R447: When PWR_GOOD rises, AON leaves POR, senses the fuses and straps, reads the NV store, verifies the image, powers the islands, trains LPDDR5X and builds the KLT. -/
  | powerOn (board : Board) (mem : TestRead)
  /-- R442: PWR_GOOD falling, or VDD_AON dropping below its threshold, starts POR, clears every volatile class and brakes the transport. -/
  | powerLoss (io : Bool)
  /-- R442: RESET_N held low for at least 1 µs clears the D, P, F and Q classes, takes every link down and brakes the transport within 100 ns. -/
  | resetNAssert
  /-- R447: After RESET_N deasserts, the RFX reruns the NV read, image load, island start, memory training and KLT build within 260 ms. -/
  | resetNDeassert (board : Board)
  /-- R449: PWR_WARN_N drops the gates, stops fetching, stops the transport, saves the log and progress, and runs the shutdown self-test if HOLDUP_OK allows. -/
  | pwrWarnN (holdup : Bool)
  /-- R476: Once the transport is safe or braked, the RFX zeroises the keys, isolates the islands, runs SRAM march, logic BIST and analogue checks, and records the results. -/
  | shutdownSelfTest (zeroOk : Bool) (test : TestRead)
  /-- R520: A sensor above 115 °C starts the PWR_WARN_N sequence without self-test or clean record, and the RFX then stays quiescent. -/
  | thermalLimit (island : Nat) (temp : Int)
  /-- R439: When MS_IDLE_T1 expires with the transport stopped and no tape work, the RFX enters A1 Hold. -/
  | idleT1Expiry
  /-- R439: When MS_IDLE_T2 expires with no engine work, the RFX enters A2 Park. -/
  | idleT2Expiry
  /-- R441: When MS_IDLE_T3 expires with no host activity, the RFX releases tension, drains crossings, saves its working state and enters A3 Sleep. -/
  | idleT3Expiry
  /-- R439: A write of MS_PWR_REQ.enter enters the requested state as soon as the conditions of every step down hold. -/
  | msPwrReqEnter (src : Port) (value : Word)
  /-- R440: Setting MS_PWR_REQ.wake wakes the RFX to A0. -/
  | msPwrReqWake (src : Port) (value : Word)
  /-- R440: A host write, PERST_N deassertion, SENSE or CM_IRQ_N change, SMBus transaction or PWR_WARN_N wakes the RFX toward A0, holding waking writes in the wake buffer. -/
  | wake (cause : Nat)
  /-- R441: Once the islands, memory, working state and TRNG are restored, the held writes are applied and the RFX is in A0. -/
  | a3ExitComplete
  /-- R91: The host unmasks an MSI-X vector whose Pending Bit is set, and the held message is sent. -/
  | msixVectorUnmask (fn vector : Nat)
  /-- R349: A read channel without timing lock regains lock on the next frame sync it finds, and its soft values stop being forced to 0. -/
  | timingLockReacquire (slot : Nat)
  /-- R403: Deassertion of SHOCK_N clears its inhibit trigger, so the gates may rise again under R321. -/
  | shockNDeassert
  /-- R321: Deassertion of WFAULT_N clears its inhibit trigger and ends the 50 ms persistence count. -/
  | wfaultNDeassert
  /-- R438: A partition's link finishes training to L0, enters or leaves L1 or L1.2, or goes down at the link partner's initiative, changing HI_LINK_STATUS, the reference clock and the PHY island's power. -/
  | linkStateChange (part state rate width : Nat) (flit clk : Bool)
  /-- R447: When VDD_IO passes 1.0 V, the I/O ring drives every output from high-Z to its reset level, before PWR_GOOD rises. -/
  | vddIoUp
  /-- R437: At the end of the A1 or A2 exit latency, the gated or powered-off islands run again, the transport is at run tension, and waiting commands execute. -/
  | exitLatencyEnd
  /-- R148: A host memory read for a command returns Unsupported Request, Completer Abort or poisoned data, or times out, and the command completes with DMA_ERROR. -/
  | dmaCompletionError (id detail : Nat)
  deriving DecidableEq, Repr

end Sys2Proof
end

