-- ==== Sys2Proof/Decode.lean ====
section
/-! DEFINITION. Reading a command from a word. The opcode table gives no row any bits: the hardware takes its commands as
register accesses, ring entries and events, and not as words of one encoding. -/

namespace Sys2Proof

/-- The command that `nbits` bits of a word spell by the table's bits: none, for the table gives none to any row. [DESIGN CHOICE, log entry 69] -/
def decodeTableWord (_nbits _w : Nat) : Option Instr := none

end Sys2Proof
end

