-- ==== Sys2Proof/Config.lean ====
section
/-! DEFINITION. What the spec leaves open: each value is a constant without a body, so that nothing can be proved of
its value. The log entry of each says where the spec leaves it open. -/

namespace Sys2Proof.Config

/-- A value that an adaptation loop of a read channel has come to, by the field and the count of the adaptation (R346): it
follows from the signal. -/
opaque adapted : Nat → Nat → Nat

/-- The fused device number (R236, CE_DEVICE_NUM). -/
opaque deviceNumber : Word

/-- A fresh value of `n` bytes drawn from hardware randomness, by the draw's number (R255, R256). -/
opaque randomByte : Nat → Nat → Byte

/-- A value the spec leaves open where no operand settles it, by a name and the count of the draw. -/
opaque freeNat : Nat → Nat → Nat

/-- A choice the spec leaves open, by a name and the count of the draw. -/
opaque freeBool : Nat → Nat → Bool

/-- The match search of the compressors (R225): by level, from the history (last byte first) and the bytes ahead, a length
and a distance. The model uses an answer only where it is a match that GSF allows. -/
opaque matchAt : Nat → Bytes → Bytes → Nat × Nat

/-- Code lengths a compressor builds from a block's symbol counts (R222). The model uses an answer only where it is a
valid list that gives every counted symbol a code. -/
opaque codeLengths : List Nat → List Nat

/-- Whether a quotient that is not whole is rounded up rather than down, where the spec gives no rounding. -/
opaque roundsUp : Int → Int → Bool

/-- A quotient by zero in a loop engine, where the spec gives none (R404). -/
opaque zeroQuot : Int → Int

/-- A physical value as a fraction of an engine's full scale, which the servo coefficient sets give (R393). -/
opaque scaled : Nat → Int → Int

/-- The set-point of a reel's current loop from the engine, the tension force and the drive force (R398): radius,
torque constant and the sets it rests on are not given. -/
opaque reelSetPoint : Nat → Int → Int → Int

/-- The internal set-point of AUX, from the band planned (R399). -/
opaque auxSetPoint : Nat → Int

/-- A reel's feed-forward scaled by the radius (R400). -/
opaque radiusScale : Nat → Int → Int

/-- The limits of an engine's set-point, low and high (R394): no coefficient word holds them. -/
opaque setPointLow : Nat → Int
opaque setPointHigh : Nat → Int

/-- A signal of an engine whose value passes the ends of its number format (R393). -/
opaque signalOver : Int → Int

/-- The nominal motor supply V_nom in mV (R400). -/
opaque vNom : Int

/-- The coefficient words of the running image (TABLE 0x0005), by image version and place (R401). -/
opaque coefWord : Nat → Nat → Word

/-- The value of a logarithmic sweep at a sample, from amplitude, frequencies and length (R409). -/
opaque sweep : Nat → Nat → Nat → Nat → Int

/-- Estimated parcel bytes of ready data: stream, input bytes (R158): the running ratio is measured. -/
opaque parcelEstimate : Nat → Nat → Nat

/-- Parcel bytes per second that the write streams bring, as measured over 100 ms (R335), by the count of the draw. -/
opaque inputDemand : Nat → Nat

/-- Estimated time of a locate between two places, wrap and chainage (R176). -/
opaque locateTime : Nat → Nat → Nat → Nat → Nat

/-- Whether an image's settings schema lists a register, by schema number and register (R454, R460): the schema lies in the
image's section 0x0007, whose layout is not given. -/
opaque schemaKnows : Nat → Nat → Bool

/-- Bytes a settings snapshot takes in the journal beside its register entries (R460). -/
opaque snapshotBytes : Nat

/-- The image-signing key hash fused at manufacture (R455). -/
opaque signerHash : Bytes

/-- A zone and step table that the RFX knows beside the running image's, by version (R418). -/
opaque knowsTable : Nat → Bool

/-- The private scalar of the identity key (R236). -/
opaque identityKey : Nat

/-- The device certificate, of which at most 2,048 bytes count (R236). -/
opaque certificate : Bytes

end Sys2Proof.Config
end

