-- ==== Sys2Proof/Machine/PartsData.lean ====
section
/-! DEFINITION. The state of the data path between host and tape: streams and placement (06), buffers and buffer
memory (07), compressors (08), keys and ciphers (09). -/

namespace Sys2Proof.Machine

/-- A record or peg of a stream, as sequenced into the buffer (R97, R109, R122). -/
structure Rec where
  num : Nat
  /-- The record's bytes; none for a peg. -/
  data : Bytes
  /-- The peg's class, for a peg (R122). -/
  peg : Option Nat
  /-- The CRC stored with the record, when the host supplied one (R109). -/
  crc : Option Word
  deriving DecidableEq, Repr

/-- A place inside a stream: a record number and bytes of it. -/
structure Place where
  record : Nat
  off : Nat
  deriving DecidableEq, Repr

/-- A deferred error of a stream (R132, R137). -/
structure Deferred where
  first : Nat
  detail : Nat
  count : Nat
  /-- Not yet reported by a DEFERRED completion (R132). -/
  pending : Bool
  deriving DecidableEq, Repr

/-- One stream of the cartridge, open or closed (R149, R152). -/
structure Stream where
  tenant : Nat
  sid : Nat
  /-- Function and handle it is open on (R116); reset none. -/
  handle : Option (Nat × Nat)
  /-- Local stream index it was last opened on (R116). -/
  index : Nat
  /-- Its OPEN_STREAM has resolved and has not completed (R116). -/
  opening : Bool
  /-- A CLOSE_STREAM has resolved and not completed; the handle is already free (R118). -/
  closing : Option (Nat × Nat)
  write : Bool
  noCompress : Bool
  crcRequired : Bool
  /-- Local AEAD slot, or none (R116). -/
  keySlot : Option Nat
  /-- Hints of R116 and R153: rate in MB/s, size in GiB, affinity key. -/
  rate : Nat
  size : Nat
  affinity : Nat
  /-- Record number the next APPEND takes (R120). -/
  endNum : Nat
  /-- Record number after the last record sequenced (R97). -/
  seqEnd : Nat
  /-- Records kept in the buffer (R195), ascending. -/
  recs : List Rec
  /-- Everything before this place has been put into parcels (R158). -/
  placed : Place
  /-- Records below this belong to a released run (R158). -/
  runEnd : Nat
  /-- Stamp of the oldest ready byte (R159). -/
  readyAge : Nat
  /-- Every record below it is durable (R129, R137). -/
  durable : Nat
  /-- Everything before this place has been released (R194). -/
  mark : Place
  /-- Read position, and bytes of that record already delivered (R123, R124). -/
  pos : Place
  partialRead : Bool
  /-- Bytes from the retention mark to the write pointer (07), and what of them came from the overdraft reserve. -/
  held : Nat
  overdraft : Nat
  /-- A completion or QUERY_STREAM has reported the credit as zero (R90). -/
  zeroTold : Bool
  /-- The last deferred error since the stream was opened (R132, R137). -/
  err : Option Deferred
  /-- A truncation of on-tape parcels is not yet durable (R170). -/
  truncPending : Bool
  /-- Number of the first dataset formed after that truncation. -/
  truncFrom : Nat
  /-- Compressors assigned (R177). -/
  cxCount : Nat
  deriving DecidableEq, Repr

/-- A parcel: formed, on tape, or known from the field book (R279, R285). -/
structure Parcel where
  stream : Nat
  dataset : Nat
  index : Nat
  first : Nat
  last : Nat
  continues : Bool
  cont : Bool            -- "open": the last record continues in the stream's next parcel
  chunk : Bool
  /-- GSF payload before sealing (R224), and the sealed form once CE has made it (R249). -/
  payload : Bytes
  plainLen : Nat
  sealedText : Option Bytes
  tag : Bytes
  iv : Bytes
  key : Nat
  /-- Payload byte offset in the dataset (R278). -/
  offset : Nat
  wrap : Nat
  chainage : Nat
  /-- Where the stream stood after this parcel's bytes. -/
  upto : Place
  dead : Bool
  verified : Bool
  released : Bool
  deriving DecidableEq, Repr

/-- A book dataset the field book knows (R284). -/
structure Book where
  dataset : Nat
  wrap : Nat
  chainage : Nat
  restart : Nat
  deriving DecidableEq, Repr

/-- A tape read a command waits for (R174, R176). -/
structure TapeRead where
  cmd : Nat
  stream : Nat
  record : Nat
  dataset : Nat
  /-- It has waited PE_READ_WAIT ms, or four times that (R176). -/
  waited : Bool
  longWaited : Bool
  /-- The tape has been positioned for it (R126, R175). -/
  landed : Bool
  deriving DecidableEq, Repr

/-- A record delivered by the read path and held in a pool 2 buffer, or the failure met there (R123, R227). -/
structure Decoded where
  stream : Nat
  num : Nat
  peg : Option Nat
  data : Bytes
  crc : Option Word
  /-- Status code and detail when the record cannot be delivered; none when it is good. -/
  fail : Option (Nat × Nat)
  deriving DecidableEq, Repr

/-- PE (06). -/
structure PeState where
  streams : Tab Stream
  parcels : List Parcel
  books : List Book
  /-- Streams created and truncations since the last book dataset (R168, R284): stream, or stream and record. -/
  creations : List Nat
  deadMarks : List (Nat × Nat)
  /-- Data datasets since the last book dataset (R168); reset 0. -/
  legCount : Nat
  /-- First dataset of the current leg. -/
  legFirst : Nat
  /-- A book dataset is due (R168); reset false. -/
  bookDue : Bool
  /-- Leg pages resident, most recently used first: last dataset of the leg (R172). -/
  legPages : List Nat
  /-- Frontier: wrap, extent index in the wrap, and next dataset number (R162). -/
  frontier : Option (Nat × Nat)
  nextDataset : Nat
  /-- Numbering base of the label (R287, R424). -/
  base : Nat
  /-- Health of each slot (R163); unlisted 128. -/
  health : Tab Nat
  /-- Wrap whose active set stands; none before a wrap's benchmark or run-up has been read (R163, R372). -/
  wrapNow : Option Nat
  /-- Rewrites each slot caused in its active window (R163). -/
  caused : Tab Nat
  /-- Slots active in the current wrap, ascending (R164). -/
  active : List Nat
  /-- Slots idle in the current wrap: substitutes (R164). -/
  idle : List Nat
  /-- Early warning posted this mount; credit of every write stream closed (R167). -/
  ewPosted : Bool
  creditClosed : Bool
  /-- Fewer than 96 slots qualified at the last wrap start: writes are refused (R164). -/
  refused : Bool
  /-- Stream of the last parcel of the dataset formed last (R159). -/
  lastStream : Option Nat
  /-- Deficits of the placement round robin, in bytes (R160). -/
  deficits : Tab Int
  /-- Tape reads waiting, and the target being served (R176). -/
  reads : List TapeRead
  target : Option Nat
  /-- Writing is stopped to serve reads (R176). -/
  writeStopped : Bool
  /-- Records the read path holds for delivery (R227). -/
  decoded : List Decoded
  /-- Start of a record whose rest lies in the stream's next parcel: stream, record, bytes so far (R227). -/
  carry : List (Nat × Nat × Bytes)
  /-- Clock of arrivals, for the age order of R159. -/
  age : Nat
  deriving DecidableEq, Repr

/-- An allocated buffer (R189). -/
structure Buf where
  owner : Party
  /-- The function it is charged to (R185). -/
  fn : Nat
  deriving DecidableEq, Repr

/-- A request that waits for a buffer (R185). -/
structure BufWait where
  who : Party
  fn : Nat
  size : Nat
  deriving DecidableEq, Repr

/-- BM (07). -/
structure BmState where
  /-- Allocated buffers by pool and index (R184); reset: none. -/
  bufs : Tab Buf
  /-- Requests waiting, in arrival order (R185); reset empty. -/
  waits : List BufWait
  /-- Bytes of the overdraft reserve in use (R192); reset 0. -/
  overdraft : Nat
  /-- State of each watch point, bit w (R197); 16 bits; reset 0. -/
  watch : Nat
  /-- Lowest free count of a pool since BM_POOL_LOW was read (R205); unlisted: the pool's total. -/
  poolLow : Tab Nat
  deriving DecidableEq, Repr

/-- A channel pair of MC (R201 to R206). -/
structure McPair where
  /-- In the interleave; 1 bit; reset 1. -/
  active : Bool
  /-- Retirement pending until the next rebuild; 1 bit; NV. -/
  pendingRetire : Bool
  /-- Out of the interleave; 1 bit; NV. -/
  retired : Bool
  /-- Addresses written back after an uncorrectable error (R204); reset empty. -/
  ueSeen : List Nat
  deriving DecidableEq, Repr

/-- MC (07). -/
structure McState where
  pairs : Tab McPair
  /-- Data rate trained, MT/s (R201); reset per R201. -/
  mts : Nat
  deriving DecidableEq, Repr

/-- A parcel in progress on a compressor, or its saved context (R178, R226). -/
structure CxJob where
  stream : Nat
  /-- Where in the stream the parcel starts. -/
  start : Place
  chunk : Bool
  deriving DecidableEq, Repr

/-- A compressor or decompressor (R230). -/
structure CxEngine where
  retired : Bool
  job : Option CxJob
  /-- Bytes counted toward the next MiB of CX_ENG_IN and CX_ENG_OUT. -/
  inRest : Nat
  outRest : Nat
  deriving DecidableEq, Repr

/-- A compressed parcel that awaits placement (R155, R179). -/
structure CxOut where
  stream : Nat
  start : Place
  upto : Place
  first : Nat
  last : Nat
  continues : Bool
  cont : Bool
  chunk : Bool
  payload : Bytes
  plainLen : Nat
  deriving DecidableEq, Repr

/-- CX (08). -/
structure CxState where
  /-- Engines by 32 × dx + unit (R230). -/
  engines : Tab CxEngine
  /-- Saved contexts by number, with the pool 3 buffer each lies in (R226). -/
  images : Tab CxJob
  /-- Compressed parcels in order (R155). -/
  outs : List CxOut
  deriving DecidableEq, Repr

/-- A key slot (R233 to R235, R241). -/
structure KeySlot where
  /-- 0 EMPTY, 1 RAW, 2 AEAD, 3 EXHAUSTED (R234). -/
  state : Nat
  raw : Bool
  key : Bytes
  label : Nat
  limit : Nat
  used : Nat
  epoch : Nat
  /-- 32-bit generation (R235). -/
  gen : Nat
  retiring : Bool
  /-- KEY_LOW has been posted since the install (R246). -/
  lowTold : Bool
  deriving DecidableEq, Repr

/-- A tenant KEK (R233, R235). -/
structure Kek where
  key : Option Bytes
  gen : Nat
  deriving DecidableEq, Repr

/-- A parcel CE has opened for a read (R251): where it lies, its header and its payload. -/
structure OpenParcel where
  dataset : Nat
  index : Nat
  head : Bytes
  payload : Bytes
  deriving DecidableEq, Repr

/-- CE (09). -/
structure CeState where
  /-- The key store, by device-wide slot number (R233). -/
  slots : Tab KeySlot
  /-- Tenant KEKs by function. -/
  keks : Tab Kek
  /-- Next install epoch, and the batch bound in the NV store (R243); N; 1 and 1 from a blank store. -/
  epoch : Nat
  epochBound : Nat
  /-- Cores retired (R22). -/
  retired : List Nat
  /-- Next core in rotating order (R177). -/
  nextCore : Nat
  /-- Bytes counted toward the next MiB of CE_CORE_BYTES, by core. -/
  rest : Tab Nat
  /-- All-zero-key parcels sealed since power-on (R249); 64 bits; reset 0. -/
  zeroCount : Nat
  /-- TRNG health (R256): start-up tests passed, retest in progress, retests failed, failed for good. -/
  healthy : Bool
  retesting : Bool
  retests : Nat
  failed : Bool
  /-- DRBG generate requests since its last seed, and seeds drawn (R255). -/
  drbgUses : Nat
  seeds : Nat
  /-- Parcels opened for reads and not yet decompressed (R14, R251). -/
  opened : List OpenParcel
  /-- CE holds the working copy of the identity key (R236, R254). -/
  identity : Bool
  deriving DecidableEq, Repr

end Sys2Proof.Machine
end

