-- ==== Sys2Proof/Regs.lean ====
section
/-! DEFINITION. The register map: one name per register of the spec's register tables (chapters 03 to 20), with its
block, relative offset, survival class (R49), access masks (R46) and the reset value of the table (R50). -/

namespace Sys2Proof

/-- The survival class of a register (R49). -/
inductive RegClass where
  | n | a | d | p | f | q
  deriving DecidableEq, Repr

/-- The registers of the spec's tables, each under its own name. -/
inductive RegName where
  | blockId
  | hiLinkStatus
  | hiStrap
  | hiOwner
  | hiFnIndex
  | hiFnTenant
  | hiFnSqBase
  | hiFnSqCount
  | hiFnCqBase
  | hiFnCqCount
  | hiFnVecBase
  | hiFnVecCount
  | hiFnStreamQuota
  | hiFnKeyBase
  | hiFnKeyCount
  | hiFnBufMin
  | hiFnBufMax
  | hiFnWeight
  | hiVfQuota
  | hiAllocStatus
  | hiLinkCorr
  | hiLoopCtrl
  | qeSqSel
  | qeSqAddrLo
  | qeSqAddrHi
  | qeSqCfg
  | qeSqCtrl
  | qeSqStatus
  | qeSqReset
  | qeCqSel
  | qeCqAddrLo
  | qeCqAddrHi
  | qeCqCfg
  | qeCqMod
  | qeCqCtrl
  | qeCqStatus
  | qeEvtCfg
  | qeEvtMask
  | qeEvtLost
  | qeStatus
  | qeBadDb
  | qeStageMode
  | qeWindowEn
  | qeActiveSq
  | qeCtxMiss
  | qeCtxCorr
  | qePealCount
  | qePealCommit
  | qePealStatus
  | qePealRing
  | qePealValue
  | taskOpcode
  | taskParam
  | taskStatus
  | taskGo
  | peClusterQ
  | peHoldMax
  | peMinParcel
  | peChunk
  | peReadWait
  | peLocRunup
  | peStageSplit
  | peBookBudget
  | peEw
  | peFrontierDsLo
  | peFrontierDsHi
  | peFrontierWrap
  | peFrontierChain
  | peRemainLo
  | peRemainHi
  | peOpenStreams
  | peSlotSel
  | peSlotState
  | peSlotExcl
  | peScanStatus
  | peCxMoves
  | peBookMiss
  | peFillBytes
  | bmPoolSplit
  | bmStreamWin
  | bmReadRes
  | bmPoolSel
  | bmPoolTotal
  | bmPoolFree
  | bmPoolLow
  | bmPoolFall
  | bmWmSel
  | bmWmCfg
  | bmWmLevel
  | bmWmState
  | bmFcwCfg
  | bmBadFree
  | bmCellCorr
  | bmXingSel
  | bmXingCorr
  | bmOverdraft
  | mcCfg
  | mcStatus
  | mcCorr0
  | mcCorr1
  | mcUncorr
  | mcUeAddrLo
  | mcUeAddrHi
  | mcScrub
  | mcCorrLimit
  | cxLevel
  | cxEngSel
  | cxEngState
  | cxEngIn
  | cxEngOut
  | cxEngStored
  | cxDxFault
  | cxDxTrips
  | cxHistCorr
  | cxCtxRestores
  | ceCoreSel
  | ceCoreState
  | ceCoreBytes
  | ceKeyLow
  | ceDeviceNum
  | ceEpoch
  | ceTrngStatus
  | ceTrngFail
  | ceAuthFail
  | ceUnwrapFail
  | ceRevoked
  | ceKeyMiss
  | ceKeyCorr
  | eeInject
  | eeTiers
  | eeFill
  | eeRewrites
  | eeClips
  | eeEncFault
  | eeCorr
  | wcIwBase
  | wcChSel
  | wcChTrim
  | wcChState
  | wcGate
  | wcChFramesLo
  | wcChFramesHi
  | wcCorr
  | vcGradeW
  | vcRwThresh
  | vcRestart
  | vcSlotSel
  | vcSlotVfyLo
  | vcSlotVfyHi
  | vcSlotFails
  | vcSlotPoor
  | vcSlotLast
  | vcPreFail
  | dfRwlLen
  | dfRwlMax
  | dfRewrites
  | dfRestarts
  | dfAbandoned
  | dfBadWrap
  | dfBadChain
  | dfInhPes
  | dfInhShock
  | dfInhWfault
  | dfCutFrames
  | dfQueue
  | smSpdMode
  | smSpdNow
  | smAccel
  | smBhCfg
  | smBhCount
  | smBhTime
  | rcAdapt
  | rcSyncCfg
  | rcDefect
  | rcChSel
  | rcChState
  | rcChFreeze
  | rcChAfe
  | rcChLoops
  | rcTapSel
  | rcTap
  | rcChMse
  | rcChFramesLo
  | rcChFramesHi
  | rcChMiss
  | rcChDefect
  | rcChPreFail
  | rcCorr
  | edIter
  | edC2Cfg
  | edLaneSel
  | edLaneState
  | edLaneFrames
  | edSlotSel
  | edSlotC1fail
  | edSlotRetry
  | edSlotIter
  | edOverrun
  | edC2Tiers
  | edC2Eras
  | edC2Err
  | edC2Fail
  | edC3Runs
  | edC3Fail
  | edLlrCorr
  | vcStep
  | vcStart
  | vcTrim
  | vcProbe
  | vcBench
  | vcCalSel
  | vcCalCtrl
  | vcCalState
  | vcCalTrims
  | vcCalWin
  | vcBenchRes
  | vcRaises
  | vcDrops
  | vcRetired
  | vcTrimMoves
  | vcProbes
  | vcProbeFail
  | vcStepMix0
  | vcStepMix1
  | smTransport
  | smLoopSel
  | smLoopCtrl
  | smLoopRate
  | smLoopStatus
  | smCoefAddr
  | smCoefData
  | smOverruns
  | smRough
  | smTrip
  | smInhibit
  | smAccCfg
  | smPes
  | smChain
  | smSpeed
  | smRdrState
  | smRdrFail
  | smLatOfs
  | smExtScale
  | smSafe
  | smLimits
  | smTension
  | smInjCfg
  | smInjAmp
  | smInjFreq
  | smCapCfg
  | smCapStatus
  | smCapPage
  | smCapWin
  | ctSense
  | ctSensePol
  | ctGpioOut
  | ctMedia
  | ctCmErr
  | ctLoads
  | msPwrPolicy
  | msPwrReq
  | msPwrState
  | msIdleT1
  | msIdleT2
  | msIdleT3
  | msIslandOn
  | msIslandClk
  | msPllLock
  | msResetCause
  | msResA1
  | msResA2
  | msResA3
  | msWakes
  | msTimeLo
  | msTimeHi
  | msSbDevrst
  | msSbOwner
  | msUpdState
  | msUpdLock
  | msSvFused
  | msImgVer
  | msImgSv
  | msXsCfg
  | msXsErr
  | msXsErases
  | msJrnlUse
  | msBistCfg
  | msBistStatus
  | msRepair
  | msSliceRuns
  | msSliceYields
  | msSliceFails
  | msLogCfg
  | msLogSeqLo
  | msLogSeqHi
  | msLogLost
  | msNarrowWrite
  | msDbgCtrl
  | msTemp
  | msTempMax
  | msGpioDir
  | msGpioOut
  | msGpioIn
  deriving DecidableEq, Repr

/-- One row of a register table: where it lies, its class, and the bits of each access code of R46. An RO bit is in
no mask. `step` and `count` describe an array of registers. -/
structure RegInfo where
  blk : Blk
  off : Nat
  cls : RegClass
  rw : Nat
  rwl : Nat
  w1c : Nat
  w1s : Nat
  wo : Nat
  rc : Nat
  reset : Nat
  step : Nat := 0
  count : Nat := 1
  deriving DecidableEq, Repr

/-- The register tables of the spec, row by row. The reset value is the number the table gives; a reset the table
names by another rule (JPI, NV, pins, R67 and so on) is supplied by `regDefault`. -/
def RegName.info : RegName → RegInfo
  | .blockId => ⟨.klt, 0, .a, 0, 0, 0, 0, 0, 0, 0, 0, 1⟩
  | .hiLinkStatus => ⟨.hi, 4, .p, 0, 0, 0, 0, 0, 0, 0, 0, 1⟩
  | .hiStrap => ⟨.hi, 8, .a, 0, 0, 0, 0, 0, 0, 0, 0, 1⟩
  | .hiOwner => ⟨.hi, 0xc, .d, 0, 0, 0, 0, 0, 0, 0, 0, 1⟩
  | .hiFnIndex => ⟨.hi, 0x10, .d, 0xff, 0, 0, 0, 0, 0, 0, 0, 1⟩
  | .hiFnTenant => ⟨.hi, 0x14, .n, 0, 0xff, 0, 0, 0, 0, 0, 0, 1⟩
  | .hiFnSqBase => ⟨.hi, 0x18, .d, 0, 0x7ffff, 0, 0, 0, 0, 0, 0, 1⟩
  | .hiFnSqCount => ⟨.hi, 0x1c, .d, 0, 0x7ffff, 0, 0, 0, 0, 0, 0, 1⟩
  | .hiFnCqBase => ⟨.hi, 0x20, .d, 0, 0x1ffff, 0, 0, 0, 0, 0, 0, 1⟩
  | .hiFnCqCount => ⟨.hi, 0x24, .d, 0, 0x1ffff, 0, 0, 0, 0, 0, 0, 1⟩
  | .hiFnVecBase => ⟨.hi, 0x28, .d, 0, 0x1fff, 0, 0, 0, 0, 0, 0, 1⟩
  | .hiFnVecCount => ⟨.hi, 0x2c, .d, 0, 0x1fff, 0, 0, 0, 0, 0, 0, 1⟩
  | .hiFnStreamQuota => ⟨.hi, 0x30, .d, 0, 0x1ffff, 0, 0, 0, 0, 0, 0, 1⟩
  | .hiFnKeyBase => ⟨.hi, 0x34, .d, 0, 0x1fff, 0, 0, 0, 0, 0, 0, 1⟩
  | .hiFnKeyCount => ⟨.hi, 0x38, .d, 0, 0x1fff, 0, 0, 0, 0, 0, 0, 1⟩
  | .hiFnBufMin => ⟨.hi, 0x3c, .d, 0, 0x1ffff, 0, 0, 0, 0, 0, 0, 1⟩
  | .hiFnBufMax => ⟨.hi, 0x40, .d, 0, 0x1ffff, 0, 0, 0, 0, 0x1ffff, 0, 1⟩
  | .hiFnWeight => ⟨.hi, 0x44, .d, 0, 0xff, 0, 0, 0, 0, 0x10, 0, 1⟩
  | .hiVfQuota => ⟨.hi, 0x48, .d, 0, 0xff, 0, 0, 0, 0, 0, 0, 1⟩
  | .hiAllocStatus => ⟨.hi, 0x4c, .d, 0, 0, 1, 0, 0, 0, 0, 0, 1⟩
  | .hiLinkCorr => ⟨.hi, 0x50, .p, 0, 0, 0, 0, 0, 0xffffffff, 0, 0, 1⟩
  | .hiLoopCtrl => ⟨.hi, 0x54, .d, 3, 0, 0, 0, 0, 0, 0, 0, 1⟩
  | .qeSqSel => ⟨.qePage, 4, .f, 0x3ffff, 0, 0, 0, 0, 0, 0, 0, 1⟩
  | .qeSqAddrLo => ⟨.qePage, 8, .f, 0, 0xffffffc0, 0, 0, 0, 0, 0, 0, 1⟩
  | .qeSqAddrHi => ⟨.qePage, 0xc, .f, 0, 0xffffffff, 0, 0, 0, 0, 0, 0, 1⟩
  | .qeSqCfg => ⟨.qePage, 0x10, .f, 0, 0xffffffff, 0, 0, 0, 0, 0, 0, 1⟩
  | .qeSqCtrl => ⟨.qePage, 0x14, .f, 0xd, 0, 0, 0, 0, 0, 0, 0, 1⟩
  | .qeSqStatus => ⟨.qePage, 0x18, .q, 0, 0, 0, 0, 0, 0, 0, 0, 1⟩
  | .qeSqReset => ⟨.qePage, 0x1c, .q, 0, 0, 0, 0, 0x3ffff, 0, 0, 0, 1⟩
  | .qeCqSel => ⟨.qePage, 0x20, .f, 0xffff, 0, 0, 0, 0, 0, 0, 0, 1⟩
  | .qeCqAddrLo => ⟨.qePage, 0x24, .f, 0, 0xffffffc0, 0, 0, 0, 0, 0, 0, 1⟩
  | .qeCqAddrHi => ⟨.qePage, 0x28, .f, 0, 0xffffffff, 0, 0, 0, 0, 0, 0, 1⟩
  | .qeCqCfg => ⟨.qePage, 0x2c, .f, 0, 0xffff3fff, 0, 0, 0, 0, 0, 0, 1⟩
  | .qeCqMod => ⟨.qePage, 0x30, .f, 0x3ff00ff, 0, 0, 0, 0, 0, 0, 0, 1⟩
  | .qeCqCtrl => ⟨.qePage, 0x34, .f, 1, 0, 0, 0, 0, 0, 0, 0, 1⟩
  | .qeCqStatus => ⟨.qePage, 0x38, .q, 0, 0, 0, 0, 0, 0, 0x40000000, 0, 1⟩
  | .qeEvtCfg => ⟨.qePage, 0x3c, .f, 0x8000ffff, 0, 0, 0, 0, 0, 0, 0, 1⟩
  | .qeEvtMask => ⟨.qePage, 0x40, .f, 0xff, 0, 0, 0, 0, 0, 0xff, 0, 1⟩
  | .qeEvtLost => ⟨.qePage, 0x44, .f, 0, 0, 0, 0, 0, 0xffffffff, 0, 0, 1⟩
  | .qeStatus => ⟨.qePage, 0x48, .f, 0, 0, 0x1e, 0, 0, 0, 0, 0, 1⟩
  | .qeBadDb => ⟨.qePage, 0x4c, .f, 0, 0, 0, 0, 0, 0xffffffff, 0, 0, 1⟩
  | .qeStageMode => ⟨.qe, 4, .d, 0, 1, 0, 0, 0, 0, 1, 0, 1⟩
  | .qeWindowEn => ⟨.qe, 8, .n, 1, 0, 0, 0, 0, 0, 1, 0, 1⟩
  | .qeActiveSq => ⟨.qe, 0xc, .d, 0, 0, 0, 0, 0, 0, 0, 0, 1⟩
  | .qeCtxMiss => ⟨.qe, 0x10, .d, 0, 0, 0, 0, 0, 0xffffffff, 0, 0, 1⟩
  | .qeCtxCorr => ⟨.qe, 0x14, .a, 0, 0, 0, 0, 0, 0xffffffff, 0, 0, 1⟩
  | .qePealCount => ⟨.peal, 4, .f, 0x3ff, 0, 0, 0, 0, 0, 0, 0, 1⟩
  | .qePealCommit => ⟨.peal, 8, .f, 0, 0, 0, 0, 0xffffffff, 0, 0, 0, 1⟩
  | .qePealStatus => ⟨.peal, 0xc, .f, 0, 0, 0, 0, 0, 0, 0, 0, 1⟩
  | .qePealRing => ⟨.peal, 0x10, .f, 0x8003ffff, 0, 0, 0, 0, 0, 0, 8, 510⟩
  | .qePealValue => ⟨.peal, 0x14, .f, 0xffff, 0, 0, 0, 0, 0, 0, 8, 510⟩
  | .taskOpcode => ⟨.task, 4, .f, 0xff, 0, 0, 0, 0, 0, 0, 0, 1⟩
  | .taskParam => ⟨.task, 8, .f, 0xffffffff, 0, 0, 0, 0, 0, 0, 4, 8⟩
  | .taskStatus => ⟨.task, 0x28, .f, 0, 0, 0, 0, 0, 0, 0, 0, 1⟩
  | .taskGo => ⟨.task, 0x2c, .f, 0, 0, 0, 0, 3, 0, 0, 0, 1⟩
  | .peClusterQ => ⟨.pe, 4, .d, 0x1fff, 0, 0, 0, 0, 0, 0x20, 0, 1⟩
  | .peHoldMax => ⟨.pe, 8, .d, 0xffff, 0, 0, 0, 0, 0, 0x1f4, 0, 1⟩
  | .peMinParcel => ⟨.pe, 0xc, .d, 0x1fff, 0, 0, 0, 0, 0, 0x100, 0, 1⟩
  | .peChunk => ⟨.pe, 0x10, .d, 0xf, 0, 0, 0, 0, 0, 8, 0, 1⟩
  | .peReadWait => ⟨.pe, 0x14, .d, 0xffff, 0, 0, 0, 0, 0, 0x1f4, 0, 1⟩
  | .peLocRunup => ⟨.pe, 0x18, .d, 0xffff, 0, 0, 0, 0, 0, 0x4b0, 0, 1⟩
  | .peStageSplit => ⟨.pe, 0x1c, .d, 0, 0xffff, 0, 0, 0, 0, 0x2810, 0, 1⟩
  | .peBookBudget => ⟨.pe, 0x20, .d, 0, 0x1ffff, 0, 0, 0, 0, 0x400, 0, 1⟩
  | .peEw => ⟨.pe, 0x24, .d, 0xffff, 0, 0, 0, 0, 0, 0x200, 0, 1⟩
  | .peFrontierDsLo => ⟨.pe, 0x28, .d, 0, 0, 0, 0, 0, 0, 0, 0, 1⟩
  | .peFrontierDsHi => ⟨.pe, 0x2c, .d, 0, 0, 0, 0, 0, 0, 0, 0, 1⟩
  | .peFrontierWrap => ⟨.pe, 0x30, .d, 0, 0, 0, 0, 0, 0, 0, 0, 1⟩
  | .peFrontierChain => ⟨.pe, 0x34, .d, 0, 0, 0, 0, 0, 0, 0, 0, 1⟩
  | .peRemainLo => ⟨.pe, 0x38, .d, 0, 0, 0, 0, 0, 0, 0, 0, 1⟩
  | .peRemainHi => ⟨.pe, 0x3c, .d, 0, 0, 0, 0, 0, 0, 0, 0, 1⟩
  | .peOpenStreams => ⟨.pe, 0x40, .d, 0, 0, 0, 0, 0, 0, 0, 0, 1⟩
  | .peSlotSel => ⟨.pe, 0x44, .d, 0xff, 0, 0, 0, 0, 0, 0, 0, 1⟩
  | .peSlotState => ⟨.pe, 0x48, .d, 0, 0, 0, 0, 0, 0, 0x8000, 0, 1⟩
  | .peSlotExcl => ⟨.pe, 0x4c, .n, 0xffffffff, 0, 0, 0, 0, 0, 0, 4, 5⟩
  | .peScanStatus => ⟨.pe, 0x60, .d, 0, 0, 0, 0, 0, 0, 0, 0, 1⟩
  | .peCxMoves => ⟨.pe, 0x64, .a, 0, 0, 0, 0, 0, 0xffffffff, 0, 0, 1⟩
  | .peBookMiss => ⟨.pe, 0x68, .a, 0, 0, 0, 0, 0, 0xffffffff, 0, 0, 1⟩
  | .peFillBytes => ⟨.pe, 0x6c, .a, 0, 0, 0, 0, 0, 0xffffffff, 0, 0, 1⟩
  | .bmPoolSplit => ⟨.bm, 4, .d, 0, 0xffffffff, 0, 0, 0, 0, 0x40803010, 0, 1⟩
  | .bmStreamWin => ⟨.bm, 8, .d, 0x1fff, 0, 0, 0, 0, 0, 0x200, 0, 1⟩
  | .bmReadRes => ⟨.bm, 0xc, .d, 0, 0xfff, 0, 0, 0, 0, 0x100, 0, 1⟩
  | .bmPoolSel => ⟨.bm, 0x10, .d, 7, 0, 0, 0, 0, 0, 0, 0, 1⟩
  | .bmPoolTotal => ⟨.bm, 0x14, .d, 0, 0, 0, 0, 0, 0, 0, 0, 1⟩
  | .bmPoolFree => ⟨.bm, 0x18, .d, 0, 0, 0, 0, 0, 0, 0, 0, 1⟩
  | .bmPoolLow => ⟨.bm, 0x1c, .a, 0, 0, 0, 0, 0, 0xffffffff, 0, 0, 1⟩
  | .bmPoolFall => ⟨.bm, 0x20, .a, 0, 0, 0, 0, 0, 0xffffffff, 0, 0, 1⟩
  | .bmWmSel => ⟨.bm, 0x24, .d, 0xf, 0, 0, 0, 0, 0, 0, 0, 1⟩
  | .bmWmCfg => ⟨.bm, 0x28, .d, 0xffff, 0, 0, 0, 0, 0, 0, 0, 1⟩
  | .bmWmLevel => ⟨.bm, 0x2c, .d, 0, 0, 0, 0, 0, 0, 0, 0, 1⟩
  | .bmWmState => ⟨.bm, 0x30, .d, 0, 0, 0, 0, 0, 0, 0, 0, 1⟩
  | .bmFcwCfg => ⟨.bm, 0x34, .d, 0xffff, 0, 0, 0, 0, 0, 0, 0, 1⟩
  | .bmBadFree => ⟨.bm, 0x38, .a, 0, 0, 0, 0, 0, 0xffffffff, 0, 0, 1⟩
  | .bmCellCorr => ⟨.bm, 0x3c, .a, 0, 0, 0, 0, 0, 0xffffffff, 0, 0, 1⟩
  | .bmXingSel => ⟨.bm, 0x40, .d, 0x3ff, 0, 0, 0, 0, 0, 0, 0, 1⟩
  | .bmXingCorr => ⟨.bm, 0x44, .a, 0, 0, 0, 0, 0, 0xffffffff, 0, 0, 1⟩
  | .bmOverdraft => ⟨.bm, 0x48, .d, 0, 0, 0, 0, 0, 0, 0, 0, 1⟩
  | .mcCfg => ⟨.mc, 4, .d, 0, 0, 0, 0, 0, 0, 0, 0, 1⟩
  | .mcStatus => ⟨.mc, 8, .d, 0, 0, 0, 0, 0, 0, 0, 0, 1⟩
  | .mcCorr0 => ⟨.mc, 0xc, .a, 0, 0, 0, 0, 0, 0xffffffff, 0, 0, 1⟩
  | .mcCorr1 => ⟨.mc, 0x10, .a, 0, 0, 0, 0, 0, 0xffffffff, 0, 0, 1⟩
  | .mcUncorr => ⟨.mc, 0x14, .a, 0, 0, 0, 0, 0, 0xffffffff, 0, 0, 1⟩
  | .mcUeAddrLo => ⟨.mc, 0x18, .a, 0, 0, 0, 0, 0, 0, 0, 0, 1⟩
  | .mcUeAddrHi => ⟨.mc, 0x1c, .a, 0, 0, 0, 0, 0, 0, 0, 0, 1⟩
  | .mcScrub => ⟨.mc, 0x20, .d, 0xff, 0, 0, 0, 0, 0, 0x18, 0, 1⟩
  | .mcCorrLimit => ⟨.mc, 0x24, .d, 0xffff, 0, 0, 0, 0, 0, 0x3e8, 0, 1⟩
  | .cxLevel => ⟨.cx, 4, .d, 7, 0, 0, 0, 0, 0, 3, 0, 1⟩
  | .cxEngSel => ⟨.cx, 8, .d, 0x3f, 0, 0, 0, 0, 0, 0, 0, 1⟩
  | .cxEngState => ⟨.cx, 0xc, .d, 0, 0, 0, 0, 0, 0, 0, 0, 1⟩
  | .cxEngIn => ⟨.cx, 0x10, .a, 0, 0, 0, 0, 0, 0xffffffff, 0, 0, 1⟩
  | .cxEngOut => ⟨.cx, 0x14, .a, 0, 0, 0, 0, 0, 0xffffffff, 0, 0, 1⟩
  | .cxEngStored => ⟨.cx, 0x18, .a, 0, 0, 0, 0, 0, 0xffffffff, 0, 0, 1⟩
  | .cxDxFault => ⟨.cx, 0x1c, .d, 0, 0, 0, 0, 0, 0, 0, 0, 1⟩
  | .cxDxTrips => ⟨.cx, 0x20, .a, 0, 0, 0, 0, 0, 0xffffffff, 0, 0, 1⟩
  | .cxHistCorr => ⟨.cx, 0x24, .a, 0, 0, 0, 0, 0, 0xffffffff, 0, 0, 1⟩
  | .cxCtxRestores => ⟨.cx, 0x28, .a, 0, 0, 0, 0, 0, 0xffffffff, 0, 0, 1⟩
  | .ceCoreSel => ⟨.ce, 4, .d, 0x1f, 0, 0, 0, 0, 0, 0, 0, 1⟩
  | .ceCoreState => ⟨.ce, 8, .d, 0, 0, 0, 0, 0, 0, 0, 0, 1⟩
  | .ceCoreBytes => ⟨.ce, 0xc, .a, 0, 0, 0, 0, 0, 0xffffffff, 0, 0, 1⟩
  | .ceKeyLow => ⟨.ce, 0x10, .d, 0xffff, 0, 0, 0, 0, 0, 0x400, 0, 1⟩
  | .ceDeviceNum => ⟨.ce, 0x14, .a, 0, 0, 0, 0, 0, 0, 0, 0, 1⟩
  | .ceEpoch => ⟨.ce, 0x18, .n, 0, 0, 0, 0, 0, 0, 0, 0, 1⟩
  | .ceTrngStatus => ⟨.ce, 0x1c, .d, 0, 0, 0, 0, 0, 0, 0, 0, 1⟩
  | .ceTrngFail => ⟨.ce, 0x20, .a, 0, 0, 0, 0, 0, 0xffffffff, 0, 0, 1⟩
  | .ceAuthFail => ⟨.ce, 0x24, .a, 0, 0, 0, 0, 0, 0xffffffff, 0, 0, 1⟩
  | .ceUnwrapFail => ⟨.ce, 0x28, .a, 0, 0, 0, 0, 0, 0xffffffff, 0, 0, 1⟩
  | .ceRevoked => ⟨.ce, 0x2c, .a, 0, 0, 0, 0, 0, 0xffffffff, 0, 0, 1⟩
  | .ceKeyMiss => ⟨.ce, 0x30, .a, 0, 0, 0, 0, 0, 0xffffffff, 0, 0, 1⟩
  | .ceKeyCorr => ⟨.ce, 0x34, .a, 0, 0, 0, 0, 0, 0xffffffff, 0, 0, 1⟩
  | .eeInject => ⟨.ee, 4, .d, 0, 0x80007fff, 0, 0, 0, 0, 0, 0, 1⟩
  | .eeTiers => ⟨.ee, 8, .a, 0, 0, 0, 0, 0, 0xffffffff, 0, 0, 1⟩
  | .eeFill => ⟨.ee, 0xc, .a, 0, 0, 0, 0, 0, 0xffffffff, 0, 0, 1⟩
  | .eeRewrites => ⟨.ee, 0x10, .a, 0, 0, 0, 0, 0, 0xffffffff, 0, 0, 1⟩
  | .eeClips => ⟨.ee, 0x14, .a, 0, 0, 0, 0, 0, 0xffffffff, 0, 0, 1⟩
  | .eeEncFault => ⟨.ee, 0x18, .a, 0, 0, 0, 0, 0, 0xffffffff, 0, 0, 1⟩
  | .eeCorr => ⟨.ee, 0x1c, .a, 0, 0, 0, 0, 0, 0xffffffff, 0, 0, 1⟩
  | .wcIwBase => ⟨.wc, 4, .d, 0xff, 0, 0, 0, 0, 0, 0, 0, 1⟩
  | .wcChSel => ⟨.wc, 8, .d, 0x1f, 0, 0, 0, 0, 0, 0, 0, 1⟩
  | .wcChTrim => ⟨.wc, 0xc, .d, 0, 0x1f1f3f, 0, 0, 0, 0, 0x20, 0, 1⟩
  | .wcChState => ⟨.wc, 0x10, .d, 0, 0, 0, 0, 0, 0, 1, 0, 1⟩
  | .wcGate => ⟨.wc, 0x14, .d, 0, 0, 0, 0, 0, 0, 0, 0, 1⟩
  | .wcChFramesLo => ⟨.wc, 0x18, .a, 0, 0, 0, 0, 0, 0, 0, 0, 1⟩
  | .wcChFramesHi => ⟨.wc, 0x1c, .a, 0, 0, 0, 0, 0, 0, 0, 0, 1⟩
  | .wcCorr => ⟨.wc, 0x20, .a, 0, 0, 0, 0, 0, 0xffffffff, 0, 0, 1⟩
  | .vcGradeW => ⟨.vc, 4, .d, 0xffffffff, 0, 0, 0, 0, 0, 0x8011001, 0, 1⟩
  | .vcRwThresh => ⟨.vc, 8, .d, 0xff, 0, 0, 0, 0, 0, 0x40, 0, 1⟩
  | .vcRestart => ⟨.vc, 0xc, .d, 0xfff, 0, 0, 0, 0, 0, 0x400, 0, 1⟩
  | .vcSlotSel => ⟨.vc, 0x10, .d, 0xff, 0, 0, 0, 0, 0, 0, 0, 1⟩
  | .vcSlotVfyLo => ⟨.vc, 0x14, .a, 0, 0, 0, 0, 0, 0, 0, 0, 1⟩
  | .vcSlotVfyHi => ⟨.vc, 0x18, .a, 0, 0, 0, 0, 0, 0, 0, 0, 1⟩
  | .vcSlotFails => ⟨.vc, 0x1c, .a, 0, 0, 0, 0, 0, 0xffffffff, 0, 0, 1⟩
  | .vcSlotPoor => ⟨.vc, 0x20, .a, 0, 0, 0, 0, 0, 0xffffffff, 0, 0, 1⟩
  | .vcSlotLast => ⟨.vc, 0x24, .d, 0, 0, 0, 0, 0, 0, 0, 0, 1⟩
  | .vcPreFail => ⟨.vc, 0x28, .a, 0, 0, 0, 0, 0, 0xffffffff, 0, 0, 1⟩
  | .dfRwlLen => ⟨.df, 4, .d, 0, 0, 0, 0, 0, 0, 0, 0, 1⟩
  | .dfRwlMax => ⟨.df, 8, .a, 0, 0, 0, 0, 0, 0x1fff, 0, 0, 1⟩
  | .dfRewrites => ⟨.df, 0xc, .a, 0, 0, 0, 0, 0, 0xffffffff, 0, 0, 1⟩
  | .dfRestarts => ⟨.df, 0x10, .a, 0, 0, 0, 0, 0, 0xffffffff, 0, 0, 1⟩
  | .dfAbandoned => ⟨.df, 0x14, .a, 0, 0, 0, 0, 0, 0xffffffff, 0, 0, 1⟩
  | .dfBadWrap => ⟨.df, 0x18, .d, 0, 0, 0, 0, 0, 0, 0, 0, 1⟩
  | .dfBadChain => ⟨.df, 0x1c, .d, 0, 0, 0, 0, 0, 0, 0, 0, 1⟩
  | .dfInhPes => ⟨.df, 0x20, .a, 0, 0, 0, 0, 0, 0xffffffff, 0, 0, 1⟩
  | .dfInhShock => ⟨.df, 0x24, .a, 0, 0, 0, 0, 0, 0xffffffff, 0, 0, 1⟩
  | .dfInhWfault => ⟨.df, 0x28, .a, 0, 0, 0, 0, 0, 0xffffffff, 0, 0, 1⟩
  | .dfCutFrames => ⟨.df, 0x2c, .a, 0, 0, 0, 0, 0, 0xffffffff, 0, 0, 1⟩
  | .dfQueue => ⟨.df, 0x30, .d, 0, 0, 0, 0, 0, 0, 0, 0, 1⟩
  | .smSpdMode => ⟨.sm, 0x400, .d, 0xff01, 0, 0, 0, 0, 0, 0xc800, 0, 1⟩
  | .smSpdNow => ⟨.sm, 0x404, .d, 0, 0, 0, 0, 0, 0, 0xff, 0, 1⟩
  | .smAccel => ⟨.sm, 0x408, .d, 0xff, 0, 0, 0, 0, 0, 0x64, 0, 1⟩
  | .smBhCfg => ⟨.sm, 0x40c, .d, 0xffffff, 0, 0, 0, 0, 0, 0x3e831, 0, 1⟩
  | .smBhCount => ⟨.sm, 0x410, .a, 0, 0, 0, 0, 0, 0xffffffff, 0, 0, 1⟩
  | .smBhTime => ⟨.sm, 0x414, .a, 0, 0, 0, 0, 0, 0xffffffff, 0, 0, 1⟩
  | .rcAdapt => ⟨.rc, 4, .d, 0xfffff, 0, 0, 0, 0, 0, 0xcbdaa, 0, 1⟩
  | .rcSyncCfg => ⟨.rc, 8, .d, 0xffffff, 0, 0, 0, 0, 0, 0x840401, 0, 1⟩
  | .rcDefect => ⟨.rc, 0xc, .d, 0xffffffff, 0, 0, 0, 0, 0, 0x3c068408, 0, 1⟩
  | .rcChSel => ⟨.rc, 0x10, .d, 0x1f, 0, 0, 0, 0, 0, 0, 0, 1⟩
  | .rcChState => ⟨.rc, 0x14, .d, 0, 0, 0, 0, 0, 0, 1, 0, 1⟩
  | .rcChFreeze => ⟨.rc, 0x18, .d, 0x1f, 0, 0, 0, 0, 0, 0, 0, 1⟩
  | .rcChAfe => ⟨.rc, 0x1c, .d, 0, 0xffff, 0, 0, 0, 0, 0, 0, 1⟩
  | .rcChLoops => ⟨.rc, 0x20, .d, 0, 0x3fffffff, 0, 0, 0, 0, 0x400, 0, 1⟩
  | .rcTapSel => ⟨.rc, 0x24, .d, 0x3f, 0, 0, 0, 0, 0, 0, 0, 1⟩
  | .rcTap => ⟨.rc, 0x28, .d, 0, 0x3ff, 0, 0, 0, 0, 0, 0, 1⟩
  | .rcChMse => ⟨.rc, 0x2c, .d, 0, 0, 0, 0, 0, 0, 0, 0, 1⟩
  | .rcChFramesLo => ⟨.rc, 0x30, .a, 0, 0, 0, 0, 0, 0, 0, 0, 1⟩
  | .rcChFramesHi => ⟨.rc, 0x34, .a, 0, 0, 0, 0, 0, 0, 0, 0, 1⟩
  | .rcChMiss => ⟨.rc, 0x38, .a, 0, 0, 0, 0, 0, 0xffffffff, 0, 0, 1⟩
  | .rcChDefect => ⟨.rc, 0x3c, .a, 0, 0, 0, 0, 0, 0xffffffff, 0, 0, 1⟩
  | .rcChPreFail => ⟨.rc, 0x40, .a, 0, 0, 0, 0, 0, 0xffffffff, 0, 0, 1⟩
  | .rcCorr => ⟨.rc, 0x44, .a, 0, 0, 0, 0, 0, 0xffffffff, 0, 0, 1⟩
  | .edIter => ⟨.ed, 4, .d, 0xffffff, 0, 0, 0, 0, 0, 0x201862, 0, 1⟩
  | .edC2Cfg => ⟨.ed, 8, .d, 0xffff, 0, 0, 0, 0, 0, 0x2004, 0, 1⟩
  | .edLaneSel => ⟨.ed, 0xc, .d, 0x7f, 0, 0, 0, 0, 0, 0, 0, 1⟩
  | .edLaneState => ⟨.ed, 0x10, .d, 0, 0, 0, 0, 0, 0, 0, 0, 1⟩
  | .edLaneFrames => ⟨.ed, 0x14, .a, 0, 0, 0, 0, 0, 0xffffffff, 0, 0, 1⟩
  | .edSlotSel => ⟨.ed, 0x18, .d, 0xff, 0, 0, 0, 0, 0, 0, 0, 1⟩
  | .edSlotC1fail => ⟨.ed, 0x1c, .a, 0, 0, 0, 0, 0, 0xffffffff, 0, 0, 1⟩
  | .edSlotRetry => ⟨.ed, 0x20, .a, 0, 0, 0, 0, 0, 0xffffffff, 0, 0, 1⟩
  | .edSlotIter => ⟨.ed, 0x24, .d, 0, 0, 0, 0, 0, 0, 0, 0, 1⟩
  | .edOverrun => ⟨.ed, 0x28, .a, 0, 0, 0, 0, 0, 0xffffffff, 0, 0, 1⟩
  | .edC2Tiers => ⟨.ed, 0x2c, .a, 0, 0, 0, 0, 0, 0xffffffff, 0, 0, 1⟩
  | .edC2Eras => ⟨.ed, 0x30, .a, 0, 0, 0, 0, 0, 0xffffffff, 0, 0, 1⟩
  | .edC2Err => ⟨.ed, 0x34, .a, 0, 0, 0, 0, 0, 0xffffffff, 0, 0, 1⟩
  | .edC2Fail => ⟨.ed, 0x38, .a, 0, 0, 0, 0, 0, 0xffffffff, 0, 0, 1⟩
  | .edC3Runs => ⟨.ed, 0x3c, .a, 0, 0, 0, 0, 0, 0xffffffff, 0, 0, 1⟩
  | .edC3Fail => ⟨.ed, 0x40, .a, 0, 0, 0, 0, 0, 0xffffffff, 0, 0, 1⟩
  | .edLlrCorr => ⟨.ed, 0x44, .a, 0, 0, 0, 0, 0, 0xffffffff, 0, 0, 1⟩
  | .vcStep => ⟨.vc, 0x100, .d, 0xf00ff, 0, 0, 0, 0, 0, 0x200a0, 0, 1⟩
  | .vcStart => ⟨.vc, 0x104, .d, 0x17, 0, 0, 0, 0, 0, 0x10, 0, 1⟩
  | .vcTrim => ⟨.vc, 0x108, .d, 0xff0f, 0, 0, 0, 0, 0, 0x401, 0, 1⟩
  | .vcProbe => ⟨.vc, 0x10c, .d, 0x8000000f, 0, 0, 0, 0, 0, 0x80000001, 0, 1⟩
  | .vcBench => ⟨.vc, 0x110, .d, 0xffffff, 0, 0, 0, 0, 0, 0x300040, 0, 1⟩
  | .vcCalSel => ⟨.vc, 0x114, .d, 0x1ff, 0, 0, 0, 0, 0, 0, 0, 1⟩
  | .vcCalCtrl => ⟨.vc, 0x118, .d, 0xf3, 0, 0, 0, 0, 0, 0, 0, 1⟩
  | .vcCalState => ⟨.vc, 0x11c, .d, 0, 0, 0, 0, 0, 0, 0, 0, 1⟩
  | .vcCalTrims => ⟨.vc, 0x120, .d, 0, 0, 0, 0, 0, 0, 0x20, 0, 1⟩
  | .vcCalWin => ⟨.vc, 0x124, .d, 0, 0, 0, 0, 0, 0, 0, 0, 1⟩
  | .vcBenchRes => ⟨.vc, 0x128, .d, 0, 0, 0, 0, 0, 0, 0, 0, 1⟩
  | .vcRaises => ⟨.vc, 0x12c, .a, 0, 0, 0, 0, 0, 0xffffffff, 0, 0, 1⟩
  | .vcDrops => ⟨.vc, 0x130, .a, 0, 0, 0, 0, 0, 0xffffffff, 0, 0, 1⟩
  | .vcRetired => ⟨.vc, 0x134, .a, 0, 0, 0, 0, 0, 0xffffffff, 0, 0, 1⟩
  | .vcTrimMoves => ⟨.vc, 0x138, .a, 0, 0, 0, 0, 0, 0xffffffff, 0, 0, 1⟩
  | .vcProbes => ⟨.vc, 0x13c, .a, 0, 0, 0, 0, 0, 0xffffffff, 0, 0, 1⟩
  | .vcProbeFail => ⟨.vc, 0x140, .a, 0, 0, 0, 0, 0, 0xffffffff, 0, 0, 1⟩
  | .vcStepMix0 => ⟨.vc, 0x144, .d, 0, 0, 0, 0, 0, 0, 0, 0, 1⟩
  | .vcStepMix1 => ⟨.vc, 0x148, .d, 0, 0, 0, 0, 0, 0, 0, 0, 1⟩
  | .smTransport => ⟨.sm, 4, .d, 0, 0, 0, 8, 0, 0, 0, 0, 1⟩
  | .smLoopSel => ⟨.sm, 8, .d, 7, 0, 0, 0, 0, 0, 0, 0, 1⟩
  | .smLoopCtrl => ⟨.sm, 0xc, .d, 0, 0x301, 0, 0, 0, 0, 0, 0, 1⟩
  | .smLoopRate => ⟨.sm, 0x10, .d, 0, 0xfffff, 0, 0, 0, 0, 0, 0, 1⟩
  | .smLoopStatus => ⟨.sm, 0x14, .d, 0, 0, 0, 0, 0, 0, 0, 0, 1⟩
  | .smCoefAddr => ⟨.sm, 0x18, .d, 0xff, 0, 0, 0, 0, 0, 0, 0, 1⟩
  | .smCoefData => ⟨.sm, 0x1c, .d, 0, 0xffffffff, 0, 0, 0, 0, 0, 0, 1⟩
  | .smOverruns => ⟨.sm, 0x20, .a, 0, 0, 0, 0, 0, 0xffffffff, 0, 0, 1⟩
  | .smRough => ⟨.sm, 0x24, .a, 0, 0, 0, 0, 0, 0xffffffff, 0, 0, 1⟩
  | .smTrip => ⟨.sm, 0x28, .d, 0, 0, 0, 0, 0, 0, 0, 0, 1⟩
  | .smInhibit => ⟨.sm, 0x2c, .d, 0xffff, 0, 0, 0, 0, 0, 0xc08, 0, 1⟩
  | .smAccCfg => ⟨.sm, 0x30, .d, 0xfff0ffff, 0, 0, 0, 0, 0, 0x22003e8, 0, 1⟩
  | .smPes => ⟨.sm, 0x34, .d, 0, 0, 0, 0, 0, 0, 0, 0, 1⟩
  | .smChain => ⟨.sm, 0x38, .d, 0, 0, 0, 0, 0, 0, 0, 0, 1⟩
  | .smSpeed => ⟨.sm, 0x3c, .d, 0, 0, 0, 0, 0, 0, 0, 0, 1⟩
  | .smRdrState => ⟨.sm, 0x40, .d, 0x3f0000, 0, 0, 0, 0, 0, 0x3f0000, 0, 1⟩
  | .smRdrFail => ⟨.sm, 0x44, .a, 0, 0, 0, 0, 0, 0xffffffff, 0, 0, 1⟩
  | .smLatOfs => ⟨.sm, 0x48, .n, 0xffffffff, 0, 0, 0, 0, 0, 0, 0, 1⟩
  | .smExtScale => ⟨.sm, 0x4c, .d, 0, 0xffff, 0, 0, 0, 0, 0x2710, 0, 1⟩
  | .smSafe => ⟨.sm, 0x50, .d, 0xffffff00, 0, 0, 0, 0, 0, 0x646400, 0, 1⟩
  | .smLimits => ⟨.sm, 0x54, .d, 0xffffffff, 0, 0, 0, 0, 0, 0x4b007d0, 0, 1⟩
  | .smTension => ⟨.sm, 0x58, .d, 0xffff, 0, 0, 0, 0, 0, 0, 0, 1⟩
  | .smInjCfg => ⟨.sm, 0x5c, .d, 0x7fffffff, 0, 0, 0x80000000, 0, 0, 0, 0, 1⟩
  | .smInjAmp => ⟨.sm, 0x60, .d, 0xffffffff, 0, 0, 0, 0, 0, 0, 0, 1⟩
  | .smInjFreq => ⟨.sm, 0x64, .d, 0xffffffff, 0, 0, 0, 0, 0, 0, 0, 1⟩
  | .smCapCfg => ⟨.sm, 0x68, .d, 0x7fffffff, 0, 0, 0x80000000, 0, 0, 0, 0, 1⟩
  | .smCapStatus => ⟨.sm, 0x6c, .d, 0, 0, 0, 0, 0, 0, 0, 0, 1⟩
  | .smCapPage => ⟨.sm, 0x70, .d, 0x3f, 0, 0, 0, 0, 0, 0, 0, 1⟩
  | .smCapWin => ⟨.sm, 0x8000, .d, 0, 0, 0, 0, 0, 0, 0, 4, 8192⟩
  | .ctSense => ⟨.ct, 4, .d, 0, 0, 0, 0, 0, 0, 0, 0, 1⟩
  | .ctSensePol => ⟨.ct, 8, .n, 0xff, 0, 0, 0, 0, 0, 0xff, 0, 1⟩
  | .ctGpioOut => ⟨.ct, 0xc, .d, 0xe0, 0, 0, 0, 0, 0, 0, 0, 1⟩
  | .ctMedia => ⟨.ct, 0x10, .d, 0, 0, 0, 0, 0, 0, 0, 0, 1⟩
  | .ctCmErr => ⟨.ct, 0x14, .a, 0, 0, 0, 0, 0, 0xffffffff, 0, 0, 1⟩
  | .ctLoads => ⟨.ct, 0x18, .a, 0, 0, 0, 0, 0, 0xffffffff, 0, 0, 1⟩
  | .msPwrPolicy => ⟨.ms, 0x100, .n, 3, 0, 0, 0, 0, 0, 3, 0, 1⟩
  | .msPwrReq => ⟨.ms, 0x104, .d, 3, 0, 0, 0x100, 0, 0, 0, 0, 1⟩
  | .msPwrState => ⟨.ms, 0x108, .d, 0, 0, 0, 0, 0, 0, 0, 0, 1⟩
  | .msIdleT1 => ⟨.ms, 0x10c, .n, 0xffffffff, 0, 0, 0, 0, 0, 0x64, 0, 1⟩
  | .msIdleT2 => ⟨.ms, 0x110, .n, 0xffffffff, 0, 0, 0, 0, 0, 0x2710, 0, 1⟩
  | .msIdleT3 => ⟨.ms, 0x114, .n, 0xffffffff, 0, 0, 0, 0, 0, 0x493e0, 0, 1⟩
  | .msIslandOn => ⟨.ms, 0x118, .d, 0, 0, 0, 0, 0, 0, 0, 0, 1⟩
  | .msIslandClk => ⟨.ms, 0x11c, .d, 0, 0, 0, 0, 0, 0, 0, 0, 1⟩
  | .msPllLock => ⟨.ms, 0x120, .d, 0, 0, 0, 0, 0, 0, 0, 0, 1⟩
  | .msResetCause => ⟨.ms, 0x124, .a, 0, 0, 0x3f, 0, 0, 0, 1, 0, 1⟩
  | .msResA1 => ⟨.ms, 0x128, .a, 0, 0, 0, 0, 0, 0xffffffff, 0, 0, 1⟩
  | .msResA2 => ⟨.ms, 0x12c, .a, 0, 0, 0, 0, 0, 0xffffffff, 0, 0, 1⟩
  | .msResA3 => ⟨.ms, 0x130, .a, 0, 0, 0, 0, 0, 0xffffffff, 0, 0, 1⟩
  | .msWakes => ⟨.ms, 0x134, .a, 0, 0, 0, 0, 0, 0xffffffff, 0, 0, 1⟩
  | .msTimeLo => ⟨.ms, 0x138, .a, 0, 0, 0, 0, 0, 0, 0, 0, 1⟩
  | .msTimeHi => ⟨.ms, 0x13c, .a, 0, 0, 0, 0, 0, 0, 0, 0, 1⟩
  | .msSbDevrst => ⟨.ms, 0x140, .d, 0, 0, 0, 0, 0xff, 0, 0, 0, 1⟩
  | .msSbOwner => ⟨.ms, 0x144, .a, 0, 7, 0, 0, 0, 0, 0, 0, 1⟩
  | .msUpdState => ⟨.ms, 0x200, .d, 0, 0, 0, 0, 0, 0, 0, 0, 1⟩
  | .msUpdLock => ⟨.ms, 0x204, .n, 1, 0, 0, 0, 0, 0, 0, 0, 1⟩
  | .msSvFused => ⟨.ms, 0x208, .a, 0, 0, 0, 0, 0, 0, 0, 0, 1⟩
  | .msImgVer => ⟨.ms, 0x20c, .d, 0, 0, 0, 0, 0, 0, 0, 0, 1⟩
  | .msImgSv => ⟨.ms, 0x210, .d, 0, 0, 0, 0, 0, 0, 0, 0, 1⟩
  | .msXsCfg => ⟨.ms, 0x214, .d, 0, 0, 0, 0, 0, 0, 0, 0, 1⟩
  | .msXsErr => ⟨.ms, 0x218, .a, 0, 0, 0, 0, 0, 0xffffffff, 0, 0, 1⟩
  | .msXsErases => ⟨.ms, 0x21c, .a, 0, 0, 0, 0, 0, 0xffffffff, 0, 0, 1⟩
  | .msJrnlUse => ⟨.ms, 0x220, .d, 0, 0, 0, 0, 0, 0, 0, 0, 1⟩
  | .msBistCfg => ⟨.ms, 0x300, .n, 0xffff0003, 0, 0, 0, 0, 0, 0x3c0001, 0, 1⟩
  | .msBistStatus => ⟨.ms, 0x304, .d, 0, 0, 0, 0, 0, 0, 0, 0, 1⟩
  | .msRepair => ⟨.ms, 0x308, .a, 0, 0, 0, 0, 0, 0, 0, 0, 1⟩
  | .msSliceRuns => ⟨.ms, 0x30c, .a, 0, 0, 0, 0, 0, 0xffffffff, 0, 0, 1⟩
  | .msSliceYields => ⟨.ms, 0x310, .a, 0, 0, 0, 0, 0, 0xffffffff, 0, 0, 1⟩
  | .msSliceFails => ⟨.ms, 0x314, .a, 0, 0, 0, 0, 0, 0xffffffff, 0, 0, 1⟩
  | .msLogCfg => ⟨.ms, 0x318, .n, 3, 0, 0, 0, 0, 0, 0, 0, 1⟩
  | .msLogSeqLo => ⟨.ms, 0x31c, .a, 0, 0, 0, 0, 0, 0, 0, 0, 1⟩
  | .msLogSeqHi => ⟨.ms, 0x320, .a, 0, 0, 0, 0, 0, 0, 0, 0, 1⟩
  | .msLogLost => ⟨.ms, 0x324, .a, 0, 0, 0, 0, 0, 0xffffffff, 0, 0, 1⟩
  | .msNarrowWrite => ⟨.ms, 0x328, .a, 0, 0, 0, 0, 0, 0xffffffff, 0, 0, 1⟩
  | .msDbgCtrl => ⟨.ms, 0x32c, .d, 0, 0xff, 0, 0, 0, 0, 0, 0, 1⟩
  | .msTemp => ⟨.ms, 0x400, .d, 0, 0, 0, 0, 0, 0, 0, 0, 1⟩
  | .msTempMax => ⟨.ms, 0x404, .a, 0, 0, 0, 0, 0, 0xffff, 0, 0, 1⟩
  | .msGpioDir => ⟨.ms, 0x408, .d, 0xffff, 0, 0, 0, 0, 0, 0, 0, 1⟩
  | .msGpioOut => ⟨.ms, 0x40c, .d, 0xffff, 0, 0, 0, 0, 0, 0, 0, 1⟩
  | .msGpioIn => ⟨.ms, 0x410, .d, 0, 0, 0, 0, 0, 0, 0, 0, 1⟩

/-- Every register, in the order of the tables. -/
def allRegs : List RegName := (List.range 303).map RegName.ofNat

/-- The registers of a block or page. -/
def Blk.regs (b : Blk) : List RegName := allRegs.filter fun r => r.info.blk == b && r != .blockId

/-- The register at a relative offset of a block or page and its index in an array, if one lies there (R34: offset 0
is the block's BLOCK_ID). -/
def regAt (b : Blk) (off : Nat) : Option (RegName × Nat) :=
  if off = 0 then some (.blockId, 0)
  else
    (b.regs.find? fun r =>
      let i := r.info
      if i.step = 0 then i.off == off
      else decide (i.off ≤ off ∧ off < i.off + i.step * i.count ∧ (off - i.off) % i.step = 0)).map fun r =>
        (r, if r.info.step = 0 then 0 else (off - r.info.off) / r.info.step)

end Sys2Proof
end

