-- ==== Sys2Proof/Machine/PartsHost.lean ====
section
/-! DEFINITION. The state of the host side: the board, the register store, the links, functions and owner (03), the
Kelny Layout Table (02), and the queue engine (04, 05). -/

namespace Sys2Proof.Machine

/-- A partition's link (R57, R438, HI_LINK_STATUS of R67). -/
structure Link where
  /-- 0 detect, 1 training, 2 L0, 3 L1, 4 L2, 5 loop-back, 6 disabled; 3 bits; reset 0. -/
  state : Nat
  /-- 0 down, 1 to 6 for 2.5 to 64 GT/s; 3 bits; reset 0. -/
  rate : Nat
  /-- Lanes trained; 5 bits; reset 0. -/
  width : Nat
  /-- FLIT mode; 1 bit; reset 0. -/
  flit : Bool
  /-- The reference clock request CLKREQ_N is asserted and the PHY island is powered (R438); 1 bit; reset true. -/
  clk : Bool
  deriving DecidableEq, Repr

/-- A chime kept pending (R94). -/
structure Chime where
  code : Nat
  arg : Nat
  arg2 : Nat
  seq : Nat
  deriving DecidableEq, Repr

/-- What the RFX keeps for one function beside its registers. [PRESUMED, log entry 20] -/
structure FnCtx where
  /-- MSI-X Enable bit (R61, R91); 1 bit; reset 0. -/
  msix : Bool
  /-- Vectors the host has masked in the MSI-X table (R91); set of vectors; reset empty (PRESUMED log entry 20). -/
  masked : List Nat
  /-- Pending Bit Array (R91); set of vectors; reset empty. -/
  pba : List Nat
  /-- Pending chimes, at most one per code, ascending (R94); reset empty. -/
  chimes : List Chime
  /-- Chimes lost since the last CHIME_LOST (R94); reset 0. -/
  lost : Nat
  /-- Deficit of the fetch round robin, in entries (R84); reset 0. -/
  deficit : Int
  /-- Ring served last, for the round robin within one priority (R84); reset 0. -/
  lastRing : Nat
  /-- The function is in D3cold (R56); 1 bit; reset 0. -/
  d3cold : Bool
  deriving DecidableEq, Repr

/-- HI: links, functions, owner (03). -/
structure HiState where
  /-- VFs enabled by each partition's PF (R58, R100); reset 0. -/
  numVfs : Tab Nat
  /-- Each partition's link; reset down. -/
  links : Tab Link
  /-- Partitions whose PERST_N is asserted (R70); reset: none. -/
  perst : List Nat
  /-- The owner's partition, if there is an owner (R62, HI_OWNER); reset per R62. -/
  owner : Option Nat
  /-- A change of owner that waits for owner-only commands already fetched (R64); reset none. -/
  ownerNext : Option (Option Nat)
  /-- Per-function context. -/
  fns : Tab FnCtx
  deriving DecidableEq, Repr

/-- The views a KLT rebuild covers (R41). -/
inductive KltScope where
  | all
  | fns (l : List Nat)
  deriving DecidableEq, Repr

/-- A trigger of R41: the views it rebuilds, and whether it is a reset (R43 posts no chime then). -/
structure KltTrigger where
  scope : KltScope
  reset : Bool
  deriving DecidableEq, Repr

/-- The Kelny Layout Table (02). -/
structure KltState where
  /-- The generation every view shows; 0 while a rebuild runs (R28); 16 bits; reset 0 (the first build runs). -/
  shown : BitVec 16
  /-- The last generation completed (R28); 16 bits; reset 0. -/
  gen : BitVec 16
  /-- The triggers of the rebuild that runs (R42); reset: power-on. -/
  running : List KltTrigger
  /-- Triggers that arrived during it (R42); reset empty. -/
  waiting : List KltTrigger
  /-- The records of each function's view as last rebuilt (R29, R42); bytes, one item a record; reset empty. -/
  views : Tab (List Bytes)
  deriving DecidableEq, Repr

/-- A submission ring's context (R74, R75, R97 to R101). -/
structure SqCtx where
  /-- QE_SQ_STATUS.enabled; 1 bit; reset 0. -/
  enabled : Bool
  /-- QE_SQ_STATUS.failed; 1 bit; reset 0. -/
  failed : Bool
  /-- QE_SQ_STATUS.resetting; 1 bit; reset 0. -/
  resetting : Bool
  /-- The reset in progress is a disable (R77); reset false. -/
  disabling : Bool
  /-- Next entry QE will fetch (QE_SQ_STATUS.head); 16 bits; reset 0. -/
  head : Nat
  /-- Tail the last doorbell gave (R81); 16 bits; reset 0. -/
  tail : Nat
  /-- Tails published and not wholly fetched, with the stamp of the doorbell (R85); oldest first; reset empty. -/
  pubs : List (Nat × Nat)
  /-- Entries dropped, completions after the reset write, and highest tag among those (R99); reset 0. -/
  dropped : Nat
  completed : Nat
  highTag : Nat
  /-- Tag of the last completion posted since enable or the last RESET_DONE (R99); reset none. -/
  lastTag : Option Nat
  /-- LOOP_TEST depth 0x10 names this ring: entries are echoed, not executed (R489); reset false. -/
  echo : Bool
  /-- Entries echoed while `echo` has been set (R489); reset 0. -/
  echoed : Nat
  deriving DecidableEq, Repr

/-- A completion ring's context (R74, R75, R88, R91). -/
structure CqCtx where
  /-- QE_CQ_STATUS.enabled; 1 bit; reset 0. -/
  enabled : Bool
  /-- QE_CQ_STATUS.failed; 1 bit; reset 0. -/
  failed : Bool
  /-- QE_CQ_STATUS.tail; 16 bits; reset 0. -/
  tail : Nat
  /-- QE_CQ_STATUS.phase; 1 bit; reset 1. -/
  phase : Bool
  /-- The host's head, from the last doorbell (R80); 16 bits; reset 0. -/
  head : Nat
  /-- Entries posted since the last signal (R91); reset 0. -/
  since : Nat
  /-- A moderation condition holds and the ring has not signalled (R91); reset false. -/
  due : Bool
  /-- QE_CQ_MOD as taken at the start of the moderation cycle (R91): count and time. -/
  modCount : Nat
  modTime : Nat
  deriving DecidableEq, Repr

/-- Where a command stands (R97, R112). -/
inductive Phase where
  | staged      -- fetched, not resolved
  | waiting     -- resolved, waiting on an overlapping lock (R136)
  | ready       -- holds its locks: accepted, unless it is of the write class (R97)
  | moving      -- write class: its data transfer has started (R192)
  deriving DecidableEq, Repr

/-- A range lock (R135). -/
structure Lock where
  stream : Nat
  excl : Bool
  lo : Nat
  hi : Nat
  deriving DecidableEq, Repr

/-- A command in flight: fetched and not yet completed (R95). -/
structure Cmd where
  /-- The model's own name for it: fetches are numbered from 0. -/
  id : Nat
  fn : Nat
  ring : Nat
  entry : Entry
  /-- Stamp of the doorbell, pair or TASK_GO write that published it (R85). -/
  stamp : Nat
  phase : Phase
  /-- The lock it holds or waits for, once resolved (R135). -/
  lock : Option Lock
  /-- Key of its stream, once resolved. -/
  stream : Option Nat
  /-- First record number and count it was given (R120); for a read, the record it starts at; for a SYNC or close, the
  stream's end at its resolution. The count of a close is one more than the number of its closing book dataset, once
  that has been formed (R168). -/
  first : Nat
  count : Nat
  /-- It was numbered by APPEND, or truncates (R120, R121). -/
  truncates : Bool
  /-- Bytes it has counted toward held bytes (R192), and what of them was drawn from the overdraft reserve. -/
  held : Nat
  overdraft : Nat
  /-- Its record list, once read (R109). -/
  recs : List RecItem
  /-- It resolved after this many commands (R85). -/
  order : Nat
  deriving DecidableEq, Repr

/-- An entry that is ready to be written to a completion ring (R87, R88, R99). -/
structure Ready where
  fn : Nat
  /-- Completion ring it is destined for. -/
  cq : Nat
  /-- Ring it reports, or the hidden ring of the window. -/
  ring : Nat
  /-- 0 command completion, 1 RESET_DONE (R87). -/
  kind : Nat
  result : Nat
  status : Nat
  detail : Nat
  tag : Nat
  /-- The RFX starts the device reset of R146 once this completion is posted. -/
  devrst : Bool
  deriving DecidableEq, Repr

/-- QE (04, 05). -/
structure QeState where
  sqs : Tab SqCtx
  cqs : Tab CqCtx
  /-- Commands in flight, in fetch order (R84, R95); reset empty. -/
  cmds : List Cmd
  nextId : Nat
  /-- Stamp of the next publication (R85); reset 0. -/
  stamp : Nat
  /-- Count of commands resolved (R85); reset 0. -/
  resolved : Nat
  /-- Completions in the order they became ready (R88); reset empty. -/
  ready : List Ready
  /-- Round robin over functions (R84): who started the round, who is being served, who still takes a turn. -/
  roundStart : Nat
  serving : Option Nat
  turns : List Nat
  /-- The task-register window is present (R102: QE_WINDOW_EN at the last reset); reset true. -/
  window : Bool
  /-- The device is leaving service (R112, R145); reset false. -/
  leaving : Bool
  /-- The completion of a DEVRST has been posted and the device reset has not run (R146); reset false. -/
  devrstDue : Bool
  deriving DecidableEq, Repr

end Sys2Proof.Machine
end

