-- ==== Sys2Proof/Machine/PartsMech.lean ====
section
/-! DEFINITION. The state of servo, motion, transport and cartridge (15, 16). -/

namespace Sys2Proof.Machine

/-- What a servo channel keeps of its reader (R389, R391). -/
structure Reader where
  /-- Twice the t_R of the last frame, and twice the last frame period, in ps; none before there are two frames. -/
  prevRef : Option Int
  period : Option Int
  /-- Lateral position of the last frame in nm, if it was good and LAT has not used it yet (R390). -/
  y : Option Int
  /-- SPD samples since the last frame with a period (R392). -/
  age : Nat
  /-- Bits of stripe 1, latest first (R391); at most 64. -/
  bits : List Bool
  /-- Chainage under the reader in half ticks, and whether it falls; none before an accepted word (R391). -/
  chain : Option Nat
  reverse : Bool
  deriving DecidableEq, Repr

/-- A loop engine (R393 to R404). -/
structure Engine where
  /-- Running; 1 bit; reset 0 (R411). -/
  closed : Bool
  /-- Current set; 2 bits; reset 0. -/
  mode : Nat
  /-- A set that starts at the next sample (R401, R404). -/
  next : Option Nat
  /-- Integrator, previous e', biquad states (R394, R395); reset 0. -/
  integ : Int
  prevErr : Int
  states : List (Int × Int)
  /-- Set-point as slewed (stage 1), output of stage 11, and output applied after stage 12; reset 0. -/
  setPoint : Int
  limited : Int
  out : Int
  /-- Output of the PID at the last sample (R404). -/
  pid : Int
  /-- Stage 10 or 11 clipped the last output from above, from below (R395). -/
  clipHigh : Bool
  clipLow : Bool
  intHeld : Bool
  /-- Consecutive overruns (R397); reset 0. -/
  overruns : Nat
  /-- Consecutive samples for which the mode switch condition has held (R404); reset 0. -/
  modeRun : Nat
  /-- The eight points a capture can take (R412): r, measurement, e, PID output, output, injection, feed-forward, I. -/
  points : List Int
  deriving DecidableEq, Repr

/-- An injection that runs (R409). -/
structure Inject where
  engine : Nat
  point : Nat
  kind : Nat
  /-- Samples left, samples run, PRBS register. -/
  left : Nat
  run : Nat
  lfsr : Nat
  deriving DecidableEq, Repr

/-- A record of the capture buffer (R410). -/
structure CapRec where
  time : Nat
  index : Nat
  flags : Nat
  signals : List Int
  deriving DecidableEq, Repr

/-- The capture (R410). -/
structure Capture where
  armed : Bool
  done : Bool
  /-- Its trigger has come since the last sample (R412). -/
  trig : Bool
  /-- Records still to be taken once the trigger has come; none before it. -/
  left : Option Nat
  /-- Samples seen since arming. -/
  index : Nat
  recs : List CapRec
  deriving DecidableEq, Repr

/-- SM (15). -/
structure SmState where
  /-- By number 0 to 5; an unlisted engine is open with every state zero. -/
  engines : Tab Engine
  /-- Coefficient words written since they were loaded, by 256 × engine + 64 × set + word (R401). -/
  coef : Tab Word
  /-- SM_TRANSPORT.state: 0 braked, 1 hold, 2 moving, 3 stopping after a trip, 4 safe; reset 0. -/
  state : Nat
  /-- BRAKE_N asserted; 1 bit; reset true (R411). -/
  brake : Bool
  /-- Servo readers retired (R22); NV. -/
  readersRetired : List Nat
  readers : Tab Reader
  /-- Readers that contributed to the last LAT sample (SM_RDR_STATE.valid), and the last PES in nm (SM_PES). -/
  valid : List Nat
  pes : Int
  /-- Consecutive missing LAT samples (R406); reset 0. -/
  missing : Nat
  /-- Chainage in half ticks (SM_CHAIN), direction, and measured speed in mm/s (SM_SPEED); reset 0. -/
  chain : Nat
  reverse : Bool
  speed : Nat
  /-- Wrap and band the head is planned to; none before the first MOUNT (R388, R405). -/
  wrap : Option Nat
  band : Option Nat
  /-- What drives the reels: 0 PWM off, 1 their loops, 2 short braking (R408); reset 0. -/
  reels : Nat
  /-- Data band of the last accepted servo word (R391, R405). -/
  bandSeen : Option Nat
  /-- SPD's target last commanded, for R404. -/
  target : Int
  /-- Engine of the trip in progress, and the step of R408 it stands at (1 stopping, 2 held). -/
  tripEngine : Nat
  tripStep : Nat
  inject : Option Inject
  cap : Capture
  deriving DecidableEq, Repr

/-- A FORMAT or SANITIZE session (R423 to R429). -/
structure Session where
  /-- 1 FORMAT, 2 overwrite, 3 crypto. -/
  kind : Nat
  phase : Nat
  done : Nat
  total : Nat
  elapsed : Nat
  tenants : List Nat
  /-- The host's 64-byte label. -/
  label : Bytes
  /-- Sequence of the last progress record, and the copy in cartridge memory that is written next: 0 A, 1 B (R427). -/
  seq : Nat
  copy : Nat
  /-- 1 running, 2 waiting for MOUNT, 3 failed (R429). -/
  state : Nat
  /-- Function that started it, and the command, while it is in flight. -/
  fn : Option Nat
  cmd : Option Nat
  serial : Nat
  /-- Numbering base of the new format (R424). -/
  base : Nat
  /-- The label block's wrap count and tape length the session writes (R287, R423). -/
  endTick : Nat
  deriving DecidableEq, Repr

/-- What the RFX knows of the mounted cartridge (R287, R414). -/
structure Cartridge where
  serial : Nat
  mediaType : Nat
  tapeLen : Nat
  /-- E_L, wrap count, zone and step table version, host label, numbering base (R287). -/
  endTick : Nat
  wraps : Nat
  table : Nat
  hostLabel : Bytes
  base : Nat
  /-- Calibration hints by band; none where not valid (R414). -/
  hints : List (Option Nat)
  /-- Sequences of summary copies A and B and of root replicas A and B; 0 where a copy is not valid (R286, R415). -/
  sumA : Nat
  sumB : Nat
  rootA : Nat
  rootB : Nat
  /-- Sequence of the root record in force, and the state of the summary. -/
  rootSeq : Nat
  summaryOpen : Bool
  deriving DecidableEq, Repr

/-- CT (16). -/
structure CtState where
  /-- Debounced levels of the SENSE pins (R416), before polarity; 8 bits; reset 0xFF. -/
  pins : Nat
  /-- LOAD_GPIO[4:0] (R416); 5 bits; reset 0. -/
  gpio : Nat
  mounted : Bool
  readOnly : Bool
  threaded : Bool
  cmOk : Bool
  wp : Bool
  /-- The mounted cartridge is formatted (R114). -/
  formatted : Bool
  /-- The cartridge left during the mount (R417). -/
  removed : Bool
  /-- The mounted cartridge has been written in this mount (R171). -/
  written : Bool
  /-- The mount scan has run (R421, PE_SCAN_STATUS): none, or datasets scanned. -/
  scan : Option Nat
  /-- An UNMOUNT, or the unmounting part of a SHUTDOWN_PREP, is in progress (R419). -/
  leaving : Bool
  cart : Cartridge
  session : Option Session
  /-- Progress records in the NV store, by cartridge serial (R427); N; blank. -/
  nvProgress : Tab Bytes
  deriving DecidableEq, Repr

end Sys2Proof.Machine
end

