-- ==== Sys2Proof/Machine/PartsMs.lean ====
section
/-! DEFINITION. The state of MGMT: power, resets, personality, log, self-test (17 to 20). -/

namespace Sys2Proof.Machine

/-- An event-log entry (R492). -/
structure LogEntry where
  seq : Nat
  time : Nat
  code : Nat
  sev : Nat
  tenant : Nat
  unit : Nat
  value : Nat
  deriving DecidableEq, Repr

/-- A personality image as its header states it (R453). -/
structure Image where
  version : Nat
  sv : Nat
  floor : Nat
  schema : Nat
  length : Nat
  /-- Version of each table, by identifier (R38). -/
  tables : List (Nat × Nat)
  deriving DecidableEq, Repr

/-- The active-slot pointer (R459). -/
structure Pointer where
  seq : Nat
  /-- 0 A, 1 B. -/
  slot : Nat
  trial : Bool
  /-- Cold starts in trial; 2 bits. -/
  starts : Nat
  mark : Nat
  deriving DecidableEq, Repr

/-- An update session (R461 to R464). -/
structure UpdSession where
  /-- Tenant number of the function that opened it. -/
  holder : Nat
  /-- The staged image, once verified (R463). -/
  verified : Option Image
  deriving DecidableEq, Repr

/-- A loop-back in progress (R487). -/
structure LoopRun where
  cmd : Nat
  aux : Nat
  handle : Nat
  duration : Nat
  deriving DecidableEq, Repr

/-- The results of the last test run (R480). -/
structure TestResults where
  /-- 0 none, 1 shutdown, 2 memory-only at start, 3 SELF_TEST or slice. -/
  run : Nat
  fail : Bool
  start : Nat
  ms : Nat
  seq : Nat
  islands : List IslandResult
  deriving DecidableEq, Repr

/-- MS (17 to 20). -/
structure MsState where
  /-- The event ring, oldest first, at most 4,096 entries (R492); reset empty. -/
  log : List LogEntry
  /-- Next sequence number and the reserved bound in the NV summary (R492); N; 0 and 0 from a blank store. -/
  seq : Nat
  seqBound : Nat
  /-- The NV summary: entries, highest sequence issued, lost count (R495); N; blank. -/
  nvSummary : List LogEntry
  nvSeq : Nat
  nvLost : Nat
  /-- Version of the personality image that runs (R457). -/
  version : Nat
  /-- Nanoseconds of the time base (MS_TIME); 64 bits; reset 0. -/
  time : Nat
  /-- 0 without power, 1 in reset or held in it (R457, R471), 2 running. -/
  phase : Nat
  /-- VDD_IO is up: the I/O ring holds the reset levels (R447, R451). -/
  ioUp : Bool
  /-- After the shutdown sequence: quiescent until POR or RESET_N (R449). -/
  quiescent : Bool
  /-- Power state A0 to A3 (R435); 2 bits; reset 0. -/
  power : Nat
  /-- An exit is in progress (MS_PWR_STATE.moving); 1 bit; reset 0. -/
  moving : Bool
  /-- Last wake (MS_PWR_STATE.cause); 4 bits; reset 0. -/
  cause : Nat
  /-- MS_TIME at the end of the entry to the present power state, for the residency counters (R452). -/
  since : Nat
  /-- Writes held in the wake buffer, in arrival order (R440); reset empty. -/
  wakeBuf : List HeldWrite
  /-- Slots A and B (R458). -/
  slotA : Option Image
  slotB : Option Image
  /-- Staging slot: written 4 KiB pages by page number (R462). -/
  pages : Tab Bytes
  pointer : Pointer
  /-- Anti-rollback fuses blown (R456); 0 to 64. -/
  fused : Nat
  upd : Option UpdSession
  /-- MS_TIME at the session's last command (R464, R474). -/
  updTime : Nat
  /-- Last abandon and rollback reasons (R474); reset 0. -/
  lastAbandon : Nat
  lastRollback : Nat
  /-- A rollback whose chime waits for an owner (R470). -/
  rollbackDue : Option Nat
  /-- N registers under the old image's schema while an image is on trial (R466, R469); N. -/
  oldSettings : Option (Tab Word)
  /-- Bytes of the settings journal in use (R460); N. -/
  journal : Nat
  /-- Results of the last run (R480), and whether its critical flag stands (R479). -/
  test : TestResults
  critical : Bool
  /-- Soft repairs by unit, 65,536 × COUNT type + number; type 0 for what lies in no replicated unit (R481); N. -/
  soft : Tab Nat
  /-- Fuse repair records left (R481); 512 on a new part. -/
  fuseLeft : Nat
  /-- The clean-shutdown record (R450); N. -/
  clean : Bool
  /-- The shutdown self-test is due (R449, R476): 1 after PWR_WARN_N, 2 after SHUTDOWN_PREP. -/
  shutDue : Nat
  /-- The unit under slice test, COUNT type and number, and the one tested last (R483). -/
  slice : Option (Nat × Nat)
  sliceLast : Nat × Nat
  /-- Loop-backs that run or wait for their path, in resolution order (R488). -/
  loops : List LoopRun
  /-- SMB_ALERT_N is asserted (R505, R506); reset false. -/
  alert : Bool
  /-- Scan is unlocked (R498); reset false. -/
  unlocked : Bool
  /-- Hottest reading since MS_TEMP_MAX was read, in 1/16 °C (R521); 16 bits, signed; reset: none yet, -32,768. -/
  tempMax : Int
  deriving DecidableEq, Repr

end Sys2Proof.Machine
end

