-- ==== Sys2Proof/Machine/PartsTape.lean ====
section
/-! DEFINITION. The state of the tape side: datasets, groups and rewrites (10, 12), write channels (12), read
channels, lanes and decoders (13), live calibration (14). -/

namespace Sys2Proof.Machine

/-- A frame of a dataset: number, tier, frame (R274, R329). -/
structure FrameRef where
  dataset : Nat
  tier : Nat
  frame : Nat
  deriving DecidableEq, Repr

/-- Trims of a slot for one module (R317, R382). -/
structure Trims where
  iw : Nat
  pre1 : Nat
  pre2 : Nat
  deriving DecidableEq, Repr

/-- Where a dataset lies and how (R269): what every preamble carries, and its header repeats. -/
structure Geometry where
  num : Nat
  /-- 0 data, 1 book, 2 parity, 3 label, 4 root replica, 5 void (R269). -/
  kind : Nat
  restart : Nat
  wrap : Nat
  chainage : Nat
  /-- Active slots ascending, and the step of each (R269). -/
  slots : List Nat
  steps : List Nat
  tiers : Nat
  leftover : Nat
  deriving DecidableEq, Repr

/-- A dataset from its forming until its bytes are released (R271 to R282). -/
structure Dataset where
  geo : Geometry
  /-- Extent index in the wrap (R261). -/
  ext : Nat
  /-- The rewrites at leftover positions 0 onward (R274). -/
  rewrites : List FrameRef
  /-- C3 group and position (R277). -/
  group : Nat
  position : Nat
  /-- Parity part, offset and length (R282). -/
  part : Nat
  parityOff : Nat
  parityLen : Nat
  /-- Member table of a parity dataset (R283): number, T, restart count. -/
  members : List (Nat × Nat × Nat)
  /-- Content of the parcel area of a parity dataset; parcels carry the rest. -/
  content : Bytes
  /-- EE has started it (R161); tiers encoded; its extent has been written. -/
  started : Bool
  encoded : List Nat
  written : Bool
  /-- Trims and dither sign of each track, fixed at forming (R318, R382). -/
  trims : List Trims
  signs : List Int
  /-- Slot and position of the frames of this attempt that were cut (R322), and of those graded. -/
  cut : List (Nat × Nat)
  graded : List (Nat × Nat)
  /-- Tier frames (256 × tier + frame) one copy of which graded good (R328). -/
  good : List Nat
  verified : Bool
  /-- Frames of this attempt that needed rewriting (R331). -/
  needed : Nat
  /-- A restart of it is decided (R331); it is abandoned (R332). -/
  failed : Bool
  abandoned : Bool
  deriving DecidableEq, Repr

/-- The dataset's number, slots, steps and tier count. -/
def Dataset.num (d : Dataset) : Nat := d.geo.num
def Dataset.slots (d : Dataset) : List Nat := d.geo.slots
def Dataset.steps (d : Dataset) : List Nat := d.geo.steps
def Dataset.tiers (d : Dataset) : Nat := d.geo.tiers

/-- An entry of the rewrite list (R329). -/
structure Rewrite where
  frame : FrameRef
  /-- Slots of every copy written so far. -/
  slots : List Nat
  attempts : Nat
  /-- Assigned to a leftover position of this dataset; none while it waits. -/
  into : Option Nat
  deriving DecidableEq, Repr

/-- A C3 group (R280 to R283). -/
structure Group where
  num : Nat
  /-- Member dataset number, T and restart count, by position. -/
  members : List (Nat × Nat × Nat)
  /-- Members clocked into the accumulation state so far, and that state, P0 and P1 (R305). -/
  clocked : Nat
  p0 : Bytes
  p1 : Bytes
  /-- No member joins any more: 30 members, or closed early (R280). -/
  closed : Bool
  /-- Bytes of P0 and P1 put into parity datasets so far (R282). -/
  done0 : Nat
  done1 : Nat
  /-- Parity datasets of it, and whether all are verified (R194). -/
  parity : List Nat
  /-- 0 as usual; 1 left open by an unclean end, its members to be read again; 2 closed anew, its parity datasets not yet
  verified (R307). -/
  repair : Nat
  deriving DecidableEq, Repr

/-- DF with EE (10 to 12). -/
structure DfState where
  datasets : List Dataset
  /-- Numbers of the formed datasets in the tape-side queue, oldest first (DF_QUEUE). -/
  queue : List Nat
  rewrites : List Rewrite
  /-- Highest length of the list since DF_RWL_MAX was read (R341). -/
  rwlMax : Nat
  groups : List Group
  /-- Number of the next C3 group (R280). -/
  nextGroup : Nat
  /-- Datasets to restart next, in the order of the decisions (R331). -/
  restartDue : List Nat
  /-- Extents to be written void next (R332). -/
  voidDue : Nat
  /-- A write run is in progress (R319). -/
  running : Bool
  /-- A backhitch is in progress (R338). -/
  backhitch : Bool
  /-- The speed set-point in units of 0.05 m/s (R335); reset 0. -/
  speed : Nat
  /-- Fill bytes written toward the next MiB of PE_FILL_BYTES. -/
  fillRest : Nat
  deriving DecidableEq, Repr

/-- Write side of the head (12). -/
structure WcState where
  /-- Groups whose WGATE is high (R319); reset: none. -/
  gates : List Nat
  /-- WMOD_SEL[1:0]; 2 bits; reset 0. -/
  wmod : Nat
  /-- Inhibit triggers that stand: 0 position error, 1 shock pin, 2 accelerometer, 3 WFAULT_N, 4 trip (R320). -/
  triggers : List Nat
  /-- Consecutive LAT samples inside the on-track window with every trigger clear (R321); reset 0. -/
  inWindow : Nat
  /-- An inhibit holds the gates of the run low (R320, R321); reset false. -/
  inhibited : Bool
  /-- WFAULT_N has persisted 50 ms and no MOUNT has followed (R323). -/
  wfault : Bool
  /-- Channels retired, by slot (R9, R22). -/
  retired : List Nat
  deriving DecidableEq, Repr

/-- One calibration record (R369). -/
structure CalRec where
  worst : Nat
  mean : Nat
  k : Nat
  probes : Nat
  probeFails : Nat
  sign : Int
  deriving DecidableEq, Repr

/-- The frames of one track in one dataset as graded so far (R369). -/
structure Tally where
  dataset : Nat
  restart : Nat
  slot : Nat
  /-- Frames that count, their worst margin, the sum of margins, those poor or failed. -/
  count : Nat
  worst : Nat
  sum : Nat
  k : Nat
  probes : Nat
  probeFails : Nat
  deriving DecidableEq, Repr

/-- A track slot's calibration state (14). -/
structure CalSlot where
  /-- Calibration step s; 3 bits. -/
  step : Nat
  /-- Trims for modules 0 and 2 (R368). -/
  trims0 : Trims
  trims2 : Trims
  /-- The latest records, oldest first, at most 16 (R370). -/
  window : List CalRec
  /-- Trim under test: 0 iw, 1 pre1, 2 pre2 (R382). -/
  trim : Nat
  /-- Sign of the dither of the next dataset formed: 1 or -1. -/
  dither : Int
  /-- The first dataset formed after the test of this trim began (R383): earlier ones belong to the test before. -/
  testFrom : Nat
  /-- Retired for the wrap (R378). -/
  retired : Bool
  /-- Benchmark result: trained, errors, E (R372). -/
  bench : Option BenchRead
  /-- Band and step at the end of its last active window of this mount (R373). -/
  last : Option (Nat × Nat)
  deriving DecidableEq, Repr

/-- VC (12, 14). -/
structure VcState where
  /-- By slot; an unlisted slot stands as after a reset of R386. -/
  slots : Tab CalSlot
  tallies : List Tally
  /-- Median step per band in the current mount, for the hints of UNMOUNT (R385). -/
  hints : Tab Nat
  /-- Active tracks at each step in the last dataset formed (VC_STEP_MIX). -/
  mix : List Nat
  deriving DecidableEq, Repr

/-- A read channel (13): the state the rules speak of. -/
structure RcChan where
  locked : Bool
  /-- Step in use. -/
  step : Nat
  /-- Active in the current wrap or read. -/
  active : Bool
  deriving DecidableEq, Repr

/-- RC (13). -/
structure RcState where
  /-- By slot; unlisted: without lock, step 0, not active. -/
  chans : Tab RcChan
  /-- Geometries learned from preambles, the latest last (R269, R350). -/
  geos : List Geometry
  /-- Loops that have adapted (R346, R348): 8 × slot + loop, with the count of the latest adaptation. -/
  adapted : Tab Nat
  /-- Fields of them written since (R347): 64 × slot + field. -/
  written : List Nat
  /-- Adaptations so far: the model's own, which picks the free values. -/
  adapts : Nat
  deriving DecidableEq, Repr

/-- A frame as C1 left it (R354). -/
structure FrameGot where
  place : FramePos
  /-- The information field of a decoded frame; none for a failed, marked or dropped one. -/
  info : Option Bytes
  iters : Nat
  corrected : Nat
  missed : Nat
  mse : Nat
  deriving DecidableEq, Repr

/-- A tier as the read path holds it: its bytes, or none where C2 failed it (R363). -/
structure TierData where
  dataset : Nat
  tier : Nat
  bytes : Option Bytes
  deriving DecidableEq, Repr

/-- ED (13). -/
structure EdState where
  /-- Lanes retired (R22). -/
  retired : List Nat
  /-- Frames held, read and verified. -/
  frames : List FrameGot
  verify : List FrameGot
  tiers : List TierData
  /-- I of each slot's last 1,024 decoded frames (ED_SLOT_ITER, R348). -/
  iters : Tab (List Nat)
  deriving DecidableEq, Repr

end Sys2Proof.Machine
end

