-- ==== Sys2Proof/Machine/State.lean ====
section
/-! DEFINITION. The whole state of the part, the reasons a step can stop, and the state after reset. -/

namespace Sys2Proof.Machine

/-- Why the machine stops with a fault. [DESIGN CHOICE, log entry 68] -/
inductive Fault where
  /-- Raised by PARCEL_SEAL when the 64-bit count of all-zero-key parcels would wrap (R249 says it never does within a
  power-on). Safe: the model stops where the spec gives no next value. -/
  | zeroKeyCountSpent
  deriving DecidableEq, Repr

/-- Why the model gives a command no meaning. -/
inductive Refusal where
  /-- Raised by the dispatch for a command that has no meaning yet. Safe: the model stops. -/
  | notModelled (mnemonic : String)
  deriving DecidableEq, Repr

/-- What the part sends out (model's own record, in order: nothing in the machine reads it). -/
inductive Out where
  /-- A DMA write to host memory under a function's requester ID (R55). -/
  | dma (fn addr : Nat) (data : Bytes)
  /-- An MSI-X message of a function's vector (R61, R91). -/
  | msix (fn vector : Nat)
  /-- The value a register read returns. -/
  | value (src : Port) (v : Nat)
  /-- A track preamble of a dataset, as WC writes it (R266, R268): number, restart count, slot. -/
  | preamble (num restart slot : Nat) (bits : List Bool)
  /-- A frame as EE hands it to the write channel (R267, R300). -/
  | frame (place : FramePos) (bits : List Bool)
  /-- An extent written void (R275): wrap and chainage. -/
  | void (wrap chainage : Nat)
  /-- A dataset of the datum region in every band (R263): 3 label, 4 replica A, 5 replica B; its parcel area's start. -/
  | datum (kind : Nat) (area : Bytes)
  /-- The benchmark of a wrap (R262). -/
  | benchmark (wrap : Nat)
  /-- A write to cartridge memory (R413). -/
  | cm (addr : Nat) (data : Bytes)
  /-- Every extent of a wrap written void with the tail pattern on every slot (R425). -/
  | voidWrap (wrap : Nat)
  /-- The reply to an SMBus transaction (R505). -/
  | smbus (ack : Bool) (v : Nat)
  deriving DecidableEq, Repr

/-- The state of the part. -/
structure State where
  board : Board
  /-- Registers written since their class was cleared; every other register reads its reset value. -/
  regs : Tab Word
  /-- Read latches and pending write words of 64-bit registers, by port and register (R45). -/
  latch : Tab Word
  pendWord : Tab Word
  hi : HiState
  klt : KltState
  qe : QeState
  pe : PeState
  bm : BmState
  mc : McState
  cx : CxState
  ce : CeState
  df : DfState
  wc : WcState
  rc : RcState
  ed : EdState
  vc : VcState
  sm : SmState
  ct : CtState
  ms : MsState
  /-- Model's own: what has been sent out. -/
  out : List Out
  /-- Model's own: the count of free values drawn. -/
  fresh : Nat
  /-- The queue of commands that wait, first in first out. -/
  pending : List Instr
  deriving DecidableEq, Repr

/-! ### The state after reset: power-on with the model's board (R442, R446, R447; DESIGN CHOICE and other marks in log entries 4
to 9) -/

/-- The board of the model (log entry 4). [DESIGN CHOICE, log entry 4] -/
def board0 : Board :=
  { partSel := 0, ownerSel := 0, lite := false, density := [3, 3, 3, 3, 3, 3, 3, 3], mts := 8533, okA := true, okB := true
    flashMib := 32, flashMhz := 200, flashMode := 2, trngOk := true }

/-- HI after the start: the owner of R62, partition 0's link in training (R448). [DESIGN CHOICE, log entry 4] -/
def hi0 : HiState :=
  { numVfs := [], links := [(0, { state := 1, rate := 0, width := 0, flit := false, clk := true })], perst := []
    owner := some 0, ownerNext := none, fns := [] }

/-- The first rebuild runs (R28, R41). [DEDUCED, log entry 8] -/
def klt0 : KltState := { shown := 0, gen := 0, running := [⟨.all, true⟩], waiting := [], views := [] }

def qe0 : QeState :=
  { sqs := [], cqs := [], cmds := [], nextId := 0, stamp := 0, resolved := 0, ready := [], roundStart := 0, serving := none
    turns := [], window := true, leaving := false, devrstDue := false }

def pe0 : PeState :=
  { streams := [], parcels := [], books := [], creations := [], deadMarks := [], legCount := 0, legFirst := 0
    bookDue := false, legPages := [], frontier := none, nextDataset := 0, base := 0, health := [], wrapNow := none
    caused := [], active := [], idle := [], ewPosted := false, creditClosed := false, refused := false, lastStream := none
    deficits := [], reads := [], target := none, writeStopped := false, decoded := [], carry := [], age := 0 }

def bm0 : BmState := { bufs := [], waits := [], overdraft := 0, watch := 0, poolLow := [] }

/-- A channel pair in the interleave. -/
def pair0 : McPair := { active := true, pendingRetire := false, retired := false, ueSeen := [] }

def mc0 : McState := { pairs := [(0, pair0), (1, pair0), (2, pair0), (3, pair0)], mts := 8533 }

/-- CE with a blank epoch counter, every key zeroised and the TRNG healthy (R235, R243, R254 to R256). [DESIGN CHOICE, log entry 6] -/
def ce0 : CeState :=
  { slots := [], keks := [], epoch := 1, epochBound := 1, retired := [], nextCore := 0, rest := [], zeroCount := 0
    healthy := true, retesting := false, retests := 0, failed := false, drbgUses := 0, seeds := 1, opened := []
    identity := true }

def df0 : DfState :=
  { datasets := [], queue := [], rewrites := [], rwlMax := 0, groups := [], nextGroup := 0, restartDue := [], voidDue := 0
    running := false, backhitch := false, speed := 0, fillRest := 0 }

def wc0 : WcState :=
  { gates := [], wmod := 0, triggers := [], inWindow := 0, inhibited := false, wfault := false, retired := [] }

/-- SM braked, every engine open (R411, R444). -/
def sm0 : SmState :=
  { engines := [], coef := [], state := 0, brake := true, readersRetired := [], readers := [], valid := [], pes := 0
    missing := 0, chain := 0, reverse := false, speed := 0, wrap := none, band := none, reels := 0, bandSeen := none
    target := 0, tripEngine := 0, tripStep := 0, inject := none
    cap := { armed := false, done := false, trig := false, left := none, index := 0, recs := [] } }

/-- No cartridge in the drive (log entry 4). [DESIGN CHOICE, log entry 4] -/
def ct0 : CtState :=
  { pins := 0xFF, gpio := 0, mounted := false, readOnly := false, threaded := false, cmOk := false, wp := false
    formatted := false, removed := false, written := false, scan := none, leaving := false
    cart := { serial := 0, mediaType := 0, tapeLen := 0, endTick := 0, wraps := 0, table := 0, hostLabel := [], base := 0
              hints := [], sumA := 0, sumB := 0, rootA := 0, rootB := 0, rootSeq := 0, summaryOpen := false }
    session := none, nvProgress := [] }

/-- The personality image as shipped: version 1.0, security version 0 (log entry 5). [DESIGN CHOICE, log entry 5] -/
def image0 : Image :=
  { version := 0x10000, sv := 0, floor := 0, schema := 1, length := 8388608
    tables := [(1, 0x10000), (2, 0x10000), (3, 0x10000), (4, 0x10000), (5, 0x10000), (6, 0x10000), (7, 0x10000)] }

/-- MS running in A0 with a blank NV store and a clean shutdown behind it (log entry 6). [DESIGN CHOICE, log entry 5; DESIGN CHOICE, log entry 6] -/
def ms0 : MsState :=
  { log := [], seq := 0, seqBound := 0, nvSummary := [], nvSeq := 0, nvLost := 0, version := 0x10000, time := 0, phase := 2
    ioUp := true, quiescent := false, power := 0, moving := false, cause := 0, since := 0, wakeBuf := []
    slotA := some image0, slotB := none, pages := [], pointer := ⟨0, 0, false, 0, 0⟩, fused := 0, upd := none, updTime := 0
    lastAbandon := 0, lastRollback := 0, rollbackDue := none, oldSettings := none, journal := 0
    test := { run := 0, fail := false, start := 0, ms := 0, seq := 0, islands := [] }, critical := false, soft := []
    fuseLeft := 512, clean := false, shutDue := 0, slice := none, sliceLast := (0, 0), loops := [], alert := false
    unlocked := false, tempMax := -32768 }

/-- The machine right after reset: every register at its reset value, nothing sent, no command waiting. [DESIGN CHOICE, log entry 7; DEDUCED, log entry 8] -/
def State.reset : State :=
  { board := board0, regs := [], latch := [], pendWord := [], hi := hi0, klt := klt0, qe := qe0, pe := pe0, bm := bm0
    mc := mc0, cx := { engines := [], images := [], outs := [] }, ce := ce0, df := df0, wc := wc0
    rc := { chans := [], geos := [], adapted := [], written := [], adapts := 0 }, ed := { retired := [], frames := [], verify := [], tiers := [], iters := [] }
    vc := { slots := [], tallies := [], hints := [], mix := [] }, sm := sm0, ct := ct0, ms := ms0, out := [], fresh := 1
    pending := [] }

end Sys2Proof.Machine
end

