-- ==== Sys2Proof/Machine/Tab.lean ====
section
/-! DEFINITION. Sparse tables, byte strings and CRC-32C: what every chapter's operations are written with. -/

namespace Sys2Proof

/-- The entry of a key, if one is listed. -/
def Tab.find {α : Type} : Tab α → Nat → Option α
  | [], _ => none
  | (k, v) :: t, q => if k = q then some v else Tab.find t q

/-- The entry of a key, or the default. -/
def Tab.get {α : Type} (t : Tab α) (d : α) (q : Nat) : α := (t.find q).getD d

/-- Lists a key with a value, in key order, replacing what was listed. -/
def Tab.set {α : Type} : Tab α → Nat → α → Tab α
  | [], q, v => [(q, v)]
  | (k, w) :: t, q, v =>
    if q < k then (q, v) :: (k, w) :: t
    else if q = k then (q, v) :: t
    else (k, w) :: Tab.set t q v

/-- Unlists a key. -/
def Tab.del {α : Type} : Tab α → Nat → Tab α
  | [], _ => []
  | (k, w) :: t, q => if k = q then Tab.del t q else (k, w) :: Tab.del t q

/-- Writes a value, unlisting the key where the value is what an unlisted key reads as. -/
def Tab.put {α : Type} [DecidableEq α] (t : Tab α) (d : α) (q : Nat) (v : α) : Tab α :=
  if v = d then t.del q else t.set q v

/-- Changes the entry of a key. -/
def Tab.upd {α : Type} (t : Tab α) (d : α) (q : Nat) (f : α → α) : Tab α := t.set q (f (t.get d q))

/-- The keys. -/
def Tab.keys {α : Type} (t : Tab α) : List Nat := t.map (·.1)

/-- The values. -/
def Tab.vals {α : Type} (t : Tab α) : List α := t.map (·.2)

/-- Changes every entry. -/
def Tab.each {α : Type} (t : Tab α) (f : Nat → α → α) : Tab α := t.map fun e => (e.1, f e.1 e.2)

/-- Keeps the entries whose key and value satisfy a test. -/
def Tab.keep {α : Type} (t : Tab α) (f : Nat → α → Bool) : Tab α := t.filter fun e => f e.1 e.2

/-- The canonical form: keys strictly rising. -/
def Tab.sorted {α : Type} : Tab α → Bool
  | [] => true
  | [_] => true
  | (a, _) :: (b, w) :: t => decide (a < b) && Tab.sorted ((b, w) :: t)

/-- The canonical form of a table whose unlisted keys read as `d`. -/
def Tab.wf {α : Type} [DecidableEq α] (t : Tab α) (d : α) : Bool := t.sorted && t.all fun e => decide (e.2 ≠ d)

namespace Machine

/-- `n` bytes of a number, least significant first (R6). -/
def bytesLE : Nat → Nat → Bytes
  | 0, _ => []
  | n + 1, v => BitVec.ofNat 8 v :: bytesLE n (v / 256)

/-- `n` bytes of a number, most significant first (R6, chapter 10). -/
def bytesBE (n v : Nat) : Bytes := (bytesLE n v).reverse

/-- The number that bytes spell, least significant first. -/
def natLE : Bytes → Nat
  | [] => 0
  | b :: t => b.toNat + 256 * natLE t

/-- The number that bytes spell, most significant first. -/
def natBE (b : Bytes) : Nat := natLE b.reverse

/-- `n` zero bytes. -/
def zeros (n : Nat) : Bytes := List.replicate n 0

/-- A byte string cut or filled with zeros to length `n`. -/
def fit (n : Nat) (b : Bytes) : Bytes := (b ++ zeros (n - b.length)).take n

/-- Bits `hi` down to `lo` of a number. -/
def bitsOf (v hi lo : Nat) : Nat := v / 2 ^ lo % 2 ^ (hi + 1 - lo)

/-- One bit of a number. -/
def bitOf (v i : Nat) : Bool := v / 2 ^ i % 2 == 1

/-- 1 for true. -/
def natOf (b : Bool) : Nat := if b then 1 else 0

/-- Splices bytes into a byte string at an offset. -/
def splice (b : Bytes) (off : Nat) (v : Bytes) : Bytes := fit off b ++ v ++ b.drop (off + v.length)

/-- One bit step of the reflected CRC-32C register (R27: 0x1EDC_6F41 reflected is 0x82F6_3B78). -/
def crcBit (r : Nat) : Nat := if r % 2 = 1 then Nat.xor (r / 2) 0x82F63B78 else r / 2

/-- One byte of CRC-32C. -/
def crcByte (r : Nat) (b : Byte) : Nat :=
  crcBit (crcBit (crcBit (crcBit (crcBit (crcBit (crcBit (crcBit (Nat.xor r b.toNat))))))))

/-- The CRC-32C register after a byte string. The register is taken apart at each byte so that evaluation is strict. -/
def crcRun : Bytes → Nat → Nat
  | [], r => r
  | b :: l, 0 => crcRun l (crcByte 0 b)
  | b :: l, r + 1 => crcRun l (crcByte (r + 1) b)

/-- CRC-32C of a byte string: initial value and final XOR of all ones (R27). [PRESUMED, log entry 70] -/
def crc32c (b : Bytes) : Word := BitVec.ofNat 32 (Nat.xor (crcRun b 0xFFFFFFFF) 0xFFFFFFFF)

/-- The number a function has in this model: 256 × partition + index. [DESIGN CHOICE, log entry 21] -/
def fnOf (part index : Nat) : Fn := part * 256 + index

/-- A function's partition. -/
def partOf (f : Fn) : Nat := f / 256

/-- A function's index in its partition: 0 for the PF. -/
def idxOf (f : Fn) : Nat := f % 256

/-- Puts an item into a list that is ascending in a key, after its equals. -/
def insBy {α : Type} (key : α → Nat) (a : α) : List α → List α
  | [] => [a]
  | b :: t => if key a < key b then a :: b :: t else b :: insBy key a t

/-- A list in ascending order of a key; equals keep their order. -/
def sortBy {α : Type} (key : α → Nat) (l : List α) : List α := l.foldl (fun acc a => insBy key a acc) []

/-- Signed value of a field. -/
def signed (w v : Nat) : Int := if 2 ^ (w - 1) ≤ v % 2 ^ w then (v % 2 ^ w : Int) - 2 ^ w else v % 2 ^ w

/-- A number brought between two bounds. [DEDUCED, log entry 15] -/
def clamp (lo hi v : Nat) : Nat := max lo (min hi v)

end Machine

end Sys2Proof
end

