-- ==== Sys2Proof/Machine/Ops.lean ====
section
/-! DEFINITION. The named operations every chapter shares: registers, functions, the event log, chimes, completion
rings, rebuild triggers, free values. -/

namespace Sys2Proof.Machine

/-! ### Functions and partitions -/

/-- Number of partitions PART_SEL gives (R56). -/
def State.parts (s : State) : Nat := if s.board.partSel = 1 then 2 else if s.board.partSel = 2 then 4 else 1

/-- VFs enabled by a partition's PF. -/
def State.vfs (s : State) (p : Nat) : Nat := s.hi.numVfs.get 0 p

/-- Whether a function exists now: the PF of a partition, or an enabled VF (R58, R100). -/
def State.hasFn (s : State) (f : Fn) : Bool :=
  decide (partOf f < s.parts) && (idxOf f == 0 || decide (idxOf f ≤ s.vfs (partOf f)))

/-- Every function that exists, in ascending order of partition, PF first (R84). -/
def State.allFns (s : State) : List Fn :=
  (List.range s.parts).flatMap fun p => (List.range (s.vfs p + 1)).map (fnOf p)

/-- The owner is the PF of one partition (R62). -/
def State.isOwner (s : State) (f : Fn) : Bool := s.hi.owner == some (partOf f) && idxOf f == 0

/-- The owner function, if there is one. -/
def State.ownerFn (s : State) : Option Fn := s.hi.owner.map fun p => fnOf p 0

/-- What the RFX keeps for a function that nothing has touched since its F registers were cleared. [DESIGN CHOICE, log entry 7] -/
def fnCtx0 : FnCtx :=
  { msix := false, masked := [], pba := [], chimes := [], lost := 0, deficit := 0, lastRing := 0, d3cold := false }

/-- A function's context. -/
def State.fctx (s : State) (f : Fn) : FnCtx := s.hi.fns.get fnCtx0 f

/-- Changes a function's context. -/
def State.modFctx (s : State) (f : Fn) (g : FnCtx → FnCtx) : State :=
  { s with hi := { s.hi with fns := s.hi.fns.upd fnCtx0 f g } }

/-! ### Registers -/

/-- The key of a register in the store. [DESIGN CHOICE, log entry 21] -/
def regKey (r : RegName) (inst sel : Nat) : Nat := Nat.pair r.ctorIdx (Nat.pair inst sel)

/-- The register and the instance that a key of the store names. [DESIGN CHOICE, log entry 21] -/
def keyName (k : Nat) : RegName := RegName.ofNat k.unpair.1
def keyInst (k : Nat) : Nat := k.unpair.2.unpair.1
def keySel (k : Nat) : Nat := k.unpair.2.unpair.2

/-- TotalVFs of each PF at power-on (R58). -/
def quota0 (parts : Nat) : Nat := if parts = 1 then 252 else if parts = 2 then 126 else 62

/-- Blank-store tenant number of a function (R59): PFs 1 to P, then the VFs by partition and VF; 0 for none. -/
def tenant0 (parts part index : Nat) : Nat :=
  if parts ≤ part then 0
  else if index = 0 then part + 1
  else if index ≤ quota0 parts then parts + part * quota0 parts + index
  else 0

/-- Default watermarks of a watch point, high in [15:8] and low in [7:0] (R196). -/
def watch0 (w : Nat) : Nat :=
  if w ≤ 4 then 224 * 256 + 192
  else if w = 5 then 192 * 256 + 64
  else if w = 8 then 240 * 256 + 208
  else if w = 6 ∨ w = 7 ∨ w = 9 then 224 * 256 + 160
  else 0

/-- Channel defaults of the image as shipped for a detector tap (R524). [DESIGN CHOICE, log entry 9] -/
def tap0 (t : Nat) : Nat := if t = 7 ∨ t = 9 then 0x3E0 else if t = 8 then 256 else 0

/-- The reset value of a register (R50): the number its table gives, or what the rule the table names gives. [DESIGN CHOICE, log entry 9] -/
def regDefault (parts : Nat) (r : RegName) (inst sel : Nat) : Nat :=
  match r with
  | .hiFnTenant => tenant0 parts inst sel
  | .hiFnSqBase => if sel = 0 then inst * (262144 / parts) else 0
  | .hiFnSqCount => if sel = 0 then 262144 / parts else 0
  | .hiFnCqBase => if sel = 0 then inst * (65536 / parts) else 0
  | .hiFnCqCount => if sel = 0 then 65536 / parts else 0
  | .hiFnVecBase => if sel = 0 then inst * (4096 / parts) else 0
  | .hiFnVecCount => if sel = 0 then 4096 / parts else 0
  | .hiFnStreamQuota => if sel = 0 then 65536 / parts else 0
  | .hiFnKeyBase => if sel = 0 then inst * (4096 / parts) else 0
  | .hiFnKeyCount => if sel = 0 then 4096 / parts else 0
  | .hiVfQuota => quota0 parts
  | .bmWmCfg => watch0 sel
  | .wcIwBase => 112
  | .wcChTrim => 3 * 65536 + 8 * 256 + 32
  | .rcChAfe => 72
  | .rcTap => tap0 (sel % 64)
  | .vcStart => 0x14
  | .smLoopRate => if sel = 3 ∨ sel = 4 then 50000 else if sel = 0 then 0 else 20000
  | .smTension => 800
  | r => r.info.reset

/-- A register's value as stored. -/
def State.reg (s : State) (r : RegName) (inst sel : Nat) : Nat :=
  match s.regs.find (regKey r inst sel) with
  | some v => v.toNat
  | none => regDefault s.parts r inst sel

/-- Stores a register. -/
def State.setReg (s : State) (r : RegName) (inst sel v : Nat) : State :=
  { s with regs := s.regs.set (regKey r inst sel) (BitVec.ofNat 32 v) }

/-- A field of a register. -/
def State.fld (s : State) (r : RegName) (inst sel hi lo : Nat) : Nat := bitsOf (s.reg r inst sel) hi lo

/-- Sets a field of a register. -/
def State.setFld (s : State) (r : RegName) (inst sel hi lo v : Nat) : State :=
  let w := s.reg r inst sel
  let m := 2 ^ (hi + 1 - lo)
  s.setReg r inst sel (w - bitsOf w hi lo * 2 ^ lo + v % m * 2 ^ lo)

/-- Adds to a 32-bit counter that saturates (R46 RC, R497). -/
def State.bumpBy (s : State) (r : RegName) (inst sel n : Nat) : State :=
  s.setReg r inst sel (min (s.reg r inst sel + n) 0xFFFFFFFF)

/-- Adds one to a saturating counter. -/
def State.bump (s : State) (r : RegName) (inst sel : Nat) : State := s.bumpBy r inst sel 1

/-- Clears the registers a reset covers: those whose name and instance the test selects (R49). -/
def State.clearRegs (s : State) (f : RegName → Nat → Bool) : State :=
  { s with
    regs := s.regs.keep fun k _ => !f (keyName k) (keyInst k)
    latch := s.latch.keep fun k _ => !f (keyName k) (keyInst k)
    pendWord := s.pendWord.keep fun k _ => !f (keyName k) (keyInst k) }

/-! ### Adaptation state of the read channels (R346 to R348, R351) -/

/-- A field that an adaptation loop moves: its number, low bit, values and loop (0 gain, 1 offset, 2 asymmetry, 3 equaliser,
4 cancellation, the bits of RC_CH_FREEZE). -/
structure LoopField where
  num : Nat
  low : Nat
  size : Nat
  loop : Nat

/-- The adapted fields of a register, by the tap. -/
def loopFields (r : RegName) (tap : Nat) : List LoopField :=
  match r with
  | .rcChAfe => [⟨0, 0, 145, 0⟩, ⟨1, 8, 256, 1⟩]
  | .rcChLoops => [⟨2, 0, 4096, 0⟩, ⟨3, 12, 1024, 1⟩, ⟨4, 22, 256, 2⟩]
  | .rcTap => if tap = 8 then [] else [⟨5 + tap, 0, 1024, if tap < 17 then 3 else 4⟩]
  | _ => []

/-- The slot that a place of a channel register stands for. -/
def loopSlot (r : RegName) (inst sel : Nat) : Nat := 17 * inst + if r = .rcTap then sel / 64 else sel

/-- A channel register as its loops stand: free values where a loop has adapted and nothing was written since, the stored
value elsewhere. [DESIGN CHOICE, log entry 77] -/
def State.loopReg (s : State) (r : RegName) (inst sel : Nat) : Nat :=
  let n := loopSlot r inst sel
  (loopFields r (sel % 64)).foldl (fun w f =>
    match s.rc.adapted.find (8 * n + f.loop) with
    | some k =>
      if s.rc.written.contains (64 * n + f.num) then w
      else w - w / 2 ^ f.low % 2 ^ ((f.size - 1).log2 + 1) * 2 ^ f.low + Config.adapted (64 * n + f.num) k % f.size * 2 ^ f.low
    | none => w) (s.reg r inst sel)

/-- The loop that moves a field. -/
def fieldLoop (i : Nat) : Nat := if i = 0 ∨ i = 2 then 0 else if i = 1 ∨ i = 3 then 1 else if i = 4 then 2 else if i < 22 then 3 else 4

/-- The loops of a channel that no freeze bit holds adapt on what it reads (R346, R347). [DESIGN CHOICE, log entry 77] -/
def State.adapt (s : State) (n : Nat) : State :=
  if 136 ≤ n then s
  else
    let ls := (List.range 5).filter fun l => !bitOf (s.reg .rcChFreeze (n / 17) (n % 17)) l
    { s with rc := { s.rc with
      adapted := ls.foldl (fun t l => t.set (8 * n + l) s.rc.adapts) s.rc.adapted
      written := s.rc.written.filter fun k => !(k / 64 == n && ls.contains (fieldLoop (k % 64)))
      adapts := s.rc.adapts + 1 } }

/-- A channel register's fields stand as written until their loops adapt again (R347). -/
def State.keepLoops (s : State) (r : RegName) (inst sel : Nat) : State :=
  { s with rc := { s.rc with
    written := (loopFields r (sel % 64)).map (fun f => 64 * loopSlot r inst sel + f.num) ++ s.rc.written } }

/-- Every cancellation kernel restarts from the channel defaults (R351). -/
def State.restartKernels (s : State) : State :=
  { s with
    regs := s.regs.keep fun k _ => !(keyName k == .rcTap && decide (17 ≤ keySel k % 64))
    rc := { s.rc with
      adapted := s.rc.adapted.keep fun k _ => k % 8 != 4
      written := s.rc.written.filter fun k => k % 64 < 22 } }

/-- Whether a register belongs to a function's page. -/
def regOfPage (r : RegName) : Bool :=
  match r.info.blk with
  | .qePage | .peal | .task => true
  | _ => false

/-! ### Allocation of a function (R65 to R69) -/

def State.alloc (s : State) (r : RegName) (f : Fn) : Nat := s.reg r (partOf f) (idxOf f)

/-- A function's tenant number (R59). -/
def State.tenant (s : State) (f : Fn) : Nat := s.alloc .hiFnTenant f % 256

def State.sqCount (s : State) (f : Fn) : Nat := s.alloc .hiFnSqCount f
def State.cqCount (s : State) (f : Fn) : Nat := s.alloc .hiFnCqCount f
def State.vecCount (s : State) (f : Fn) : Nat := s.alloc .hiFnVecCount f
def State.keyCount (s : State) (f : Fn) : Nat := s.alloc .hiFnKeyCount f
def State.keyBase (s : State) (f : Fn) : Nat := s.alloc .hiFnKeyBase f

/-- The function's share of placement and fetch; 0 is read as 1 (R67). -/
def State.weight (s : State) (f : Fn) : Nat := max 1 (s.alloc .hiFnWeight f % 256)

/-- HI_FN_BUF_MAX in bytes; the value 0x1_FFFF is no cap (R67). -/
def State.bufMax (s : State) (f : Fn) : Option Nat :=
  let v := s.alloc .hiFnBufMax f
  if v = 0x1FFFF then none else some (v * 1048576)

/-! ### Free values, and what is sent out -/

/-- Marks that a free value has been drawn: the next one is another. [DESIGN CHOICE, log entry 10] -/
def State.draw (s : State) : State := { s with fresh := s.fresh + 1 }

/-- Appends to what the part sends out. [DESIGN CHOICE, log entry 65] -/
def State.emit (s : State) (o : Out) : State := { s with out := s.out ++ [o] }

/-! ### The event log (R492, R493) -/

/-- A block type code of R32. -/
def blkCode : Blk → Nat
  | .hi => 1 | .qe => 2 | .pe => 3 | .bm => 4 | .mc => 5 | .cx => 6 | .ce => 7 | .df => 8 | .ee => 9
  | .wc => 10 | .rc => 11 | .ed => 12 | .sm => 13 | .vc => 14 | .ct => 15 | .ms => 16
  | .klt => 0 | .qePage => 2 | .peal => 2 | .task => 2 | .msix => 1 | .bells => 2

/-- The events of R493. -/
inductive Ev where
  | strapBad | allocReject | ctxUe | deferredLost | badFree | mismatch | mcUe | guard | keyMissing | keyUe | trngFail
  | abandon | rootFail | restart | encFault | wfault | rateReject | openReject | roughHandover | trip | step
  | slotRetired | cmFail | wpChange | removed | narrowWrite | rwlReject | pwrWarn | xsFail | rollback | unitRetired
  | xingDbe | bistFail | sliceFail | unitReturned | scanUnlock
  deriving DecidableEq, Repr

/-- Code and severity of an event: block type in [15:8], position in the list in [7:0] (R492, R493). -/
def Ev.code : Ev → Nat × Nat
  | .strapBad => (0x101, 2) | .allocReject => (0x102, 1) | .ctxUe => (0x201, 2) | .deferredLost => (0x301, 2)
  | .badFree => (0x401, 2) | .mismatch => (0x501, 1) | .mcUe => (0x502, 2) | .guard => (0x601, 2)
  | .keyMissing => (0x701, 1) | .keyUe => (0x702, 2) | .trngFail => (0x703, 3)
  | .abandon => (0x801, 2) | .rootFail => (0x802, 2) | .restart => (0x803, 1) | .encFault => (0x901, 2)
  | .wfault => (0xA01, 2) | .rateReject => (0xD01, 1) | .openReject => (0xD02, 1) | .roughHandover => (0xD03, 1)
  | .trip => (0xD04, 2) | .step => (0xE01, 0) | .slotRetired => (0xE02, 1) | .cmFail => (0xF01, 2)
  | .wpChange => (0xF02, 1) | .removed => (0xF03, 2) | .narrowWrite => (0x1001, 1) | .rwlReject => (0x1002, 1)
  | .pwrWarn => (0x1003, 2) | .xsFail => (0x1004, 2) | .rollback => (0x1005, 2) | .unitRetired => (0x1006, 2)
  | .xingDbe => (0x1007, 2) | .bistFail => (0x1008, 3) | .sliceFail => (0x1009, 2) | .unitReturned => (0x100A, 1)
  | .scanUnlock => (0x100B, 1)

/-- The entries the NV summary holds: the last 256 of severity 2 or above (R495). -/
def summaryOf (l : List LogEntry) : List LogEntry :=
  let k := l.filter fun e => decide (2 ≤ e.sev % 128)
  k.drop (k.length - 256)

/-- Writes the NV summary: its entries, the reserved bound, the highest sequence issued and the lost count (R495). -/
def State.saveSummary (s : State) : State :=
  { s with ms := { s.ms with nvSummary := summaryOf s.ms.log, nvSeq := s.ms.seq, nvLost := s.reg .msLogLost 0 0 } }

/-- Reserves the next block of 4,096 sequence numbers in the NV store (R492). -/
def State.reserveLog (s : State) : State :=
  if s.ms.seq < s.ms.seqBound then s
  else
    let s := { s with ms := { s.ms with seqBound := s.ms.seq + 4096 } }
    s.saveSummary

/-- Stores an entry, overwriting and counting the oldest when the ring is full (R492). [DEDUCED, log entry 18] -/
def State.storeLog (s : State) (e : LogEntry) : State :=
  let full := decide (4096 ≤ s.ms.log.length)
  let s := { s with ms := { s.ms with log := (if full then s.ms.log.drop 1 else s.ms.log) ++ [e] } }
  if full then s.bump .msLogLost 0 0 else s

/-- Logs an event (R492, R493): a sequence number is taken; the entry is stored unless its severity is below
MS_LOG_CFG.min_sev. [DESIGN CHOICE, log entry 17; DEDUCED, log entry 18] -/
def State.logEv (s : State) (ev : Ev) (tenant unit value : Nat) : State :=
  let s := s.reserveLog
  let seq := s.ms.seq
  let s := { s with ms := { s.ms with seq := seq + 1 } }
  if ev.code.2 < s.fld .msLogCfg 0 0 1 0 then s
  else s.storeLog ⟨seq, s.ms.time, ev.code.1, ev.code.2, tenant, unit, value⟩

/-- The sequence number the next event takes. -/
def State.nextSeq (s : State) : Nat := s.ms.seq

/-! ### N registers (R49, R460, R469) -/

/-- The image in the slot the pointer names, and the one in the other slot. -/
def State.activeImage (s : State) : Option Image := if s.ms.pointer.slot = 0 then s.ms.slotA else s.ms.slotB
def State.otherImage (s : State) : Option Image := if s.ms.pointer.slot = 0 then s.ms.slotB else s.ms.slotA

/-- Writes a register of class N: a delta record goes to the settings journal; during a trial the old image's settings
take the value too, where its schema knows the register. -/
def State.writeN (s : State) (r : RegName) (inst sel v : Nat) : State :=
  let known := (s.otherImage.map fun i => Config.schemaKnows i.schema r.ctorIdx).getD false
  let cell : Word := BitVec.ofNat 32 v
  let both := s.ms.pointer.trial && known
  let s := s.setReg r inst sel v
  { s with ms := { s.ms with
    journal := s.ms.journal + (if both then 24 else 12)
    oldSettings := if both then s.ms.oldSettings.map fun t => t.set (regKey r inst sel) cell else s.ms.oldSettings } }

/-! ### Rings -/

/-- The ring number the model gives the hidden ring of the task-register window (R103): above every local index. [DESIGN CHOICE, log entry 22] -/
def windowRing : Nat := 262144

/-- The ring number under which accepted commands run on whose function has been reset: their completions are not posted
(R70, R100). [DESIGN CHOICE, log entry 22] -/
def goneRing : Nat := 262145

/-- [DESIGN CHOICE, log entry 7] -/
def sqCtx0 : SqCtx :=
  { enabled := false, failed := false, resetting := false, disabling := false, head := 0, tail := 0, pubs := [],
    dropped := 0, completed := 0, highTag := 0, lastTag := none, echo := false,
    echoed := 0 }

/-- [DESIGN CHOICE, log entry 7] -/
def cqCtx0 : CqCtx :=
  { enabled := false, failed := false, tail := 0, phase := true, head := 0, since := 0, due := false, modCount := 0,
    modTime := 0 }

def State.sq (s : State) (f ring : Nat) : SqCtx := s.qe.sqs.get sqCtx0 (Nat.pair f ring)
def State.cq (s : State) (f ring : Nat) : CqCtx := s.qe.cqs.get cqCtx0 (Nat.pair f ring)

def State.setSq (s : State) (f ring : Nat) (c : SqCtx) : State :=
  { s with qe := { s.qe with sqs := s.qe.sqs.set (Nat.pair f ring) c } }

def State.setCq (s : State) (f ring : Nat) (c : CqCtx) : State :=
  { s with qe := { s.qe with cqs := s.qe.cqs.set (Nat.pair f ring) c } }

/-- Entries of a submission ring; the hidden ring has two slots (R75, R103). -/
def State.sqSize (s : State) (f ring : Nat) : Nat :=
  if ring = windowRing then 2 else s.fld .qeSqCfg f ring 31 16 + 1

/-- The completion ring a submission ring is bound to (R75). -/
def State.boundCq (s : State) (f ring : Nat) : Nat := s.fld .qeSqCfg f ring 15 0

def State.cqSize (s : State) (f c : Nat) : Nat := s.fld .qeCqCfg f c 31 16 + 1

/-- Base address of a completion ring in host memory (R75). -/
def State.cqBase (s : State) (f c : Nat) : Nat :=
  s.reg .qeCqAddrHi f c * 2 ^ 32 + s.reg .qeCqAddrLo f c

/-- A completion ring can take one more entry (R88). -/
def State.cqRoom (s : State) (f c : Nat) : Bool :=
  (s.cq f c).enabled && !(s.cq f c).failed && ((s.cq f c).tail + 1) % s.cqSize f c != (s.cq f c).head

/-! ### Interrupts and moderation (R91) -/

/-- Signals a completion ring's vector if a condition holds and the vector can be signalled. A masked vector sets its
Pending Bit. [PRESUMED, log entry 20] -/
def State.signal (s : State) (f c : Nat) : State :=
  let q := s.cq f c
  let v := s.fld .qeCqCfg f c 12 0
  if q.due && (s.fctx f).msix && decide (v < s.vecCount f) then
    let s := s.setCq f c { q with due := false, since := 0 }
    if (s.fctx f).masked.contains v then
      s.modFctx f fun x => { x with pba := if x.pba.contains v then x.pba else v :: x.pba }
    else s.emit (.msix f v)
  else s

/-- Counts an entry just posted toward the ring's moderation condition. [DEDUCED, log entry 23] -/
def State.moderate (s : State) (f c : Nat) : State :=
  if s.fld .qeCqCfg f c 13 13 = 0 then s
  else
    let q := s.cq f c
    let cnt := if q.since = 0 then s.fld .qeCqMod f c 7 0 else q.modCount
    let tim := if q.since = 0 then s.fld .qeCqMod f c 25 16 else q.modTime
    let s := s.setCq f c
      { q with since := q.since + 1, modCount := cnt, modTime := tim,
               due := q.due || decide (cnt ≤ q.since + 1) }
    s.signal f c

/-- Writes one 16-byte entry at a completion ring's tail with the current phase, and advances the tail (R88). The
last word carries everything but the phase. -/
def State.postEntry (s : State) (f c w0 w1 w2 w3 : Nat) : State :=
  let q := s.cq f c
  let w3 := w3 + natOf q.phase * 2 ^ 31
  let s := s.emit (.dma f (s.cqBase f c + 16 * q.tail) (bytesLE 4 w0 ++ bytesLE 4 w1 ++ bytesLE 4 w2 ++ bytesLE 4 w3))
  let last := decide (s.cqSize f c ≤ q.tail + 1)
  let s := s.setCq f c { q with tail := if last then 0 else q.tail + 1, phase := q.phase != last }
  s.moderate f c

/-! ### Chimes (R92 to R94) -/

/-- Class bit of a chime code (R93); CHIME_LOST has none. -/
def chimeClass (code : Nat) : Option Nat :=
  if code = 1 ∨ code = 2 then some 0
  else if code = 3 then some 1
  else if code = 4 then some 2
  else if code = 5 then some 3
  else if code = 6 then some 4
  else if code = 7 then none
  else if 0x100 ≤ code ∧ code ≤ 0x1FF then some 5
  else if 0x200 ≤ code ∧ code ≤ 0x2FF then some 6
  else some 7

/-- The function's event ring, if it has one (R94). -/
def State.eventRing (s : State) (f : Fn) : Option Nat :=
  let c := s.fld .qeEvtCfg f 0 15 0
  if decide (c < s.cqCount f) && (s.cq f c).enabled && !(s.cq f c).failed then some c else none

/-- Posts a chime entry to a ring (R92). -/
def State.postChime (s : State) (f c : Nat) (m : Chime) : State :=
  s.postEntry f c m.arg (m.code + 65536 * m.arg2) (m.seq % 2 ^ 32) (2 * 2 ^ 28)

/-- Counts a chime that is lost. -/
def State.loseChime (s : State) (f : Fn) : State :=
  (s.modFctx f fun x => { x with lost := x.lost + 1 }).bump .qeEvtLost f 0

/-- Lists a pending chime in code order, replacing one of the same code. -/
def insertChime (m : Chime) : List Chime → List Chime
  | [] => [m]
  | x :: t => if m.code < x.code then m :: x :: t else if m.code = x.code then m :: t else x :: insertChime m t

/-- A chime arises for a function (R92 to R94): lost while QE_EVT_CFG.enable is clear; not posted where its class bit
is clear; posted at once to an event ring with room and nothing waiting; otherwise kept pending. -/
def State.chime (s : State) (f : Fn) (code arg arg2 : Nat) (seq : Nat := 0) : State :=
  if !s.hasFn f then s
  else if ((chimeClass code).map fun b => bitOf (s.reg .qeEvtMask f 0) b) == some false then s
  else if s.fld .qeEvtCfg f 0 31 31 = 0 then s.loseChime f
  else
    let m : Chime := ⟨code, arg % 2 ^ 32, arg2 % 65536, seq⟩
    match s.eventRing f with
    | some c =>
      if s.cqRoom f c && (s.fctx f).chimes.isEmpty && (s.fctx f).lost == 0 &&
          !(s.qe.ready.any fun r => r.fn == f && r.cq == c) then s.postChime f c m
      else
        let s := if (s.fctx f).chimes.any (·.code == code) then s.loseChime f else s
        s.modFctx f fun x => { x with chimes := insertChime m x.chimes }
    | none =>
      let s := if (s.fctx f).chimes.any (·.code == code) then s.loseChime f else s
      s.modFctx f fun x => { x with chimes := insertChime m x.chimes }

/-- A chime for the owner, where there is one. -/
def State.chimeOwner (s : State) (code arg arg2 : Nat) (seq : Nat := 0) : State :=
  match s.ownerFn with
  | some f => s.chime f code arg arg2 seq
  | none => s

/-- A chime for every function. -/
def State.chimeAll (s : State) (code arg arg2 : Nat) : State :=
  s.allFns.foldl (fun s f => s.chime f code arg arg2) s

/-! ### KLT triggers (R41, R42) -/

/-- A trigger of R41: the generation reads 0 at once, and a trigger during a rebuild waits for the next. -/
def State.kltTrigger (s : State) (scope : KltScope) (reset : Bool) : State :=
  let k := s.klt
  if k.running.isEmpty then { s with klt := { k with shown := 0, running := [⟨scope, reset⟩] } }
  else { s with klt := { k with waiting := k.waiting ++ [⟨scope, reset⟩] } }

/-! ### Completions made ready (R87, R88, R103) -/

/-- Writes a window command's results and posts WINDOW_DONE (R103). -/
def State.windowDone (s : State) (f status detail result : Nat) : State :=
  let s := s.setReg .taskParam f 0 (result % 2 ^ 32)
  let s := s.setReg .taskParam f 1 (detail % 65536)
  let s := s.setReg .taskStatus f 0 (2 ^ 30 + status)
  s.chime f 6 (2 ^ 30 + status) 0

/-- Makes a command's completion ready: on its completion ring, or in the window (R88, R103). -/
def State.makeReady (s : State) (f ring tag status detail result : Nat) (devrst : Bool := false) : State :=
  if ring = goneRing then (if devrst then { s with qe := { s.qe with devrstDue := true } } else s)
  else if ring = windowRing then
    let s := s.windowDone f status detail result
    let q := s.sq f windowRing
    s.setSq f windowRing { q with resetting := false }
  else
    { s with qe := { s.qe with
        ready := s.qe.ready ++ [⟨f, s.boundCq f ring, ring, 0, min result 0xFFFFFFFF, status, detail, tag, devrst⟩] } }

end Sys2Proof.Machine
end

