-- ==== Sys2Proof/Machine/Wake.lean ====
section
/-! DEFINITION. Waking (17 R436, R440, R452): what a write from outside does to the power state, and the writes that wait
in the wake buffer. -/

namespace Sys2Proof.Machine

/-- Adds the time since the last entry to the residency counter of the present power state (R452). -/
def State.countResidency (s : State) : State :=
  let n := (s.ms.time - s.ms.since) / 1000000
  match s.ms.power with
  | 1 => s.bumpBy .msResA1 0 0 n
  | 2 => s.bumpBy .msResA2 0 0 n
  | 3 => s.bumpBy .msResA3 0 0 n
  | _ => s

/-- A wake trigger (R440): in A1 to A3 an exit straight to A0 begins. -/
def State.wake (s : State) (cause : Nat) : State :=
  if s.ms.phase ≠ 2 ∨ s.ms.quiescent = true ∨ s.ms.power = 0 ∨ s.ms.moving = true then s
  else
    let s := (s.countResidency.bump .msWakes 0 0).setFld .msPwrReq 0 0 1 0 0
    { s with ms := { s.ms with moving := true, cause := cause } }

/-- Islands that a power state powers off, by code (R435). -/
def offIslands (power : Nat) : List Nat :=
  if power = 2 then [10, 11, 13, 14, 15, 16, 17, 18, 19, 20, 21]
  else if power = 3 then [4, 5, 6, 7, 8, 9, 10, 11, 12, 13, 14, 15, 16, 17, 18, 19, 20, 21, 22, 23]
  else []

/-- The island a block's registers lie in (R205, the island table of 01). -/
def islandOf : Blk → Nat → Nat
  | .hi, _ | .qe, _ | .pe, _ | .bm, _ | .qePage, _ | .peal, _ | .task, _ | .msix, _ | .bells, _ => 4
  | .mc, i => 6 + i
  | .cx, _ => 10
  | .ce, _ => 11
  | .df, _ | .ee, _ => 12
  | .ed, _ | .vc, _ => 13
  | .wc, i | .rc, i => 14 + i
  | .sm, _ => 22
  | .ct, _ => 24
  | .ms, _ | .klt, _ => 1

/-- A write wakes the part: any doorbell, peal page, QE page or window register, or a register of an island that is powered
off (R440). [DEDUCED, log entry 64] -/
def State.writeWakes (s : State) : HeldWrite → Bool
  | .bell .. => true
  | .reg _ .qePage .. | .reg _ .peal .. | .reg _ .task .. | .reg _ .bells .. => true
  | .reg _ blk inst _ _ _ => (offIslands s.ms.power).contains (islandOf blk inst)

/-- The KLT is being built after a reset of the whole part (R447 step 9). [DEDUCED, log entry 8] -/
def State.firstBuild (s : State) : Bool := s.klt.running.any fun t => t.reset && decide (t.scope = .all)

/-- Whose access it is reaches the part: it runs, the first rebuild after its start is done, and the sender's partition is
not in reset (R70, R448). [DEDUCED, log entry 8] -/
def State.portOpen (s : State) : Port → Bool
  | .fn f => s.ms.phase == 2 && !s.ms.quiescent && !s.firstBuild && s.hasFn f && !s.hi.perst.contains (partOf f)
  | .sideband => s.ms.phase != 0 && !s.ms.quiescent

/-- Who makes a held write. [DEDUCED, log entry 64] -/
def heldPort : HeldWrite → Port
  | .reg src .. => src
  | .bell fn .. => .fn fn

/-- A write from outside (R440): dropped where it does not reach the part; held while the part leaves A3 or sleeps in it,
where it is a write that wakes; otherwise it runs, and wakes the part where the state is A1 or A2. [DEDUCED, log entry 51; DEDUCED, log entry 64] -/
def State.hostWrite (s : State) (w : HeldWrite) (run : State → State) : State :=
  if !s.portOpen (heldPort w) then s
  else if !s.writeWakes w then run s
  else if s.ms.power = 3 then
    let s := s.wake 1
    { s with ms := { s.ms with wakeBuf := s.ms.wakeBuf ++ [w] } }
  else run (s.wake 1)

/-- A 32-bit write to a register of a block. -/
def State.regWrite (s : State) (src : Port) (r : RegName) (inst : Nat) (v : Word) (run : State → Nat → State) : State :=
  s.hostWrite (.reg src r.info.blk inst r.info.off 4 v.toNat) fun s => run s v.toNat

end Sys2Proof.Machine
end

