-- ==== Sys2Proof/Machine/Functions.lean ====
section
/-! DEFINITION. HI: tenants, quotas and allocation registers (03 R58 to R69), and the conditions their writes are
judged by. -/

namespace Sys2Proof.Machine

/-- Functions whose allocation the owner can select: the PFs and the VFs up to each quota (R67). -/
def State.quotaFns (s : State) : List Fn :=
  (List.range s.parts).flatMap fun p => (List.range (s.reg .hiVfQuota p 0 % 256 + 1)).map (fnOf p)

/-- Streams a function has open (R66). -/
def State.openStreams (s : State) (f : Fn) : Nat :=
  (s.pe.streams.vals.filter fun x => (x.handle.map (·.1)) == some f).length

/-- [DESIGN CHOICE, log entry 7] -/
def keySlot0 : KeySlot :=
  { state := 0, raw := false, key := [], label := 0, limit := 0, used := 0, epoch := 0, gen := 0, retiring := false,
    lowTold := false }

/-- [DESIGN CHOICE, log entry 7] -/
def kek0 : Kek := { key := none, gen := 0 }

/-- A key slot by its device-wide number (R233). -/
def State.slot (s : State) (g : Nat) : KeySlot := s.ce.slots.get keySlot0 g

def State.setSlot (s : State) (g : Nat) (k : KeySlot) : State :=
  { s with ce := { s.ce with slots := s.ce.slots.set g k } }

/-- A slot holds nothing (R66). -/
def KeySlot.erased (k : KeySlot) : Bool := k.state == 0 && !k.retiring

/-- A function holds some installed key (R66). -/
def State.anyKey (s : State) (f : Fn) : Bool :=
  s.ce.slots.any fun e =>
    decide (s.keyBase f ≤ e.1 ∧ e.1 < s.keyBase f + s.keyCount f) && !e.2.erased

/-- Register, width in bits and device total of an allocation kind (R67, R69). -/
def allocReg : AllocKind → RegName × Nat
  | .sqBase => (.hiFnSqBase, 19) | .sqCount => (.hiFnSqCount, 19)
  | .cqBase => (.hiFnCqBase, 17) | .cqCount => (.hiFnCqCount, 17)
  | .vecBase => (.hiFnVecBase, 13) | .vecCount => (.hiFnVecCount, 13)
  | .streamQuota => (.hiFnStreamQuota, 17)
  | .keyBase => (.hiFnKeyBase, 13) | .keyCount => (.hiFnKeyCount, 13)
  | .bufMin => (.hiFnBufMin, 17) | .bufMax => (.hiFnBufMax, 17)
  | .weight => (.hiFnWeight, 8)

/-- Some ring of the function with local index at least `n` is enabled. -/
def State.sqEnabledFrom (s : State) (f n : Nat) : Bool :=
  s.qe.sqs.any fun e => e.1.unpair.1 == f && decide (n ≤ e.1.unpair.2) && e.1.unpair.2 != windowRing && e.2.enabled

def State.cqEnabledFrom (s : State) (f n : Nat) : Bool :=
  s.qe.cqs.any fun e => e.1.unpair.1 == f && decide (n ≤ e.1.unpair.2) && e.2.enabled

/-- Every slot of the old key range outside the new one is erased (R66). -/
def State.keysLeaveErased (s : State) (f base count : Nat) : Bool :=
  s.ce.slots.all fun e =>
    !(decide (s.keyBase f ≤ e.1 ∧ e.1 < s.keyBase f + s.keyCount f)) ||
      decide (base ≤ e.1 ∧ e.1 < base + count) || e.2.erased

/-- The condition of R66 under which an allocation write is accepted. -/
def State.allocCond (s : State) (f : Fn) (k : AllocKind) (v : Nat) : Bool :=
  match k with
  | .sqBase => !s.sqEnabledFrom f 0
  | .cqBase => !s.cqEnabledFrom f 0
  | .sqCount => !s.sqEnabledFrom f v
  | .cqCount => !s.cqEnabledFrom f v
  | .vecBase | .vecCount => !(s.fctx f).msix
  | .streamQuota => decide (s.openStreams f ≤ v)
  | .keyBase => s.keysLeaveErased f v (s.keyCount f)
  | .keyCount => s.keysLeaveErased f (s.keyBase f) v
  | .bufMin | .bufMax | .weight => true

/-- Base and count registers of the ranges of R65, with the device total of R67. -/
def allocRange : AllocKind → Option (RegName × RegName × Nat)
  | .sqBase | .sqCount => some (.hiFnSqBase, .hiFnSqCount, 262144)
  | .cqBase | .cqCount => some (.hiFnCqBase, .hiFnCqCount, 65536)
  | .vecBase | .vecCount => some (.hiFnVecBase, .hiFnVecCount, 4096)
  | .keyBase | .keyCount => some (.hiFnKeyBase, .hiFnKeyCount, 4096)
  | _ => none

/-- Two ranges meet. An empty range meets nothing. -/
def overlaps (b1 c1 b2 c2 : Nat) : Bool := decide (0 < c1 ∧ 0 < c2 ∧ b1 < b2 + c2 ∧ b2 < b1 + c1)

/-- Usable buffer memory in MiB (R187, R201, R202): the smallest density on every active channel, less a sixteenth. -/
def State.usableMiB (s : State) : Nat :=
  let dens := s.board.density.filter (fun d => decide (1 ≤ d))
  let low := dens.foldl min 4
  let pairs := (List.range 4).filter fun n => ((s.mc.pairs.find n).map (·.active)).getD false
  if dens.isEmpty then 0 else pairs.length * 2 * 2 ^ low * 1024 * 15 / 16

/-- Every function that can hold an allocation, the VFs above a quota too: what a lowered quota hides stays allocated. -/
def State.allocFns (s : State) : List Fn := (List.range s.parts).flatMap fun p => (List.range 256).map (fnOf p)

/-- The checks of R65 (and R69 for HI_FN_BUF_MIN): no overlap with another function, and no device total passed. -/
def State.allocFits (s : State) (f : Fn) (k : AllocKind) (v : Nat) : Bool :=
  let others := s.allocFns.filter (· != f)
  match allocRange k with
  | some (rb, rc, total) =>
    let b := if (allocReg k).1 = rb then v else s.alloc rb f
    let c := if (allocReg k).1 = rc then v else s.alloc rc f
    decide (b + c ≤ total) && others.all fun g => !overlaps b c (s.alloc rb g) (s.alloc rc g)
  | none =>
    match k with
    | .streamQuota => decide ((others.map (s.alloc .hiFnStreamQuota)).sum + v ≤ 65536)
    | .bufMin => decide (2 * ((others.map (s.alloc .hiFnBufMin)).sum + v) ≤ s.usableMiB)
    | _ => true

/-- Logs a write refused because an RWL condition fails (R48), with block type, instance and offset. [DESIGN CHOICE, log entry 17] -/
def State.rwlReject (s : State) (r : RegName) (inst : Nat) : State :=
  s.logEv .rwlReject 0 (blkCode r.info.blk * 65536 + inst % 65536) r.info.off

/-- Refuses an allocation write (R59, R65). -/
def State.allocReject (s : State) (r : RegName) (part : Nat) : State :=
  (s.setFld .hiAllocStatus part 0 0 0 1).logEv .allocReject 0 part r.info.off

/-- The function HI_FN_INDEX selects in a partition, if it lies within the VF quota (R67). -/
def State.selFn (s : State) (part : Nat) : Option Fn :=
  let v := s.fld .hiFnIndex part 0 7 0
  if part < s.parts ∧ v ≤ s.reg .hiVfQuota part 0 % 256 then some (fnOf part v) else none

/-- Whether a register write from this source reaches a block: only the owner's BAR0 maps blocks (R40, R52). -/
def State.reachesBlock (s : State) (src : Port) : Bool :=
  match src with
  | .fn f => s.isOwner f
  | .sideband => false

/-- Signals every completion ring of a function that is due (R91). -/
def State.signalAll (s : State) (f : Fn) : State :=
  (s.qe.cqs.keys.filter fun k => k.unpair.1 == f).foldl (fun s k => s.signal f k.unpair.2) s

/-- A tenant number no function holds, the lowest (R59). -/
def State.freeTenant (s : State) : Nat :=
  let held := s.quotaFns.map s.tenant
  ((List.range 256).find? fun n => decide (0 < n) && !held.contains n).getD 0

/-- A write to HI_FN_TENANT (R59, R66): 0 and a number held by another function are allocation refusals. -/
def State.writeTenant (s : State) (src : Port) (part value : Nat) : State :=
  if !s.reachesBlock src then s
  else
    match s.selFn part with
    | none => s
    | some f =>
      let v := value % 256
      if s.tenant f = v then s
      else if 0 < s.openStreams f ∨ s.anyKey f = true then s.rwlReject .hiFnTenant part
      else if v = 0 ∨ (s.quotaFns.any fun g => g != f && s.tenant g == v) = true then s.allocReject .hiFnTenant part
      else s.writeN .hiFnTenant part (idxOf f) v

/-- Gives a VF index that gains a place and has no stored number the lowest free tenant number (R59). -/
def State.numberVf (s : State) (f : Fn) : State :=
  if s.tenant f = 0 then s.writeN .hiFnTenant (partOf f) (idxOf f) s.freeTenant else s

/-- A write to HI_VF_QUOTA (R58, R59, R65, R66). -/
def State.writeQuota (s : State) (src : Port) (part value : Nat) : State :=
  if !s.reachesBlock src || !decide (part < s.parts) then s
  else
    let v := value % 256
    let old := s.reg .hiVfQuota part 0 % 256
    let others := (((List.range s.parts).filter (· != part)).map fun p => s.reg .hiVfQuota p 0 % 256).sum
    if v = old then s
    else if s.vfs part ≠ 0 then s.rwlReject .hiVfQuota part
    else if (if s.parts = 4 then 251 else 252) < others + v then s.allocReject .hiVfQuota part
    else
      let s := s.setReg .hiVfQuota part 0 v
      if old < v then ((List.range (v - old)).map fun i => fnOf part (old + 1 + i)).foldl (fun s f => s.numberVf f) s
      else ((List.range (old - v)).map fun i => fnOf part (v + 1 + i)).foldl
        (fun s f => s.writeN .hiFnTenant part (idxOf f) 0) s

/-- HI_FN_TENANT_WRITE (R59). -/
def execHiFnTenantWrite (src : Port) (part : Nat) (value : Word) (s : State) : Host.Outcome State Fault Refusal :=
  .next (s.regWrite src .hiFnTenant part value fun s v => s.writeTenant src part v)

/-- HI_VF_QUOTA_WRITE (R59). -/
def execHiVfQuotaWrite (src : Port) (part : Nat) (value : Word) (s : State) : Host.Outcome State Fault Refusal :=
  .next (s.regWrite src .hiVfQuota part value fun s v => s.writeQuota src part v)

end Sys2Proof.Machine
end

