-- ==== Sys2Proof/Machine/Streams.lean ====
section
/-! DEFINITION. Streams: submission-entry fields (05 R105), stream credit (07 R188 to R193), numbering (R120),
truncation (R121), deferred errors (R132, R133), the end of a command, and buffered places. -/

namespace Sys2Proof.Machine

/-! ### Fields of a submission entry (R105) -/

/-- `n` bytes of an entry from byte `off`, little-endian. -/
def entryField (e : Entry) (off n : Nat) : Nat := (e >>> (8 * off)).toNat % 2 ^ (8 * n)

def entOpcode (e : Entry) : Nat := entryField e 0 1
def entFlags (e : Entry) : Nat := entryField e 1 1
def entTag (e : Entry) : Nat := entryField e 2 2
def entHandle (e : Entry) : Nat := entryField e 4 4
def entRecord (e : Entry) : Nat := entryField e 8 8
def entData (e : Entry) : Nat := entryField e 16 8
def entLen (e : Entry) : Nat := entryField e 24 4
def entCountM1 (e : Entry) : Nat := entryField e 28 2
def entAux (e : Entry) : Nat := entryField e 30 2
def entList (e : Entry) : Nat := entryField e 32 8

/-- The value of record that is never a record number: APPEND or POSITION (R107). -/
def noRecord : Nat := 0xFFFFFFFFFFFFFFFF

/-- Opcodes of the write class (R111). -/
def isWriteClass (op : Nat) : Bool := op == 0x10 || op == 0x13

/-- Opcodes of the read class (R111). -/
def isReadClass (op : Nat) : Bool := op == 0x11 || op == 0x12 || op == 0x14 || op == 0x15

/-- Status codes (R147). -/
def stSuccess : Nat := 0x00
def stBuffered : Nat := 0x01
def stDeferred : Nat := 0x02
def stTagInUse : Nat := 0x03
def stNotOwner : Nat := 0x04
def stInvalidOpcode : Nat := 0x05
def stInvalidField : Nat := 0x06
def stStreamState : Nat := 0x07
def stRecordGap : Nat := 0x08
def stNotFound : Nat := 0x09
def stEndOfData : Nat := 0x0A
def stNoMedia : Nat := 0x0B
def stMediaFormat : Nat := 0x0C
def stMediaBusy : Nat := 0x0D
def stWriteProtected : Nat := 0x0E
def stMediaFull : Nat := 0x0F
def stWriteFault : Nat := 0x10
def stReadFault : Nat := 0x11
def stDmaError : Nat := 0x12
def stDataCrc : Nat := 0x13
def stNoKey : Nat := 0x14
def stKeyClass : Nat := 0x15
def stKeyRevoked : Nat := 0x16
def stExhausted : Nat := 0x17
def stLength : Nat := 0x18
def stAuthFailed : Nat := 0x19
def stExpansionLimit : Nat := 0x1A
def stCipherFault : Nat := 0x1B
def stUpdateBusy : Nat := 0x1C
def stUpdateRefused : Nat := 0x1D
def stLeavingService : Nat := 0x1E
def stTestFailed : Nat := 0x1F

/-- A FORMAT or SANITIZE session is running (R429). -/
def State.sessionRuns (s : State) : Bool := (s.ct.session.map fun x => x.state == 1).getD false

/-! ### Looking streams up -/

/-- The key of a stream in the tables: the pair of R149. -/
def streamKey (tenant sid : Nat) : Nat := Nat.pair tenant sid

def State.stream? (s : State) (k : Nat) : Option Stream := s.pe.streams.find k

/-- The stream a function has open on a handle (R116). -/
def State.byHandle (s : State) (f h : Nat) : Option (Nat × Stream) :=
  s.pe.streams.find? fun e => e.2.handle == some (f, h)

def State.setStream (s : State) (k : Nat) (x : Stream) : State :=
  { s with pe := { s.pe with streams := s.pe.streams.set k x } }

def State.modStream (s : State) (k : Nat) (g : Stream → Stream) : State :=
  match s.stream? k with
  | some x => s.setStream k (g x)
  | none => s

/-! ### Credit (R188, R189 of 07, R192, R193) -/

def mib : Nat := 1048576

/-- BM_READ_RES in MiB; lower values are read as 64 (R205). -/
def State.readRes (s : State) : Nat := max 64 (s.fld .bmReadRes 0 0 11 0)

/-- The write share in bytes: pool space less the overdraft reserve, the read reserve and the leg pages (R187,
R188). -/
def State.writeShare (s : State) : Nat :=
  (s.usableMiB - 1024 - 4096 - s.readRes - s.fld .peBookBudget 0 0 16 0) * mib

/-- Held bytes of a function's streams (R192). -/
def State.fnHeld (s : State) (f : Fn) : Nat :=
  ((s.pe.streams.vals.filter fun x => x.tenant == s.tenant f).map (·.held)).sum

/-- Held bytes of a function that are charged to the write share (R192, R193). -/
def State.fnCharged (s : State) (f : Fn) : Nat :=
  ((s.pe.streams.vals.filter fun x => x.tenant == s.tenant f).map fun x => x.held - x.overdraft).sum

/-- A function's reservation that it does not use (R193). [DEDUCED, log entry 24] -/
def State.unusedRes (s : State) (f : Fn) : Nat := s.alloc .hiFnBufMin f * mib - s.fnCharged f

/-- The free write share (R193). [DEDUCED, log entry 24] -/
def State.freeShare (s : State) : Nat :=
  s.writeShare - (s.pe.streams.vals.map fun x => x.held - x.overdraft).sum

/-- BM_STREAM_WIN in bytes, brought between 16 and 4,096 MiB (R205). -/
def State.streamWin (s : State) : Nat := clamp 16 4096 (s.fld .bmStreamWin 0 0 12 0) * mib

/-- The function that opened a stream, or the one with its tenant number. -/
def State.streamFn (s : State) (x : Stream) : Fn :=
  match x.handle with
  | some (f, _) => f
  | none => (s.quotaFns.find? fun f => s.tenant f == x.tenant).getD 0

/-- A write stream's credit: the least of the window, the function's cap and the free share, floored at zero (R193);
zero once PE has closed the credits (R167). [DEDUCED, log entry 24] -/
def State.credit (s : State) (x : Stream) : Nat :=
  if !x.write || s.pe.creditClosed then 0
  else
    let f := s.streamFn x
    let share := s.unusedRes f + (s.freeShare - (s.quotaFns.map s.unusedRes).sum)
    let c := min (s.streamWin - x.held) share
    match s.bufMax f with
    | some m => min c (m - s.fnHeld f)
    | none => c

/-- A credit as a completion reports it (R89). -/
def satCredit (c : Nat) : Nat := min c 0xFFFFFFFF

/-- The credit of a stream by key; zero where it does not exist. -/
def State.creditOf (s : State) (k : Nat) : Nat := ((s.stream? k).map s.credit).getD 0

/-- Posts the CREDIT chime of a stream whose credit has risen above zero after being reported as zero (R90). -/
def State.creditChime (s : State) (k : Nat) : State :=
  match s.stream? k with
  | some x =>
    if x.zeroTold && decide (0 < s.credit x) then
      let s := s.setStream k { x with zeroTold := false }
      match x.handle with
      | some (f, h) => s.chime f 3 h 0
      | none => s
    else s
  | none => s

/-- Recomputes every credit (R193): the chimes that follow. -/
def State.recredit (s : State) : State := s.pe.streams.keys.foldl (fun s k => s.creditChime k) s

/-- What follows an applied allocation write: the KLT views of the function for rings, vectors, streams and key slots
(R41), interrupts whose vector has come inside the range (R91), and the credits for buffer limits (R193). -/
def State.allocApplied (s : State) (f : Fn) (k : AllocKind) : State :=
  match k with
  | .weight => s
  | .bufMin | .bufMax => s.recredit
  | .vecBase | .vecCount => (s.kltTrigger (.fns [f]) false).signalAll f
  | _ => s.kltTrigger (.fns [f]) false

/-- A write to an allocation register (R48, R65, R66). -/
def State.writeAlloc (s : State) (src : Port) (part : Nat) (k : AllocKind) (value : Nat) : State :=
  if !s.reachesBlock src then s
  else
    match s.selFn part with
    | none => s
    | some f =>
      let r := (allocReg k).1
      let v := value % 2 ^ (allocReg k).2
      if s.alloc r f = v then s
      else if !s.allocCond f k v then s.rwlReject r part
      else if !s.allocFits f k v then s.allocReject r part
      else (s.setReg r (partOf f) (idxOf f) v).allocApplied f k

/-- Notes that a credit has been reported as zero (R90). -/
def State.tellCredit (s : State) (k : Nat) : State :=
  if s.creditOf k = 0 then s.modStream k fun x => { x with zeroTold := x.write } else s

/-- Gives back held bytes of a stream: first to the overdraft reserve (R192), then to the write share. -/
def State.giveBack (s : State) (k n : Nat) : State :=
  match s.stream? k with
  | some x =>
    let n := min n x.held
    let o := min n x.overdraft
    let s := s.setStream k { x with held := x.held - n, overdraft := x.overdraft - o }
    { s with bm := { s.bm with overdraft := s.bm.overdraft - o } }
  | none => s

/-! ### Places in a stream -/

def Place.le (a b : Place) : Bool := decide (a.record < b.record) || (a.record == b.record && decide (a.off ≤ b.off))

def Place.min (a b : Place) : Place := if a.le b then a else b

def Place.max (a b : Place) : Place := if a.le b then b else a

/-- Bytes of the buffered records from one place up to another. -/
def bytesBetween (recs : List Rec) (a b : Place) : Nat :=
  (recs.map fun r =>
    let hi := if r.num < b.record then r.data.length else if r.num = b.record then Nat.min b.off r.data.length else 0
    let lo := if r.num < a.record then r.data.length else if r.num = a.record then Nat.min a.off r.data.length else 0
    hi - lo).sum

/-- The place just after every sequenced record. -/
def Stream.endPlace (x : Stream) : Place := ⟨x.seqEnd, 0⟩

/-- Record bytes sequenced and not yet placed: ready data (R158). -/
def Stream.readyBytes (x : Stream) : Nat := bytesBetween x.recs x.placed x.endPlace

/-! ### Truncation (R121) -/

def State.dataset? (s : State) (n : Nat) : Option Dataset := s.df.datasets.find? (·.num == n)

/-- A parcel lies in a dataset that EE has started, or is known from tape alone. -/
def State.onTape (s : State) (p : Parcel) : Bool :=
  match s.dataset? p.dataset with
  | some d => d.started
  | none => true

/-- Truncates a stream to record `r`: the records from `r` on cease to exist, data not yet encoded is dropped and
released at once, parcels on tape are marked dead, and the read position moves (R121, R161, R194). -/
def State.truncate (s : State) (k r : Nat) : State :=
  match s.stream? k with
  | none => s
  | some x =>
    let hit := fun (p : Parcel) => p.stream == k && !p.dead && decide (r ≤ p.last)
    let gone := s.pe.parcels.filter fun p => hit p && !s.onTape p
    let back := gone.foldl (fun (a : Place) p => Place.min a ⟨p.first, 0⟩)
      (x.placed.min ⟨r, 0⟩)
    let killed := s.pe.parcels.any fun p => hit p && s.onTape p
    let tapeEnd := (s.pe.parcels.filter fun p => p.stream == k && !p.dead && s.onTape p).foldl
      (fun (a : Place) p => Place.max a p.upto) ⟨r, 0⟩
    let dropped := bytesBetween x.recs tapeEnd x.endPlace
    let s := { s with cx := { s.cx with
      outs := s.cx.outs.filter fun o => !(o.stream == k && decide (r ≤ o.last))
      images := s.cx.images.keep fun _ (j : CxJob) => j.stream != k
      engines := s.cx.engines.each fun _ (e : CxEngine) => if (e.job.map CxJob.stream) == some k then { e with job := none } else e } }
    let s := { s with pe := { s.pe with
      carry := s.pe.carry.filter fun c => !(c.1 == k && decide (r ≤ c.2.1))
      parcels := (s.pe.parcels.filter fun p => !(hit p && !s.onTape p)).map fun p =>
        if hit p && decide (r ≤ p.first) then { p with dead := true } else p
      decoded := s.pe.decoded.filter fun d => !(d.stream == k && decide (r ≤ d.num))
      deadMarks := if killed then s.pe.deadMarks ++ [(k, r)] else s.pe.deadMarks } }
    let s := s.setStream k { x with
      recs := x.recs.filter fun y => decide (y.num < r)
      seqEnd := Nat.min x.seqEnd r
      placed := back
      runEnd := Nat.min x.runEnd r
      durable := Nat.min x.durable r
      pos := if r ≤ x.pos.record then ⟨r, 0⟩ else x.pos
      partialRead := x.partialRead && decide (x.pos.record < r)
      truncPending := x.truncPending || killed
      truncFrom := if killed then s.pe.nextDataset else x.truncFrom }
    s.giveBack k dropped

/-! ### The owner (03 R63, R64) -/

/-- LOOP_TEST depths that need the owner (R63, R487). -/
def loopOwner (aux : Nat) : Bool := [0x01, 0x02, 0x03, 0x20, 0x21, 0x22, 0x33, 0x50].contains aux

/-- The opcode needs the owner, with these fields (R63, R111, R144). [DEDUCED, log entry 74] -/
def needsOwner (e : Entry) : Bool :=
  let op := entOpcode e
  op == 0x40 || (op == 0x41 && !bitOf (entFlags e) 1) || decide (0x50 ≤ op ∧ op ≤ 0x53) ||
    decide (0x60 ≤ op ∧ op ≤ 0x65) || (op == 0x70 && loopOwner (entAux e))

/-- A session is open and nothing has been activated. -/
def State.updOpen (s : State) : Bool := s.ms.upd.isSome && !s.ms.pointer.trial

/-- Ends a session without activation: staging is discarded, and the owner is told (R464, R473). -/
def State.abandonUpdate (s : State) (reason : Nat) : State :=
  if !s.updOpen then s
  else
    let s := { s with ms := { s.ms with upd := none, pages := [], lastAbandon := reason } }
    s.chimeOwner 0x201 reason 0

/-- The PFs of two owners' partitions. -/
def ownerPfs (a b : Option Nat) : List Fn := (a.toList ++ b.toList).dedup.map fun p => fnOf p 0

/-- The owner changes (R64, R470, R506): an open update session ends, the KLT of both PFs is rebuilt, both are told, and a
rollback that waited for an owner is told to the new one. [DEDUCED, log entry 74] -/
def State.changeOwner (s : State) (next : Option Nat) : State :=
  let old := s.hi.owner
  if old = next then { s with hi := { s.hi with ownerNext := none } }
  else
    let s := { s with hi := { s.hi with owner := next, ownerNext := none } }
    let s := s.abandonUpdate 2
    let pfs := ownerPfs old next
    let s := s.kltTrigger (.fns pfs) false
    let s := pfs.foldl (fun s f => s.chime f 2 ((next.map (· + 256)).getD 0) 0) s
    let s := match s.ms.rollbackDue, next with
      | some r, some _ => { s with ms := { s.ms with rollbackDue := none } }.chimeOwner 0x204 r 0
      | _, _ => s
    { s with ms := { s.ms with alert := next.isNone && s.board.ownerSel == 3 } }

/-- Applies a change of owner once no owner-only command is in flight (R64). [DEDUCED, log entry 74] -/
def State.settleOwner (s : State) : State :=
  match s.hi.ownerNext with
  | none => s
  | some next => if s.qe.cmds.any fun c => needsOwner c.entry then s else s.changeOwner next

/-! ### The end of a command -/

/-- Takes a command off the list of commands in flight: its tag, staging place and lock are free (R95, R136), and
nothing is read from tape for it any more. -/
def State.dropCmd (s : State) (id : Nat) : State :=
  { s with qe := { s.qe with cmds := s.qe.cmds.filter (·.id != id) }
           pe := { s.pe with reads := s.pe.reads.filter (·.cmd != id) } }

def State.cmd? (s : State) (id : Nat) : Option Cmd := s.qe.cmds.find? (·.id == id)

def State.setCmd (s : State) (c : Cmd) : State :=
  { s with qe := { s.qe with cmds := s.qe.cmds.map fun d => if d.id = c.id then c else d } }

/-- Counts an accepted command that completes while its ring resets (R99). -/
def State.countReset (s : State) (f ring tag : Nat) : State :=
  let q := s.sq f ring
  if q.resetting then s.setSq f ring { q with completed := q.completed + 1, highTag := max q.highTag tag } else s

/-- Makes a command's completion ready and takes the command off the list; a write-class completion carries the
stream credit (R87, R113). [DEDUCED, log entry 23] -/
def State.finishCmd (s : State) (c : Cmd) (status detail result : Nat) : State :=
  let wc := isWriteClass (entOpcode c.entry)
  let s := match c.stream with
    | some k => if status = stBuffered then s else s.giveBack k c.held
    | none => s
  let result := if wc then (c.stream.map fun k => satCredit (s.creditOf k)).getD 0 else result
  let s := match c.stream with
    | some k => if wc then s.tellCredit k else s
    | none => s
  let s := s.dropCmd c.id
  let s := s.countReset c.fn c.ring (entTag c.entry)
  (s.makeReady c.fn c.ring (entTag c.entry) status detail result
    (entOpcode c.entry == 0x53 && status == stSuccess)).settleOwner

/-- Write-class commands of a stream that resolved after a given one, in resolution order (R120). -/
def State.laterWrites (s : State) (k order : Nat) : List Cmd :=
  sortBy Cmd.order (s.qe.cmds.filter fun c =>
    c.stream == some k && isWriteClass (entOpcode c.entry) && c.phase != .staged && decide (order < c.order))

/-- Numbers the later unaccepted writes of a stream again, against the end as it then stands (R120). -/
def State.renumber (s : State) (k first order : Nat) : State :=
  let later := s.laterWrites k order
  let s := s.modStream k fun x => { x with endNum := first }
  later.foldl (fun s c =>
    match s.stream? k with
    | some x =>
      if c.first ≤ x.endNum then s.setStream k { x with endNum := c.first + c.count }
      else s.finishCmd c stRecordGap 0 0
    | none => s) s

/-- Ends a command with a status; a resolved write-class command that ends without being accepted gives its record
numbers back (R120). -/
def State.endCmd (s : State) (c : Cmd) (status detail result : Nat) : State :=
  let s := s.finishCmd c status detail result
  if isWriteClass (entOpcode c.entry) && c.phase != .staged && status != stBuffered then
    match c.stream with
    | some k => (s.renumber k c.first c.order).recredit
    | none => s
  else s

/-- Drops a command without completion, as a queue reset does (R98, R120). -/
def State.abandonCmd (s : State) (c : Cmd) : State :=
  let s := match c.stream with
    | some k => s.giveBack k c.held
    | none => s
  let s := s.dropCmd c.id
  if isWriteClass (entOpcode c.entry) && c.phase != .staged then
    match c.stream with
    | some k => ((s.renumber k c.first c.order).recredit).settleOwner
    | none => s
  else s.settleOwner

/-- A command is accepted: it holds its locks and has been handed over; a write-class command never is while it is in
flight (R97). -/
def Cmd.accepted (c : Cmd) : Bool := !isWriteClass (entOpcode c.entry) && c.phase == .ready

/-! ### Deferred errors (R132, R133) -/

/-- Commands that execute in full although the stream has a deferred error (R133). -/
def readsDeferred (op : Nat) : Bool := op == 0x16 || op == 0x04 || op == 0x20

/-- Logs a deferred error that no completion can carry (R70, R493), and clears it. -/
def State.logDeferred (s : State) (k : Nat) : State :=
  match s.stream? k with
  | some x =>
    match x.err with
    | some e =>
      if e.pending then
        let s := s.setStream k { x with err := some { e with pending := false } }
        s.logEv .deferredLost x.tenant (x.index % 2 ^ 17 + e.detail * 2 ^ 24) e.first
      else s
    | none => s
  | none => s

/-- A deferred error of a stream with first lost record `l` (R132): it merges with one that is pending, the stream is
truncated to `l`, and every resolved, unaccepted command of the stream completes with DEFERRED. -/
def State.deferError (s : State) (k l detail : Nat) : State :=
  match s.stream? k with
  | none => s
  | some x =>
    let e : Deferred := match x.err with
      | some e => if e.pending then ⟨min e.first l, e.detail, min (e.count + 1) 0xFFFF, true⟩ else ⟨l, detail, 1, true⟩
      | none => ⟨l, detail, 1, true⟩
    let s := s.setStream k { x with err := some e }
    let hit := sortBy Cmd.order (s.qe.cmds.filter fun c =>
      c.stream == some k && c.phase != .staged && !c.accepted && !readsDeferred (entOpcode c.entry))
    let s := s.truncate k e.first
    let s := s.modStream k fun x => { x with endNum := e.first }
    let s := hit.foldl (fun s c => s.finishCmd c stDeferred e.detail 0) s
    let s := if hit.isEmpty then s else s.modStream k fun x => { x with err := some { e with pending := false } }
    let s := if x.handle.isNone && x.closing.isNone then s.logDeferred k else s
    s.recredit

/-- Whether a stream has a deferred error to report, and its detail. -/
def Stream.pendingDetail (x : Stream) : Option Nat :=
  match x.err with
  | some e => if e.pending then some e.detail else none
  | none => none

/-- Clears a stream's pending deferred error once it has been reported (R132 step 3, R133). -/
def Stream.reported (x : Stream) : Stream := { x with err := x.err.map fun e => { e with pending := false } }

end Sys2Proof.Machine
end

