-- ==== Sys2Proof/Machine/Rings.lean ====
section
/-! DEFINITION. QE's rings (04): doorbells, peal pages, enables and disables, queue reset, posting of completions and
chimes, moderation, ring failure, and the task-register window. -/

namespace Sys2Proof.Machine

/-! ### Doorbells (R79 to R81) -/

/-- A doorbell or pair that QE drops (R81, R83): counted, and the flag bit of QE_STATUS set. -/
def State.dropDoorbell (s : State) (f bit : Nat) : State :=
  (s.bump .qeBadDb f 0).setFld .qeStatus f 0 bit bit 1

/-- A submission doorbell is good (R81). -/
def State.sqBellOk (s : State) (f ring v : Nat) : Bool :=
  let q := s.sq f ring
  decide (ring < s.sqCount f) && q.enabled && !q.failed && !q.resetting && decide (v < s.sqSize f ring)

/-- A completion doorbell is good (R81). -/
def State.cqBellOk (s : State) (f c v : Nat) : Bool :=
  let q := s.cq f c
  decide (c < s.cqCount f) && q.enabled && !q.failed && decide (v < s.cqSize f c)

/-- Publishes the entries of a ring up to a new tail, under the next stamp (R80, R85). -/
def State.publish (s : State) (f ring v : Nat) : State :=
  let q := s.sq f ring
  if q.tail = v then s
  else
    let s := s.setSq f ring { q with tail := v, pubs := q.pubs ++ [(v, s.qe.stamp)] }
    { s with qe := { s.qe with stamp := s.qe.stamp + 1 } }

/-- Releases the slots of a completion ring before the new head (R80). -/
def State.release (s : State) (f c v : Nat) : State := s.setCq f c { s.cq f c with head := v }

/-- One doorbell of a ring: applied, or dropped with a flag (R81). [DEDUCED, log entry 23] -/
def State.bell (s : State) (f : Nat) (cq : Bool) (ring v bit : Nat) : State :=
  if cq then (if s.cqBellOk f ring v then s.release f ring v else s.dropDoorbell f bit)
  else (if s.sqBellOk f ring v then s.publish f ring v else s.dropDoorbell f bit)

/-- One 32-bit word written to the doorbell region (R79, R80). -/
def State.bellWord (s : State) (f off v : Nat) : State :=
  if off < 0x100000 then s.bell f false (off / 4) (v % 65536) 1
  else if off < 0x140000 then s.bell f true ((off - 0x100000) / 4) (v % 65536) 1
  else s

/-- Consecutive 4-byte doorbells in ascending address order (R80). -/
def State.bellWords (s : State) (f off value : Nat) : Nat → State
  | 0 => s
  | n + 1 => (s.bellWord f off (value % 2 ^ 32)).bellWords f (off + 4) (value / 2 ^ 32) n

/-- A write to the doorbell region: narrow or misaligned writes are dropped and counted (R81). -/
def State.bellWrite (s : State) (f off width value : Nat) : State :=
  if !s.hasFn f then s
  else if width < 4 ∨ off % 4 ≠ 0 then s.dropDoorbell f 1
  else s.bellWords f off value (width / 4)

/-! ### Peal pages (R82, R83) -/

/-- The place of a peal-page register in the store: page and pair. [DESIGN CHOICE, log entry 21] -/
def pealSel (page k : Nat) : Nat := page * 1024 + k

/-- Whether a pair is rejected as the doorbell it names (R83). [DEDUCED, log entry 73] -/
def State.pairOk (s : State) (f page k : Nat) : Bool :=
  let w := s.reg .qePealRing f (pealSel page k)
  let v := s.reg .qePealValue f (pealSel page k) % 65536
  if bitOf w 31 then s.cqBellOk f (w % 2 ^ 18) v else s.sqBellOk f (w % 2 ^ 18) v

/-- Applies one pair (R83); the count of rejected pairs goes along. [DEDUCED, log entry 73] -/
def State.applyPair (s : State) (f page k rejected : Nat) : State × Nat :=
  let w := s.reg .qePealRing f (pealSel page k)
  let v := s.reg .qePealValue f (pealSel page k) % 65536
  (s.bell f (bitOf w 31) (w % 2 ^ 18) v 2, if s.pairOk f page k then rejected else rejected + 1)

/-- Applies the pairs of a page in ascending k (R83). [DEDUCED, log entry 73] -/
def State.applyPairs (s : State) (f page : Nat) (ks : List Nat) : State × Nat :=
  ks.foldl (fun a k => a.1.applyPair f page k a.2) (s, 0)

/-- A write to QE_PEAL_COMMIT (R83). -/
def State.pealCommit (s : State) (f page seq : Nat) : State :=
  if !s.hasFn f || decide (64 ≤ page) then s
  else
    let n := s.reg .qePealCount f (pealSel page 0) % 1024
    if n = 0 ∨ 510 < n then
      (s.setFld .qeStatus f 0 2 2 1).setReg .qePealStatus f (pealSel page 0) (seq % 65536 * 65536 + 1023)
    else
      let a := s.applyPairs f page (List.range n)
      a.1.setReg .qePealStatus f (pealSel page 0) (seq % 65536 * 65536 + a.2)

/-! ### Enables and disables (R76, R77) -/

/-- Submission rings enabled device-wide (QE_ACTIVE_SQ); the hidden rings do not count (R103). -/
def State.activeSq (s : State) : Nat :=
  (s.qe.sqs.filter fun e => e.2.enabled && e.1.unpair.2 != windowRing).length

/-- A submission ring may be enabled (R76). -/
def State.sqEnableOk (s : State) (f ring : Nat) : Bool :=
  let c := s.boundCq f ring
  s.fld .qeSqCfg f ring 31 16 != 0 && decide (c < s.cqCount f) && (s.cq f c).enabled &&
    (s.fld .qeStageMode 0 0 0 0 == 1 || decide (s.activeSq < 4096))

/-- A completion ring may be enabled (R76). -/
def State.cqEnableOk (s : State) (f c : Nat) : Bool :=
  s.fld .qeCqCfg f c 31 16 != 0 &&
    (s.fld .qeCqCfg f c 13 13 == 0 || decide (s.fld .qeCqCfg f c 12 0 < s.vecCount f))

/-- Some enabled submission ring is bound to a completion ring, or an entry waits to be posted to it (R76). -/
def State.cqBusy (s : State) (f c : Nat) : Bool :=
  (s.qe.sqs.any fun e => e.1.unpair.1 == f && e.1.unpair.2 != windowRing && e.2.enabled &&
    s.boundCq f e.1.unpair.2 == c) || s.qe.ready.any fun r => r.fn == f && r.cq == c

def State.refuseEnable (s : State) (f : Nat) : State := s.setFld .qeStatus f 0 3 3 1

/-! ### Queue reset (R97 to R99) -/

/-- Published entries of a ring that QE has not fetched. -/
def State.unfetched (s : State) (f ring : Nat) : Nat :=
  let q := s.sq f ring
  (q.tail + s.sqSize f ring - q.head) % s.sqSize f ring

/-- Commands of a ring that are in flight and not accepted (R97), in the order in which they resolved. -/
def State.unaccepted (s : State) (f ring : Nat) : List Cmd :=
  sortBy Cmd.order (s.qe.cmds.filter fun c => c.fn == f && c.ring == ring && !c.accepted)

/-- Buffers a party owns return to their pools, and its waiting requests go (R98, R189). -/
def State.freeParty (s : State) (who : Party) : State :=
  { s with bm := { s.bm with bufs := s.bm.bufs.keep fun _ b => b.owner != who,
                             waits := s.bm.waits.filter fun w => w.who != who } }

/-- Resets an enabled ring (R98 steps 1 and 2): fetching stops, later doorbells are dropped, unaccepted commands are
dropped without completion. A second reset has no effect. -/
def State.resetRing (s : State) (f ring : Nat) (disable : Bool) : State :=
  let q := s.sq f ring
  if !q.enabled || q.resetting then s
  else
    let gone := s.unaccepted f ring
    let n := if q.failed then 0xFFFFFFFF else s.unfetched f ring + gone.length
    let s := s.setSq f ring
      { q with resetting := true, disabling := disable, pubs := [], dropped := n, completed := 0, highTag := 0 }
    (gone.foldl (fun s c => s.abandonCmd c) s).freeParty (.ring f ring)

/-- No command of a ring is in flight and no completion of it waits: step 4 of R98 can run. -/
def State.resetQuiet (s : State) (f ring : Nat) : Bool :=
  !(s.qe.cmds.any fun c => c.fn == f && c.ring == ring) && !(s.qe.ready.any fun r => r.fn == f && r.ring == ring)

/-- Step 4 of R98 and R99: head and tail 0, resetting clear, RESET_DONE posted; a disable takes effect now (R77). An
entry destined for a failed completion ring is discarded (R101). -/
def State.resetDone (s : State) (f ring : Nat) : State :=
  let q := s.sq f ring
  let c := s.boundCq f ring
  if !q.resetting || !s.resetQuiet f ring then s
  else if !((s.cq f c).failed || (s.cqRoom f c && !(s.qe.ready.any fun r => r.fn == f && r.cq == c))) then s
  else
    let last := q.lastTag.getD 0
    let s := s.setSq f ring { sqCtx0 with enabled := !q.disabling, echo := q.echo, echoed := q.echoed }
    if (s.cq f c).failed then s
    else s.postEntry f c q.dropped (min q.completed 65535 + 65536 * q.highTag) last
      (2 ^ 28 + natOf q.lastTag.isSome * 2 ^ 27 + ring)

/-- A write to QE_SQ_CTRL (R75 to R77): prio, and the enable bit. -/
def State.writeSqCtrl (s : State) (f v : Nat) : State :=
  let ring := s.fld .qeSqSel f 0 17 0
  if !decide (ring < s.sqCount f) then s
  else
    let s := s.setFld .qeSqCtrl f ring 3 2 (bitsOf v 3 2)
    let q := s.sq f ring
    if bitOf v 0 then
      if q.enabled then s
      else if s.sqEnableOk f ring then
        (s.setFld .qeSqCtrl f ring 0 0 1).setSq f ring { sqCtx0 with enabled := true, echo := q.echo, echoed := q.echoed }
      else s.refuseEnable f
    else if q.enabled then (s.setFld .qeSqCtrl f ring 0 0 0).resetRing f ring true
    else s

/-- A write to QE_CQ_CTRL (R76). -/
def State.writeCqCtrl (s : State) (f v : Nat) : State :=
  let c := s.fld .qeCqSel f 0 15 0
  if !decide (c < s.cqCount f) then s
  else
    let q := s.cq f c
    if bitOf v 0 then
      if q.enabled then s
      else if s.cqEnableOk f c then
        (s.setFld .qeCqCtrl f c 0 0 1).setCq f c { cqCtx0 with enabled := true }
      else s.refuseEnable f
    else if q.enabled then
      if s.cqBusy f c then s.refuseEnable f
      else (s.setFld .qeCqCtrl f c 0 0 0).setCq f c { cqCtx0 with phase := q.phase, tail := q.tail }
    else s

/-- A write to QE_SQ_RESET (R98). -/
def State.writeSqReset (s : State) (f v : Nat) : State :=
  let ring := v % 2 ^ 18
  if ring < s.sqCount f then s.resetRing f ring false else s

/-! ### Posting (R88, R94) -/

/-- Writes one ready completion: discarded where its ring is disabled or failed (R70, R100, R101). -/
def State.postReady (s : State) (r : Ready) : State :=
  let q := s.cq r.fn r.cq
  let s := if r.devrst then { s with qe := { s.qe with devrstDue := true } } else s
  if !q.enabled || q.failed then s
  else
    let c := s.sq r.fn r.ring
    let s := s.postEntry r.fn r.cq r.result (r.status + 65536 * r.detail) (r.tag + 65536 * c.head) r.ring
    s.setSq r.fn r.ring { c with lastTag := some r.tag }

/-- A ready completion can leave the list now: its ring has room, or takes no entries at all. [DESIGN CHOICE, log entry 3] -/
def State.canPost (s : State) (r : Ready) : Bool :=
  !(s.cq r.fn r.cq).enabled || (s.cq r.fn r.cq).failed || s.cqRoom r.fn r.cq

/-- Takes the first item that satisfies a test out of a list. -/
def takeFirst {α : Type} (p : α → Bool) : List α → Option (α × List α)
  | [] => none
  | a :: t => if p a then some (a, t) else (takeFirst p t).map fun x => (x.1, a :: x.2)

/-- Posts the first completion that can be posted, in the order they became ready (R88). -/
def State.postOne (s : State) : State :=
  match takeFirst s.canPost s.qe.ready with
  | some (r, rest) => ({ s with qe := { s.qe with ready := rest } }).postReady r
  | none => s

/-- Posts the completions that wait for one ring while it has room (R94 step 1). -/
def State.postRing (s : State) (f c : Nat) : Nat → State
  | 0 => s
  | n + 1 =>
    match takeFirst (fun r => r.fn == f && r.cq == c && s.canPost r) s.qe.ready with
    | some (r, rest) => (({ s with qe := { s.qe with ready := rest } }).postReady r).postRing f c n
    | none => s

/-- Posts the pending chimes in code order while the ring has room (R94 step 3). -/
def State.postChimes (s : State) (f c : Nat) : List Chime → State
  | [] => s.modFctx f fun x => { x with chimes := [] }
  | m :: t =>
    if s.cqRoom f c then (s.postChime f c m).postChimes f c t
    else s.modFctx f fun x => { x with chimes := m :: t }

/-- What CHIME_POST does (R94): waiting completions, CHIME_LOST, then the pending chimes. -/
def State.chimePost (s : State) (f : Nat) : State :=
  if s.fld .qeEvtCfg f 0 31 31 = 0 then s
  else
    match s.eventRing f with
    | none => s
    | some c =>
      let s := s.postRing f c s.qe.ready.length
      if s.qe.ready.any fun r => r.fn == f && r.cq == c then s
      else
        let n := (s.fctx f).lost
        if 0 < n ∧ s.cqRoom f c = false then s
        else
          let s := if 0 < n then (s.modFctx f fun x => { x with lost := 0 }).postChime f c ⟨7, min n 0xFFFFFFFF, 0, 0⟩
                   else s
          s.postChimes f c (s.fctx f).chimes

/-! ### Ring failure (R101) -/

/-- An uncorrectable error in the context of a ring that is in service (R101). -/
def State.failRing (s : State) (cq : Bool) (f ring : Nat) : State :=
  if cq then
    let q := s.cq f ring
    if !q.enabled || q.failed then s
    else
      let s := s.setCq f ring { q with failed := true }
      let s := { s with qe := { s.qe with ready := s.qe.ready.filter fun r => !(r.fn == f && r.cq == ring) } }
      let s := s.setFld .qeStatus f 0 4 4 1
      let n := s.nextSeq
      (s.logEv .ctxUe (s.tenant f) ring 1).chime f 4 ring 1 n
  else
    let q := s.sq f ring
    if !q.enabled || q.failed then s
    else
      let s := s.setSq f ring { q with failed := true }
      let s := s.setFld .qeStatus f 0 4 4 1
      let n := s.nextSeq
      (s.logEv .ctxUe (s.tenant f) ring 0).chime f 4 ring 0 n

/-! ### The task-register window (R102 to R104, R110) -/

/-- The entry a window command is built into (R110). -/
def State.windowEntry (s : State) (f : Nat) : Entry :=
  BitVec.ofNat 512 (natLE ([BitVec.ofNat 8 (s.reg .taskOpcode f 0), 0, 0, 0] ++
    (List.range 8).flatMap fun k => bytesLE 4 (s.reg .taskParam f k)))

def State.windowBusy (s : State) (f : Nat) : Bool := bitOf (s.reg .taskStatus f 0) 31

/-- A write to TASK_GO (R103, R104). -/
def State.taskGo (s : State) (f v : Nat) : State :=
  if !s.qe.window || !s.hasFn f then s
  else if v % 4 = 1 then
    if s.windowBusy f then s.bump .qeBadDb f 0
    else
      let s := s.setReg .taskStatus f 0 (2 ^ 31 + s.reg .taskStatus f 0 % 65536)
      let q := s.sq f windowRing
      (s.setSq f windowRing { q with enabled := true }).publish f windowRing ((q.tail + 1) % 2)
  else if v % 4 = 2 then
    if !s.windowBusy f then s
    else if s.qe.cmds.any fun c => c.fn == f && c.ring == windowRing && c.accepted then s
    else
      let s := ((s.unaccepted f windowRing).foldl (fun s c => s.abandonCmd c) s).freeParty (.ring f windowRing)
      let q := s.sq f windowRing
      let s := s.setSq f windowRing { q with head := q.tail, pubs := [] }
      let st := 2 ^ 29 + s.reg .taskStatus f 0 % 65536
      (s.setReg .taskStatus f 0 st).chime f 6 st 0
  else s

/-! ### The commands -/

/-- SQ_DOORBELL (R80, R81). -/
def execSqDoorbell (fn off width value : Nat) (s : State) : Host.Outcome State Fault Refusal :=
  .next (s.hostWrite (.bell fn off width value) fun s => s.bellWrite fn off width value)

/-- CQ_DOORBELL (R80, R81). -/
def execCqDoorbell (fn off width value : Nat) (s : State) : Host.Outcome State Fault Refusal :=
  .next (s.hostWrite (.bell fn off width value) fun s => s.bellWrite fn off width value)

/-- QE_PEAL_COMMIT (R83). -/
def execQePealCommit (fn page : Nat) (seq : Word) (s : State) : Host.Outcome State Fault Refusal :=
  .next (s.regWrite (.fn fn) .qePealCommit page seq fun s v => s.pealCommit fn page v)

/-- CQ_MODERATION_TIMER (R91): the time runs from the first entry after the last signal; a time of 0 disables it. [DESIGN CHOICE, log entry 66] -/
def execCqModerationTimer (fn cq : Nat) (s : State) : Host.Outcome State Fault Refusal :=
  let q := s.cq fn cq
  if q.enabled ∧ 0 < q.since ∧ q.modTime ≠ 0 then .next ((s.setCq fn cq { q with due := true }).signal fn cq)
  else .next s

/-- MSIX_ENABLE (R91): the host writes the function's MSI-X Enable bit. [PRESUMED, log entry 20] -/
def execMsixEnable (fn : Nat) (enable : Bool) (s : State) : Host.Outcome State Fault Refusal :=
  let s := s.modFctx fn fun x => { x with msix := enable }
  .next (if enable then s.signalAll fn else s)

/-- MSIX_VECTOR_UNMASK (R91): the held message of a vector whose Pending Bit is set is sent. [PRESUMED, log entry 20] -/
def execMsixVectorUnmask (fn vector : Nat) (s : State) : Host.Outcome State Fault Refusal :=
  let held := (s.fctx fn).pba.contains vector
  let s := s.modFctx fn fun x =>
    { x with masked := x.masked.filter (· != vector), pba := x.pba.filter (· != vector) }
  .next (if held then s.emit (.msix fn vector) else s)

/-- QE_SQ_RESET (R98). -/
def execQeSqReset (fn : Nat) (value : Word) (s : State) : Host.Outcome State Fault Refusal :=
  .next (s.regWrite (.fn fn) .qeSqReset 0 value fun s v => s.writeSqReset fn v)

/-- RESET_DONE (R99). -/
def execResetDone (fn ring : Nat) (s : State) : Host.Outcome State Fault Refusal := .next (s.resetDone fn ring)

/-- SQ_ENABLE (R76): a write to QE_SQ_CTRL with enable set. -/
def execSqEnable (fn : Nat) (value : Word) (s : State) : Host.Outcome State Fault Refusal :=
  .next (s.regWrite (.fn fn) .qeSqCtrl 0 value fun s v => s.writeSqCtrl fn v)

/-- SQ_DISABLE (R77): a write to QE_SQ_CTRL with enable clear. -/
def execSqDisable (fn : Nat) (value : Word) (s : State) : Host.Outcome State Fault Refusal :=
  .next (s.regWrite (.fn fn) .qeSqCtrl 0 value fun s v => s.writeSqCtrl fn v)

/-- CQ_ENABLE (R76): a write to QE_CQ_CTRL with enable set. -/
def execCqEnable (fn : Nat) (value : Word) (s : State) : Host.Outcome State Fault Refusal :=
  .next (s.regWrite (.fn fn) .qeCqCtrl 0 value fun s v => s.writeCqCtrl fn v)

/-- CQ_DISABLE (R76): a write to QE_CQ_CTRL with enable clear. -/
def execCqDisable (fn : Nat) (value : Word) (s : State) : Host.Outcome State Fault Refusal :=
  .next (s.regWrite (.fn fn) .qeCqCtrl 0 value fun s v => s.writeCqCtrl fn v)

/-- TASK_GO_START (R103). -/
def execTaskGoStart (fn : Nat) (value : Word) (s : State) : Host.Outcome State Fault Refusal :=
  .next (s.regWrite (.fn fn) .taskGo 0 value fun s v => s.taskGo fn v)

/-- TASK_GO_ABORT (R104). -/
def execTaskGoAbort (fn : Nat) (value : Word) (s : State) : Host.Outcome State Fault Refusal :=
  .next (s.regWrite (.fn fn) .taskGo 0 value fun s v => s.taskGo fn v)

/-- RING_CONTEXT_UE (R101). -/
def execRingContextUe (cq : Bool) (fn ring : Nat) (s : State) : Host.Outcome State Fault Refusal :=
  .next (s.failRing cq fn ring)

end Sys2Proof.Machine
end

