-- ==== Sys2Proof/Machine/Units.lean ====
section
/-! DEFINITION. Units: what the grade provides, what is active, the limits that follow, and what a kind below its
minimum stops (01 R20 to R25, 00 R1). -/

namespace Sys2Proof.Machine

/-- Units of a COUNT type present on the grade (R1, R35). -/
def State.present (s : State) (t : Nat) : Nat :=
  match t with
  | 1 => 136
  | 2 => if s.board.lite then 72 else 96
  | 3 => if s.board.lite then 12 else 16
  | 4 => if s.board.lite then 12 else 16
  | 5 => if s.board.lite then 24 else 32
  | 6 => 8
  | 7 => 6
  | 8 => s.parts
  | _ => 0

/-- Engines of a kind that are retired. -/
def State.enginesRetired (s : State) (dx : Nat) : Nat :=
  (s.cx.engines.filter fun e => e.1 / 32 == dx && e.2.retired).length

/-- Whether a unit is retired, by COUNT type and number (R22). -/
def State.isRetired (s : State) (t n : Nat) : Bool :=
  match t with
  | 1 => s.wc.retired.contains n
  | 2 => s.ed.retired.contains n
  | 3 => ((s.cx.engines.find n).map (·.retired)).getD false
  | 4 => ((s.cx.engines.find (32 + n)).map (·.retired)).getD false
  | 5 => s.ce.retired.contains n
  | 6 => ((s.mc.pairs.find (n / 2)).map (·.retired)).getD false
  | 7 => s.sm.readersRetired.contains n
  | _ => false

/-- Units of a COUNT type in service (R35): for track channels, the tracks that can run at once. -/
def State.active (s : State) (t : Nat) : Nat :=
  match t with
  | 1 => min (if s.board.lite then 96 else 128) (136 - s.wc.retired.length)
  | 2 => s.present 2 - s.ed.retired.length
  | 3 => s.present 3 - s.enginesRetired 0
  | 4 => s.present 4 - s.enginesRetired 1
  | 5 => s.present 5 - s.ce.retired.length
  | 6 => 2 * (s.mc.pairs.filter fun e => e.2.active).length
  | 7 => 6 - s.sm.readersRetired.length
  | 8 => s.parts
  | _ => 0

/-- What a retirement does beside the unit itself (R22): the event, the owner's chime, the KLT. [DESIGN CHOICE, log entry 17] -/
def State.tellRetired (s : State) (t n : Nat) : State :=
  ((s.logEv .unitRetired 0 (t * 65536 + n) 0).chimeOwner 5 t n).kltTrigger .all false

/-- Foreground work needs a unit under slice test: the test stops and the unit returns (R484). -/
def State.yieldUnit (s : State) (t n : Nat) : State :=
  if s.ms.slice = some (t, n) then ({ s with ms := { s.ms with slice := none } }).bump .msSliceYields 0 0 else s

/-- Least number of active units of a type (R20). -/
def unitMin (t : Nat) : Nat :=
  match t with
  | 1 => 96 | 2 => 24 | 3 => 1 | 4 => 1 | 5 => 2 | 6 => 2 | 7 => 2 | _ => 0

def State.below (s : State) (t : Nat) : Bool := decide (s.active t < unitMin t)

/-- Maximum tape speed in units of 0.05 m/s, for N active tracks (R24). -/
def State.vMax (s : State) (n : Nat) : Nat :=
  if n = 0 then 240 else min 240 (240 * s.active 2 * 128 / (96 * n))

/-- Native throughput in byte/s with every track at a step that carries `f` frames (R24, R36). -/
def State.nativeRate (s : State) (f : Nat) : Nat :=
  let n := s.active 1
  s.vMax n * min 38 (n * f / 256) * 445440 * 30 * 500 / (240 * 32)

/-- The tape path has no cipher: cores below their minimum, or the TRNG has failed (R25, R256). -/
def State.noCipher (s : State) : Bool := s.below 5 || s.ce.failed

/-- The detail with which commands that need tape fail while servo or transport cannot serve (R25, R323, R406). -/
def State.transportDown (s : State) : Bool := s.below 7 || s.wc.wfault || decide (3 ≤ s.sm.state)

/-- Why write-class commands cannot be served: the WRITE_FAULT detail (R25, R148, R164, R417). -/
def State.writeBlock (s : State) : Option Nat :=
  if s.ct.removed then some 6
  else if s.below 1 || s.pe.refused then some 1
  else if s.below 2 then some 2
  else if s.below 3 then some 3
  else if s.noCipher then some 4
  else if s.transportDown then some 5
  else none

/-- Why reads from tape cannot be served: the READ_FAULT detail (R25, R148). -/
def State.readBlock (s : State) : Option Nat :=
  if s.ct.removed then some 6
  else if s.below 2 then some 2
  else if s.below 4 then some 3
  else if s.noCipher then some 4
  else if s.transportDown then some 5
  else none

/-- Value and unit code of a LIMIT record in a function's view (R36): the limits marked share report the function's
part in a non-owner's view. -/
def State.limit (s : State) (f : Fn) (id : Nat) : Nat × Nat :=
  let share := fun (total : Nat) (r : RegName) => if s.isOwner f then total else s.alloc r f
  match id with
  | 0x01 => (660000000, 3)
  | 0x02 => (2000, 5)
  | 0x03 => (s.vMax (s.active 1) * 50, 5)
  | 0x04 => (s.nativeRate 64, 4)
  | 0x05 => (s.nativeRate 76, 4)
  | 0x06 => (min 24000000000 (1600000000 * s.active 3), 4)
  | 0x07 => (1600000000 * s.active 3, 4)
  | 0x08 => (share 262144 .hiFnSqCount, 1)
  | 0x09 => (share 65536 .hiFnCqCount, 1)
  | 0x0A => (share 4096 .hiFnVecCount, 1)
  | 0x0B => (share 65536 .hiFnStreamQuota, 1)
  | 0x0C => (255, 1)
  | 0x0D => (share 4096 .hiFnKeyCount, 1)
  | 0x0E => (16384, 1)
  | 0x0F => (65536, 1)
  | 0x10 => (510, 1)
  | 0x11 => (16777216, 2)
  | 0x12 => (67108864, 2)
  | 0x13 => (65536, 2)
  | 0x14 => (4294967296, 1)
  | 0x15 => (s.usableMiB * 1048576, 2)
  | 0x16 => (4096, 1)
  | 0x17 => (8388608, 2)
  | _ => (0, 1)

end Sys2Proof.Machine
end

