-- ==== Sys2Proof/Machine/Fetch.lean ====
section
/-! DEFINITION. Fetch (04 R84 to R86, R95) and the checks of the fetch phase (05 R106, R111, R112, R119, R144). -/

namespace Sys2Proof.Machine

/-! ### What an opcode uses of an entry (R106, and the field lists of 05) -/

/-- The parts of an entry an opcode uses: allowed flag bits, and used bytes as offset and length. -/
structure OpForm where
  flags : Nat
  used : List (Nat × Nat)
  deriving DecidableEq, Repr

/-- data_addr and data_len. -/
def fData : List (Nat × Nat) := [(16, 12)]
def fHandle : Nat × Nat := (4, 4)
def fRecord : Nat × Nat := (8, 8)
def fCount : Nat × Nat := (28, 2)
def fAux : Nat × Nat := (30, 2)
def fList : Nat × Nat := (32, 8)

/-- The form of each opcode (R111, R114 to R143); none for an opcode the RFX does not implement. -/
def opForm (op : Nat) : Option OpForm :=
  match op with
  | 0x01 => some ⟨3, fData⟩
  | 0x02 => some ⟨2, []⟩
  | 0x03 => some ⟨30, [fHandle, fRecord, fAux, (40, 16)]⟩
  | 0x04 => some ⟨0, [fHandle]⟩
  | 0x10 => some ⟨7, [fHandle, fRecord, (16, 14), fList]⟩
  | 0x11 => some ⟨1, [fHandle, fRecord, (16, 14), fList]⟩
  | 0x12 => some ⟨0, [fHandle]⟩
  | 0x13 => some ⟨0, [fHandle, fRecord, fAux]⟩
  | 0x14 => some ⟨0, [fHandle, fRecord]⟩
  | 0x15 => some ⟨2, [fHandle, fRecord, (16, 8)]⟩
  | 0x16 => some ⟨0, [fHandle]⟩
  | 0x20 => some ⟨1, [fHandle, (16, 12)]⟩
  | 0x21 => some ⟨1, [fRecord, (16, 12), fAux]⟩
  | 0x22 => some ⟨1, [fHandle, fRecord, (16, 14)]⟩
  | 0x30 => some ⟨15, [fHandle, (16, 12)]⟩
  | 0x31 => some ⟨2, [fHandle]⟩
  | 0x32 => some ⟨3, [fHandle, (16, 12)]⟩
  | 0x38 => some ⟨3, [fHandle, (16, 12), fList]⟩
  | 0x39 => some ⟨7, [fHandle, (16, 12), fList, (40, 12), (56, 8)]⟩
  | 0x40 => some ⟨1, fData⟩
  | 0x41 => some ⟨3, fData⟩
  | 0x50 => some ⟨0, [fHandle, fAux]⟩
  | 0x51 => some ⟨2, []⟩
  | 0x52 => some ⟨0, [fHandle, fAux]⟩
  | 0x53 => some ⟨0, []⟩
  | 0x60 => some ⟨0, []⟩
  | 0x61 => some ⟨1, [fRecord, (16, 12)]⟩
  | 0x62 => some ⟨0, []⟩
  | 0x63 => some ⟨0, []⟩
  | 0x64 => some ⟨0, []⟩
  | 0x65 => some ⟨0, []⟩
  | 0x70 => some ⟨1, [fHandle, fRecord, (16, 12), fAux]⟩
  | _ => none

/-- LOOP_TEST depth codes (R487). -/
def loopDepth (aux : Nat) : Bool :=
  [0x01, 0x02, 0x03, 0x10, 0x20, 0x21, 0x22, 0x30, 0x31, 0x32, 0x33, 0x40, 0x50, 0x60, 0x61].contains aux

/-- Offset of the first non-zero byte that the opcode does not use (R106). -/
def firstUnused (u : OpForm) (e : Entry) : Option Nat :=
  (List.range 64).find? fun o =>
    decide (4 ≤ o) && !(u.used.any fun r => decide (r.1 ≤ o ∧ o < r.1 + r.2)) && entryField e o 1 != 0

/-- Handles that LOOP_TEST's depth allows (R487). -/
def loopHandleOk (s : State) (aux h : Nat) : Bool :=
  if aux ≤ 0x03 then decide (h < s.parts)
  else if aux = 0x10 then true
  else if aux ≤ 0x22 then decide (h < 4)
  else if aux ≤ 0x32 then decide (h < 136) || h == 0xFFFFFFFF
  else if aux = 0x33 then decide (h < 256)
  else if aux = 0x40 then decide (h < 6)
  else if aux = 0x50 then decide (h < 2)
  else h == 0

/-- The handle of SELF_TEST or UNIT_CTRL names a unit: COUNT type in [23:16] and number in [15:0] (R484 to R486). -/
def unitHandleOk (s : State) (h : Nat) : Bool :=
  decide (1 ≤ h / 65536 ∧ h / 65536 ≤ 7 ∧ h % 65536 < s.present (h / 65536))

/-- Offsets of the fields whose value is out of range, by opcode (R106, R116, R119, R137 to R144, R237 to R241, R487).
-/
def badFields (s : State) (f : Fn) (e : Entry) : List Nat :=
  let op := entOpcode e
  let fl := entFlags e
  let len := entLen e
  let cnt := entCountM1 e + 1
  let chk := fun (bad : Bool) (off : Nat) => if bad then [off] else []
  let strm := chk (decide (s.alloc .hiFnStreamQuota f ≤ entHandle e)) 4
  let slot := chk (decide (s.keyCount f ≤ entHandle e)) 4
  let lst := chk (bitOf fl 0 && entData e % 16 != 0) 16
  match op with
  | 0x01 => lst
  | 0x03 => strm ++ chk (entRecord e == noRecord) 8 ++
      chk (entAux e != 0xFFFF && decide (s.keyCount f ≤ entAux e)) 30 ++ chk (bitOf fl 2 && !bitOf fl 1) 1
  | 0x04 | 0x12 | 0x13 | 0x14 | 0x15 | 0x16 => strm
  | 0x10 =>
      let trunc := bitOf fl 2
      let one := cnt == 1 && !bitOf fl 1
      strm ++ lst ++ chk (trunc && len != 0) 24 ++ chk (trunc && entCountM1 e != 0) 28 ++
      chk (!trunc && decide (len < cnt)) 24 ++
      chk (!trunc && one && entList e == 0 && decide (16777216 < len)) 24 ++
      chk (entList e % 16 != 0 || (!trunc && entList e == 0 && !one)) 32 ++
      chk (((s.bufMax f).map fun m => decide (m < len)).getD false) 24
  | 0x11 => strm ++ lst ++ chk (entList e % 16 != 0) 32
  | 0x20 => strm ++ lst ++ chk (decide (len < 64)) 24
  | 0x21 => lst ++ chk (!decide (1 ≤ entAux e ∧ entAux e ≤ 5)) 30
  | 0x22 => strm ++ lst ++ chk (decide (len < 40)) 24
  | 0x30 => lst ++ (if bitOf fl 1 then chk (entHandle e != 0) 4 ++ chk (len != 144) 24
                    else slot ++ chk (len != 56) 24)
  | 0x31 => if bitOf fl 1 then chk (entHandle e != 0) 4 else slot
  | 0x32 => lst ++ (if bitOf fl 1 then [] else slot ++ chk (decide (len < 32)) 24)
  | 0x38 => slot ++ lst
  | 0x39 => slot ++ lst ++ chk (bitOf fl 1 && bitOf fl 2) 1
  | 0x40 => lst ++ chk (len != 64) 24
  | 0x41 => lst ++ (if bitOf fl 1 then chk (!decide (1 ≤ len ∧ len ≤ 255)) 24 else chk (len != 0) 24)
  | 0x50 => chk (!decide (1 ≤ entAux e ∧ entAux e ≤ 2)) 30 ++
      chk (!(if entAux e = 1 then unitHandleOk s (entHandle e) else decide (1 ≤ entHandle e / 65536 ∧ entHandle e / 65536 ≤ 7))) 4
  | 0x52 => chk (!decide (1 ≤ entAux e ∧ entAux e ≤ 3)) 30 ++
      chk (!unitHandleOk s (entHandle e)) 4
  | 0x61 => lst
  | 0x70 => lst ++ chk (!loopHandleOk s (entAux e) (entHandle e)) 4 ++ chk (!loopDepth (entAux e)) 30 ++
      chk (!decide (1 ≤ entRecord e ∧ entRecord e ≤ 60000000)) 8
  | _ => []

/-- INVALID_FIELD with the lowest offset among what is wrong: an unused flag bit (1), the first non-zero unused byte,
a field out of range (R106, R148). [DESIGN CHOICE, log entry 57] -/
def fieldCheck (s : State) (f : Fn) (u : OpForm) (e : Entry) : Option Nat :=
  let flag := if (entFlags e) &&& (255 - u.flags) = 0 then [] else [1]
  let l := flag ++ (firstUnused u e).toList ++ badFields s f e
  if l.isEmpty then none else some (l.foldl min 64)

/-- The fetch-phase checks in order (R112): status and detail of the first that fails. -/
def fetchCheck (s : State) (f ring : Nat) (e : Entry) : Option (Nat × Nat) :=
  let tagUsed := (s.qe.cmds.any fun c => c.fn == f && c.ring == ring && entTag c.entry == entTag e) ||
    s.qe.ready.any fun r => r.fn == f && r.ring == ring && r.kind == 0 && r.tag == entTag e
  if s.qe.leaving then some (stLeavingService, 0)
  else if tagUsed then some (stTagInUse, 0)
  else
    match opForm (entOpcode e) with
    | none => some (stInvalidOpcode, 0)
    | some u =>
      if ring = windowRing ∧ (entOpcode e = 0x38 ∨ entOpcode e = 0x39) then some (stInvalidOpcode, 0)
      else if needsOwner e && !(s.isOwner f && s.hi.ownerNext.isNone) then some (stNotOwner, 0)
      else (fieldCheck s f u e).map fun d => (stInvalidField, d)

/-! ### Choosing a ring (R84) -/

/-- Entries fetched and not accepted, of one ring (R86). -/
def State.stagedCount (s : State) (f ring : Nat) : Nat :=
  (s.qe.cmds.filter fun c => c.fn == f && c.ring == ring && !c.accepted).length

/-- A ring QE may fetch from: in service, with published, unfetched entries and fewer than 64 staged (R84, R86, R98,
R101). -/
def State.fetchable (s : State) (f ring : Nat) : Bool :=
  let q := s.sq f ring
  q.enabled && !q.failed && !q.resetting && decide (0 < s.unfetched f ring) && decide (s.stagedCount f ring < 64) &&
    (ring == windowRing || !(s.cq f (s.boundCq f ring)).failed)

/-- A function's rings with entries to fetch, in ring order; the window's hidden ring last. -/
def State.fnRings (s : State) (f : Fn) : List Nat :=
  (s.qe.sqs.filter fun e => e.1.unpair.1 == f && s.fetchable f e.1.unpair.2).map fun e => e.1.unpair.2

def State.ringPrio (s : State) (f ring : Nat) : Nat := if ring = windowRing then 0 else s.fld .qeSqCtrl f ring 3 2

/-- The ring served next within a function: highest priority, then round robin after the ring served last (R84). -/
def State.pickRing (s : State) (f : Fn) : Option Nat :=
  let rs := s.fnRings f
  let top := (rs.map (s.ringPrio f)).foldl max 0
  let best := sortBy id (rs.filter fun r => s.ringPrio f r == top)
  match best.find? fun r => decide ((s.fctx f).lastRing < r) with
  | some r => some r
  | none => best.head?

def State.eligible (s : State) (f : Fn) : Bool := !(s.fnRings f).isEmpty

/-- Functions in the order in which they take turns in a round: from the one after `start` (R84). -/
def State.roundFrom (s : State) (start : Nat) : List Fn :=
  let all := s.allFns
  (all.filter fun f => decide (start < f)) ++ all.filter fun f => decide (f ≤ start)

/-- Runs the deficit round robin until a function may fetch (R84). An eligible function earns weight × 4 entries at
its turn; one that is not loses a positive deficit. -/
def State.drr (s : State) : Nat → State × Option Fn
  | 0 => (s, none)
  | n + 1 =>
    match s.qe.turns with
    | f :: rest =>
      let s := { s with qe := { s.qe with turns := rest } }
      if s.eligible f then
        let d := (s.fctx f).deficit + (s.weight f * 4 : Nat)
        let s := s.modFctx f fun x => { x with deficit := d }
        if 0 < d then ({ s with qe := { s.qe with serving := some f } }, some f) else s.drr n
      else
        (s.modFctx f fun x => { x with deficit := min x.deficit 0 }).drr n
    | [] =>
      let order := s.roundFrom s.qe.roundStart
      match order with
      | [] => (s, none)
      | g :: _ => ({ s with qe := { s.qe with turns := order, roundStart := g } }).drr n

/-- The function QE fetches for next (R84). -/
def State.pickFn (s : State) : State × Option Fn :=
  if !(s.allFns.any s.eligible) then (s, none)
  else
    match s.qe.serving with
    | some f =>
      if s.eligible f && decide (0 < (s.fctx f).deficit) then (s, some f)
      else
        let s := if s.eligible f then s else s.modFctx f fun x => { x with deficit := min x.deficit 0 }
        ({ s with qe := { s.qe with serving := none } }).drr 100000
    | none => s.drr 100000

/-! ### Taking entries -/

/-- Stamp of the entry at a ring's head (R85). -/
def SqCtx.headStamp (q : SqCtx) : Nat := (q.pubs.head?.map (·.2)).getD 0

/-- QE moves past the entry at a ring's head. -/
def State.advance (s : State) (f ring : Nat) : State :=
  let q := s.sq f ring
  let h := (q.head + 1) % s.sqSize f ring
  s.setSq f ring { q with head := h, pubs := if (q.pubs.head?.map (·.1)) == some h then q.pubs.drop 1 else q.pubs }

/-- Takes one fetched entry: a ring under LOOP_TEST depth 0x10 echoes it (R489); a failed check completes it at once
(R112); otherwise it is staged. [DEDUCED, log entry 23] -/
def State.takeEntry (s : State) (f ring : Nat) (e : Entry) : State :=
  let stamp := (s.sq f ring).headStamp
  let s := s.advance f ring
  if (s.sq f ring).echo then
    let q := s.sq f ring
    (s.setSq f ring { q with echoed := q.echoed + 1 }).makeReady f ring (entTag e) stSuccess 0
      (crc32c (bytesLE 64 e.toNat)).toNat
  else
    match fetchCheck s f ring e with
    | some (st, d) => s.makeReady f ring (entTag e) st d 0
    | none =>
      { s with qe := { s.qe with
        nextId := s.qe.nextId + 1
        cmds := s.qe.cmds ++ [
          { id := s.qe.nextId, fn := f, ring := ring, entry := e, stamp := stamp, phase := .staged, lock := none,
            stream := none, first := 0, count := 0, truncates := false, held := 0, overdraft := 0, recs := [],
            order := 0 }] } }

/-- Takes the entries of one fetch (R84, R86). -/
def State.takeEntries (s : State) (f ring : Nat) (es : List Entry) : State :=
  es.foldl (fun s e => s.takeEntry f ring e) s

/-- How many entries one fetch takes of those that host memory returned (R84, R86). -/
def State.fetchLen (s : State) (f ring n : Nat) : Nat :=
  min (min 64 (s.unfetched f ring)) (min (64 - s.stagedCount f ring) n)

/-- ENTRY_FETCH (R84): the entries are what host memory holds from the ring's head on, within one maximum read
request. -/
def State.fetch (s : State) (entries : List Entry) : State :=
  match s.pickFn with
  | (s', none) => s'
  | (s', some f) =>
    match s'.pickRing f with
    | none => s'
    | some ring =>
      let es := if ring = windowRing then [s'.windowEntry f] else entries
      let n := s'.fetchLen f ring es.length
      let s' := s'.modFctx f fun x => { x with deficit := x.deficit - (n : Nat), lastRing := ring }
      s'.takeEntries f ring (es.take n)

def execEntryFetch (entries : List Entry) (s : State) : Host.Outcome State Fault Refusal := .next (s.fetch entries)

end Sys2Proof.Machine
end

