-- ==== Sys2Proof/Machine/Resolve.lean ====
section
/-! DEFINITION. Resolution at the range-lock table (04 R85, 05 R112, R116 to R118, R120, R134 to R136), data transfer
and sequencing of the write class (05 R119 to R122, 07 R192). -/

namespace Sys2Proof.Machine

/-! ### Data buffers (R108) -/

/-- Entries of a buffer list up to the one at which their lengths sum to `n`; none for a bad list. -/
def takePieces : Nat → List BufPiece → Option (List BufPiece)
  | 0, _ => some []
  | _, [] => none
  | n, p :: t =>
    if p.len = 0 ∨ n < p.len then none else (takePieces (n - p.len) t).map (p :: ·)

/-- The pieces of a command's data buffer, `listed` being what its buffer list holds in host memory. -/
def Cmd.buffer (c : Cmd) (listed : List BufPiece) : Option (List BufPiece) :=
  if bitOf (entFlags c.entry) 0 then takePieces (entLen c.entry) listed
  else some [⟨entData c.entry, entLen c.entry⟩]

/-- A write to host memory for a command; none once the command's function has been reset (R70, R100). [DESIGN CHOICE, log entry 65] -/
def State.dmaFor (s : State) (c : Cmd) (addr : Nat) (data : Bytes) : State :=
  if c.ring = goneRing then s else s.emit (.dma c.fn addr data)

/-- Writes bytes to the front of a data buffer. -/
def State.scatter (s : State) (c : Cmd) (data : Bytes) : List BufPiece → State
  | [] => s
  | p :: t =>
    if data.isEmpty then s
    else (s.dmaFor c p.addr (data.take p.len)).scatter c (data.drop p.len) t

/-! ### Which stream a command names -/

/-- Opcodes that work on a stream through its handle (R111). -/
def usesHandle (op : Nat) : Bool :=
  op == 0x04 || isWriteClass op || isReadClass op || op == 0x16 || op == 0x20 || op == 0x22

/-- The key of the stream a command that is not resolved names: by the stream's own number for OPEN_STREAM, by the
handle otherwise (R85). -/
def State.names (s : State) (c : Cmd) : Option Nat :=
  if entOpcode c.entry = 0x03 then some (streamKey (s.tenant c.fn) (entRecord c.entry))
  else if usesHandle (entOpcode c.entry) then (s.byHandle c.fn (entHandle c.entry)).map (·.1)
  else none

/-- Two commands of one function that name the same stream, or the same handle. -/
def State.sameStream (s : State) (a b : Cmd) : Bool :=
  let st := fun (c : Cmd) => entOpcode c.entry == 0x03 || usesHandle (entOpcode c.entry)
  st a && st b && a.fn == b.fn &&
    (entHandle a.entry == entHandle b.entry || ((s.names a).isSome && s.names a == s.names b))

/-- Every entry the function published earlier has been fetched (R85). A failed ring is not waited for: the RFX no
longer knows what it held (R101). [DEDUCED, log entry 25] -/
def State.earlierFetched (s : State) (c : Cmd) : Bool :=
  !(s.qe.sqs.any fun e => e.1.unpair.1 == c.fn && !e.2.failed && e.2.pubs.any fun p => decide (p.2 < c.stamp))

/-- Nothing that has to resolve before this command is unresolved (R85): earlier entries of its ring, and earlier
published commands that name its stream. [DEDUCED, log entry 25] -/
def State.firstInOrder (s : State) (c : Cmd) : Bool :=
  !(s.qe.cmds.any fun d => d.phase == .staged && d.id != c.id && d.fn == c.fn &&
    ((d.ring == c.ring && decide (d.id < c.id)) ||
      (s.sameStream c d && (decide (d.stamp < c.stamp) || (d.stamp == c.stamp && decide (d.id < c.id))))))

/-- A command that uses the read position (R125). -/
def usesPosition (e : Entry) : Bool :=
  let op := entOpcode e
  op == 0x12 || op == 0x15 || ((op == 0x11 || op == 0x14) && entRecord e == noRecord)

/-- No earlier-resolved command that sets the stream's position is still in progress (R125). -/
def State.positionFree (s : State) (c : Cmd) : Bool :=
  !(usesPosition c.entry && s.qe.cmds.any fun d =>
    d.phase != .staged && d.stream.isSome && d.stream == s.names c && isReadClass (entOpcode d.entry))

/-- Entries of the range-lock table in use (R134). -/
def State.locksUsed (s : State) : Nat := (s.qe.cmds.filter fun c => c.phase != .staged && c.lock.isSome).length

/-- Opcodes that take a lock (R111, R135). -/
def takesLock (op : Nat) : Bool := op == 0x04 || isWriteClass op || op == 0x11 || op == 0x12 || op == 0x16

/-- A staged command may resolve now (R85, R125, R134). -/
def State.mayResolve (s : State) (c : Cmd) : Bool :=
  c.phase == .staged && s.earlierFetched c && s.firstInOrder c && s.positionFree c &&
    (!takesLock (entOpcode c.entry) || decide (s.locksUsed < 16384))

/-! ### Checks of the resolution phase (R112, R116, R117, R119, R120) -/

/-- The media check of a command that works on streams: a mounted, formatted cartridge. [DEDUCED, log entry 26] -/
def State.mediaCheck (s : State) : Option (Nat × Nat) :=
  if s.sessionRuns then some (stMediaBusy, 2)
  else if !s.ct.mounted then some (stNoMedia, 2)
  else if !s.ct.formatted then some (stMediaFormat, 2)
  else none

/-- The first condition of R117 that holds for an OPEN_STREAM. -/
def State.openCheck (s : State) (c : Cmd) : Option (Nat × Nat) :=
  let e := c.entry
  let fl := entFlags e
  let k := streamKey (s.tenant c.fn) (entRecord e)
  let slot := s.slot (s.keyBase c.fn + entAux e)
  match s.mediaCheck with
  | some r => some r
  | none =>
    if (s.byHandle c.fn (entHandle e)).isSome then some (stStreamState, 2)
    else if bitOf fl 2 && (s.stream? k).isSome then some (stStreamState, 4)
    else if (((s.stream? k).bind (·.handle)).map (·.1)) == some c.fn then some (stStreamState, 5)
    else if !bitOf fl 2 && (s.stream? k).isNone then some (stNotFound, 1)
    else if bitOf fl 1 && s.ct.readOnly then some (stWriteProtected, 0)
    else if entAux e = 0xFFFF then none
    else if slot.state = 0 then some (stNoKey, 0)
    else if slot.raw then some (stKeyClass, 0)
    else none

/-- The record a command names, once APPEND or POSITION has been replaced (R107). -/
def Stream.startOf (x : Stream) (e : Entry) : Nat :=
  if isWriteClass (entOpcode e) then (if entRecord e = noRecord then x.endNum else entRecord e)
  else if entOpcode e = 0x11 ∨ entOpcode e = 0x14 then (if entRecord e = noRecord then x.pos.record else entRecord e)
  else if entOpcode e = 0x22 then entRecord e
  else x.pos.record

/-- Stream-state, CRC and numbering checks of a command on an open handle. -/
def streamCheck (x : Stream) (e : Entry) : Option (Nat × Nat) :=
  let op := entOpcode e
  if isWriteClass op && !x.write then some (stStreamState, 3)
  else if op = 0x10 ∧ x.crcRequired = true ∧ bitOf (entFlags e) 1 = false then some (stInvalidField, 1)
  else if isWriteClass op && decide (x.endNum < x.startOf e) then some (stRecordGap, 0)
  else if (op == 0x11 || op == 0x14 || op == 0x22) && decide (x.endNum < x.startOf e) then some (stNotFound, 2)
  else none

/-- Records a write-class command takes (R119, R122). -/
def recordCount (e : Entry) : Nat :=
  if entOpcode e = 0x13 then 1 else if bitOf (entFlags e) 2 then 0 else entCountM1 e + 1

/-- The lock of R135; none where the range is empty or the opcode takes no lock. -/
def lockOf (k : Nat) (x : Stream) (e : Entry) : Option Lock :=
  let op := entOpcode e
  let r := x.startOf e
  if isWriteClass op then
    if r < x.endNum ∨ recordCount e = 0 then some ⟨k, true, r, noRecord - 1⟩
    else some ⟨k, true, r, r + recordCount e - 1⟩
  else if op = 0x11 then some ⟨k, false, r, r + entCountM1 e⟩
  else if op = 0x12 then some ⟨k, false, r, r⟩
  else if op = 0x16 then (if x.endNum = 0 then none else some ⟨k, false, 0, x.endNum - 1⟩)
  else if op = 0x04 then some ⟨k, true, 0, noRecord⟩
  else none

/-! ### Resolving -/

/-- Moves a command into the resolved phase, waiting for its locks. -/
def State.placeResolved (s : State) (c : Cmd) (k : Option Nat) (lock : Option Lock) (first count : Nat)
    (truncates : Bool) : State :=
  let s := s.setCmd { c with phase := .waiting, stream := k, lock := lock, first := first, count := count,
                             truncates := truncates, order := s.qe.resolved }
  { s with qe := { s.qe with resolved := s.qe.resolved + 1 } }

/-- A stream that nothing has been recorded for yet (R150). -/
def stream0 (tenant sid : Nat) : Stream :=
  { tenant := tenant, sid := sid, handle := none, index := 0, opening := false, closing := none, write := false,
    noCompress := false, crcRequired := false, keySlot := none, rate := 0, size := 0, affinity := 0, endNum := 0,
    seqEnd := 0, recs := [], placed := ⟨0, 0⟩, runEnd := 0, readyAge := 0, durable := 0, mark := ⟨0, 0⟩,
    pos := ⟨0, 0⟩, partialRead := false, held := 0, overdraft := 0, zeroTold := false, err := none,
    truncPending := false, truncFrom := 0, cxCount := 1 }

/-- Compressors a rate hint asks for (R177): the rate over 1.6 GB/s, rounded up, at most the active ones. -/
def State.cxFor (s : State) (rate : Nat) : Nat := max 1 (min (s.active 3) ((rate + 1599) / 1600))

/-- Binds a stream to a handle (R116, R150, R153). An error that an earlier CLOSE_STREAM has yet to report stays (R118). -/
def State.bindStream (s : State) (c : Cmd) : State :=
  let e := c.entry
  let fl := entFlags e
  let k := streamKey (s.tenant c.fn) (entRecord e)
  let x := (s.stream? k).getD (stream0 (s.tenant c.fn) (entRecord e))
  let s := if (s.stream? k).isNone then { s with pe := { s.pe with creations := s.pe.creations ++ [k] } } else s
  s.setStream k { x with
    handle := some (c.fn, entHandle e), index := entHandle e, opening := true, write := bitOf fl 1, noCompress := bitOf fl 3,
    crcRequired := bitOf fl 4, keySlot := if entAux e = 0xFFFF then none else some (entAux e),
    rate := entryField e 40 4, size := entryField e 44 4, affinity := entryField e 48 8,
    pos := ⟨0, 0⟩, partialRead := false, err := x.err.filter (·.pending), zeroTold := false, cxCount := s.cxFor (entryField e 40 4) }

/-- Releases a stream's ready data as its run (R158): everything resolved so far. -/
def Stream.releaseRun (x : Stream) : Stream := { x with runEnd := x.endNum }

/-- Resolves an OPEN_STREAM (R116, R117). -/
def State.resolveOpen (s : State) (c : Cmd) : State :=
  match s.openCheck c with
  | some (st, d) => s.endCmd c st d 0
  | none =>
    let k := streamKey (s.tenant c.fn) (entRecord c.entry)
    (s.bindStream c).placeResolved c (some k) none 0 0 false

/-- What resolving does to the stream itself: the end moves (R120), a SYNC or close releases the run and asks for a
book dataset where a truncation is pending (R158, R168), a close frees the handle (R118). -/
def resolveStream (x : Stream) (c : Cmd) : Stream :=
  let op := entOpcode c.entry
  if isWriteClass op then { x with endNum := x.startOf c.entry + recordCount c.entry }
  else if op = 0x16 then x.releaseRun
  else if op = 0x04 then { x.releaseRun with handle := none, closing := x.handle }
  else x

/-- Releases the ready data of the streams with a stream's tenant and affinity key, as the SYNC or close of that stream
releases data of its own (R158). -/
def State.releaseMates (s : State) (x : Stream) : State :=
  if x.affinity = 0 ∨ x.endNum ≤ max x.placed.record x.runEnd then s
  else { s with pe := { s.pe with streams := s.pe.streams.each fun _ y =>
    if y.tenant = x.tenant ∧ y.affinity = x.affinity then { y with runEnd := max y.runEnd y.seqEnd } else y } }

/-- Resolves a command on an open handle, the checks passed. -/
def State.resolveOn (s : State) (c : Cmd) (k : Nat) (x : Stream) : State :=
  let op := entOpcode c.entry
  let r := x.startOf c.entry
  let first := if op = 0x16 ∨ op = 0x04 then x.endNum else r
  let cnt := if isWriteClass op then recordCount c.entry else 0
  let trunc := isWriteClass op && (decide (r < x.endNum) || recordCount c.entry == 0)
  let s := (s.setStream k (resolveStream x c)).placeResolved c (some k) (lockOf k x c.entry) first cnt trunc
  let s := if op = 0x16 ∨ op = 0x04 then s.releaseMates x else s
  if op = 0x16 ∧ x.truncPending = true then { s with pe := { s.pe with bookDue := true } } else s

/-- Resolves a command of a stream through its handle (R112): a pending deferred error first (R132), then media,
stream state and numbering. -/
def State.resolveHandle (s : State) (c : Cmd) : State :=
  let op := entOpcode c.entry
  match s.byHandle c.fn (entHandle c.entry) with
  | none => let r := s.mediaCheck.getD (stStreamState, 1); s.endCmd c r.1 r.2 0
  | some (k, x) =>
    let c := { c with stream := some k }
    match if readsDeferred op then none else x.pendingDetail with
    | some d => (s.endCmd c stDeferred d 0).setStream k x.reported
    | none =>
      match s.mediaCheck with
      | some (st, d) => s.endCmd c st d 0
      | none =>
        match streamCheck x c.entry with
        | some (st, d) => s.endCmd c st d 0
        | none => s.resolveOn c k x

/-- Resolves a staged command. -/
def State.resolveCmd (s : State) (c : Cmd) : State :=
  let op := entOpcode c.entry
  if op = 0x03 then s.resolveOpen c
  else if usesHandle op then s.resolveHandle c
  else s.placeResolved c none none 0 0 false

/-! ### Locks (R135, R136) -/

/-- Two locks conflict. -/
def Lock.conflicts (a b : Lock) : Bool :=
  a.stream == b.stream && (a.excl || b.excl) && decide (a.lo ≤ b.hi) && decide (b.lo ≤ a.hi)

/-- An earlier-resolved command that has not completed holds a conflicting range (R136). -/
def State.lockBlocked (s : State) (c : Cmd) : Bool :=
  match c.lock with
  | none => false
  | some l => s.qe.cmds.any fun d =>
      d.phase != .staged && decide (d.order < c.order) && ((d.lock.map l.conflicts).getD false)

/-- The handle's OPEN_STREAM has not completed, or, for an OPEN_STREAM, the handle's earlier close has not (R116,
R118). -/
def State.openBlocked (s : State) (c : Cmd) : Bool :=
  if entOpcode c.entry = 0x03 then
    s.pe.streams.any fun e => e.2.closing == some (c.fn, entHandle c.entry)
  else ((c.stream.bind s.stream?).map (·.opening)).getD false

/-- Gives a waiting command its lock and hands it over, if nothing stands in the way (R97, R136). -/
def State.grantCmd (s : State) (c : Cmd) : State :=
  if c.phase == .waiting && !s.lockBlocked c && !s.openBlocked c then s.setCmd { c with phase := .ready } else s

/-- Resolves a command if its turn has come, and hands it over if its lock is free. -/
def State.resolveId (s : State) (id : Nat) : State :=
  match s.cmd? id with
  | some c =>
    if s.mayResolve c then
      let s := s.resolveCmd c
      match s.cmd? id with
      | some c => s.grantCmd c
      | none => s
    else s
  | none => s

/-- LOCK_GRANT for a command by name. -/
def State.grantId (s : State) (id : Nat) : State :=
  match s.cmd? id with
  | some c => s.grantCmd c
  | none => s

/-- Brings a command as far as its execution, if it can get there now: it resolves and takes its locks. -/
def State.bringIn (s : State) (id : Nat) : State := (s.resolveId id).grantId id

/-! ### Transfers of the write class (R119, R192) -/

/-- The record list in force: the one read from host memory, or one record of data_len bytes (R119). -/
def Cmd.recordList (c : Cmd) (recs : List RecItem) : List RecItem :=
  if entOpcode c.entry = 0x13 ∨ recordCount c.entry = 0 then []
  else if entList c.entry = 0 then [⟨entLen c.entry, 0, 0, 0⟩]
  else recs.take (recordCount c.entry)

/-- The checks of the record list (R119), in the table's order. [DEDUCED, log entry 26] -/
def Cmd.listCheck (c : Cmd) (recs : List RecItem) : Option Nat :=
  let l := c.recordList recs
  if entOpcode c.entry = 0x13 ∨ recordCount c.entry = 0 then none
  else if l.length ≠ recordCount c.entry ∨ (l.any fun r => decide (r.len = 0 ∨ 16777216 < r.len)) = true then some 0x41
  else if bitOf (entFlags c.entry) 1 && l.any (fun r => !r.flags.getLsbD 0) then some 0x41
  else if (l.map (·.len)).sum ≠ entLen c.entry then some 24
  else none

/-- The status a stream's key slot gives a write (R253): the slot must still hold a key fit for AEAD. -/
def State.slotCheck (s : State) (c : Cmd) (x : Stream) : Option (Nat × Nat) :=
  match x.keySlot with
  | none => none
  | some n =>
    let k := s.slot (s.keyBase c.fn + n)
    if k.state = 0 then some (stNoKey, 0)
    else if k.state = 3 then some (stExhausted, 0)
    else if k.raw then some (stKeyClass, 0)
    else none

/-- Failures of a write-class command before its transfer (R25, R119, R167, R253). -/
def State.writeFailure (s : State) (c : Cmd) (x : Stream) (pieces : List BufPiece) (recs : List RecItem) :
    Option (Nat × Nat) :=
  match s.writeBlock with
  | some d => some (stWriteFault, d)
  | none =>
    match s.slotCheck c x with
    | some r => some r
    | none =>
      if (c.buffer pieces).isNone then some (stInvalidField, 0x40)
      else
        match c.listCheck recs with
        | some d => some (stInvalidField, d)
        | none => if s.pe.creditClosed then some (stMediaFull, 0) else none

/-- Bytes a write-class command brings. -/
def Cmd.bytes (c : Cmd) : Nat := if entOpcode c.entry = 0x13 then 0 else entLen c.entry

/-- The three conditions of R192. -/
def State.mayStart (s : State) (c : Cmd) (x : Stream) : Bool :=
  let n := c.bytes
  decide (0 < s.credit x) && ((s.bufMax c.fn).map fun m => decide (s.fnHeld c.fn + n ≤ m)).getD true &&
    decide (s.bm.overdraft + (n - s.credit x) ≤ 4096 * mib)

/-- DATA_TRANSFER_START: checks, then the transfer starts and its bytes count toward the held bytes (R192). -/
def State.startTransfer (s : State) (id : Nat) (pieces : List BufPiece) (recs : List RecItem) : State :=
  match s.cmd? id with
  | none => s
  | some c =>
    match c.stream.bind s.stream? with
    | none => s
    | some x =>
      if !isWriteClass (entOpcode c.entry) || c.phase != .ready then s
      else
        match s.writeFailure c x pieces recs with
        | some (st, d) => s.endCmd c st d 0
        | none =>
          if !s.mayStart c x then s
          else
            let n := c.bytes
            let drawn := n - s.credit x
            let k := c.stream.getD 0
            let s := s.setStream k { x with held := x.held + n, overdraft := x.overdraft + drawn }
            let s := { s with bm := { s.bm with overdraft := s.bm.overdraft + drawn } }
            s.setCmd { c with phase := .moving, held := n, overdraft := drawn, recs := c.recordList recs }

/-- Cuts a command's data into records by its list. -/
def cutRecords (num : Nat) (crc : Bool) (data : Bytes) : List RecItem → List Rec
  | [] => []
  | r :: t =>
    ⟨num, data.take r.len, none, if crc then some r.crc else none⟩ :: cutRecords (num + 1) crc (data.drop r.len) t

/-- The records a write-class command writes. -/
def Cmd.newRecs (c : Cmd) (data : Bytes) : List Rec :=
  if entOpcode c.entry = 0x13 then [⟨c.first, [], some (entAux c.entry), none⟩]
  else cutRecords c.first (bitOf (entFlags c.entry) 1) (fit (entLen c.entry) data) c.recs

/-- A supplied CRC does not match the data (R119). -/
def crcWrong (l : List Rec) : Bool :=
  l.any fun r => match r.crc with
    | some c => crc32c r.data != c
    | none => false

/-- Every write-class command of the stream that resolved before has been sequenced or has ended (R120). -/
def State.sequenceTurn (s : State) (c : Cmd) : Bool :=
  !(s.qe.cmds.any fun d => d.stream == c.stream && isWriteClass (entOpcode d.entry) && d.phase != .staged &&
    decide (d.order < c.order))

/-- Puts records at a stream's end (R97, R120). -/
def State.appendRecs (s : State) (k : Nat) (l : List Rec) : State :=
  match s.stream? k with
  | none => s
  | some x =>
    let x' := { x with recs := x.recs ++ l, seqEnd := x.seqEnd + l.length,
                       readyAge := if x.placed.le x.endPlace && x.endPlace.le x.placed then s.pe.age else x.readyAge }
    let s := s.setStream k x'
    { s with pe := { s.pe with age := s.pe.age + 1 } }

/-- DATA_SEQUENCED: the data is wholly in the buffer (R97, R119, R121, R128); no command is accepted once the
credits are closed (R167). [DEDUCED, log entry 26] -/
def State.sequence (s : State) (id : Nat) (data : Bytes) : State :=
  match s.cmd? id with
  | none => s
  | some c =>
    if c.phase != .moving || !s.sequenceTurn c then s
    else
      let k := c.stream.getD 0
      let l := c.newRecs data
      if crcWrong l then s.endCmd c stDataCrc 0 0
      else if s.pe.creditClosed then s.endCmd c stMediaFull 0 0
      else
        let s := if c.truncates then s.truncate k c.first else s
        let s := s.appendRecs k l
        (s.finishCmd c stBuffered 0 0).recredit

/-! ### The commands -/

/-- ENTRY_RESOLVE (R85, R112). -/
def execEntryResolve (id : Nat) (s : State) : Host.Outcome State Fault Refusal := .next (s.resolveId id)

/-- LOCK_GRANT (R136). -/
def execLockGrant (id : Nat) (s : State) : Host.Outcome State Fault Refusal := .next (s.grantId id)

/-- DATA_TRANSFER_START (R192): the operands are what the buffer list and the record list hold in host memory. -/
def execDataTransferStart (id : Nat) (pieces : List BufPiece) (recs : List RecItem) (s : State) :
    Host.Outcome State Fault Refusal := .next (s.startTransfer id pieces recs)

/-- OPEN_STREAM (R116, R117): resolved, it completes once its handle is free of an earlier close. -/
def execOpenStream (id : Nat) (s : State) : Host.Outcome State Fault Refusal :=
  let s := s.bringIn id
  match s.cmd? id with
  | some c =>
    if c.phase == .ready && entOpcode c.entry == 0x03 then
      let k := c.stream.getD 0
      let s := s.modStream k fun x => { x with opening := false }
      let n := s.creditOf k
      .next ((s.tellCredit k).finishCmd c stSuccess 0 (satCredit n))
    else .next s
  | none => .next s

end Sys2Proof.Machine
end

