-- ==== Sys2Proof/Machine/Reads.lean ====
section
/-! DEFINITION. The commands of a stream that write nothing: reads, positions, SYNC, close, and the stream queries (05
R118, R123 to R127, R130, R133, R137, R139). -/

namespace Sys2Proof.Machine

/-! ### Records in reach -/

/-- A record the RFX can deliver now: from the buffer, or as the read path decoded it (R123, R174). -/
def State.look (s : State) (k : Nat) (x : Stream) (r : Nat) : Option Decoded :=
  match x.recs.find? fun y => y.num == r with
  | some y => some ⟨k, r, y.peg, y.data, y.crc, none⟩
  | none => s.pe.decoded.find? fun d => d.stream == k && d.num == r

/-- A parcel's extent has been written (R139): its dataset is, or the field book alone knows it. -/
def State.isWritten (s : State) (p : Parcel) : Bool :=
  match s.dataset? p.dataset with
  | some d => d.written
  | none => true

/-- A record starts in a parcel: it lies there and is not the one the parcel continues. -/
def Parcel.starts (p : Parcel) (r : Nat) : Bool :=
  !p.dead && (decide (p.first < r ∧ r ≤ p.last) || (p.first == r && decide (r ≤ p.last) && !p.continues))

/-- The first parcel the field book names for a record (R174): the latest one in which it starts, an earlier one having
been truncated. -/
def State.parcelOf (s : State) (k r : Nat) : Option Parcel :=
  s.pe.parcels.reverse.find? fun p => p.stream == k && p.starts r && s.isWritten p

/-- Why a tape read of a record cannot even start, or the dataset it starts with (R25, R174). -/
def State.tapeTarget (s : State) (k r : Nat) : (Nat × Nat) ⊕ Nat :=
  match s.readBlock with
  | some d => .inl (stReadFault, d)
  | none =>
    match s.parcelOf k r with
    | none => .inl (stReadFault, 0x11)
    | some p => .inr p.dataset

/-- The leg a dataset lies in, by its book dataset; none in the current leg, which stands in the working tables. -/
def State.legOf (s : State) (ds : Nat) : Option Nat := (s.pe.books.map (·.dataset)).find? fun b => decide (ds ≤ b)

/-- Bytes of a leg's parcel records (R172, R284). -/
def State.legBytes (s : State) (leg : Nat) : Nat :=
  40 * (s.pe.parcels.filter fun p => s.legOf p.dataset == some leg).length

/-- The leg pages that stay within a budget, most recently used first. -/
def State.keepPages (s : State) : Nat → List Nat → List Nat
  | _, [] => []
  | room, l :: t => if s.legBytes l ≤ room then l :: s.keepPages (room - s.legBytes l) t else []

/-- A locate uses the leg page of a dataset: one that is not resident is read from tape and counted, and the least
recently used pages go (R172). -/
def State.touchLeg (s : State) (ds : Nat) : State :=
  match s.legOf ds with
  | none => s
  | some l =>
    let s := if s.pe.legPages.contains l then s else s.bump .peBookMiss 0 0
    let rest := s.pe.legPages.filter (· != l)
    { s with pe := { s.pe with
      legPages := l :: s.keepPages (s.fld .peBookBudget 0 0 16 0 * mib - s.legBytes l) rest } }

/-- Registers the tape read a command waits for; one per command. A PE_READ_WAIT of 0 stops writing at once (R176). -/
def State.awaitTape (s : State) (c : Cmd) (k r ds : Nat) : State :=
  if s.pe.reads.any fun t => t.cmd == c.id && t.record == r then s
  else
    let s := s.touchLeg ds
    { s with pe := { s.pe with
    writeStopped := s.pe.writeStopped || s.fld .peReadWait 0 0 15 0 == 0
    reads := (s.pe.reads.filter fun t => t.cmd != c.id) ++ [⟨c.id, k, r, ds, false, false, false⟩] } }

/-- Ends the tape reads of a command, and drops the failure it has met: a later read tries again (R251). -/
def State.endTape (s : State) (id : Nat) : State :=
  let k := (s.cmd? id).bind (·.stream)
  { s with pe := { s.pe with
    reads := s.pe.reads.filter fun t => t.cmd != id
    decoded := s.pe.decoded.filter fun d => d.fail.isNone || some d.stream != k } }

/-- Writing is stopped while tape reads wait (R176). -/
def State.readsFirst (s : State) : Bool := s.pe.writeStopped && !s.pe.reads.isEmpty

/-- A command's tape read has been positioned (R126). -/
def State.landed (s : State) (id r : Nat) : Bool :=
  s.pe.reads.any fun t => t.cmd == id && t.record == r && t.landed

/-- Moves a stream's read position; what the read path held below it is let go. -/
def State.movePos (s : State) (k : Nat) (p : Place) : State :=
  let s := s.modStream k fun x => { x with pos := p, partialRead := decide (0 < p.off) }
  { s with pe := { s.pe with decoded := s.pe.decoded.filter fun d => !(d.stream == k && decide (d.num < p.record)) } }

/-! ### READ_RECORDS (R123, R124) -/

/-- What one read delivers. -/
structure Delivery where
  /-- Entries of the record list, in order. -/
  entries : List Bytes
  data : Bytes
  place : Place
  /-- Status and detail of the ending; none where a record is not in reach yet. -/
  ending : Option (Nat × Nat)
  deriving DecidableEq, Repr

/-- One entry of the record list (R109). [DEDUCED, log entry 27] -/
def listEntry (len : Nat) (crc : Option Word) (partialFlag peg cont : Bool) (cls : Nat) : Bytes :=
  bytesLE 4 len ++ bytesLE 4 ((crc.map BitVec.toNat).getD 0) ++
    bytesLE 2 (natOf crc.isSome + 2 * natOf partialFlag + 4 * natOf peg + 8 * natOf cont) ++ bytesLE 2 cls ++ zeros 4

/-- Puts an entry and its bytes in front of what follows. -/
def Delivery.before (d : Delivery) (e data : Bytes) : Delivery :=
  { d with entries := e :: d.entries, data := data ++ d.data }

/-- Delivers up to `n` records from a place into `room` bytes, the stream ending before record `fin`. The order of the
endings is that of R123: 2, 4, 3, 0, 1. [DEDUCED, log entry 27] -/
def deliver (look : Nat → Option Decoded) (fin : Nat) : Nat → Nat → Place → Delivery
  | 0, _, p => ⟨[], [], p, some (stSuccess, if fin ≤ p.record then 4 else 0)⟩
  | n + 1, room, p =>
    if fin ≤ p.record then ⟨[], [], p, some (stSuccess, 4)⟩
    else
      match look p.record with
      | none => ⟨[], [], p, none⟩
      | some d =>
        match d.fail, d.peg with
        | some e, _ => ⟨[], [], p, some e⟩
        | none, some cls =>
          let e := listEntry 0 none false true false cls
          ⟨[e], [], ⟨p.record + 1, 0⟩, some (stSuccess, if fin ≤ p.record + 1 then 4 else 3)⟩
        | none, none =>
          let rest := d.data.length - p.off
          let next : Place := ⟨p.record + 1, 0⟩
          if room = 0 then ⟨[], [], p, some (stSuccess, if 0 < p.off then 2 else 1)⟩
          else if room < rest then
            ⟨[listEntry room d.crc true false (decide (0 < p.off)) 0], (d.data.drop p.off).take room,
              ⟨p.record, p.off + room⟩, some (stSuccess, 2)⟩
          else
            let e := listEntry rest d.crc false false (decide (0 < p.off)) 0
            if rest = room then
              ⟨[e], d.data.drop p.off, next,
                some (stSuccess, if fin ≤ p.record + 1 then 4 else if n = 0 then 0 else 1)⟩
            else (deliver look fin n (room - rest) next).before e (d.data.drop p.off)

/-- Where a read starts: at the position, partial state included, or at a record of its own (R107, R124). -/
def Stream.readPlace (x : Stream) (c : Cmd) : Place := if entRecord c.entry = noRecord then x.pos else ⟨c.first, 0⟩

/-- Ends a read with what it has delivered. [DEDUCED, log entry 27] -/
def State.endRead (s : State) (c : Cmd) (k : Nat) (ps : List BufPiece) (d : Delivery) (e : Nat × Nat) : State :=
  let s := s.scatter c d.data ps
  let s := if d.entries.isEmpty then s else s.dmaFor c (entList c.entry) d.entries.flatten
  let s := (s.movePos k d.place).endTape c.id
  s.finishCmd c e.1 e.2 d.entries.length

/-- Executes a READ_RECORDS as far as it can go: it ends, or it waits for a record on tape. [DEDUCED, log entry 26] -/
def State.readRecords (s : State) (c : Cmd) (k : Nat) (x : Stream) (listed : List BufPiece) : State :=
  match c.buffer listed with
  | none => s.finishCmd c stInvalidField 0x40 0
  | some ps =>
    let p := x.readPlace c
    if x.seqEnd < p.record then s.finishCmd c stNotFound 2 0
    else if x.seqEnd = p.record then s.finishCmd c stEndOfData 0 0
    else
      let d := deliver (s.look k x) x.seqEnd (entCountM1 c.entry + 1) (entLen c.entry) p
      match d.ending with
      | some e => s.endRead c k ps d e
      | none =>
        match s.tapeTarget k d.place.record with
        | .inl e => s.endRead c k ps d e
        | .inr ds => s.awaitTape c k d.place.record ds

/-! ### DISCARD_REMAINDER (R124) -/

def State.discardRest (s : State) (c : Cmd) (k : Nat) (x : Stream) : State :=
  if !x.partialRead then s.finishCmd c stSuccess 0 0
  else
    match s.look k x x.pos.record with
    | none =>
      match s.tapeTarget k x.pos.record with
      | .inl e => (s.endTape c.id).finishCmd c e.1 e.2 0
      | .inr ds => s.awaitTape c k x.pos.record ds
    | some d =>
      match d.fail with
      | some e => (s.endTape c.id).finishCmd c e.1 e.2 0
      | none =>
        ((s.movePos k ⟨x.pos.record + 1, 0⟩).endTape c.id).finishCmd c stSuccess 0 (d.data.length - x.pos.off)

/-! ### LOCATE (R126) -/

def State.locate (s : State) (c : Cmd) (k : Nat) (x : Stream) : State :=
  let r := c.first
  let done := fun (s : State) => ((s.movePos k ⟨r, 0⟩).endTape c.id).finishCmd c stSuccess 0 0
  if x.endNum < r then s.finishCmd c stNotFound 2 0
  else if x.endNum = r ∨ (s.look k x r).isSome = true ∨ s.landed c.id r = true ∨ x.seqEnd ≤ r then done s
  else
    match s.tapeTarget k r with
    | .inl e => (s.endTape c.id).finishCmd c e.1 e.2 0
    | .inr ds => s.awaitTape c k r ds

/-! ### SPACE (R127) -/

/-- Where a move over pegs ends. -/
inductive PegWalk where
  | stop (at_ : Nat) (passed : Nat) (detail : Nat)
  | need (record : Nat)
  | fail (status detail : Nat)
  deriving DecidableEq, Repr

/-- A forward move after the n-th peg passed, through at most `fuel` records. -/
def pegForward (look : Nat → Option Decoded) (fin n : Nat) : Nat → Nat → Nat → PegWalk
  | 0, r, m => .stop r m 4
  | fuel + 1, r, m =>
    if fin ≤ r then .stop r m 4
    else
      match look r with
      | none => .need r
      | some d =>
        let m' := if d.peg.isSome then m + 1 else m
        match d.fail with
        | some e => .fail e.1 e.2
        | none => if m' = n then .stop (r + 1) m' 0 else pegForward look fin n fuel (r + 1) m'

/-- A backward move onto the n-th peg before a record. -/
def pegBackward (look : Nat → Option Decoded) (n : Nat) : Nat → Nat → PegWalk
  | 0, m => .stop 0 m 5
  | r + 1, m =>
    match look r with
    | none => .need r
    | some d =>
      let m' := if d.peg.isSome then m + 1 else m
      match d.fail with
      | some e => .fail e.1 e.2
      | none => if m' = n then .stop r m' 0 else pegBackward look n r m'

/-- The move a SPACE makes (R127). -/
def State.spaceWalk (s : State) (c : Cmd) (k : Nat) (x : Stream) : PegWalk :=
  let n := signed 64 (entRecord c.entry)
  let p := x.pos.record
  if bitOf (entFlags c.entry) 1 then
    if 0 < n then pegForward (s.look k x) x.endNum n.toNat (x.endNum - p) p 0
    else pegBackward (s.look k x) (-n).toNat p 0
  else if 0 < n then
    if x.endNum < p + n.toNat then .stop x.endNum (x.endNum - p) 4 else .stop (p + n.toNat) n.toNat 0
  else if p < (-n).toNat then .stop 0 p 5
  else .stop (p - (-n).toNat) (-n).toNat 0

def State.space (s : State) (c : Cmd) (k : Nat) (x : Stream) : State :=
  let tell := fun (s : State) (r : Nat) =>
    if entData c.entry = 0 then s else s.dmaFor c (entData c.entry) (bytesLE 8 r)
  if entRecord c.entry = 0 then (tell s x.pos.record).finishCmd c stSuccess 0 0
  else
    match s.spaceWalk c k x with
    | .stop r m d => ((tell (s.movePos k ⟨r, 0⟩) r).endTape c.id).finishCmd c stSuccess d m
    | .fail st d => (s.endTape c.id).finishCmd c st d 0
    | .need r =>
      if x.seqEnd ≤ r then s
      else
        match s.tapeTarget k r with
        | .inl e => (s.endTape c.id).finishCmd c e.1 e.2 0
        | .inr ds => s.awaitTape c k r ds

/-! ### SYNC and CLOSE_STREAM (R118, R130, R133) -/

/-- Every record below `e` that still exists is durable, and no truncation waits (R129, R170). -/
def Stream.settled (x : Stream) (e : Nat) : Bool := decide (min e x.seqEnd ≤ x.durable) && !x.truncPending

/-- Completes a command that reports a deferred error by executing in full (R133). -/
def State.finishReporting (s : State) (c : Cmd) (k result : Nat) : State :=
  match (s.stream? k).bind Stream.pendingDetail with
  | some d => (s.modStream k Stream.reported).finishCmd c stDeferred d result
  | none => s.finishCmd c stSuccess 0 result

def State.sync (s : State) (c : Cmd) (k : Nat) (x : Stream) : State :=
  if !x.write || x.settled c.first then s.finishReporting c k 0 else s

/-- The close's book dataset has been verified (R168, R169). [DESIGN CHOICE, log entry 28] -/
def State.bookVerified (s : State) (n : Nat) : Bool :=
  match s.dataset? n with
  | some d => d.verified
  | none => true

/-- The stream is closed: its entry leaves the working tables (R118, R152). -/
def Stream.closed (x : Stream) : Stream := { x with closing := none, opening := false, write := false }

/-- CLOSE_STREAM: at once for a stream open for reading; otherwise once all is durable and the closing book dataset,
which it asks for, is verified. Where no tape write is possible a deferred error alone ends it. [DESIGN CHOICE, log entry 28] -/
def State.close (s : State) (c : Cmd) (k : Nat) (x : Stream) : State :=
  let done := fun (s : State) => (s.finishReporting c k 0).modStream k Stream.closed
  if !x.write then done s
  else if x.pendingDetail.isSome && s.writeBlock.isSome then done s
  else if !decide (min c.first x.seqEnd ≤ x.durable) then s
  else if c.count = 0 then { s with pe := { s.pe with bookDue := true } }
  else if s.bookVerified (c.count - 1) && !x.truncPending then done s
  else s

/-! ### QUERY_STREAM and GET_FIELD_BOOK_EXTENT (R137, R139, R285) -/

/-- The 64 bytes of QUERY_STREAM. -/
def State.queryBytes (s : State) (k : Nat) (x : Stream) : Bytes :=
  let e := x.err
  bytesLE 8 x.sid ++ bytesLE 8 x.endNum ++ bytesLE 8 x.pos.record ++ bytesLE 4 x.pos.off ++
    bytesLE 4 (satCredit (s.creditOf k)) ++ bytesLE 8 x.durable ++
    bytesLE 8 ((e.map (·.first)).getD noRecord) ++ bytesLE 2 ((e.map (·.detail)).getD 0) ++
    bytesLE 2 ((e.map (·.count)).getD 0) ++ bytesLE 2 (x.keySlot.getD 0xFFFF) ++
    bytesLE 2 (natOf x.write + 2 * natOf x.crcRequired + 4 * natOf x.noCompress + 8 * natOf x.partialRead +
      16 * natOf x.pendingDetail.isSome) ++ zeros 8

def State.query (s : State) (c : Cmd) (k : Nat) (x : Stream) (listed : List BufPiece) : State :=
  match c.buffer listed with
  | none => s.finishCmd c stInvalidField 0x40 0
  | some ps =>
    let s := s.scatter c (s.queryBytes k x) ps
    let n := satCredit (s.creditOf k)
    (s.tellCredit k).finishReporting c k n

/-- A field-book record, as stored (R285). -/
def Parcel.bookRecord (p : Parcel) : Bytes :=
  bytesBE 8 p.stream.unpair.2 ++ bytesBE 1 p.stream.unpair.1 ++
    bytesBE 1 (natOf p.dead + 2 * natOf p.continues + 4 * natOf p.cont) ++ bytesBE 1 p.wrap ++ bytesBE 1 p.index ++
    bytesBE 4 p.chainage ++ bytesBE 6 p.dataset ++ zeros 2 ++ bytesBE 8 p.first ++ bytesBE 8 p.last

/-- Drops list items until one passes a test. -/
def dropUntil {α : Type} (p : α → Bool) : List α → List α
  | [] => []
  | a :: t => if p a then a :: t else dropUntil p t

/-- The field-book records of a stream from the parcel that holds a record on. -/
def State.extentList (s : State) (k r : Nat) : List Parcel :=
  match s.parcelOf k r with
  | none => []
  | some q => dropUntil (fun p => decide (p = q)) (s.pe.parcels.filter fun p => p.stream == k && s.isWritten p)

def State.extentQuery (s : State) (c : Cmd) (k : Nat) (listed : List BufPiece) : State :=
  match c.buffer listed with
  | none => s.finishCmd c stInvalidField 0x40 0
  | some ps =>
    let l := s.extentList k c.first
    let n := min (entCountM1 c.entry + 1) (entLen c.entry / 40)
    let out := l.take n
    (s.scatter c (out.map Parcel.bookRecord).flatten ps).finishCmd c stSuccess
      (if l.length ≤ n then 4 else 0) out.length

/-! ### The commands -/

/-- Runs the execution of a stream command that holds its locks. -/
def State.onStream (s : State) (id op : Nat) (run : State → Cmd → Nat → Stream → State) : State :=
  let s := s.bringIn id
  match s.cmd? id with
  | none => s
  | some c =>
    if c.phase == .ready && entOpcode c.entry == op then
      match c.stream with
      | none => s
      | some k =>
        match s.stream? k with
        | some x => run s c k x
        | none => s
    else s

/-- CLOSE_STREAM (R118). -/
def execCloseStream (id : Nat) (s : State) : Host.Outcome State Fault Refusal :=
  .next (s.onStream id 0x04 State.close)

/-- READ_RECORDS (R123, R124): the operand is the buffer list in host memory. -/
def execReadRecords (id : Nat) (pieces : List BufPiece) (s : State) : Host.Outcome State Fault Refusal :=
  .next (s.onStream id 0x11 fun s c k x => s.readRecords c k x pieces)

/-- DISCARD_REMAINDER (R124). -/
def execDiscardRemainder (id : Nat) (s : State) : Host.Outcome State Fault Refusal :=
  .next (s.onStream id 0x12 State.discardRest)

/-- LOCATE (R126). -/
def execLocate (id : Nat) (s : State) : Host.Outcome State Fault Refusal := .next (s.onStream id 0x14 State.locate)

/-- SPACE (R127). -/
def execSpace (id : Nat) (s : State) : Host.Outcome State Fault Refusal := .next (s.onStream id 0x15 State.space)

/-- SYNC (R130). -/
def execSync (id : Nat) (s : State) : Host.Outcome State Fault Refusal := .next (s.onStream id 0x16 State.sync)

/-- QUERY_STREAM (R137). -/
def execQueryStream (id : Nat) (pieces : List BufPiece) (s : State) : Host.Outcome State Fault Refusal :=
  .next (s.onStream id 0x20 fun s c k x => s.query c k x pieces)

/-- GET_FIELD_BOOK_EXTENT (R139). -/
def execGetFieldBookExtent (id : Nat) (pieces : List BufPiece) (s : State) : Host.Outcome State Fault Refusal :=
  .next (s.onStream id 0x22 fun s c k _ => s.extentQuery c k pieces)

end Sys2Proof.Machine
end

