-- ==== Sys2Proof/Machine/Buffers.lean ====
section
/-! DEFINITION. Buffers and buffer memory (07): pools, ownership, watch points, the settings of BM, and what MC does
with errors. -/

namespace Sys2Proof.Machine

/-! ### Pools (R184 to R187) -/

/-- Buffer size of a pool in bytes (R184). -/
def poolSize (p : Nat) : Nat :=
  match p with
  | 0 => 256 | 1 => 4096 | 2 => 65536 | 3 => 1048576 | _ => 16777216

/-- Pool space in MiB: usable memory less the system area (R187). -/
def State.poolSpace (s : State) : Nat := s.usableMiB - 1024

/-- Number of buffers in a pool (R184, R187): shares are rounded down to 16 MiB. -/
def State.poolTotal (s : State) (p : Nat) : Nat :=
  if p = 0 then 98304
  else if 4 < p then 0
  else s.poolSpace * bitsOf (s.reg .bmPoolSplit 0 0) (8 * p - 1) (8 * p - 8) / 256 / 16 * 16 * mib / poolSize p

/-- Where a buffer stands in the table. -/
def bufKey (p i : Nat) : Nat := Nat.pair p i

/-- Buffers of a pool that are allocated. -/
def State.poolUsed (s : State) (p : Nat) : Nat := (s.bm.bufs.filter fun e => e.1.unpair.1 == p).length

def State.poolFree (s : State) (p : Nat) : Nat := s.poolTotal p - s.poolUsed p

/-- A free buffer of a pool: the lowest index not allocated. [DESIGN CHOICE, log entry 30] -/
def State.freeBuf (s : State) (p : Nat) : Option Nat :=
  if s.poolFree p = 0 then none
  else (List.range (s.poolUsed p + 1)).find? fun i => (s.bm.bufs.find (bufKey p i)).isNone

/-- The pools that fit a size, smallest first (R185). -/
def fitting (size : Nat) : List Nat := (List.range 5).filter fun p => decide (size ≤ poolSize p)

/-- Notes the free count of a pool for BM_POOL_LOW (R205). -/
def State.notePool (s : State) (p : Nat) : State :=
  { s with bm := { s.bm with
    poolLow := s.bm.poolLow.set p (min (s.bm.poolLow.get (s.poolTotal p) p) (s.poolFree p)) } }

/-! ### Watch points (R196, R197) -/

/-- Information bytes of the tiers EE has assembled and the tape has not yet taken: the write part of the staging
pool (R180). -/
def State.stageWrite (s : State) : Nat :=
  ((s.df.datasets.filter fun d => d.started && !d.written).map fun d => d.encoded.length * 491520).sum

/-- The read part: tiers being reassembled (R180). -/
def State.stageRead (s : State) : Nat := s.ed.tiers.length * 491520

/-- Bytes the read path holds for delivery: the read reserve in use (R188). -/
def State.readHeld (s : State) : Nat := (s.pe.decoded.map fun d => d.data.length).sum

/-- Sum of f over a dataset's tracks (R264, R271). -/
def Dataset.sigma (d : Dataset) : Nat := (d.steps.map fun x => 48 + 4 * x).sum

/-- Frames of the datasets in the tape-side queue. -/
def State.queueFrames (s : State) : Nat :=
  ((s.df.datasets.filter fun d => s.df.queue.contains d.num && !d.written).map Dataset.sigma).sum

/-- Σf of the newest dataset, the current one (R196). -/
def State.sigmaNow (s : State) : Nat := ((s.df.datasets.getLast?).map Dataset.sigma).getD 0

/-- What a watch point measures, and its capacity (R196). [DESIGN CHOICE, log entry 30] -/
def State.watchMeasure (s : State) (w : Nat) : Nat × Nat :=
  match w with
  | 5 => (s.queueFrames, 4 * s.sigmaNow)
  | 6 => (s.stageWrite, s.fld .peStageSplit 0 0 15 8 * mib)
  | 7 => (s.stageRead, s.fld .peStageSplit 0 0 7 0 * mib)
  | 8 => ((s.pe.streams.vals.map (·.held)).sum, s.writeShare)
  | 9 => (s.readHeld, s.readRes * mib)
  | _ => if w < 5 then (s.poolUsed w, s.poolTotal w) else (0, 0)

/-- Level of a watch point: 1/256 of its capacity, at most 255 (R196). [DESIGN CHOICE, log entry 30] -/
def State.watchLevel (s : State) (w : Nat) : Nat :=
  let m := s.watchMeasure w
  if m.2 = 0 then 0 else min 255 (m.1 * 256 / m.2)

/-- State of a watch point as last settled (R197). -/
def State.watchState (s : State) (w : Nat) : Bool := bitOf s.bm.watch w

/-- The state a watch point takes: set at its high watermark, clear at its low one, else as it was (R197). -/
def State.watchNext (s : State) (w : Nat) : Bool :=
  let l := s.watchLevel w
  if w ≥ 10 then false
  else if s.fld .bmWmCfg 0 w 15 8 ≤ l then true
  else if l ≤ s.fld .bmWmCfg 0 w 7 0 then false
  else s.watchState w

/-- Brings every watch point up to date. -/
def State.rewatch (s : State) : State :=
  { s with bm := { s.bm with watch := ((List.range 10).map fun w => natOf (s.watchNext w) * 2 ^ w).sum } }

/-- Level that BM_FCW_CFG gives a pin FCW[k] (R198). -/
def State.fcwPin (s : State) (k : Nat) : Bool :=
  let c := bitsOf (s.reg .bmFcwCfg 0 0) (8 * k + 7) (8 * k)
  match bitsOf c 6 5 with
  | 1 => s.watchState (c % 16) != bitOf c 4
  | 2 => true
  | _ => false

/-! ### Allocation, free, transfer (R185, R189, R190) -/

/-- Counts the fall-backs out of the pools skipped (R205). -/
def State.fallBacks (s : State) (skipped : List Nat) : State := skipped.foldl (fun s p => s.bump .bmPoolFall 0 p) s

/-- Grants a buffer of a pool to a party. -/
def State.grantBuf (s : State) (w : BufWait) (p i : Nat) : State :=
  let s := { s with bm := { s.bm with bufs := s.bm.bufs.set (bufKey p i) ⟨w.who, w.fn⟩ } }
  (s.notePool p).rewatch

/-- The pool that serves a request now (R185). -/
def State.servingPool (s : State) (w : BufWait) : Option Nat := (fitting w.size).find? fun p => (s.freeBuf p).isSome

/-- Serves a request from the smallest fitting pool that has a free buffer (R185). [DESIGN CHOICE, log entry 30] -/
def State.serve (s : State) (w : BufWait) : Option State :=
  match s.servingPool w with
  | none => none
  | some p =>
    (s.freeBuf p).map fun i =>
      (s.fallBacks ((fitting w.size).filter fun q => decide (q < p))).grantBuf w p i

/-- A request for a buffer: granted, or left waiting (R185). -/
def State.allocate (s : State) (w : BufWait) : State :=
  if w.size = 0 ∨ 16777216 < w.size then s
  else
    match s.serve w with
    | some s' => s'
    | none => { s with bm := { s.bm with waits := s.bm.waits ++ [w] } }

/-- A function is below its reservation (R69, R185). -/
def State.belowRes (s : State) (f : Nat) : Bool := decide (0 < s.unusedRes f)

/-- Grants the waiting request whose turn it is: those of functions below their reservation first, then in order of
arrival (R185). -/
def State.waitGrant (s : State) : State :=
  let can := fun (w : BufWait) => (s.servingPool w).isSome
  let pick := match takeFirst (fun w => can w && s.belowRes w.fn) s.bm.waits with
    | some r => some r
    | none => takeFirst can s.bm.waits
  match pick with
  | none => s
  | some (w, rest) =>
    let s := { s with bm := { s.bm with waits := rest } }
    (s.serve w).getD s

/-- A number for a party in an event entry. -/
def partyCode : Party → Nat
  | .unit b n => blkCode b * 65536 + n
  | .ring f r => 2 ^ 31 + f * 262144 + r

/-- Rejects a free or transfer (R190). [DESIGN CHOICE, log entry 17] -/
def State.badFree (s : State) (who : Party) (p i : Nat) (tag : Option Party) : State :=
  (s.bump .bmBadFree 0 0).logEv .badFree 0 (p * 2 ^ 28 + i % 2 ^ 28)
    ((tag.map partyCode).getD 0 % 2 ^ 32 * 2 ^ 32 + partyCode who % 2 ^ 32)

/-- A free by a party (R189, R190). -/
def State.freeBuffer (s : State) (who : Party) (p i : Nat) : State :=
  match s.bm.bufs.find (bufKey p i) with
  | none => s.badFree who p i none
  | some b =>
    if b.owner = who then ({ s with bm := { s.bm with bufs := s.bm.bufs.del (bufKey p i) } }).rewatch
    else s.badFree who p i (some b.owner)

/-- A transfer of ownership (R189, R190). -/
def State.transferBuffer (s : State) (who dest : Party) (p i : Nat) : State :=
  match s.bm.bufs.find (bufKey p i) with
  | none => s.badFree who p i none
  | some b =>
    if b.owner = who then { s with bm := { s.bm with bufs := s.bm.bufs.set (bufKey p i) { b with owner := dest } } }
    else s.badFree who p i (some b.owner)

/-! ### Settings of BM (R193, R197, R198, R205) -/

/-- Writes a register of a block through the owner's BAR0, its reserved bits masked. -/
def State.ownerSet (s : State) (src : Port) (r : RegName) (sel v mask : Nat) : State :=
  if s.reachesBlock src then s.setReg r 0 sel (Nat.land v mask) else s

/-- BM_POOL_SPLIT (R187, R205): every share at least 1, their sum 256; writable with no cartridge mounted and no ring
enabled. -/
def State.writePoolSplit (s : State) (src : Port) (v : Nat) : State :=
  if !s.reachesBlock src then s
  else
    let sh := (List.range 4).map fun i => bitsOf v (8 * i + 7) (8 * i)
    if s.reg .bmPoolSplit 0 0 = v then s
    else if s.ct.mounted ∨ s.qe.sqs.any (fun e => e.2.enabled && e.1.unpair.2 != windowRing) = true then
      s.rwlReject .bmPoolSplit 0
    else if sh.any (· == 0) ∨ sh.sum ≠ 256 then s
    else ((s.setReg .bmPoolSplit 0 0 v).recredit).rewatch

/-- BM_STREAM_WIN (R193): every credit is recomputed at once. -/
def State.writeStreamWin (s : State) (src : Port) (v : Nat) : State :=
  if s.reachesBlock src then (s.setReg .bmStreamWin 0 0 (v % 8192)).recredit else s

/-- BM_WM_CFG (R197): a write with low not below high is dropped. -/
def State.writeWmCfg (s : State) (src : Port) (v : Nat) : State :=
  if !s.reachesBlock src || decide (bitsOf v 15 8 ≤ bitsOf v 7 0) then s
  else (s.setReg .bmWmCfg 0 (s.fld .bmWmSel 0 0 3 0) (v % 65536)).rewatch

/-- A byte of BM_FCW_CFG as it is kept: bit 7 reserved, mode 3 reads as 0. -/
def fcwByte (b : Nat) : Nat := (if bitsOf b 6 5 = 3 then 0 else bitsOf b 6 5) * 32 + b % 32

/-- BM_FCW_CFG (R198, R205). -/
def State.writeFcwCfg (s : State) (src : Port) (v : Nat) : State :=
  if s.reachesBlock src then s.setReg .bmFcwCfg 0 0 (fcwByte (bitsOf v 15 8) * 256 + fcwByte (bitsOf v 7 0)) else s

/-! ### MC (R202 to R204) -/

def mcPair0 : McPair := { active := true, pendingRetire := false, retired := false, ueSeen := [] }

def State.pair (s : State) (n : Nat) : McPair := s.mc.pairs.get mcPair0 n

def State.setPair (s : State) (n : Nat) (p : McPair) : State :=
  { s with mc := { s.mc with pairs := s.mc.pairs.set n p } }

/-- Schedules a channel pair for retirement at the next rebuild (R22, R204): told once. [DEDUCED, log entry 47] -/
def State.schedulePair (s : State) (n unit : Nat) : State :=
  if (s.pair n).pendingRetire || (s.pair n).retired then s
  else (s.setPair n { s.pair n with pendingRetire := true }).tellRetired 6 unit

/-- A record of a stream lies in a dataset, as far as the field book says. -/
def State.recordIn (s : State) (ds k r : Nat) : Bool :=
  s.pe.parcels.any fun p => p.dataset == ds && p.stream == k && decide (p.first ≤ r ∧ r ≤ p.last)

/-- What the content of an uncorrectable block leads to (R203). A block of data that is durable already needs no
deferred error (R132). [DEDUCED, log entry 29] -/
def State.ueOutcome (s : State) (c : UeContent) : State :=
  match c with
  | .recordData k r =>
    match s.stream? k with
    | some x => if x.durable ≤ r ∧ r < x.seqEnd then s.deferError k r 2 else s
    | none => s
  | .ringContext cq f ring => s.failRing cq f ring
  | .readData ds =>
    { s with
      ed := { s.ed with tiers := s.ed.tiers.filter fun t => t.dataset != ds }
      pe := { s.pe with
        decoded := s.pe.decoded.filter fun d => !s.recordIn ds d.stream d.num
        reads := s.pe.reads.map fun t => if t.dataset = ds then { t with landed := false } else t } }
  | .cxContext i => { s with cx := { s.cx with images := s.cx.images.del i } }
  | .legPage l => { s with pe := { s.pe with legPages := s.pe.legPages.filter (· != l) } }
  | .c3Parity _ => s
  | .free => s

/-- An uncorrectable block (R203, R204): counted, latched, logged, handled by content; a second one at the same address
schedules the pair for retirement. -/
def State.mcUe (s : State) (n addr : Nat) (c : UeContent) : State :=
  let a := addr % 2 ^ 37 / 64 * 64
  let again := (s.pair n).ueSeen.contains a
  let s := s.bump .mcUncorr n 0
  let s := (s.setReg .mcUeAddrLo n 0 (a % 2 ^ 32)).setReg .mcUeAddrHi n 0 (2 ^ 31 + a / 2 ^ 32)
  let s := s.logEv .mcUe 0 n a
  let s := if again then s.schedulePair n (2 * n) else s.setPair n { s.pair n with ueSeen := a :: (s.pair n).ueSeen }
  s.ueOutcome c

/-! ### The commands -/

/-- BUFFER_FREE (R189, R190). -/
def execBufferFree (who : Party) (pool index : Nat) (s : State) : Host.Outcome State Fault Refusal :=
  .next (s.freeBuffer who pool index)

/-- BUFFER_TRANSFER (R189, R190). -/
def execBufferTransfer (who dest : Party) (pool index : Nat) (s : State) : Host.Outcome State Fault Refusal :=
  .next (s.transferBuffer who dest pool index)

/-- BM_POOL_SPLIT_WRITE (R205). -/
def execBmPoolSplitWrite (src : Port) (value : Word) (s : State) : Host.Outcome State Fault Refusal :=
  .next (s.regWrite src .bmPoolSplit 0 value fun s v => s.writePoolSplit src v)

/-- BM_STREAM_WIN_WRITE (R193). -/
def execBmStreamWinWrite (src : Port) (value : Word) (s : State) : Host.Outcome State Fault Refusal :=
  .next (s.regWrite src .bmStreamWin 0 value fun s v => s.writeStreamWin src v)

/-- BM_WM_CFG_WRITE (R197). -/
def execBmWmCfgWrite (src : Port) (value : Word) (s : State) : Host.Outcome State Fault Refusal :=
  .next (s.regWrite src .bmWmCfg 0 value fun s v => s.writeWmCfg src v)

/-- BM_FCW_CFG_WRITE (R198). -/
def execBmFcwCfgWrite (src : Port) (value : Word) (s : State) : Host.Outcome State Fault Refusal :=
  .next (s.regWrite src .bmFcwCfg 0 value fun s v => s.writeFcwCfg src v)

/-- MC_UE (R203): the MC instance, the address and what the block held. -/
def execMcUe (inst addr : Nat) (content : UeContent) (s : State) : Host.Outcome State Fault Refusal :=
  .next (s.mcUe inst addr content)

/-- PATROL_SCRUB (R202): what a scrub pass of a pair has corrected on its two channels; a period of 0 stops the
scrub. -/
def execPatrolScrub (inst corr0 corr1 : Nat) (s : State) : Host.Outcome State Fault Refusal :=
  .next (if s.fld .mcScrub inst 0 7 0 = 0 then s
    else (s.bumpBy .mcCorr0 inst 0 corr0).bumpBy .mcCorr1 inst 0 corr1)

/-- MC_CORR_LIMIT (R204): the corrected errors of one channel of a pair in one hour. -/
def execMcCorrLimit (inst errors : Nat) (s : State) : Host.Outcome State Fault Refusal :=
  .next (if s.fld .mcCorrLimit inst 0 15 0 ≠ 0 ∧ s.fld .mcCorrLimit inst 0 15 0 < errors then s.schedulePair inst (2 * inst)
    else s)

end Sys2Proof.Machine
end

