-- ==== Sys2Proof/Machine/Gsf.lean ====
section
/-! DEFINITION. The Gyust stream format (08): bits, codes, blocks, what a compressor emits and how a decompressor
decodes a payload. -/

namespace Sys2Proof.Machine

/-- A bit string, first bit first. -/
abbrev Bits := List Bool

/-! ### Bits (R207) -/

/-- `n` bits of a value, least significant first: fixed-width fields. -/
def bitsLE (n v : Nat) : Bits := (List.range n).map fun i => v.testBit i

/-- `n` bits of a value, most significant first: code words. -/
def bitsBE (n v : Nat) : Bits := (bitsLE n v).reverse

/-- The value of bits read least significant first. -/
def natOfLE : Bits → Nat
  | [] => 0
  | b :: t => natOf b + 2 * natOfLE t

/-- Bytes of a bit string, each from bit 0 up; the last is filled with zeros. -/
def packFuel : Nat → Bits → Bytes
  | 0, _ => []
  | n + 1, b => if b.isEmpty then [] else BitVec.ofNat 8 (natOfLE (b.take 8)) :: packFuel n (b.drop 8)

def pack (b : Bits) : Bytes := packFuel b.length b

/-- The bit string of bytes. -/
def unpackBits (b : Bytes) : Bits := b.flatMap fun x => bitsLE 8 x.toNat

/-! ### Marks and tokens (R209, R217) -/

/-- What ends a run of content. -/
inductive Mark where
  | none
  | recEnd
  | recEndCrc (crc : Word)
  | peg (cls : Nat)
  deriving DecidableEq, Repr

/-- A run of record bytes and the mark after it: the input of a compressor, and the output of a decompressor. -/
structure Run where
  data : Bytes
  mark : Mark
  deriving DecidableEq, Repr

/-- A token of a coded block (R217). -/
inductive Token where
  | lit (b : Byte)
  | copy (len dist : Nat)
  | mark (m : Mark)
  deriving DecidableEq, Repr

/-- Output bytes of a token. -/
def Token.size : Token → Nat
  | .lit _ => 1
  | .copy n _ => n
  | .mark _ => 0

/-! ### Lengths and distances (R211, R212) -/

/-- Extra bits and base of a length symbol, 260 to 287. -/
def lenSym (s : Nat) : Nat × Nat :=
  if s < 268 then (0, s - 256)
  else if s < 272 then (1, 12 + 2 * (s - 268))
  else if s < 276 then (2, 20 + 4 * (s - 272))
  else if s < 280 then (3, 36 + 8 * (s - 276))
  else if s < 284 then (4, 68 + 16 * (s - 280))
  else if s = 284 then (7, 132)
  else if s = 285 then (9, 260)
  else if s = 286 then (11, 772)
  else (16, 2820)

/-- The symbol of a length: the last whose base does not pass it. -/
def lenCode (n : Nat) : Nat := ((List.range 28).reverse.map (260 + ·)).find? (fun s => decide ((lenSym s).2 ≤ n)) |>.getD 260

/-- Extra bits and base of a distance code, 0 to 37. -/
def distSym (c : Nat) : Nat × Nat :=
  if c < 4 then (0, c + 1)
  else
    let j := (c - 4) / 2
    (j + 1, if c % 2 = 0 then 2 ^ (j + 2) + 1 else 2 ^ (j + 2) + 2 ^ (j + 1) + 1)

def distCode (d : Nat) : Nat := (List.range 38).reverse.find? (fun c => decide ((distSym c).2 ≤ d)) |>.getD 0

/-! ### Canonical codes (R213, R214) -/

/-- Symbols of a length in a list of code lengths. -/
def lenCount (l : List Nat) (n : Nat) : Nat := if n = 0 then 0 else (l.filter (· == n)).length

/-- First code word of each length: `firstWord l n`. -/
def firstWord (l : List Nat) : Nat → Nat
  | 0 => 0
  | n + 1 => (firstWord l n + lenCount l n) * 2

/-- The code words of a list of lengths: symbol and word, most significant bit first. -/
def codeWords (l : List Nat) : List (Nat × Bits) :=
  (List.range l.length).filterMap fun s =>
    let n := l.getD s 0
    if n = 0 then none else some (s, bitsBE n (firstWord l n + lenCount (l.take s) n))

/-- A valid list (R213): the Kraft sum is met, or there is one code, of length 1. -/
def validLens (l : List Nat) : Bool :=
  l.all (fun n => decide (n ≤ 15)) &&
    (((l.filter (0 < ·)).map fun n => 2 ^ (15 - n)).sum == 2 ^ 15 ||
      (l.filter (0 < ·)) == [1])

/-- The fixed code's lengths (R214). -/
def fixedLit : List Nat := List.replicate 128 8 ++ List.replicate 128 9 ++ List.replicate 32 7
def fixedDist : List Nat := List.replicate 24 5 ++ List.replicate 16 6

/-- The word of a symbol; empty where it has none. -/
def wordOf (t : List (Nat × Bits)) (s : Nat) : Bits := ((t.find? (·.1 == s)).map (·.2)).getD []

/-- Removes a prefix. -/
def stripPrefix : Bits → Bits → Option Bits
  | [], b => some b
  | _ :: _, [] => none
  | a :: t, b :: u => if a = b then stripPrefix t u else none

/-- Reads one symbol. -/
def readSym (t : List (Nat × Bits)) (b : Bits) : Option (Nat × Bits) :=
  t.findSome? fun e => (stripPrefix e.2 b).map fun r => (e.1, r)

/-! ### What a compressor emits (R221 to R225) -/

/-- The symbol of a token, and its bits after the code words of its symbols. -/
def tokenBits (lit dist : List (Nat × Bits)) : Token → Bits
  | .lit b => wordOf lit b.toNat
  | .copy n d =>
    let s := lenCode n
    let c := distCode d
    wordOf lit s ++ bitsLE (lenSym s).1 (n - (lenSym s).2) ++ wordOf dist c ++
      bitsLE (distSym c).1 (d - (distSym c).2)
  | .mark .none => []
  | .mark .recEnd => wordOf lit 257
  | .mark (.recEndCrc c) => wordOf lit 258 ++ bitsLE 32 c.toNat
  | .mark (.peg k) => wordOf lit 259 ++ bitsLE 16 k

/-- Literal/length symbol of a token. -/
def litOf : Token → Nat
  | .lit b => b.toNat
  | .copy n _ => lenCode n
  | .mark .none => 256
  | .mark .recEnd => 257
  | .mark (.recEndCrc _) => 258
  | .mark (.peg _) => 259

/-- Counts of the literal/length symbols and of the distance codes of a block, its end included. -/
def litCounts (b : List Token) : List Nat :=
  (List.range 288).map fun s => (b.filter fun t => litOf t == s).length + (if s = 256 then 1 else 0)

def distCounts (b : List Token) : List Nat :=
  (List.range 40).map fun c => (b.filter fun t => match t with
    | .copy _ d => distCode d == c
    | _ => false).length

/-- Lengths that give every counted symbol a code, all but equal: used where the compressor's own are no valid list. -/
def flatLengths (counts : List Nat) : List Nat :=
  let n := (counts.filter (0 < ·)).length
  let k := Nat.log2 n
  if n = 0 then counts.map fun _ => 0
  else if n = 1 then counts.map fun c => if 0 < c then 1 else 0
  else
    let short := 2 ^ (k + 1) - n
    (List.range counts.length).map fun i =>
      if counts.getD i 0 = 0 then 0
      else if ((counts.take i).filter (0 < ·)).length < short then k else k + 1

/-- The code lengths of a dynamic block (R222). [DESIGN CHOICE, log entry 31] -/
def dynLengths (counts : List Nat) : List Nat :=
  let l := Config.codeLengths counts
  if l.length = counts.length ∧ validLens l = true ∧
      ((List.range counts.length).all fun i => counts.getD i 0 == 0 || 0 < l.getD i 0) = true then l
  else flatLengths counts

/-- One run of equal code lengths as code-length symbols with their extra bits (R215). -/
def runSyms (v : Nat) : Nat → Nat → List (Nat × Bits)
  | 0, _ => []
  | _, 0 => []
  | fuel + 1, n =>
    if v = 0 ∧ 11 ≤ n then (18, bitsLE 7 (min n 138 - 11)) :: runSyms v fuel (n - min n 138)
    else if v = 0 ∧ 3 ≤ n then (17, bitsLE 3 (n - 3)) :: runSyms v fuel 0
    else (v, []) :: (if v ≠ 0 ∧ 4 ≤ n then
        (16, bitsLE 2 (min (n - 1) 6 - 3)) :: runSyms v fuel (n - 1 - min (n - 1) 6)
      else runSyms v fuel (n - 1))

/-- Runs of equal numbers: value and length. -/
def runsOf : List Nat → List (Nat × Nat)
  | [] => []
  | a :: t =>
    match runsOf t with
    | (b, n) :: r => if a = b then (b, n + 1) :: r else (a, 1) :: (b, n) :: r
    | [] => [(a, 1)]

/-- The order in which code-length-code lengths are sent (R215). -/
def clOrder : List Nat := [18, 17, 16, 0, 8, 9, 7, 10, 6, 11, 5, 12, 4, 13, 3, 14, 2, 15, 1]

/-- A list with its trailing zeros dropped, but never below a length. -/
def trimTo (least : Nat) (l : List Nat) : List Nat :=
  l.take (max least (l.length - (l.reverse.takeWhile (· == 0)).length))

/-- The header of a dynamic block (R215). -/
def dynHeader (ll dl : List Nat) : Bits :=
  let a := trimTo 257 ll
  let d := trimTo 1 dl
  let seq := (runsOf (a ++ d)).flatMap fun r => runSyms r.1 r.2 r.2
  let counts := (List.range 19).map fun i => (seq.filter fun x => x.1 == i).length
  let cl := dynLengths counts
  let cl := if cl.all (· ≤ 7) then cl else flatLengths counts
  let words := codeWords cl
  let sent := trimTo 4 (clOrder.map fun i => cl.getD i 0)
  bitsLE 5 (a.length - 257) ++ bitsLE 6 (d.length - 1) ++ bitsLE 4 (sent.length - 4) ++
    sent.flatMap (bitsLE 3) ++ seq.flatMap fun x => wordOf words x.1 ++ x.2

/-- The content runs of a block, each with the mark that ends it. -/
def blockRuns (hist : Bytes) : List Token → Bytes → List (Bytes × Mark)
  | [], cur => if cur.isEmpty then [] else [(cur.reverse, .none)]
  | .lit b :: t, cur => blockRuns (b :: hist) t (b :: cur)
  | .copy n d :: t, cur =>
    let h := Nat.repeat (fun h => h.getD (d - 1) 0 :: h) n hist
    blockRuns h t (h.take n ++ cur)
  | .mark m :: t, cur => (cur.reverse, m) :: blockRuns hist t []

/-- A run cut to at most 65,536 bytes a piece; the mark goes with the last. -/
def splitRun : Nat → Bytes → Mark → List (Bytes × Mark)
  | 0, b, m => [(b, m)]
  | n + 1, b, m => if b.length ≤ 65536 then [(b, m)] else (b.take 65536, .none) :: splitRun n (b.drop 65536) m

/-- The tail field and the payload of a mark in a stored block (R209). -/
def markTail : Mark → Nat × Bytes
  | .none => (0, [])
  | .recEnd => (1, [])
  | .recEndCrc c => (2, bytesLE 4 c.toNat)
  | .peg k => (3, bytesLE 2 k)

/-- Stored blocks from a bit position on; the last carries the last flag (R209, R222). -/
def storedBits (last : Bool) : Nat → List (Bytes × Mark) → Bits
  | _, [] => []
  | pos, (b, m) :: t =>
    let h := [last && t.isEmpty, false, false] ++ bitsLE 2 (markTail m).1 ++ bitsLE 17 b.length
    let p := List.replicate ((8 - (pos + h.length) % 8) % 8) false
    let body := h ++ p ++ unpackBits (b ++ (markTail m).2)
    body ++ storedBits last (pos + body.length) t

/-- A coded block: header, tokens, end of block. -/
def codedBits (last : Bool) (ty : Nat) (extra : Bits) (ll dl : List Nat) (b : List Token) : Bits :=
  let lw := codeWords ll
  let dw := codeWords dl
  [last] ++ bitsLE 2 ty ++ extra ++ b.flatMap (tokenBits lw dw) ++ wordOf lw 256

/-- Every symbol a block uses has a code in these lists. -/
def covers (ll dl : List Nat) (b : List Token) : Bool :=
  decide (0 < ll.getD 256 0) && b.all fun t =>
    decide (0 < ll.getD (litOf t) 0) && match t with
      | .copy _ d => decide (0 < dl.getD (distCode d) 0)
      | _ => true

/-- Size of an encoding as R222 compares it: the last block's final padding is counted. -/
def costAt (last : Bool) (pos n : Nat) : Nat := if last then (pos + n + 7) / 8 * 8 - pos else n

/-- The smallest by a measure; the first of equals. -/
def smallest {α : Type} (f : α → Nat) : List α → Option α
  | [] => none
  | a :: t =>
    match smallest f t with
    | some b => if f b < f a then some b else some a
    | none => some a

/-- One block at a bit position (R222): the smallest of repeat, fixed, dynamic and stored, in that preference, among
those that keep the ratio of R224; and the tables then in force. [DESIGN CHOICE, log entry 31] -/
def encodeBlock (storedOnly last : Bool) (pos : Nat) (tabs : Option (List Nat × List Nat)) (hist : Bytes)
    (b : List Token) : Bits × Option (List Nat × List Nat) :=
  let ll := dynLengths (litCounts b)
  let dl := dynLengths (distCounts b)
  let st := storedBits last pos ((blockRuns hist b []).flatMap fun r => splitRun (r.1.length / 65536 + 1) r.1 r.2)
  let rep := match tabs with
    | some (l, d) => if covers l d b then [(codedBits last 3 [] l d b, tabs)] else []
    | none => []
  let coded := rep ++ [(codedBits last 1 [] fixedLit fixedDist b, tabs),
    (codedBits last 2 (dynHeader ll dl) ll dl b, some (ll, dl))]
  let out := (b.map Token.size).sum
  let ok := coded.filter fun c => decide (out ≤ 1024 * ((c.1.length + 7) / 8))
  let all := if storedOnly then [(st, tabs)] else ok ++ [(st, tabs)]
  (smallest (fun c => costAt last pos c.1.length) all).getD (st, tabs)

/-- Cuts tokens into blocks (R221): a block ends at 65,536 output bytes or 16,384 tokens. -/
def cutBlocks : List Token → List Token → Nat → List (List Token)
  | [], cur, _ => if cur.isEmpty then [] else [cur.reverse]
  | t :: rest, cur, n =>
    let cur := t :: cur
    let n := n + t.size
    if 65536 ≤ n ∨ 16384 ≤ cur.length then cur.reverse :: cutBlocks rest [] 0 else cutBlocks rest cur n

/-- History after tokens, last byte first. -/
def histAfter : Bytes → List Token → Bytes
  | h, [] => h
  | h, .lit b :: t => histAfter (b :: h) t
  | h, .copy n d :: t => histAfter (Nat.repeat (fun h => h.getD (d - 1) 0 :: h) n h) t
  | h, .mark _ :: t => histAfter h t

/-- The bits of a parcel's blocks. -/
def encodeBlocks (storedOnly : Bool) : List (List Token) → Nat → Option (List Nat × List Nat) → Bytes → Bits
  | [], _, _, _ => []
  | b :: t, pos, tabs, h =>
    let e := encodeBlock storedOnly t.isEmpty pos tabs h b
    e.1 ++ encodeBlocks storedOnly t (pos + e.1.length) e.2 (histAfter h b)

/-- Stored blocks among a parcel's blocks: those of a block whose type is 0, one for each piece of a run (R222). -/
def storedCount (storedOnly : Bool) : List (List Token) → Nat → Option (List Nat × List Nat) → Bytes → Nat
  | [], _, _, _ => 0
  | b :: t, pos, tabs, h =>
    let e := encodeBlock storedOnly t.isEmpty pos tabs h b
    (if natOfLE ((e.1.drop 1).take 2) = 0 then
      ((blockRuns h b []).flatMap fun r => splitRun (r.1.length / 65536 + 1) r.1 r.2).length else 0) +
      storedCount storedOnly t (pos + e.1.length) e.2 (histAfter h b)

/-- A match that GSF allows and that repeats what is ahead (R217, R218). [DESIGN CHOICE, log entry 31] -/
def goodMatch (hist ahead : Bytes) (m : Nat × Nat) : Bool :=
  decide (4 ≤ m.1 ∧ m.1 ≤ 65538 ∧ m.1 ≤ ahead.length ∧ 1 ≤ m.2 ∧ m.2 ≤ 524288 ∧ m.2 ≤ hist.length) &&
    (Nat.repeat (fun h => h.getD (m.2 - 1) 0 :: h) m.1 hist).take m.1 == (ahead.take m.1).reverse

/-- Tokens of a run of bytes; `skip` bytes are covered by the match before. [DESIGN CHOICE, log entry 31] -/
def lexRun (level : Nat) : Bytes → Nat → Bytes → List Token
  | [], _, _ => []
  | b :: t, k + 1, h => lexRun level t k (b :: h)
  | b :: t, 0, h =>
    let m := Config.matchAt level h (b :: t)
    if goodMatch h (b :: t) m then .copy m.1 m.2 :: lexRun level t (m.1 - 1) (b :: h)
    else .lit b :: lexRun level t 0 (b :: h)

/-- Tokens of a parcel's input. -/
def lexRuns (level : Nat) : Bytes → List Run → List Token
  | _, [] => []
  | h, r :: t =>
    lexRun level r.data 0 h ++ (if r.mark = .none then [] else [.mark r.mark]) ++
      lexRuns level (r.data.reverse ++ h) t

/-- The most blocks, from the front, whose payload fits a budget (R154). -/
def fitBlocks (storedOnly : Bool) (budget : Option Nat) (bl : List (List Token)) : List (List Token) :=
  match budget with
  | none => bl
  | some n =>
    let ok := fun k => decide (64 + (pack (encodeBlocks storedOnly (bl.take k) 0 none [])).length + 16 ≤ n)
    bl.take (((List.range (bl.length + 1)).reverse.find? ok).getD 0)

/-- What a compressor makes of an input under a budget: the payload, and the tokens in it. -/
def compress (level : Nat) (storedOnly : Bool) (budget : Option Nat) (runs : List Run) : Bytes × List Token :=
  let bl := fitBlocks storedOnly budget (cutBlocks (lexRuns level [] runs) [] 0)
  (pack (encodeBlocks storedOnly bl 0 none []), bl.flatten)

/-- Marked input of a parcel (R223). -/
def markedInput (runs : List Run) : Nat :=
  (runs.map fun r => r.data.length + match r.mark with
    | .none => 0
    | .recEnd => 8
    | .recEndCrc _ => 12
    | .peg _ => 8).sum + 8

/-! ### How a payload decodes (R208 to R220, R229) -/

/-- What stops a parcel: cause and subcode (R229). -/
structure Trip where
  cause : Nat
  sub : Nat
  deriving DecidableEq, Repr

/-- A decoder: the bits to come, the history (last byte first), the current run (last byte first), and the runs
closed. -/
structure Dec where
  bits : Bits
  hist : Bytes
  cur : Bytes
  /-- Nothing of a record has been output since the last mark, or the parcel's start at a record boundary (R217). -/
  atStart : Bool
  runs : List Run
  tabs : Option (List Nat × List Nat)
  /-- Output of the block, and bits that were left when it began. -/
  blockOut : Nat
  blockBits : Nat
  deriving DecidableEq, Repr

/-- How one step of decoding ends. -/
inductive DecStep where
  | go (d : Dec)
  | blockEnd (d : Dec)
  | trip (d : Dec) (t : Trip)
  deriving DecidableEq, Repr

/-- Reads `n` bits, least significant first. -/
def takeLE (n : Nat) (b : Bits) : Option (Nat × Bits) :=
  if b.length < n then none else some (natOfLE (b.take n), b.drop n)

/-- The guards of a token that would output `n` bytes, the bits after it being `rest`, with a violation of its own if it
has one: the lowest cause (R229), and the block limit of R219. -/
def guards (d : Dec) (plain n : Nat) (rest : Bits) (v : Option Nat) : Option Trip :=
  let read := d.blockBits - rest.length
  if 0 < n ∧ 1024 * ((read + 7) / 8) < d.blockOut + n then some ⟨1, 0⟩
  else if 0 < n ∧ plain < d.hist.length + n then some ⟨2, 0⟩
  else
    match v with
    | some x => some ⟨3, x⟩
    | none => if 131073 < d.blockOut + n then some ⟨3, 8⟩ else none

/-- Outputs bytes, given last first. -/
def Dec.put (d : Dec) (rev : Bytes) (rest : Bits) : Dec :=
  { d with bits := rest, hist := rev ++ d.hist, cur := rev ++ d.cur, blockOut := d.blockOut + rev.length,
           atStart := d.atStart && rev.isEmpty }

/-- Closes the current run with a mark. -/
def Dec.close (d : Dec) (m : Mark) (rest : Bits) : Dec :=
  { d with bits := rest, cur := [], atStart := true, runs := d.runs ++ [⟨d.cur.reverse, m⟩] }

/-- Fails where the bits give no symbol: 9 where they run out, 4 otherwise (R220). -/
def noSym (t : List (Nat × Bits)) (b : Bits) : Nat := if t.any (fun e => decide (b.length < e.2.length)) && b.length < 15
    && t.any (fun e => e.2.take b.length == b) then 9 else 4

/-- The distance of a match of length `n`. -/
def readCopy (d : Dec) (plain n : Nat) (dw : List (Nat × Bits)) (b : Bits) : DecStep :=
  match readSym dw b with
  | none => .trip d ((guards d plain n b (some (noSym dw b))).getD ⟨3, 4⟩)
  | some (c, b) =>
    if 38 ≤ c then .trip d ((guards d plain n b (some 5)).getD ⟨3, 5⟩)
    else
      match takeLE (distSym c).1 b with
      | none => .trip d ((guards d plain n b (some 9)).getD ⟨3, 9⟩)
      | some (x, b) =>
        let dist := (distSym c).2 + x
        match guards d plain n b (if d.hist.length < dist then some 6 else none) with
        | some t => .trip d t
        | none => .go (d.put ((Nat.repeat (fun h => h.getD (dist - 1) 0 :: h) n d.hist).take n) b)

/-- One token of a coded block (R210, R217). -/
def readToken (plain : Nat) (lw dw : List (Nat × Bits)) (d : Dec) : DecStep :=
  match readSym lw d.bits with
  | none => .trip d ⟨3, noSym lw d.bits⟩
  | some (s, b) =>
    if s < 256 then
      match guards d plain 1 b none with
      | some t => .trip d t
      | none => .go (d.put [BitVec.ofNat 8 s] b)
    else if s = 256 then .blockEnd { d with bits := b }
    else if s = 257 then .go (d.close .recEnd b)
    else if s = 258 then
      match takeLE 32 b with
      | none => .trip d ⟨3, 9⟩
      | some (v, b) => .go (d.close (.recEndCrc (BitVec.ofNat 32 v)) b)
    else if s = 259 then
      match takeLE 16 b with
      | none => .trip d ⟨3, if d.atStart then 9 else 7⟩
      | some (v, b) => if d.atStart then .go (d.close (.peg v) b) else .trip d ⟨3, 7⟩
    else
      match takeLE (lenSym s).1 b with
      | none => .trip d ⟨3, 9⟩
      | some (x, b) =>
        let n := (lenSym s).2 + x
        if 65538 < n then .trip d ⟨3, 5⟩ else readCopy d plain n dw b

/-- Tokens up to the end of the block. -/
def readTokens (plain : Nat) (lw dw : List (Nat × Bits)) : Nat → Dec → DecStep
  | 0, d => .trip d ⟨3, 9⟩
  | n + 1, d =>
    match readToken plain lw dw d with
    | .go d => readTokens plain lw dw n d
    | r => r

/-- A stored block (R209). -/
def readStored (plain total : Nat) (d : Dec) : DecStep :=
  match takeLE 19 d.bits with
  | none => .trip d ⟨3, 9⟩
  | some (v, b) =>
    let tail := v % 4
    let n := v / 4
    let pad := (8 - (total - b.length) % 8) % 8
    let b := b.drop pad
    if 65536 < n then .trip d ⟨3, 8⟩
    else if b.length < 8 * n then
      .trip d ((guards d plain n [] (some 9)).getD ⟨3, 9⟩)
    else
      let rest := b.drop (8 * n)
      match guards d plain n rest none with
      | some t => .trip d t
      | none =>
        let data := pack (b.take (8 * n))
        let d := d.put data.reverse rest
        if tail = 0 then .blockEnd d
        else if tail = 1 then .blockEnd (d.close .recEnd rest)
        else if tail = 2 then
          match takeLE 32 rest with
          | none => .trip d ⟨3, 9⟩
          | some (c, b) => .blockEnd (d.close (.recEndCrc (BitVec.ofNat 32 c)) b)
        else
          match takeLE 16 rest with
          | none => .trip d ⟨3, if d.atStart then 9 else 7⟩
          | some (c, b) => if d.atStart then .blockEnd (d.close (.peg c) b) else .trip d ⟨3, 7⟩

/-- The code-length sequence of a dynamic block: `n` lengths, built up last first (R215). -/
def readLens (cw : List (Nat × Bits)) (n : Nat) : Nat → List Nat → Bits → (List Nat × Bits) ⊕ Nat
  | 0, _, _ => .inr 9
  | fuel + 1, acc, b =>
    if n ≤ acc.length then .inl (acc.reverse, b)
    else
      match readSym cw b with
      | none => .inr (noSym cw b)
      | some (s, b) =>
        if s < 16 then readLens cw n fuel (s :: acc) b
        else
          let w := if s = 16 then 2 else if s = 17 then 3 else 7
          match takeLE w b with
          | none => .inr 9
          | some (x, b) =>
            let k := x + (if s = 18 then 11 else 3)
            if n < acc.length + k ∨ (s = 16 ∧ acc = []) then .inr 1
            else readLens cw n fuel (List.replicate k (if s = 16 then acc.headD 0 else 0) ++ acc) b

/-- The tables of a dynamic block (R215), or the violation. -/
def readTables (b : Bits) : ((List Nat × List Nat) × Bits) ⊕ Nat :=
  match takeLE 15 b with
  | none => .inr 9
  | some (v, b) =>
    let nll := v % 32 + 257
    let nd := v / 32 % 64 + 1
    let ncl := v / 2048 + 4
    if 40 < nd then .inr 1
    else
      match takeLE (3 * ncl) b with
      | none => .inr 9
      | some (v, b) =>
        let sent := (List.range ncl).map fun i => v / 8 ^ i % 8
        let cl := (List.range 19).map fun s =>
          ((clOrder.zip sent).find? fun e => e.1 == s).map (·.2) |>.getD 0
        if !validLens cl then .inr 2
        else
          match readLens (codeWords cl) (nll + nd) (nll + nd + 1) [] b with
          | .inr v => .inr v
          | .inl (l, b) =>
            let ll := l.take nll ++ List.replicate (288 - nll) 0
            let dl := l.drop nll ++ List.replicate (40 - nd) 0
            if ll.getD 256 0 = 0 ∨ validLens ll = false ∨ !(validLens dl || dl.all (· == 0)) then .inr 2
            else .inl ((ll, dl), b)

/-- One block after its header (R208). -/
def readBody (plain total ty : Nat) (d : Dec) : DecStep :=
  let coded := fun (d : Dec) (t : List Nat × List Nat) =>
    readTokens plain (codeWords t.1) (codeWords t.2) (d.bits.length + 1) d
  match ty with
  | 0 => readStored plain total d
  | 1 => coded d (fixedLit, fixedDist)
  | 2 =>
    match readTables d.bits with
    | .inr v => .trip d ⟨3, v⟩
    | .inl (t, b) => coded { d with bits := b, tabs := some t } t
  | _ =>
    match d.tabs with
    | none => .trip d ⟨3, 3⟩
    | some t => coded d t

/-- Blocks up to the last, and the end of the payload (R208, R220). -/
def readBlocks (plain total : Nat) : Nat → Dec → Dec × Option Trip
  | 0, d => (d, some ⟨3, 9⟩)
  | n + 1, d =>
    match takeLE 3 d.bits with
    | none => (d, some ⟨3, 9⟩)
    | some (v, b) =>
      match readBody plain total (v / 2) { d with bits := b, blockOut := 0, blockBits := d.bits.length } with
      | .trip d t => (d, some t)
      | .go d => (d, some ⟨3, 9⟩)
      | .blockEnd d =>
        if v % 2 = 1 then
          (d, if 8 ≤ d.bits.length ∨ d.bits.any id = true then some ⟨3, 9⟩ else none)
        else readBlocks plain total n d

/-- What a decompressor makes of a payload: the runs closed, the bytes after the last mark, and the trip if one stopped
it (R227, R229). -/
def decompress (plain : Nat) (continues : Bool) (payload : Bytes) : List Run × Bytes × Option Trip :=
  let b := unpackBits payload
  let r := readBlocks plain b.length (b.length + 1)
    { bits := b, hist := [], cur := [], atStart := !continues, runs := [], tabs := none, blockOut := 0,
      blockBits := b.length }
  (r.1.runs, r.1.cur.reverse, r.2)

end Sys2Proof.Machine
end

