-- ==== Sys2Proof/Machine/Codes.lean ====
section
/-! DEFINITION. The codes of a frame, a tier, a group and a preamble (11): modulation, C1, C2, C3, BCH, whitening. -/

namespace Sys2Proof.Machine

/-! ### Bit order (R289) -/

/-- Bits of a byte string, most significant bit of each byte first. -/
def bitsMSB (b : Bytes) : Bits := b.flatMap fun x => bitsBE 8 x.toNat

/-- Bytes of a bit string, most significant bit first. -/
def packMSBFuel : Nat → Bits → Bytes
  | 0, _ => []
  | n + 1, b => if b.isEmpty then [] else BitVec.ofNat 8 (natOfLE (b.take 8 ++ List.replicate (8 - b.length) false).reverse) :: packMSBFuel n (b.drop 8)

def packMSB (b : Bits) : Bytes := packMSBFuel b.length b

/-- The number of a bit string, most significant bit first. -/
def natOfBE (b : Bits) : Nat := natOfLE b.reverse

/-- A list cut into pieces of `w`, `n` of them. -/
def chunks {α : Type} (w : Nat) : Nat → List α → List (List α)
  | 0, _ => []
  | n + 1, l => l.take w :: chunks w n (l.drop w)

/-! ### Modulation (R290 to R295) -/

/-- Masks P and Q at bit i (R290). -/
def maskP (i : Nat) : Bool := bitOf 0x3333333333333333 (63 - i)
def maskQ (i : Nat) : Bool := bitOf 0x0F0F0F0F0F0F0F0F (63 - i)

/-- The 66 bits of a candidate with guide value g (R290). -/
def candidate (g : Nat) (d : Bits) : Bits :=
  [bitOf g 1, bitOf g 0] ++ (List.range d.length).map fun i =>
    (d.getD i false != (bitOf g 0 && maskP i)) != (bitOf g 1 && maskQ i)

/-- Encoder state: last bit, run length, running digital sum (R291). -/
structure RunState where
  v : Bool
  run : Nat
  rds : Int
  deriving DecidableEq, Repr

/-- The state after one written bit. -/
def RunState.step (r : RunState) (b : Bool) : RunState :=
  ⟨b, if b = r.v then r.run + 1 else 1, r.rds + if b then 1 else -1⟩

/-- The longest run met while bits are appended to a state. -/
def longestRun (r : RunState) (bs : Bits) : Nat :=
  (bs.foldl (fun (p : RunState × Nat) b => let q := p.1.step b; (q, max p.2 q.run)) (r, 0)).2

/-- The candidate with the smallest |D| among some guide values, the lowest first among equals (R292). -/
def bestGuide (r : RunState) (d : Bits) (gs : List Nat) : Option Nat :=
  smallest (fun g => ((candidate g d).foldl RunState.step r).rds.natAbs) gs

/-- Writes bits, inverting each that would make a run of 14 (R293); with the count of inversions. -/
def clipBits : RunState → Bits → Bits × RunState × Nat
  | r, [] => ([], r, 0)
  | r, b :: t =>
    let clip := (r.step b).run == 14
    let b := if clip then !b else b
    let q := clipBits (r.step b) t
    (b :: q.1, q.2.1, q.2.2 + natOf clip)

/-- One modulated codeword (R292, R293). -/
def modulateWord (r : RunState) (d : Bits) : Bits × RunState × Nat :=
  let eligible := (List.range 4).filter fun g => decide (longestRun r (candidate g d) ≤ 13)
  match bestGuide r d eligible with
  | some g => let w := candidate g d; (w, w.foldl RunState.step r, 0)
  | none =>
    let g := (bestGuide r d ((List.range 4).filter fun g => bitOf g 1 != r.v)).getD 0
    let w := candidate g d
    let r' := (w.take 2).foldl RunState.step r
    let q := clipBits r' (w.drop 2)
    (w.take 2 ++ q.1, q.2)

/-- Words from number `w` on, resync marks between the segments (R267, R291). -/
def modulateWords : List Bits → Nat → RunState → Bits × Nat
  | [], _, _ => ([], 0)
  | d :: t, w, r =>
    let atMark := w = 51 ∨ w = 102 ∨ w = 153 ∨ w = 204
    let mark := if atMark then bitsBE 16 0x7FFE else []
    let r := if atMark then ⟨false, 1, r.rds + 12⟩ else r
    let q := modulateWord r d
    let rest := modulateWords t (w + 1) q.2.1
    (mark ++ q.1 ++ rest.1, q.2.2 + rest.2)

/-- A frame's 17,024 channel bits from its 16,384 codeword bits, and the bits inverted (R267, R293). -/
def modulateFrame (c : Bits) : Bits × Nat :=
  let q := modulateWords (chunks 64 256 c) 0 ⟨true, 6, 4⟩
  (bitsBE 64 0xFFFC0007FFE0003F ++ q.1, q.2)

/-- Data bits of a modulated word (R295). -/
def demodulateWord (w : Bits) : Bits :=
  let g1 := w.getD 0 false
  let g0 := w.getD 1 false
  (List.range 64).map fun i => (w.getD (i + 2) false != (g0 && maskP i)) != (g1 && maskQ i)

/-! ### C1 (R296 to R298) -/

/-- A block column as a word: position i is bit i. -/
abbrev Column := BitVec 128

/-- shift(x, e)[i] = x[(i + e) mod 128]. -/
def colShift (x : Column) (e : Nat) : Column := x.rotateRight (e % 128)

/-- Block rows of an information column (R296). -/
def c1Rows (b : Nat) : List Nat := let m := b % 8; [(m + 7) % 8, m, (m + 1) % 8, (m + 3) % 8]

/-- The exponent of a block, exceptions included (R296, R297). -/
def c1Exp (r b : Nat) : Nat :=
  if b = 16 ∧ r = 3 then 83
  else if b = 32 ∧ r = 0 then 81
  else if b = 47 ∧ r = 2 then 95
  else if b = 64 ∧ r = 1 then 67
  else if b = 77 ∧ r = 6 then 109
  else if b = 96 ∧ r = 7 then 38
  else if b = 103 ∧ r = 0 then 24
  else if b = 118 ∧ r = 5 then 57
  else ((2 * r + 1) * (b + 1) + 7 * (b / 8) ^ 2) % 128

/-- What the information columns add to each block row. -/
def c1Lambda (u : List Column) (r : Nat) : Column :=
  (List.range 120).foldl (fun acc b => if (c1Rows b).contains r then acc ^^^ colShift (u.getD b 0) (c1Exp r b) else acc) 0

/-- The eight parity columns (R298). -/
def c1Parity (u : List Column) : List Column :=
  let lam := (List.range 8).map (c1Lambda u)
  let p0 := lam.foldl (· ^^^ ·) 0
  let p1 := lam.getD 0 0 ^^^ colShift p0 1
  let rest := (List.range 6).foldl (fun (l : List Column) i =>
    l ++ [lam.getD (i + 1) 0 ^^^ l.getD (i + 1) 0 ^^^ (if i + 1 = 4 then p0 else 0)]) [p0, p1]
  rest

/-- Columns of a bit string. -/
def toColumns (n : Nat) (b : Bits) : List Column := (chunks 128 n b).map fun c => BitVec.ofNat 128 (natOfLE c)

/-- Bits of columns. -/
def ofColumns (l : List Column) : Bits := l.flatMap fun c => bitsLE 128 c.toNat

/-- The C1 codeword of a 1,920-byte information field. -/
def c1Encode (info : Bytes) : Bits :=
  let u := bitsMSB (fit 1920 info)
  u ++ ofColumns (c1Parity (toColumns 120 u))

/-- The syndrome of a codeword is zero: every block row of H sums to zero (R296). -/
def c1Zero (c : Bits) : Bool :=
  let l := toColumns 128 c
  let p := l.drop 120
  (List.range 8).all fun r =>
    let s := c1Lambda (l.take 120) r
    let s := if r = 0 ∨ r = 7 then s ^^^ colShift (p.getD 0 0) 1 else if r = 4 then s ^^^ p.getD 0 0 else s
    let s := (List.range 7).foldl (fun s k => if k = r ∨ k + 1 = r then s ^^^ p.getD (k + 1) 0 else s) s
    s == 0

/-- What EE_INJECT does to a codeword after the syndrome check (R313). -/
def injectErrors (count : Nat) (c : Bits) : Bits :=
  let n := min count 16384
  if n = 0 then c
  else (List.range c.length).map fun i => c.getD i false != (decide (i % (16384 / n) = 0) && decide (i / (16384 / n) < n))

/-- A frame as it is written (R267, R298): C1, injected errors, modulation. -/
def frameBits (inject : Nat) (info : Bytes) : Bits × Nat := modulateFrame (injectErrors inject (c1Encode info))

/-! ### Finite fields -/

/-- A field GF(2^m) with its primitive polynomial. -/
structure GF where
  m : Nat
  poly : Nat

/-- Multiplication by α. -/
def GF.twice (f : GF) (a : Nat) : Nat := if 2 ^ f.m ≤ 2 * a then Nat.xor (2 * a) f.poly else 2 * a

def GF.mul (f : GF) (a b : Nat) : Nat :=
  (List.range f.m).reverse.foldl (fun acc i => Nat.xor (f.twice acc) (if bitOf b i then a else 0)) 0

/-- α^e, by squaring. -/
def GF.pow (f : GF) (a : Nat) : Nat → Nat → Nat
  | 0, _ => 1
  | bits + 1, e =>
    let h := f.pow a bits (e / 2)
    let q := f.mul h h
    if e % 2 = 1 then f.mul q a else q

def GF.alpha (f : GF) (e : Nat) : Nat := f.pow 2 16 (e % (2 ^ f.m - 1))

def GF.inv (f : GF) (a : Nat) : Nat := f.pow a f.m (2 ^ f.m - 2)

/-- A polynomial's value; lowest coefficient first. -/
def GF.eval (f : GF) (p : List Nat) (x : Nat) : Nat := p.reverse.foldl (fun acc c => Nat.xor (f.mul acc x) c) 0

/-- The product of two polynomials. -/
def GF.polyMul (f : GF) (a b : List Nat) : List Nat :=
  (List.range (a.length + b.length - 1)).map fun n =>
    (List.range (n + 1)).foldl (fun acc i => Nat.xor acc (f.mul (a.getD i 0) (b.getD (n - i) 0))) 0

def polyAdd (a b : List Nat) : List Nat :=
  (List.range (max a.length b.length)).map fun i => Nat.xor (a.getD i 0) (b.getD i 0)

/-- Degree of a polynomial. -/
def polyDeg (p : List Nat) : Nat := (p.reverse.dropWhile (· == 0)).length - 1

/-! ### Reed–Solomon and BCH decoding with erasures -/

/-- One Berlekamp–Massey step at `r` with `s` erasures: locator, auxiliary polynomial, length. -/
def bmStep (f : GF) (syn : List Nat) (s : Nat) (st : List Nat × List Nat × Nat) (r : Nat) :
    List Nat × List Nat × Nat :=
  let (lam, b, el) := st
  let d := (List.range r).foldl (fun acc i => Nat.xor acc (f.mul (lam.getD i 0) (syn.getD (r - i - 1) 0))) 0
  let xb := 0 :: b
  if d = 0 then (lam, xb, el)
  else
    let t := polyAdd lam (xb.map (f.mul d))
    if 2 * el ≤ r + s - 1 then (t, lam.map (f.mul (f.inv d)), r + s - el) else (t, xb, el)

/-- The locator of errors and erasures; `xs` are the erasures' locators. -/
def locator (f : GF) (syn : List Nat) (xs : List Nat) : List Nat :=
  let g := xs.foldl (fun p x => f.polyMul p [1, x]) [1]
  ((List.range (syn.length - xs.length)).foldl (fun st i => bmStep f syn xs.length st (xs.length + 1 + i))
    (g, g, xs.length)).1

/-- Corrects a word of symbols, `powers i` being the power of α that symbol i multiplies: syndromes at α^fcr and the
roots that follow. None where no codeword lies in reach. [DEDUCED, log entry 71] -/
def correctWord (f : GF) (roots fcr : Nat) (powers : List Nat) (erased : List Nat) (w : List Nat) :
    Option (List Nat) :=
  let syn := fun (w : List Nat) => (List.range roots).map fun j =>
    (powers.zip w).foldl (fun acc e => Nat.xor acc (f.mul e.2 (f.alpha (e.1 * (fcr + j))))) 0
  let sy := syn w
  if sy.all (· == 0) then some w
  else if roots < erased.length then none
  else
    let lam := locator f sy (erased.map fun i => f.alpha (powers.getD i 0))
    let om := (f.polyMul sy lam).take roots
    let der := (List.range lam.length).map fun i => if i % 2 = 0 then lam.getD (i + 1) 0 else 0
    let n := 2 ^ f.m - 1
    let fixed := (powers.zip w).map fun e =>
      let xi := f.alpha (n - e.1 % n)
      if f.eval lam xi = 0 then
        Nat.xor e.2 (f.mul (f.alpha (e.1 * (n + 1 - fcr))) (f.mul (f.eval om xi) (f.inv (f.eval der xi))))
      else e.2
    let hits := (powers.filter fun p => f.eval lam (f.alpha (n - p % n)) == 0).length
    if hits = polyDeg lam ∧ (syn fixed).all (· == 0) = true then some fixed else none

/-! ### C2 (R299 to R301) -/

def gf12 : GF := ⟨12, 0x1053⟩

/-- g(x) = (x + α^0) … (x + α^23), lowest coefficient first. -/
def c2Gen : List Nat := (List.range 24).foldl (fun p i => gf12.polyMul p [gf12.alpha i, 1]) [1]

/-- Remainder of data symbols times x^deg by a monic generator: highest coefficient first. -/
def rsRemainder (f : GF) (gen : List Nat) (data : List Nat) : List Nat :=
  let n := gen.length - 1
  let top := (gen.take n).reverse
  data.foldl (fun r x =>
    let fb := Nat.xor x (r.headD 0)
    List.zipWith (fun a g => Nat.xor a (f.mul fb g)) (r.drop 1 ++ [0]) top) (List.replicate n 0)

/-- The 1,280 symbols of an information field (R289). -/
def symbolsOf (info : Bytes) : List Nat := (chunks 12 1280 (bitsMSB (fit 1920 info))).map natOfBE

/-- The information field of 1,280 symbols. -/
def infoOf (sy : List Nat) : Bytes := packMSB (sy.flatMap (bitsBE 12))

/-- The tier's 256 information fields from its 445,440 bytes (R276, R300). -/
def c2Encode (tier : Bytes) : List Bytes :=
  let data := chunks 1920 232 (fit 445440 tier)
  let sy := data.map symbolsOf
  let par := (List.range 1280).map fun c => rsRemainder gf12 c2Gen (sy.map fun l => l.getD c 0)
  data ++ (List.range 24).map fun j => infoOf (par.map fun l => l.getD j 0)

/-- Powers of the positions of a C2 codeword. -/
def c2Powers : List Nat := (List.range 256).map (255 - ·)

/-- The codewords of a tier as received, frames that are missing being zero. -/
def c2Words (frames : List (Option Bytes)) : List (List Nat) :=
  let sy := frames.map fun f => (f.map symbolsOf).getD (List.replicate 1280 0)
  (List.range 1280).map fun c => sy.map fun l => l.getD c 0

/-- Decodes every codeword of a tier under the same erasures (R363). [DEDUCED, log entry 71] -/
def c2Pass (words : List (List Nat)) (erased : List Nat) : List (Option (List Nat)) :=
  words.map fun w =>
    match correctWord gf12 24 0 c2Powers erased w with
    | some v =>
      let e := ((List.range 256).filter fun i => !erased.contains i && v.getD i 0 != w.getD i 0).length
      if 2 * e + erased.length ≤ 24 then some v else none
    | none => none

/-- Codewords in which a pass found each frame in error (R363). -/
def errorCounts (words : List (List Nat)) (fixed : List (Option (List Nat))) : List Nat :=
  (List.range 256).map fun i => ((words.zip fixed).filter fun p => match p.2 with
    | some v => v.getD i 0 != p.1.getD i 0
    | none => false).length

/-- The tier's bytes out of decoded codewords. -/
def c2Bytes (fixed : List (Option (List Nat))) : Option Bytes :=
  if fixed.all (·.isSome) then
    let l := fixed.map (·.getD [])
    some ((List.range 232).flatMap fun i => infoOf (l.map fun w => w.getD i 0))
  else none

/-! ### C3 (R304, R305, R308) -/

def gf8 : GF := ⟨8, 0x11D⟩

/-- One byte index clocked by one member's byte: P0 and P1 state. -/
def c3Clock (r : Nat × Nat) (x : Nat) : Nat × Nat :=
  let fb := Nat.xor x r.1
  (Nat.xor r.2 (gf8.mul fb 3), gf8.mul fb 2)

/-- A member clocked into the accumulation state (R305). -/
def c3Member (p0 p1 member : Bytes) : Bytes × Bytes :=
  let n := max p0.length member.length
  let l := (List.range n).map fun i =>
    c3Clock ((p0.getD i 0).toNat, (p1.getD i 0).toNat) (member.getD i 0).toNat
  (l.map fun x => BitVec.ofNat 8 x.1, l.map fun x => BitVec.ofNat 8 x.2)

/-- Recovers one byte index of a group: bytes at positions 0 to 31, the erased ones none; at most two erasures, and never
an error at a place that is not erased (R308). -/
def c3Index (bytes : List (Option Nat)) : Option (List Nat) :=
  let er := (List.range 32).filter fun i => (bytes.getD i none).isNone
  let w := bytes.map (·.getD 0)
  if 2 < er.length then none
  else
    match correctWord gf8 2 0 ((List.range 32).map (31 - ·)) er w with
    | some v => if (List.range 32).all fun i => er.contains i || v.getD i 0 == w.getD i 0 then some v else none
    | none => none

/-! ### The preamble code (R309, R310) -/

def gf11 : GF := ⟨11, 0x805⟩

/-- The cyclotomic coset of an exponent. -/
def coset (i : Nat) : List Nat := (List.range 11).map fun k => i * 2 ^ k % 2047

/-- The first 48 coset leaders among the odd numbers. -/
def cosetLeaders : List Nat :=
  ((List.range 1024).map fun n => 2 * n + 1).filter (fun i => (coset i).foldl min 2047 == i) |>.take 48

/-- The minimal polynomial of α^i, lowest coefficient first. -/
def minPoly (i : Nat) : List Nat := (coset i).dedup.foldl (fun p e => gf11.polyMul p [gf11.alpha e, 1]) [1]

/-- The generator, of degree 528. -/
def bchGen : List Nat := cosetLeaders.foldl (fun p i => gf11.polyMul p (minPoly i)) [1]

/-- The 1,216 bits of an information block's codeword, coefficient of x^1,215 first. -/
def bchEncode (info : Bits) : Bits :=
  info ++ (rsRemainder gf11 bchGen (info.map natOf)).map fun x => x == 1

/-- The whitening sequence, last bit first. -/
def whiteRev : Nat → Bits
  | 0 => []
  | n + 1 => let l := whiteRev n; (if n < 11 then true else l.getD 8 false != l.getD 10 false) :: l

def whitening : Bits := (whiteRev 1216).reverse

/-- Preamble bits 832 to 2,047 of an information block (R268, R310). -/
def preambleCode (info : Bits) : Bits := List.zipWith (· != ·) (bchEncode info) whitening

/-- The information block that 1,216 received bits give, if at most 48 are wrong (R310). [DEDUCED, log entry 71] -/
def preambleInfo (received : Bits) : Option Bits :=
  let w := List.zipWith (· != ·) received whitening
  match correctWord gf11 96 1 ((List.range 1216).map (1215 - ·)) [] (w.map natOf) with
  | some v => if v.all (· ≤ 1) then some ((v.take 688).map (· == 1)) else none
  | none => none

/-- A whole track preamble: training, sync, coded block (R268). -/
def preambleBits (info : Bits) : Bits :=
  (List.replicate 192 [false, false, true, true]).flatten ++ bitsBE 64 0x0FFFC0007FFE0001 ++ preambleCode info

end Sys2Proof.Machine
end

