-- ==== Sys2Proof/Machine/Aes.lean ====
section
/-! DEFINITION. The ciphers the spec names by their standards (09 R231, R237, R247, R248): AES-256 (FIPS 197), GCM
(SP 800-38D), and the key unwraps of RFC 3394 and RFC 5649. -/

namespace Sys2Proof.Machine

/-! ### AES-256 (FIPS 197) -/

/-- Multiplication by x in the field of AES. -/
def xtime (a : Byte) : Byte := (a <<< 1) ^^^ (if a.getLsbD 7 then 0x1B#8 else 0#8)

/-- The product of two field elements. -/
def gmul (a b : Byte) : Byte :=
  ((List.range 8).foldl (fun (p : Byte × Byte) i => (if b.getLsbD i then p.1 ^^^ p.2 else p.1, xtime p.2)) (0#8, a)).1

/-- The inverse, and 0 for 0: the 254th power. -/
def ginv (a : Byte) : Byte :=
  let a2 := gmul a a
  let a3 := gmul a2 a
  let a6 := gmul a3 a3
  let a12 := gmul a6 a6
  let a15 := gmul a12 a3
  let a30 := gmul a15 a15
  let a60 := gmul a30 a30
  let a120 := gmul a60 a60
  let a126 := gmul a120 a6
  let a127 := gmul a126 a
  gmul a127 a127

/-- The S-box. -/
def subByte (a : Byte) : Byte :=
  let b := ginv a
  b ^^^ b.rotateLeft 1 ^^^ b.rotateLeft 2 ^^^ b.rotateLeft 3 ^^^ b.rotateLeft 4 ^^^ 0x63#8

/-- The inverse S-box. -/
def invSubByte (a : Byte) : Byte := ginv (a.rotateLeft 1 ^^^ a.rotateLeft 3 ^^^ a.rotateLeft 6 ^^^ 0x05#8)

def xorBytes (a b : Bytes) : Bytes := List.zipWith (· ^^^ ·) a b

/-- Key schedule words, last first, from `n` made so far on. -/
def expandKey : Nat → Nat → Byte → List Bytes → List Bytes
  | 0, _, _, w => w
  | k + 1, i, rc, w =>
    let t := w.headD []
    let t := if i % 8 = 0 then
        xorBytes ((t.drop 1 ++ t.take 1).map subByte) [rc, 0, 0, 0]
      else if i % 8 = 4 then t.map subByte else t
    expandKey k (i + 1) (if i % 8 = 0 then xtime rc else rc) (xorBytes (w.getD 7 []) t :: w)

/-- The 15 round keys of a 32-byte key. -/
def roundKeys (key : Bytes) : List Bytes :=
  let w := (expandKey 52 8 1 ((List.range 8).reverse.map fun i => (key.drop (4 * i)).take 4)).reverse
  (List.range 15).map fun r => ((w.drop (4 * r)).take 4).flatten

/-- Byte `r + 4c` of the state moves from column c + r. -/
def shiftRows (s : Bytes) : Bytes := (List.range 16).map fun i => s.getD ((i + 4 * (i % 4)) % 16) 0

def invShiftRows (s : Bytes) : Bytes := (List.range 16).map fun i => s.getD ((i + 12 * (i % 4)) % 16) 0

/-- A column multiplied by the matrix with this first row. -/
def mixWith (m : List Byte) (s : Bytes) : Bytes :=
  (List.range 16).map fun i =>
    (List.range 4).foldl (fun acc j => acc ^^^ gmul (m.getD ((j + 4 - i % 4) % 4) 0) (s.getD (i / 4 * 4 + j) 0)) 0#8

def mixColumns : Bytes → Bytes := mixWith [2, 3, 1, 1]
def invMixColumns : Bytes → Bytes := mixWith [14, 11, 13, 9]

/-- The middle rounds. -/
def aesRounds (s : Bytes) : List Bytes → Bytes
  | [] => s
  | [k] => xorBytes (shiftRows (s.map subByte)) k
  | k :: t => aesRounds (xorBytes (mixColumns (shiftRows (s.map subByte))) k) t

/-- AES-256 of one block. [PRESUMED, log entry 70] -/
def aesEncrypt (key block : Bytes) : Bytes :=
  match roundKeys key with
  | [] => block
  | k :: t => aesRounds (xorBytes block k) t

def aesInvRounds (s : Bytes) : List Bytes → Bytes
  | [] => s
  | [k] => xorBytes ((invShiftRows s).map invSubByte) k
  | k :: t => aesInvRounds (invMixColumns (xorBytes ((invShiftRows s).map invSubByte) k)) t

/-- The inverse of AES-256. -/
def aesDecrypt (key block : Bytes) : Bytes :=
  match (roundKeys key).reverse with
  | [] => block
  | k :: t => aesInvRounds (xorBytes block k) t

/-- Applies a function to each 16-byte block. -/
def ecb (f : Bytes → Bytes) : Nat → Bytes → Bytes
  | 0, _ => []
  | n + 1, b => f (b.take 16) ++ ecb f n (b.drop 16)

/-! ### GCM (SP 800-38D) -/

/-- One bit of the product in GHASH's field: x^127 down. -/
def ghashMul (x y : BitVec 128) : BitVec 128 :=
  ((List.range 128).foldl (fun (p : BitVec 128 × BitVec 128) i =>
    (if x.getMsbD i then p.1 ^^^ p.2 else p.1,
     if p.2.getLsbD 0 then (p.2 >>> 1) ^^^ (0xE1#128 <<< 120) else p.2 >>> 1)) (0#128, y)).1

/-- A block as a number, first byte most significant. -/
def block128 (b : Bytes) : BitVec 128 := BitVec.ofNat 128 (natBE (fit 16 b))

/-- GHASH over a byte string filled to whole blocks. -/
def ghashBlocks (h : BitVec 128) : Nat → Bytes → BitVec 128 → BitVec 128
  | 0, _, y => y
  | n + 1, b, y => ghashBlocks h n (b.drop 16) (ghashMul (y ^^^ block128 (b.take 16)) h)

/-- The key stream from a counter block on, and what it makes of the data. -/
def gcmCtr (key iv : Bytes) : Nat → Nat → Bytes → Bytes
  | 0, _, _ => []
  | n + 1, c, b =>
    xorBytes (b.take 16) (aesEncrypt key (iv ++ bytesBE 4 c)) ++ gcmCtr key iv n (c + 1) (b.drop 16)

/-- Plaintext to ciphertext and back: counter mode from block 2 on. -/
def gcmCrypt (key iv data : Bytes) : Bytes := gcmCtr key iv ((data.length + 15) / 16) 2 data

/-- The 16-byte tag over additional data and ciphertext. [PRESUMED, log entry 70] -/
def gcmTag (key iv aad ct : Bytes) : Bytes :=
  let h := block128 (aesEncrypt key (zeros 16))
  let y := ghashBlocks h ((aad.length + 15) / 16) aad 0
  let y := ghashBlocks h ((ct.length + 15) / 16) ct y
  let y := ghashMul (y ^^^ block128 (bytesBE 8 (8 * aad.length) ++ bytesBE 8 (8 * ct.length))) h
  xorBytes (bytesBE 16 y.toNat) (aesEncrypt key (iv ++ bytesBE 4 1))

/-! ### Key unwrap (RFC 3394, RFC 5649) -/

/-- One step of the unwrap: register `A` and the blocks, at step `t`. -/
def unwrapStep (kek : Bytes) (n t : Nat) (p : Bytes × List Bytes) : Bytes × List Bytes :=
  let i := (t - 1) % n
  let b := aesDecrypt kek (xorBytes p.1 (bytesBE 8 t) ++ p.2.getD i [])
  (b.take 8, p.2.set i (b.drop 8))

/-- The inverse of the key wrap: register and blocks. -/
def unwrapRaw (kek wrapped : Bytes) : Bytes × Bytes :=
  let n := wrapped.length / 8 - 1
  let r := (List.range n).map fun i => (wrapped.drop (8 + 8 * i)).take 8
  let p := (List.range (6 * n)).foldl (fun p j => unwrapStep kek n (6 * n - j) p) (wrapped.take 8, r)
  (p.1, p.2.flatten)

/-- The key in a wrapped blob of at least three semiblocks, if its integrity check passes. [PRESUMED, log entry 70] -/
def unwrapKey (padded : Bool) (kek wrapped : Bytes) : Option Bytes :=
  let p := unwrapRaw kek wrapped
  if padded then
    let len := natBE (p.1.drop 4)
    if p.1.take 4 = [0xA6, 0x59, 0x59, 0xA6] ∧ len ≤ p.2.length ∧ p.2.length < len + 8 ∧
        (p.2.drop len).all (· == 0) = true then some (p.2.take len)
    else none
  else if p.1 = List.replicate 8 0xA6 then some p.2
  else none

end Sys2Proof.Machine
end

