-- ==== Sys2Proof/Machine/Sha.lean ====
section
/-! DEFINITION. SHA-384 (FIPS 180-4) and the curve P-384 (SP 800-186), which the spec names for key agreement and
signatures (09 R236, R237; 18). -/

namespace Sys2Proof.Machine

/-! ### SHA-384 -/

/-- The integer root of a number: the largest x with x^k at most n, below 2^bits. -/
def intRoot (k n bits : Nat) : Nat :=
  (List.range bits).reverse.foldl (fun x i => if (x + 2 ^ i) ^ k ≤ n then x + 2 ^ i else x) 0

/-- The first primes. -/
def primes : Nat → Nat → Nat → List Nat
  | 0, _, _ => []
  | fuel + 1, n, left =>
    if left = 0 then []
    else if (List.range n).all fun d => decide (d < 2) || n % d != 0 then n :: primes fuel (n + 1) (left - 1)
    else primes fuel (n + 1) left

/-- Round constants: the first 64 fraction bits of the cube roots of the first 80 primes. -/
def shaK : List DWord := (primes 500 2 80).map fun p => BitVec.ofNat 64 (intRoot 3 (p * 2 ^ 192) 70)

/-- Initial hash of SHA-384: the first 64 fraction bits of the square roots of the 9th to 16th primes. -/
def shaH0 : List DWord := ((primes 500 2 16).drop 8).map fun p => BitVec.ofNat 64 (intRoot 2 (p * 2 ^ 128) 72)

/-- The message schedule, last word first. -/
def shaSchedule : Nat → List DWord → List DWord
  | 0, w => w
  | n + 1, w =>
    let a := w.getD 1 0
    let b := w.getD 14 0
    let s1 := a.rotateRight 19 ^^^ a.rotateRight 61 ^^^ (a >>> 6)
    let s0 := b.rotateRight 1 ^^^ b.rotateRight 8 ^^^ (b >>> 7)
    shaSchedule n ((s1 + w.getD 6 0 + s0 + w.getD 15 0) :: w)

/-- One round. -/
def shaRound (v : List DWord) (kw : DWord × DWord) : List DWord :=
  match v with
  | [a, b, c, d, e, f, g, h] =>
    let t1 := h + (e.rotateRight 14 ^^^ e.rotateRight 18 ^^^ e.rotateRight 41) + ((e &&& f) ^^^ (~~~e &&& g)) + kw.1 + kw.2
    let t2 := (a.rotateRight 28 ^^^ a.rotateRight 34 ^^^ a.rotateRight 39) + ((a &&& b) ^^^ (a &&& c) ^^^ (b &&& c))
    [t1 + t2, a, b, c, d + t1, e, f, g]
  | v => v

/-- One 128-byte block. -/
def shaBlock (h : List DWord) (b : Bytes) : List DWord :=
  let w := (shaSchedule 64 ((List.range 16).reverse.map fun i => BitVec.ofNat 64 (natBE ((b.drop (8 * i)).take 8)))).reverse
  List.zipWith (· + ·) h ((shaK.zip w).foldl shaRound h)

def shaBlocks : Nat → Bytes → List DWord → List DWord
  | 0, _, h => h
  | n + 1, b, h => shaBlocks n (b.drop 128) (shaBlock h (b.take 128))

/-- SHA-384: 48 bytes. [PRESUMED, log entry 70] -/
def sha384 (m : Bytes) : Bytes :=
  let p := m ++ [0x80] ++ zeros ((239 - m.length % 128) % 128) ++ bytesBE 16 (8 * m.length)
  ((shaBlocks (p.length / 128) p shaH0).take 6).flatMap fun x => bytesBE 8 x.toNat

/-! ### P-384 -/

/-- Field prime, coefficient b, base point and order of P-384. -/
def p384 : Nat := 2 ^ 384 - 2 ^ 128 - 2 ^ 96 + 2 ^ 32 - 1
def p384B : Nat := 0xB3312FA7E23EE7E4988E056BE3F82D19181D9C6EFE8141120314088F5013875AC656398D8A2ED19D2A85C8EDD3EC2AEF
def p384N : Nat := 0xFFFFFFFFFFFFFFFFFFFFFFFFFFFFFFFFFFFFFFFFFFFFFFFFC7634D81F4372DDF581A0DB248B0A77AECEC196ACCC52973
def p384Gx : Nat := 0xAA87CA22BE8B05378EB1C71EF320AD746E1D3B628BA79B9859F741E082542A385502F25DBF55296C3A545E3872760AB7
def p384Gy : Nat := 0x3617DE4A96262C6F5D9E98BF9292DC29F8F41DBD289A147CE9DA3113B5F0B8C00A60B1CE1D7E819D7A431D7C90EA0E5F

/-- x to the e modulo m, for an exponent of at most `bits` bits. -/
def powMod (m x : Nat) : Nat → Nat → Nat
  | 0, _ => 1 % m
  | bits + 1, e =>
    let h := powMod m x bits (e / 2)
    let q := h * h % m
    if e % 2 = 1 then q * x % m else q

/-- The inverse modulo a prime. -/
def invMod (m x : Nat) : Nat := powMod m x 384 (m - 2)

/-- A point of the curve; none is the point at infinity. -/
abbrev Point := Option (Nat × Nat)

def onCurve (x y : Nat) : Bool :=
  decide (x < p384) && decide (y < p384) && y * y % p384 == (x * x % p384 * x + (p384 - 3) * x + p384B) % p384

/-- Doubling and addition of points. -/
def ecAdd (a b : Point) : Point :=
  match a, b with
  | none, q => q
  | q, none => q
  | some (x1, y1), some (x2, y2) =>
    if x1 = x2 ∧ (y1 + y2) % p384 = 0 then none
    else
      let l := if x1 = x2 ∧ y1 = y2 then (3 * x1 * x1 + p384 - 3) * invMod p384 (2 * y1 % p384) % p384
        else (y2 + p384 - y1) * invMod p384 ((x2 + p384 - x1) % p384) % p384
      let x := (l * l + 2 * p384 - x1 - x2) % p384
      some (x, (l * (x1 + p384 - x) + p384 - y1) % p384)

/-- Scalar multiplication by a number of at most `bits` bits. -/
def ecMul (q : Point) : Nat → Nat → Point
  | 0, _ => none
  | bits + 1, k =>
    let h := ecMul q bits (k / 2)
    let d := ecAdd h h
    if k % 2 = 1 then ecAdd d q else d

/-- An ECDSA P-384 signature over a message hash (SHA-384) holds for a public key. [PRESUMED, log entry 70] -/
def ecdsaHolds (pub : Point) (hash : Bytes) (r v : Nat) : Bool :=
  if r = 0 ∨ p384N ≤ r ∨ v = 0 ∨ p384N ≤ v then false
  else
    let w := invMod p384N v
    let u1 := natBE hash * w % p384N
    let u2 := r * w % p384N
    match ecAdd (ecMul (some (p384Gx, p384Gy)) 384 u1) (ecMul pub 384 u2) with
    | none => false
    | some (x, _) => x % p384N == r

end Sys2Proof.Machine
end

