-- ==== Sys2Proof/Machine/Keys.lean ====
section
/-! DEFINITION. CE (09): key slots, KEKs, the key commands, the host-direct cipher commands, epochs, random numbers. -/

namespace Sys2Proof.Machine

/-! ### Commands that work on no stream -/

/-- Runs the execution of a command that takes no lock. [DESIGN CHOICE, log entry 3] -/
def State.onCommand (s : State) (id op : Nat) (run : State → Cmd → State) : State :=
  let s := s.bringIn id
  match s.cmd? id with
  | none => s
  | some c => if c.phase == .ready && entOpcode c.entry == op then run s c else s

/-- Ends a command whose buffer list is bad (R108); otherwise goes on with its pieces. -/
def State.withBuffer (s : State) (c : Cmd) (listed : List BufPiece) (run : State → List BufPiece → State) : State :=
  match c.buffer listed with
  | none => s.finishCmd c stInvalidField 0x40 0
  | some ps => run s ps

/-! ### Slots (R233 to R235, R241) -/

/-- Global number of the slot a command names. -/
def State.slotOf (s : State) (c : Cmd) : Nat := s.keyBase c.fn + entHandle c.entry

/-- State of a slot as KEY_QUERY and the cipher commands see it: a retiring slot reads as empty (R254). -/
def KeySlot.shown (k : KeySlot) : Nat := if k.retiring then 0 else k.state

/-- Raises a generation, unless it stands at its end (R235). -/
def nextGen (g : Nat) : Nat := min (g + 1) 0xFFFFFFFF

/-- An open write stream of a function names its local slot (R240, R241). -/
def State.slotNamed (s : State) (f n : Nat) : Bool :=
  s.pe.streams.any fun e => (e.2.handle.map (·.1)) == some f && e.2.write && e.2.keySlot == some n

/-- KEY_LOW, once per install, when the remaining invocations are below the threshold (R246). -/
def State.keyLow (s : State) (f n : Nat) : State :=
  let g := s.keyBase f + n
  let k := s.slot g
  let rest := k.limit - k.used
  if k.state ≠ 0 ∧ k.lowTold = false ∧ rest < s.fld .ceKeyLow 0 0 15 0 * 65536 then
    (s.setSlot g { k with lowTold := true }).chime f 0x301 n (min (rest / 65536) 0xFFFF)
  else s

/-- Takes one invocation of a slot as an operation starts (R242). -/
def State.takeInvocation (s : State) (f n : Nat) : State :=
  let g := s.keyBase f + n
  let k := s.slot g
  let spent := decide (k.limit ≤ k.used + 1)
  let s := s.setSlot g { k with used := k.used + 1, state := if spent then 3 else k.state }
  let s := s.keyLow f n
  if spent then s.chime f 0x302 n 0 else s

/-- The place from which a stream's data is not sealed yet. -/
def State.unsealedFrom (s : State) (k : Nat) (x : Stream) : Place :=
  match s.pe.parcels.find? fun p => p.stream == k && p.sealedText.isNone && !p.dead && !s.isWritten p with
  | some p => ⟨p.first, 0⟩
  | none => x.placed

/-- A stream has parcels that wait to be sealed: formed, compressed, or in progress on a compressor (R140). -/
def State.awaitsSeal (s : State) (k : Nat) : Bool :=
  (s.pe.parcels.any fun p => p.stream == k && p.sealedText.isNone && !p.dead && !s.isWritten p) ||
    s.cx.outs.any (fun o => o.stream == k) || s.cx.engines.any fun e => (e.2.job.map (·.stream)) == some k

/-- The streams that seal under a device-wide slot. -/
def State.streamsOn (s : State) (g : Nat) : List Nat :=
  Tab.keys (s.pe.streams.filter fun e => match e.2.keySlot with
    | some n => s.keyBase (s.streamFn e.2) + n == g
    | none => false)

/-- Zeroises a slot: EMPTY, the generation advanced (R253). [DEDUCED, log entry 34] -/
def State.zeroSlot (s : State) (g : Nat) : State := s.setSlot g { keySlot0 with gen := nextGen (s.slot g).gen }

/-- KEY_ERASE of a slot (R253), and the deferred errors of streams whose parcels await it (R140). [DESIGN CHOICE, log entry 33] -/
def State.eraseSlot (s : State) (g : Nat) : State :=
  let hit := (s.streamsOn g).filter s.awaitsSeal
  let s := s.zeroSlot g
  hit.foldl (fun s k => match s.stream? k with
    | some x => s.deferError k (s.unsealedFrom k x).record 5
    | none => s) s

/-- A function's KEK. -/
def State.kek (s : State) (f : Nat) : Kek := s.ce.keks.get kek0 f

def State.setKek (s : State) (f : Nat) (k : Kek) : State :=
  { s with ce := { s.ce with keks := s.ce.keks.set f k } }

def State.eraseKek (s : State) (f : Nat) : State := s.setKek f ⟨none, nextGen (s.kek f).gen⟩

/-! ### Epochs (R243) -/

/-- Writes the upper bound of the next batch of 1,024 epochs, when the present batch is spent. -/
def State.reserveEpochs (s : State) : State :=
  if s.ce.epoch < s.ce.epochBound then s else { s with ce := { s.ce with epochBound := s.ce.epoch + 1024 } }

/-! ### KEY_INSTALL (R237 to R240, R252) -/

/-- An AEAD label is held by another slot of the function (R240). -/
def State.labelHeld (s : State) (f g label : Nat) : Bool :=
  s.ce.slots.any fun e => decide (s.keyBase f ≤ e.1 ∧ e.1 < s.keyBase f + s.keyCount f) && e.1 != g &&
    !e.2.raw && e.2.state != 0 && e.2.label == label

/-- Usage limit as the blob gives it (R239). -/
def blobLimit (b : Bytes) : Nat := if natLE ((b.drop 4).take 8) = 0 then 4294967296 else natLE ((b.drop 4).take 8)

/-- Bad fields of a data-key blob (R240). -/
def State.blobBad (s : State) (c : Cmd) (g : Nat) (b : Bytes) : Bool :=
  let raw := bitOf (entFlags c.entry) 2
  let label := natLE (b.take 4)
  (!raw && label == 0) || decide (4294967296 < blobLimit b) || natLE ((b.drop 12).take 4) != 0 ||
    (!raw && s.labelHeld c.fn g label)

/-- Step 3 of R252: the slot takes the new key. -/
def State.switchKey (s : State) (g : Nat) (raw : Bool) (key : Bytes) (label limit : Nat) : State :=
  let old := s.slot g
  if raw then s.setSlot g { keySlot0 with state := 1, raw := true, key := key, label := label, limit := limit, gen := old.gen + 1 }
  else
    let s := s.reserveEpochs
    let e := s.ce.epoch
    let s := { s with ce := { s.ce with epoch := e + 1 } }
    s.setSlot g { keySlot0 with state := 2, key := key, label := label, limit := limit, epoch := e, gen := old.gen + 1 }

/-- Installs a data key (R239, R240, R252). [DESIGN CHOICE, log entry 33] -/
def State.installKey (s : State) (c : Cmd) (b : Bytes) : State :=
  let g := s.slotOf c
  let raw := bitOf (entFlags c.entry) 2
  let old := s.slot g
  if old.retiring then s
  else
    match (s.kek c.fn).key with
    | none => s.finishCmd c stNoKey 0 0
    | some kk =>
      if s.blobBad c g b then s.finishCmd c stInvalidField 0x42 0
      else if raw && s.slotNamed c.fn (entHandle c.entry) then s.finishCmd c stKeyClass 0 0
      else
        match unwrapKey (bitOf (entFlags c.entry) 3) kk ((b.drop 16).take 40) with
        | none => (s.bump .ceUnwrapFail 0 0).finishCmd c stAuthFailed 0 0
        | some key =>
          if key.length ≠ 32 then (s.bump .ceUnwrapFail 0 0).finishCmd c stAuthFailed 0 0
          else if (raw = false ∧ 0xFFFFFFFF < s.ce.epoch) ∨ old.gen = 0xFFFFFFFF then s.finishCmd c stExhausted 0 0
          else
            let s := s.switchKey g raw key (natLE (b.take 4)) (blobLimit b)
            (s.finishCmd c stSuccess 0 (old.gen + 1)).keyLow c.fn (entHandle c.entry)

/-- The key-wrapping key of R237; none for a point that is not on the curve. -/
def wrapKey (tenant : Nat) (pub : Bytes) : Option Bytes :=
  let x := natBE ((pub.drop 1).take 48)
  let y := natBE ((pub.drop 49).take 48)
  if pub.head? = some 4#8 ∧ onCurve x y = true then
    match ecMul (some (x, y)) 384 (Config.identityKey % p384N) with
    | none => none
    | some (zx, _) =>
      some ((sha384 (bytesBE 4 1 ++ bytesBE 48 zx ++ [0x44, 0x41, 0x52, 0x48, 0x4F, 0x4C, 0x54, 0x2D, 0x4B, 0x45, 0x4B] ++
        bytesBE 1 tenant ++ bytesBE 4 Config.deviceNumber.toNat ++ bytesBE 48 x)).take 32)
  else none

/-- The KEK a blob carries, if every check of R238 passes. -/
def unwrapKek (padded : Bool) (tenant : Nat) (b : Bytes) : Option Bytes :=
  match wrapKey tenant (b.take 97) with
  | none => none
  | some k =>
    match unwrapKey padded k ((b.drop 104).take 40) with
    | some key => if key.length = 32 then some key else none
    | none => none

/-- Installs the tenant KEK (R237, R238). -/
def State.installKek (s : State) (c : Cmd) (b : Bytes) : State :=
  if ((b.drop 97).take 7).any (· != 0) then s.finishCmd c stInvalidField 0x42 0
  else
    match unwrapKek (bitOf (entFlags c.entry) 3) (s.tenant c.fn) b with
    | none => (s.bump .ceUnwrapFail 0 0).finishCmd c stAuthFailed 0 0
    | some key =>
      let old := s.kek c.fn
      if old.gen = 0xFFFFFFFF then s.finishCmd c stExhausted 0 0
      else (s.setKek c.fn ⟨some key, old.gen + 1⟩).finishCmd c stSuccess 0 (old.gen + 1)

/-! ### KEY_ERASE and KEY_QUERY (R140, R241, R253) -/

def State.keyErase (s : State) (c : Cmd) : State :=
  if bitOf (entFlags c.entry) 1 then
    let s := s.eraseKek c.fn
    s.finishCmd c stSuccess 0 (s.kek c.fn).gen
  else
    let s := s.eraseSlot (s.slotOf c)
    s.finishCmd c stSuccess 0 (s.slot (s.slotOf c)).gen

/-- The 32 bytes of KEY_QUERY (R241). -/
def State.slotStatus (s : State) (c : Cmd) : Bytes :=
  let k := s.slot (s.slotOf c)
  bytesLE 4 k.gen ++ bytesLE 4 k.label ++ bytesLE 8 k.limit ++ bytesLE 8 k.used ++ bytesLE 1 k.shown ++
    bytesLE 1 (natOf (s.slotNamed c.fn (entHandle c.entry)) + 2 * natOf (s.kek c.fn).key.isSome +
      4 * natOf k.retiring + 8 * natOf k.raw) ++ zeros 2 ++ bytesLE 4 k.epoch

def State.keyQuery (s : State) (c : Cmd) (ps : List BufPiece) : State :=
  if bitOf (entFlags c.entry) 1 then
    let cert := Config.certificate.take 2048
    (s.scatter c (cert.take (entLen c.entry)) ps).finishCmd c stSuccess 0 cert.length
  else (s.scatter c (s.slotStatus c) ps).finishCmd c stSuccess 0 (s.slot (s.slotOf c)).shown

/-! ### Cores and random numbers (R231, R255, R256) -/

/-- Counts bytes on a core in CE_CORE_BYTES, whole MiB at a time. -/
def State.onCore (s : State) (i n : Nat) : State :=
  let t := s.ce.rest.get 0 i + n
  let s := s.yieldUnit 5 i
  let s := { s with ce := { s.ce with nextCore := i + 1, rest := s.ce.rest.set i (t % mib) } }
  s.bumpBy .ceCoreBytes 0 i (t / mib)

/-- The next free core in rotating order does a piece of work (R177), and its bytes are counted. -/
def State.coreWork (s : State) (n : Nat) : State :=
  let all := (List.range (s.present 5)).filter fun i => !s.ce.retired.contains i
  let free := all.filter fun i => s.ms.slice != some (5, i)
  let all := if free.isEmpty then all else free
  match all.find? fun i => decide (s.ce.nextCore ≤ i) with
  | some i => s.onCore i n
  | none =>
    match all.head? with
    | some i => s.onCore i n
    | none => s

/-- CE can run no block now: masks are short while the TRNG is retested (R232, R256). -/
def State.cipherWaits (s : State) : Bool := s.ce.retesting

/-- Why host-direct cipher work fails (R25, R256). -/
def State.cipherFault (s : State) : Option Nat :=
  if s.ce.failed then some 2 else if s.below 5 then some 1 else none

/-- Bytes from the DRBG (R255). [DESIGN CHOICE, log entry 10; DESIGN CHOICE, log entry 35] -/
def State.drbg (s : State) (n : Nat) : Bytes × State :=
  ((List.range n).map (Config.randomByte s.fresh),
    { s.draw with ce := { s.ce with drbgUses := s.ce.drbgUses + 1 } })

/-! ### CIPHER_RAW and CIPHER_AEAD (R141, R142, R242, R244, R245, R247, R248) -/

/-- [DESIGN CHOICE, log entry 33] -/
def State.cipherRaw (s : State) (c : Cmd) (data : Bytes) : State :=
  let n := entLen c.entry
  let k := s.slot (s.slotOf c)
  let b := fit n data
  if n = 0 ∨ n % 16 ≠ 0 then s.finishCmd c stLength 1 0
  else if k.shown = 0 then s.finishCmd c stNoKey 0 0
  else if !k.raw then s.finishCmd c stKeyClass 0 0
  else if k.state = 3 then s.finishCmd c stExhausted 0 0
  else
    match s.cipherFault with
    | some d => s.finishCmd c stCipherFault d 0
    | none =>
      let dec := bitOf (entFlags c.entry) 1
      let s := (s.takeInvocation c.fn (entHandle c.entry)).coreWork n
      let out := ecb (if dec then aesDecrypt k.key else aesEncrypt k.key) (n / 16) b
      (s.dmaFor c (entList c.entry) out).finishCmd c stSuccess 0 n

/-- The deterministic IV of a slot at its present count (R244). -/
def slotIv (k : KeySlot) : Bytes := bytesBE 4 Config.deviceNumber.toNat ++ bytesBE 4 k.epoch ++ bytesBE 4 k.used

/-- The IV of an encryption, from the slot or from the DRBG (R245). -/
def State.aeadIv (s : State) (c : Cmd) (k : KeySlot) : Bytes × State :=
  if bitOf (entFlags c.entry) 2 then s.drbg 12 else (slotIv k, s)

def State.aeadSeal (s : State) (c : Cmd) (k : KeySlot) (b aad : Bytes) : State :=
  if k.state = 3 then s.finishCmd c stExhausted 0 0
  else
    match s.cipherFault with
    | some d => s.finishCmd c stCipherFault d 0
    | none =>
      let v := s.aeadIv c k
      let s := (v.2.takeInvocation c.fn (entHandle c.entry)).coreWork b.length
      let ct := gcmCrypt k.key v.1 b
      let area := entryField c.entry 56 8
      let s := if ct.isEmpty then s else s.dmaFor c (entList c.entry) ct
      let s := (s.dmaFor c area v.1).dmaFor c (area + 16) (gcmTag k.key v.1 aad ct)
      s.finishCmd c stSuccess 0 b.length

def State.aeadOpen (s : State) (c : Cmd) (k : KeySlot) (b aad area : Bytes) : State :=
  match s.cipherFault with
  | some d => s.finishCmd c stCipherFault d 0
  | none =>
    let iv := area.take 12
    let s := s.coreWork b.length
    if gcmTag k.key iv aad b = (area.drop 16).take 16 then
      let s := if b.isEmpty then s else s.dmaFor c (entList c.entry) (gcmCrypt k.key iv b)
      s.finishCmd c stSuccess 0 b.length
    else (s.bump .ceAuthFail 0 0).finishCmd c stAuthFailed 0 0

/-- [DESIGN CHOICE, log entry 33] -/
def State.cipherAead (s : State) (c : Cmd) (data aad area : Bytes) : State :=
  let n := entLen c.entry
  let na := entryField c.entry 48 4
  let k := s.slot (s.slotOf c)
  if 67108864 < n then s.finishCmd c stLength 2 0
  else if 65536 < na then s.finishCmd c stLength 3 0
  else if k.shown = 0 then s.finishCmd c stNoKey 0 0
  else if k.raw then s.finishCmd c stKeyClass 0 0
  else if bitOf (entFlags c.entry) 1 then s.aeadOpen c k (fit n data) (fit na aad) (fit 32 area)
  else s.aeadSeal c k (fit n data) (fit na aad)

/-! ### What happens when no more can reach tape (R25, R132, R323) -/

/-- The write path is gone: every stream with data that is not durable receives the deferred error of detail 3. [DESIGN CHOICE, log entry 35] -/
def State.cutOff (s : State) : State :=
  (s.pe.streams.keys.filter fun k => match s.stream? k with
    | some x => decide (x.durable < x.seqEnd)
    | none => false).foldl (fun s k => s.deferError k ((s.stream? k).map (·.durable) |>.getD 0) 3) s

/-- End of a TRNG retest (R256). [DESIGN CHOICE, log entry 35] -/
def State.retestEnd (s : State) (pass : Bool) : State :=
  if !s.ce.retesting then s
  else if pass then { s with ce := { s.ce with healthy := true, retesting := false, retests := 0 } }
  else if s.ce.retests + 1 < 3 then { s with ce := { s.ce with retests := s.ce.retests + 1 } }
  else
    let s := { s with ce := { s.ce with retesting := false, retests := 3, failed := true } }
    ((s.bump .ceTrngFail 0 0).logEv .trngFail 0 0 0).cutOff

/-! ### The commands -/

/-- KEY_INSTALL of a data key (R239, R240): the operands are the buffer list and the blob in host memory. -/
def execKeyInstall (id : Nat) (pieces : List BufPiece) (blob : Bytes) (s : State) : Host.Outcome State Fault Refusal :=
  .next (s.onCommand id 0x30 fun s c =>
    if bitOf (entFlags c.entry) 1 then s else s.withBuffer c pieces fun s _ => s.installKey c (fit 56 blob))

/-- KEY_INSTALL of a KEK (R237, R238). -/
def execKeyInstallKek (id : Nat) (pieces : List BufPiece) (blob : Bytes) (s : State) :
    Host.Outcome State Fault Refusal :=
  .next (s.onCommand id 0x30 fun s c =>
    if bitOf (entFlags c.entry) 1 then s.withBuffer c pieces fun s _ => s.installKek c (fit 144 blob) else s)

/-- KEY_ERASE (R253). -/
def execKeyErase (id : Nat) (s : State) : Host.Outcome State Fault Refusal := .next (s.onCommand id 0x31 State.keyErase)

/-- KEY_QUERY of a slot (R241). -/
def execKeyQuery (id : Nat) (pieces : List BufPiece) (s : State) : Host.Outcome State Fault Refusal :=
  .next (s.onCommand id 0x32 fun s c =>
    if bitOf (entFlags c.entry) 1 then s else s.withBuffer c pieces fun s ps => s.keyQuery c ps)

/-- KEY_QUERY with identity (R140, R236). -/
def execKeyQueryIdentity (id : Nat) (pieces : List BufPiece) (s : State) : Host.Outcome State Fault Refusal :=
  .next (s.onCommand id 0x32 fun s c =>
    if bitOf (entFlags c.entry) 1 then s.withBuffer c pieces fun s ps => s.keyQuery c ps else s)

/-- CIPHER_RAW (R141, R247). -/
def execCipherRaw (id : Nat) (pieces : List BufPiece) (data : Bytes) (s : State) : Host.Outcome State Fault Refusal :=
  .next (s.onCommand id 0x38 fun s c =>
    if s.cipherWaits then s else s.withBuffer c pieces fun s _ => s.cipherRaw c data)

/-- CIPHER_AEAD (R142, R248): the operands are what host memory holds as buffer list, input, additional data and IV and
tag area. -/
def execCipherAead (id : Nat) (pieces : List BufPiece) (data aad area : Bytes) (s : State) :
    Host.Outcome State Fault Refusal :=
  .next (s.onCommand id 0x39 fun s c =>
    if s.cipherWaits then s else s.withBuffer c pieces fun s _ => s.cipherAead c data aad area)

/-- TRNG_HEALTH_FAIL (R256): CE starts no block, and a retest begins. -/
def execTrngHealthFail (s : State) : Host.Outcome State Fault Refusal :=
  .next (if s.ce.failed || s.ce.retesting then s
    else { s with ce := { s.ce with healthy := false, retesting := true, retests := 0 } })

/-- TRNG_RETEST_END (R256). -/
def execTrngRetestEnd (pass : Bool) (s : State) : Host.Outcome State Fault Refusal := .next (s.retestEnd pass)

/-- DRBG_RESEED (R255): after 65,536 generate requests. -/
def execDrbgReseed (s : State) : Host.Outcome State Fault Refusal :=
  .next (if 65536 ≤ s.ce.drbgUses then
      { s.draw with ce := { s.ce with drbgUses := 0, seeds := s.ce.seeds + 1 } }
    else s)

/-- KEY_STORE_UE (R253): the device-wide slot. -/
def execKeyStoreUe (slot : Nat) (s : State) : Host.Outcome State Fault Refusal :=
  .next (if slot < 4096 then (s.eraseSlot slot).logEv .keyUe 0 slot 0 else s)

/-- EPOCH_BATCH_RESERVE (R243). -/
def execEpochBatchReserve (s : State) : Host.Outcome State Fault Refusal := .next s.reserveEpochs

end Sys2Proof.Machine
end

