-- ==== Sys2Proof/Machine/Layout.lean ====
section
/-! DEFINITION. The layout of tape (10): wraps, zones and extents, frame positions and the interleave map (11 R302),
preambles, dataset headers, parcels and book content. -/

namespace Sys2Proof.Machine

/-! ### Wraps, zones, extents (R259 to R264) -/

def bandOf (w : Nat) : Nat := w / 64

/-- Wraps with an odd index in their band are reverse (R259). -/
def isReverse (w : Nat) : Bool := w % 2 == 1

/-- The edge zone: bands 0 and 3 (R264). -/
def isEdge (w : Nat) : Bool := bandOf w == 0 || bandOf w == 3

/-- Extent length of a wrap's zone in ticks, in the table as shipped (R264). -/
def extentTicks (w : Nat) : Nat := if isEdge w then 280 else 240

/-- Frames per dataset of a track at a step (R264). [DESIGN CHOICE, log entry 9] -/
def framesAt (step : Nat) : Nat := 48 + 4 * step

/-- E_L of the mounted cartridge (R260). -/
def State.endTick (s : State) : Nat := s.ct.cart.endTick

/-- Whole extents of a wrap (R261). -/
def State.extents (s : State) (w : Nat) : Nat := (s.endTick - 2464) / extentTicks w

/-- Chainage of an extent: its lowest tick (R261). -/
def State.chainOf (s : State) (w i : Nat) : Nat :=
  if isReverse w then s.endTick - 64 - (i + 1) * extentTicks w else 2464 + i * extentTicks w

/-- The extent of a wrap that lies at a chainage. -/
def State.extentAt (s : State) (w chain : Nat) : Nat :=
  if isReverse w then (s.endTick - 64 - chain) / extentTicks w - 1 else (chain - 2464) / extentTicks w

/-- The wraps in the order of the image as shipped: bands 1, 2, 0, 3 (R162). [DESIGN CHOICE, log entry 9] -/
def wrapOrder : List Nat := [1, 2, 0, 3].flatMap fun b => (List.range 64).map (64 * b + ·)

/-- The wrap after a wrap in that order. -/
def nextWrap (w : Nat) : Option Nat := ((wrapOrder.dropWhile (· != w)).drop 1).head?

/-! ### Frame positions (R273, R302) -/

/-- All positions of a dataset in leftover order: p descending, then k ascending. -/
def leftoverOrder (fs : List Nat) : List (Nat × Nat) :=
  ((List.range 76).reverse).flatMap fun p =>
    (List.range fs.length).filterMap fun k => if p < fs.getD k 0 then some (k, p) else none

/-- Positions each track keeps once the leftovers are taken. -/
def cuts (fs : List Nat) (leftover : Nat) : List Nat :=
  let l := (leftoverOrder fs).take leftover
  (List.range fs.length).map fun k => fs.getD k 0 - (l.filter fun q => q.1 == k).length

/-- Sum of a list up to each place. -/
def starts : Nat → List Nat → List Nat
  | _, [] => []
  | n, c :: t => n :: starts (n + c) t

/-- The positions of a tier in frame order (R302): those with n mod T = t, by occurrence and track. -/
def tierPlaces (cs : List Nat) (tiers t : Nat) : List (Nat × Nat) :=
  let all := (cs.zip (starts 0 cs)).zipIdx.flatMap fun ck =>
    (List.range ck.1.1).filterMap fun p =>
      let q := (p + 5 * ck.2 * (ck.1.1 - 1)) % ck.1.1
      let n := ck.1.2 + q
      if n % tiers = t then some (q / tiers, ck.2, p) else none
  (sortBy (fun x => x.1 * 1000 + x.2.1) all).map fun x => (x.2.1, x.2.2)

/-- Frames of each track. -/
def Geometry.fs (g : Geometry) : List Nat := g.steps.map framesAt

def Geometry.sigma (g : Geometry) : Nat := g.fs.sum

/-- Slot and position of each frame of a tier. -/
def Geometry.tierFrames (g : Geometry) (t : Nat) : List (Nat × Nat) :=
  (tierPlaces (cuts g.fs g.leftover) g.tiers t).map fun x => (g.slots.getD x.1 0, x.2)

/-- Slot and position of each leftover frame, in order. -/
def Geometry.extras (g : Geometry) : List (Nat × Nat) :=
  ((leftoverOrder g.fs).take g.leftover).map fun x => (g.slots.getD x.1 0, x.2)

/-- What lies at a position: a tier frame, or leftover frame i. -/
inductive FrameRole where
  | tier (t i : Nat)
  | extra (i : Nat)
  deriving DecidableEq, Repr

/-- The role of a slot and position in a dataset. -/
def Geometry.role (g : Geometry) (slot pos : Nat) : Option FrameRole :=
  match g.extras.findIdx? (· == (slot, pos)) with
  | some i => some (.extra i)
  | none =>
    (List.range g.tiers).findSome? fun t => (((g.tierFrames t).findIdx? (· == (slot, pos))).map fun i => FrameRole.tier t i)

/-! ### The preamble (R269) -/

/-- The number a label, root or void dataset carries in place of one. -/
def noDataset : Nat := 0xFFFFFFFFFFFF

/-- The information block of a track, as a 688-bit number. -/
def Geometry.infoValue (g : Geometry) (slot step frames : Nat) : Nat :=
  let put := fun (v lo : Nat) => v * 2 ^ lo
  put 0xD7 680 + put g.kind 676 + put g.restart 674 + put (natOf (isEdge g.wrap)) 673 +
    put (natOf (isReverse g.wrap)) 672 + put g.num 624 + put g.wrap 616 + put slot 608 + put step 604 +
    put frames 596 + put g.tiers 590 + put g.slots.length 582 + put g.leftover 570 + put g.chainage 538 +
    (g.slots.map fun n => 2 ^ (537 - n)).sum +
    (g.steps.zipIdx.map fun x => x.1 * 2 ^ (399 - 3 * x.2)).sum

/-- The preamble bits of track k. -/
def Geometry.preamble (g : Geometry) (k : Nat) : Bits :=
  let st := g.steps.getD k 0
  preambleBits (bitsBE 688 (g.infoValue (g.slots.getD k 0) st (if g.kind = 5 then 0 else framesAt st)))

/-- The geometry an information block gives. -/
def readGeometry (info : Bits) : Geometry :=
  let v := natOfBE info
  let slots := (List.range 136).filter fun n => v.testBit (537 - n)
  { num := bitsOf v 671 624, kind := bitsOf v 679 676, restart := bitsOf v 675 674, wrap := bitsOf v 623 616
    chainage := bitsOf v 569 538, slots := slots
    steps := (List.range slots.length).map fun k => bitsOf v (401 - 3 * k) (399 - 3 * k)
    tiers := bitsOf v 595 590, leftover := bitsOf v 581 570 }

/-- The step of a slot in a dataset. -/
def Geometry.stepOf (g : Geometry) (slot : Nat) : Option Nat := (g.slots.findIdx? (· == slot)).map fun k => g.steps.getD k 0

/-! ### Parcels (R278, R279) -/

/-- Flags byte of a parcel. -/
def Parcel.flags (p : Parcel) : Nat := natOf p.continues + 2 * natOf p.cont + 4 * natOf p.chunk

def Parcel.tenant (p : Parcel) : Nat := p.stream.unpair.1

def Parcel.sid (p : Parcel) : Nat := p.stream.unpair.2

/-- Bytes a parcel takes in its dataset. -/
def Parcel.size (p : Parcel) : Nat := 64 + p.payload.length + 16

/-- The 64-byte parcel header (R279). -/
def Parcel.header (p : Parcel) : Bytes :=
  bytesBE 2 0x50A7 ++ [1] ++ bytesBE 1 p.flags ++ bytesBE 1 p.tenant ++ [0] ++ bytesBE 2 p.index ++
    bytesBE 8 p.sid ++ bytesBE 8 p.first ++ bytesBE 4 (p.last + 1 - p.first) ++ bytesBE 4 p.key ++ fit 12 p.iv ++
    bytesBE 4 p.plainLen ++ bytesBE 4 p.payload.length ++ zeros 12

/-- A parcel as it lies on tape, once sealed: header, ciphertext, tag. -/
def Parcel.onTapeBytes (p : Parcel) : Bytes := p.header ++ p.sealedText.getD (zeros p.payload.length) ++ fit 16 p.tag

/-- The directory entry (R278). -/
def Parcel.entry (p : Parcel) : Bytes :=
  bytesBE 4 p.offset ++ bytesBE 4 p.size ++ bytesBE 1 p.tenant ++ bytesBE 1 p.flags ++ zeros 2 ++ bytesBE 8 p.sid ++
    bytesBE 8 p.first ++ bytesBE 4 (p.last + 1 - p.first)

/-- The next multiple of 16. -/
def up16 (n : Nat) : Nat := (n + 15) / 16 * 16

/-- Parcels of a dataset, in directory order. -/
def State.parcelsIn (s : State) (ds : Nat) : List Parcel := sortBy Parcel.index (s.pe.parcels.filter fun p => p.dataset == ds)

/-! ### The dataset header and payload (R276, R277, R283) -/

/-- A rewrite descriptor. -/
def FrameRef.bytes (f : FrameRef) : Bytes := bytesBE 6 f.dataset ++ bytesBE 1 f.tier ++ bytesBE 1 f.frame

/-- An entry of the member table of a parity dataset. -/
def memberEntry (m : Nat × Nat × Nat) : Bytes := bytesBE 6 m.1 ++ bytesBE 1 m.2.1 ++ bytesBE 1 m.2.2

/-- The nibbles of a step vector (R277). -/
def stepBytes (steps : List Nat) : Bytes :=
  (List.range 64).map fun i => BitVec.ofNat 8 (steps.getD (2 * i) 0 * 16 + steps.getD (2 * i + 1) 0)

/-- The slot map of a header (R277). -/
def slotBytes (slots : List Nat) : Bytes :=
  (List.range 17).map fun i => BitVec.ofNat 8 (((List.range 8).map fun b =>
    natOf (slots.contains (8 * i + b)) * 2 ^ (7 - b)).sum)

/-- The 4,096-byte dataset header. -/
def Dataset.header (d : Dataset) (ps : List Parcel) : Bytes :=
  let g := d.geo
  let body := bytesBE 4 0x52464448 ++ [1] ++ bytesBE 1 g.kind ++ bytesBE 6 g.num ++ bytesBE 1 g.tiers ++
    bytesBE 1 g.slots.length ++ bytesBE 2 g.leftover ++ bytesBE 4 d.group ++ bytesBE 1 d.position ++
    bytesBE 1 d.part ++ bytesBE 1 g.wrap ++ bytesBE 1 (natOf (isEdge g.wrap)) ++ bytesBE 4 g.chainage ++
    bytesBE 1 g.restart ++ bytesBE 1 ps.length ++ bytesBE 2 d.rewrites.length ++ bytesBE 4 d.parityOff ++
    bytesBE 4 d.parityLen ++ zeros 24 ++ slotBytes g.slots ++ zeros 7 ++ stepBytes g.steps ++ zeros 360
  let dir := if g.kind = 2 then (d.members.map memberEntry).flatten else (ps.map Parcel.entry).flatten
  let all := fit 512 body ++ fit 2048 dir ++ fit 1504 (d.rewrites.map FrameRef.bytes).flatten ++ zeros 28
  all ++ bytesBE 4 (crc32c all).toNat

/-- Bytes of a parcel area (R276, R281). -/
def areaBytes (tiers : Nat) : Nat := 445440 * tiers - 4096

/-- The parcel area: parcels at their offsets, zero elsewhere (R279); the content of a parity dataset (R282). -/
def Dataset.area (d : Dataset) (ps : List Parcel) : Bytes :=
  let b := if d.geo.kind = 0 ∨ d.geo.kind = 1 then
      ps.foldl (fun b p => splice b (p.offset - 4096) p.onTapeBytes) [] else d.content
  fit (areaBytes d.geo.tiers) b

/-- The payload of a dataset that DF still holds (R276). -/
def State.payloadOf (s : State) (d : Dataset) : Bytes :=
  let ps := s.parcelsIn d.num
  d.header ps ++ d.area ps

/-- Bytes of one tier. -/
def tierBytes (payload : Bytes) (t : Nat) : Bytes := (payload.drop (445440 * t)).take 445440

/-- What the header of a payload says (R277); none where its magic or CRC is wrong. -/
def headerOk (b : Bytes) : Bool :=
  natBE (b.take 4) == 0x52464448 && natBE ((b.drop 4092).take 4) == (crc32c (b.take 4092)).toNat

/-- A big-endian field of a byte string. -/
def fieldBE (b : Bytes) (off n : Nat) : Nat := natBE ((b.drop off).take n)

/-- The rewrite descriptors of a header. -/
def headerRewrites (b : Bytes) : List FrameRef :=
  (List.range (min 188 (fieldBE b 30 2))).map fun i =>
    ⟨fieldBE b (2560 + 8 * i) 6, fieldBE b (2566 + 8 * i) 1, fieldBE b (2567 + 8 * i) 1⟩

/-- The member table of a parity dataset's header. -/
def headerMembers (b : Bytes) : List (Nat × Nat × Nat) :=
  (List.range 30).map fun i => (fieldBE b (512 + 8 * i) 6, fieldBE b (518 + 8 * i) 1, fieldBE b (519 + 8 * i) 1)

/-! ### Book content and root record (R284 to R286) -/

/-- A prior book's entry. -/
def Book.bytes (b : Book) : Bytes := bytesBE 6 b.dataset ++ bytesBE 1 b.wrap ++ [0] ++ bytesBE 4 b.chainage ++ zeros 4

/-- The content of a book dataset (R284). -/
def bookContent (num firstOfLeg : Nat) (prior : List Book) (ps : List Parcel) (dead : List (Nat × Nat))
    (created : List Nat) : Bytes :=
  bytesBE 4 0x5246424B ++ bytesBE 6 num ++ bytesBE 6 firstOfLeg ++ bytesBE 4 prior.length ++ bytesBE 4 ps.length ++
    bytesBE 4 dead.length ++ bytesBE 4 created.length ++ zeros 32 ++ (prior.map Book.bytes).flatten ++
    (ps.map Parcel.bookRecord).flatten ++
    (dead.map fun d => bytesBE 8 d.1.unpair.2 ++ bytesBE 1 d.1.unpair.1 ++ zeros 7 ++ bytesBE 8 d.2).flatten ++
    (created.map fun k => bytesBE 8 k.unpair.2 ++ bytesBE 1 k.unpair.1 ++ zeros 7).flatten

/-- The last book dataset (R284). -/
def State.lastBook (s : State) : Option Book := s.pe.books.getLast?

/-- The 64-byte root record (R286). -/
def State.rootRecord (s : State) (seq : Nat) : Bytes :=
  let b := s.lastBook.getD ⟨0, 0, 0, 0⟩
  let f := s.pe.frontier.getD (0, 0)
  let g := s.df.groups.getLast?
  let body := bytesBE 4 0x52465254 ++ bytesBE 4 seq ++ bytesBE 6 b.dataset ++ bytesBE 1 b.wrap ++ bytesBE 1 b.restart ++
    bytesBE 4 b.chainage ++ bytesBE 6 s.pe.nextDataset ++ bytesBE 1 f.1 ++ [0] ++ bytesBE 4 (s.chainOf f.1 f.2) ++
    bytesBE 4 ((g.map (·.num)).getD 0) ++ bytesBE 1 ((g.map (·.members.length)).getD 0) ++ zeros 23
  body ++ bytesBE 4 (crc32c body).toNat

end Sys2Proof.Machine
end

