-- ==== Sys2Proof/Machine/Calib.lean ====
section
/-! DEFINITION. Live calibration (14) with the choice of active slots (06 R163, R164): steps, trims, records, health. -/

namespace Sys2Proof.Machine

/-! ### Slots -/

/-- The trims of the channel defaults as shipped (R317, R524). -/
def trims0 : Trims := { iw := 32, pre1 := 8, pre2 := 3 }

/-- A slot's calibration state after a reset of R386. [DESIGN CHOICE, log entry 7] -/
def calSlot0 : CalSlot :=
  { step := 0, trims0 := trims0, trims2 := trims0, window := [], trim := 0, dither := 1, testFrom := 0, retired := false,
    bench := none, last := none }

def State.cal (s : State) (n : Nat) : CalSlot := s.vc.slots.get calSlot0 n

def State.setCal (s : State) (n : Nat) (c : CalSlot) : State := { s with vc := { s.vc with slots := s.vc.slots.set n c } }

def State.modCal (s : State) (n : Nat) (g : CalSlot → CalSlot) : State := s.setCal n (g (s.cal n))

/-- Changes every slot. -/
def State.modCals (s : State) (g : Nat → CalSlot → CalSlot) : State :=
  (List.range 136).foldl (fun s n => s.setCal n (g n (s.cal n))) s

/-- A channel's trims for a write module (R314, R368). -/
def CalSlot.trimsFor (c : CalSlot) (rev : Bool) : Trims := if rev then c.trims2 else c.trims0

/-- Overrides of a slot (R384). -/
def State.calCtrl (s : State) (n : Nat) : Nat := s.reg .vcCalCtrl 0 n

/-- The slot's step is held (R384). -/
def State.stepHeld (s : State) (n : Nat) : Bool := bitOf (s.calCtrl n) 1 || bitOf (s.calCtrl n) 4

/-- The slot's trims are frozen (R384). -/
def State.trimFrozen (s : State) (n : Nat) : Bool := bitOf (s.calCtrl n) 0

/-- δ of R382. -/
def State.ditherStep (s : State) : Nat := min 4 (s.fld .vcTrim 0 0 3 0)

/-! ### Health and the active set (R163, R164) -/

def State.healthOf (s : State) (n : Nat) : Nat := s.pe.health.get 128 n

def State.setHealth (s : State) (n v : Nat) : State := { s with pe := { s.pe with health := s.pe.health.set n v } }

/-- PE_SLOT_EXCL names the slot. -/
def State.excluded (s : State) (n : Nat) : Bool := bitOf (s.reg .peSlotExcl 0 (n / 32)) (n % 32)

/-- The slot may be chosen for writing (R164). -/
def State.qualifies (s : State) (n : Nat) : Bool :=
  decide (n < 136) && decide (0 < s.healthOf n) && !s.excluded n && !s.wc.retired.contains n && !(s.cal n).retired

/-- Slots from the healthiest down; the lower number first on a tie. -/
def State.byHealth (s : State) (l : List Nat) : List Nat := sortBy (fun n => 255 - s.healthOf n) (sortBy id l)

/-- The active slots of a wrap, ascending, and the idle ones (R164). -/
def State.chooseActive (s : State) : List Nat × List Nat :=
  let q := s.byHealth ((List.range 136).filter s.qualifies)
  let a := q.take (s.active 1)
  (sortBy id a, (List.range 136).filter fun n => !a.contains n)

/-! ### Steps (R272, R373, R374, R274) -/

/-- Frames of a step vector. -/
def sumFrames (steps : List Nat) : Nat := (steps.map framesAt).sum

/-- Raises one track by one step unless the vector already fits or the track stands at its limit. [DEDUCED, log entry 36] -/
def raiseOne (target : Nat) (lim : Nat → Nat) (steps : List Nat) (k : Nat) : List Nat :=
  if target ≤ sumFrames steps then steps
  else if steps.getD k 0 < lim k then steps.set k (steps.getD k 0 + 1) else steps

/-- Raises tracks in an order, round after round, until the vector carries `target` frames (R272). [DEDUCED, log entry 36] -/
def raiseTo (target : Nat) (lim : Nat → Nat) (order : List Nat) : Nat → List Nat → List Nat
  | 0, steps => steps
  | n + 1, steps =>
    if target ≤ sumFrames steps then steps
    else raiseTo target lim order n (order.foldl (raiseOne target lim) steps)

/-- Track numbers of a slot list in the order of health (R272). -/
def State.healthOrder (s : State) (slots : List Nat) : List Nat :=
  (s.byHealth slots).filterMap fun n => slots.findIdx? (· == n)

/-- The starting step that a band's hint or VC_START gives (R373). -/
def State.startHint (s : State) (band : Nat) : Nat :=
  match if s.fld .vcStart 0 0 4 4 = 1 then s.ct.cart.hints.getD band none else none with
  | some st => st
  | none => s.fld .vcStart 0 0 2 0

/-- The starting step of a slot in a band (R373). -/
def State.startStep (s : State) (band n : Nat) : Nat :=
  match (s.cal n).last with
  | some (b, st) => if b = band then st else s.startHint band
  | none => s.startHint band

/-- Gives slots their starting steps, raised where the vector would not fit (R373, R374). -/
def State.startSteps (s : State) (band : Nat) (slots : List Nat) : List Nat :=
  let st := slots.map (s.startStep band)
  raiseTo 6144 (fun _ => s.fld .vcStart 0 0 2 0) (s.healthOrder slots) 8 st

/-- Empties a slot's window; the current test restarts (R370, R383). -/
def CalSlot.emptied (c : CalSlot) : CalSlot := { c with window := [], dither := 1, testFrom := 0 }

/-- Changes a slot's step: counted and logged; the window is emptied (R370, R384). [DEDUCED, log entry 36] -/
def State.stepTo (s : State) (n st : Nat) : State :=
  let old := (s.cal n).step
  if st = old then s
  else
    let s := (s.bump (if old < st then .vcRaises else .vcDrops) 0 0).logEv .step 0 n (old * 256 + st)
    s.modCal n fun c => { c.emptied with step := st }

/-! ### Records (R369, R370, R375 to R378) -/

/-- kdrop and raise; 0 is read as 1 (R387). -/
def State.kdrop (s : State) : Nat := max 1 (s.fld .vcStep 0 0 19 16)
def State.raiseAt (s : State) : Nat := max 1 (s.fld .vcStep 0 0 7 0)

/-- A raise of R375 is due. -/
def State.raiseDue (s : State) (c : CalSlot) : Bool :=
  c.window.length == 16 && decide (c.step < 7) &&
    c.window.all fun r => decide (s.raiseAt ≤ r.worst) && r.k == 0 && r.probeFails == 0

/-- Acts on a record just formed: drop, retirement for the wrap, or raise (R375, R376, R378). -/
def State.actOnStep (s : State) (n : Nat) (r : CalRec) : State :=
  let c := s.cal n
  if s.stepHeld n then s
  else if s.kdrop ≤ r.k then
    if c.step = 0 then
      ((s.modCal n fun c => { c with retired := true }).bump .vcRetired 0 0).logEv .slotRetired 0 n 0
    else s.stepTo n (c.step - 1)
  else if s.raiseDue c then s.stepTo n (c.step + 1)
  else s

/-- Adds to a trim under test, clamped to its range (R382, R383). -/
def Trims.move (t : Trims) (which : Nat) (d : Int) : Trims :=
  let add := fun (v hi : Nat) => (min (hi : Int) (max 0 (v + d))).toNat
  match which with
  | 0 => { t with iw := add t.iw 63 }
  | 1 => { t with pre1 := add t.pre1 31 }
  | _ => { t with pre2 := add t.pre2 31 }

/-- Sum of the mean margins of the records of a sign. -/
def meanSum (l : List CalRec) (sign : Int) : Int := ((l.filter fun r => r.sign == sign).map fun r => (r.mean : Int)).sum

/-- Compares the two signs of a full window and moves the trim (R383). The records that the finished test has used bear
no sign for the next one, which begins with the next dataset formed. [DEDUCED, log entry 76] -/
def State.actOnTrim (s : State) (n : Nat) (rev : Bool) : State :=
  let c := s.cal n
  let full := c.window.length == 16 && (c.window.filter fun r => r.sign == 1).length == 8 &&
    (c.window.filter fun r => r.sign == -1).length == 8
  if s.ditherStep = 0 || s.trimFrozen n || !full then s
  else
    let d := meanSum c.window 1 - meanSum c.window (-1)
    let h := 8 * (s.fld .vcTrim 0 0 15 8 : Int)
    let by_ : Int := if h ≤ d then 1 else if d ≤ -h then -1 else 0
    let moved := (c.trimsFor rev).move c.trim by_
    let s := if moved = c.trimsFor rev then s else s.bump .vcTrimMoves 0 0
    s.setCal n { c with
      trims0 := if rev then c.trims0 else moved
      trims2 := if rev then moved else c.trims2
      window := c.window.map fun r => { r with sign := 0 }
      trim := (c.trim + 1) % 3, dither := 1, testFrom := s.pe.nextDataset }

/-- [DESIGN CHOICE, log entry 7] -/
def tally0 (ds restart slot : Nat) : Tally := ⟨ds, restart, slot, 0, 255, 0, 0, 0, 0⟩

def State.tally (s : State) (ds restart slot : Nat) : Tally :=
  (s.vc.tallies.find? fun t => t.dataset == ds && t.restart == restart && t.slot == slot).getD (tally0 ds restart slot)

def State.setTally (s : State) (t : Tally) : State :=
  { s with vc := { s.vc with tallies := (s.vc.tallies.filter fun u =>
      !(u.dataset == t.dataset && u.restart == t.restart && u.slot == t.slot)) ++ [t] } }

/-- Every frame a track wrote in a dataset has been graded or cut (R369). -/
def Dataset.trackDone (d : Dataset) (slot : Nat) : Bool :=
  let f := ((d.geo.stepOf slot).map framesAt).getD 0
  let seen := fun (l : List (Nat × Nat)) => (l.filter fun p => p.1 == slot).length
  decide (f ≤ seen d.graded + (d.cut.filter fun p => p.1 == slot && !d.graded.contains p).length)

/-- Forms a track's record once all its frames have been graded, and acts on it (R369). A dataset of another step than
the current one, or of a wrap that is over, gives none. -/
def State.formRecord (s : State) (d : Dataset) (slot : Nat) : State :=
  if !d.trackDone slot then s
  else
    let t := s.tally d.num d.geo.restart slot
    let s := { s with vc := { s.vc with tallies := s.vc.tallies.filter fun u =>
      !(u.dataset == d.num && u.restart == d.geo.restart && u.slot == slot) } }
    let c := s.cal slot
    let k := (d.geo.slots.findIdx? (· == slot)).getD 0
    if t.count = 0 || d.geo.stepOf slot != some c.step || s.pe.wrapNow != some d.geo.wrap || c.retired then s
    else
      let r : CalRec := ⟨t.worst, t.sum / t.count, t.k, t.probes, t.probeFails,
        if d.num < c.testFrom then 0 else d.signs.getD k 0⟩
      let w := c.window ++ [r]
      let s := s.setCal slot { c with window := w.drop (w.length - 16) }
      let s := s.actOnStep slot r
      s.actOnTrim slot (isReverse d.geo.wrap)

/-! ### The wrap's start and end (R163, R370 to R373) -/

/-- Ends the active window of a wrap: each active slot takes its health and remembers its step (R163, R373). [DEDUCED, log entry 36] -/
def State.endWindow (s : State) : State :=
  match s.pe.wrapNow with
  | none => s
  | some w =>
    let s := s.pe.active.foldl (fun s n =>
      let c := s.cal n
      let s := s.setHealth n (if c.retired then 0 else 32 * c.step + 31 - min (s.pe.caused.get 0 n) 31)
      s.setCal n { c with last := some (bandOf w, c.step) }) s
    { s with pe := { s.pe with wrapNow := none, active := [], idle := [], caused := [] } }

/-- A benchmark result passes (R372). -/
def State.trains (s : State) (b : BenchRead) : Bool :=
  b.locked && decide (b.errors ≤ s.fld .vcBench 0 0 15 0) && decide (b.mse ≤ s.fld .vcBench 0 0 23 16)

/-- Makes a choice of slots active with their steps, each window empty (R164, R370, R373). -/
def State.startWindow (s : State) (w : Nat) (slots : List Nat) (steps : List Nat) : State :=
  let s := (slots.zip steps).foldl (fun s x => s.modCal x.1 fun c => { c.emptied with step := x.2 }) s
  { s with pe := { s.pe with wrapNow := some w, active := slots, caused := []
                             idle := (List.range 136).filter fun n => !slots.contains n } }

/-- Judges a wrap's benchmark on all slots and starts the wrap (R163, R164, R371 to R373). -/
def State.benchmark (s : State) (w : Nat) (res : List BenchRead) : State :=
  let s := ((List.range 136).foldl State.adapt s.endWindow).restartKernels
  let s := (List.range 136).foldl (fun s n =>
    let b := res.getD n ⟨false, 0, 0⟩
    let s := s.modCal n fun c => { c.emptied with retired := false, bench := some b }
    if s.trains b then s else s.setHealth n 0) s
  let a := s.chooseActive
  let s := s.startWindow w a.1 (s.startSteps (bandOf w) a.1)
  if a.1.length < 96 then { s with pe := { s.pe with refused := true } } else s

/-- Replaces the active slots that are retired by substitutes (R22, R378, R379). -/
def State.substitute (s : State) : State :=
  match s.pe.wrapNow with
  | none => s
  | some w =>
    let gone := s.pe.active.filter fun n => (s.cal n).retired || s.wc.retired.contains n
    gone.foldl (fun s n =>
      let s := if (s.cal n).retired then s.setHealth n 0 else s
      let left := s.pe.active.filter (· != n)
      match (s.byHealth (s.pe.idle.filter s.qualifies)).head? with
      | some m =>
        let s := s.modCal m fun c => { c.emptied with step := s.startStep (bandOf w) m }
        { s with pe := { s.pe with active := sortBy id (m :: left), idle := n :: s.pe.idle.filter (· != m) } }
      | none => { s with pe := { s.pe with active := left, idle := n :: s.pe.idle } }) s

/-- Moves forced steps by one toward force_step (R384). -/
def State.applyForce (s : State) : State :=
  s.pe.active.foldl (fun s n =>
    let c := s.calCtrl n
    if !bitOf c 4 then s
    else
      let goal := bitsOf c 7 5
      let st := (s.cal n).step
      if st < goal then s.stepTo n (st + 1) else if goal < st then s.stepTo n (st - 1) else s) s

/-- The trims each track of the next dataset takes, with their dither signs (R318, R382); the sign alternates. -/
def State.takeTrims (s : State) (slots : List Nat) (rev : Bool) : State × List Trims × List Int :=
  slots.foldl (fun a n =>
    let s := a.1
    let c := s.cal n
    if s.ditherStep = 0 || s.trimFrozen n then (s, a.2.1 ++ [c.trimsFor rev], a.2.2 ++ [0])
    else (s.setCal n { c with dither := -c.dither },
      a.2.1 ++ [(c.trimsFor rev).move c.trim (c.dither * (s.ditherStep : Int))], a.2.2 ++ [c.dither])) (s, [], [])

/-! ### The commands -/

/-- BENCHMARK_TRAIN (R371, R372): what each of the 136 channels measured on the benchmark of the frontier's wrap, which
is judged only before the wrap's first dataset. -/
def execBenchmarkTrain (results : List BenchRead) (s : State) : Host.Outcome State Fault Refusal :=
  match s.pe.frontier with
  | some (w, 0) => .next (if s.sm.wrap = some w then s.benchmark w results else s)
  | _ => .next s

/-- MARGIN_PROBE (R380, R381): a probe that ran to its end on the frame that the dataset number chooses. -/
def execMarginProbe (place : FramePos) (pass : Bool) (s : State) : Host.Outcome State Fault Refusal :=
  match s.dataset? place.dataset with
  | none => .next s
  | some d =>
    let f := ((d.geo.stepOf place.slot).map framesAt).getD 0
    let tierFrame := match d.geo.role place.slot place.pos with
      | some (.tier t i) => d.good.contains (256 * t + i)
      | _ => false
    if s.fld .vcProbe 0 0 31 31 = 1 ∧ f ≠ 0 ∧ place.pos = place.dataset % f ∧ tierFrame = true ∧
        place.restart = d.geo.restart ∧ d.graded.contains (place.slot, place.pos) = true ∧
        d.trackDone place.slot = false then
      let s := s.bump .vcProbes 0 0
      let s := if pass then s else s.bump .vcProbeFail 0 0
      let t := s.tally d.num d.geo.restart place.slot
      .next (s.setTally { t with probes := t.probes + 1, probeFails := t.probeFails + natOf (!pass) })
    else .next s

/-- VC_CAL_CTRL_WRITE (R384): a slot selector above 135 drops the write. -/
def State.writeCalCtrl (s : State) (src : Port) (v : Nat) : State :=
  let n := s.fld .vcCalSel 0 0 7 0
  if s.reachesBlock src && decide (n < 136) then s.setReg .vcCalCtrl 0 n (Nat.land v 0xF3) else s

def execVcCalCtrlWrite (src : Port) (value : Word) (s : State) : Host.Outcome State Fault Refusal :=
  .next (s.regWrite src .vcCalCtrl 0 value fun s v => s.writeCalCtrl src v)

end Sys2Proof.Machine
end

