-- ==== Sys2Proof/Machine/Place.lean ====
section
/-! DEFINITION. Placement (06) and the compressors (08 R221 to R226): runs, eligibility, chunks and budgets, parcels in
progress and saved contexts. -/

namespace Sys2Proof.Machine

/-! ### Runs and eligibility (R153, R158) -/

/-- The later of two places. -/
def Stream.fresh (x : Stream) : Place := Place.max x.placed ⟨x.runEnd, 0⟩

/-- Bytes collected toward the next run (R158). -/
def Stream.freshBytes (x : Stream) : Nat := bytesBetween x.recs x.fresh x.endPlace

/-- Cluster quantum of a stream in bytes (R153). -/
def State.quantum (s : State) (x : Stream) : Nat :=
  let q := max 1 (s.fld .peClusterQ 0 0 12 0) * mib
  if 64 ≤ x.size then 4 * q else q

/-- The stream's run has data left to place. -/
def Stream.hasRun (x : Stream) : Bool := !(Place.le ⟨min x.runEnd x.seqEnd, 0⟩ x.placed)

/-- Releases a stream's ready data as its run. -/
def Stream.release (x : Stream) : Stream := { x with runEnd := max x.runEnd x.seqEnd }

/-- Releases a stream, and the streams of its tenant with the same affinity key (R158). -/
def State.releaseStream (s : State) (k : Nat) : State :=
  match s.stream? k with
  | none => s
  | some x =>
    let s := s.setStream k x.release
    if x.affinity = 0 then s
    else { s with pe := { s.pe with streams := s.pe.streams.each fun _ y =>
      if y.tenant = x.tenant ∧ y.affinity = x.affinity then y.release else y } }

/-- The stream has become eligible (R158): its quantum is reached, no hold is set, its function stands at its cap, or a
pool that holds data is at its high watermark. [DEDUCED, log entry 37] -/
def State.releaseDue (s : State) (k : Nat) (x : Stream) : Bool :=
  decide (x.fresh.record < x.seqEnd) &&
    (decide (s.quantum x ≤ Config.parcelEstimate k x.freshBytes) || s.fld .peHoldMax 0 0 15 0 == 0 ||
      ((s.bufMax (s.streamFn x)).map fun m => decide (m ≤ s.fnHeld (s.streamFn x))).getD false ||
      [1, 2, 3, 4].any s.watchState)

/-- Releases every stream that has become eligible. -/
def State.releaseAllDue (s : State) : State :=
  s.pe.streams.foldl (fun s e => match s.stream? e.1 with
    | some x => if s.releaseDue e.1 x then s.releaseStream e.1 else s
    | none => s) s

/-- Releases every stream with ready data: the matcher is at 2.0 m/s and the queue at its low watermark (R158). [DEDUCED, log entry 37] -/
def State.releaseLow (s : State) : State :=
  if s.df.speed ≤ 40 ∧ s.watchLevel 5 ≤ s.fld .bmWmCfg 0 5 7 0 then
    { s with pe := { s.pe with streams := s.pe.streams.each fun _ x => x.release } }
  else s

/-! ### Input of a parcel -/

/-- The runs of content and marks from one place of a stream to another. -/
def inputRuns (recs : List Rec) (a b : Place) : List Run :=
  recs.filterMap fun r =>
    if r.num < a.record ∨ b.record < r.num ∨ (r.num = b.record ∧ b.off = 0) then none
    else
      let d := if r.num = a.record then r.data.drop a.off else r.data
      let lo := if r.num = a.record then a.off else 0
      if r.num = b.record then some ⟨d.take (b.off - lo), .none⟩
      else match r.peg with
        | some c => some ⟨[], .peg c⟩
        | none => some ⟨d, match r.crc with
            | some c => .recEndCrc c
            | none => .recEnd⟩

/-- Where a stream stands after tokens. -/
def placeAfter (a : Place) (toks : List Token) : Place :=
  toks.foldl (fun p t => match t with
    | .mark _ => ⟨p.record + 1, 0⟩
    | t => ⟨p.record, p.off + t.size⟩) a

/-- Where a chunk that starts at a place ends (R155): a record boundary, or a multiple of 65,536 bytes of record data,
within `room` of marked input. -/
def chunkEnd : Nat → Place → List Rec → Place
  | _, a, [] => a
  | room, a, r :: t =>
    let rest := r.data.length - a.off
    let cost := rest + 8 + 4 * natOf r.crc.isSome
    if cost ≤ room then chunkEnd (room - cost) ⟨r.num + 1, 0⟩ t
    else
      let off := (a.off + min room rest) / 65536 * 65536
      if a.off < off then ⟨a.record, off⟩ else a

/-- PE_CHUNK in bytes. -/
def State.chunkBytes (s : State) : Nat := clamp 1 8 (s.fld .peChunk 0 0 3 0) * mib

/-- Everything before this place has been compressed: the last parcel that awaits placement, or what is placed. -/
def State.compressed (s : State) (k : Nat) (x : Stream) : Place :=
  (s.cx.outs.filter fun o => o.stream == k).foldl (fun a o => Place.max a o.upto) x.placed

/-- The end of the run. -/
def Stream.runPlace (x : Stream) : Place := ⟨min x.runEnd x.seqEnd, 0⟩

/-- The place up to which a stream's next parcel may reach. -/
def State.nextEnd (s : State) (x : Stream) (a : Place) : Place :=
  if x.cxCount ≤ 1 then x.runPlace
  else chunkEnd (s.chunkBytes - 8) a (x.recs.filter fun r => decide (a.record ≤ r.num ∧ r.num < x.runPlace.record))

/-- CX_LEVEL in force. -/
def State.cxLevel (s : State) : Nat := clamp 1 4 (s.fld .cxLevel 0 0 2 0)

/-- Compresses a stream from a place (R154, R155, R221 to R225), with the stored blocks it emits; none where nothing
fits. -/
def State.compressFrom (s : State) (k : Nat) (x : Stream) (a : Place) (budget : Option Nat) : Option (CxOut × Nat) :=
  let chunk := decide (1 < x.cxCount)
  let runs := inputRuns x.recs a (s.nextEnd x a)
  let r := compress s.cxLevel x.noCompress (if chunk then none else budget) runs
  let e := placeAfter a r.2
  if r.2.isEmpty then none
  else some ({
    stream := k, start := a, upto := e, first := a.record, last := if 0 < e.off then e.record else e.record - 1
    continues := decide (0 < a.off), cont := decide (0 < e.off), chunk := chunk, payload := r.1
    plainLen := (r.2.map Token.size).sum },
    storedCount x.noCompress (cutBlocks r.2 [] 0) 0 none [])

/-! ### Engines (R177, R178, R230) -/

def cxEngine0 : CxEngine := { retired := false, job := none, inRest := 0, outRest := 0 }

/-- A compressor, or by 32 more a decompressor. -/
def State.engineCx (s : State) (n : Nat) : CxEngine := s.cx.engines.get cxEngine0 n

def State.setEngineCx (s : State) (n : Nat) (e : CxEngine) : State :=
  { s with cx := { s.cx with engines := s.cx.engines.set n e } }

/-- The engine exists on this grade and is in service. -/
def State.engineUsable (s : State) (n : Nat) : Bool :=
  decide (n % 32 < s.present (if n < 32 then 3 else 4)) && decide (n < 64) && !(s.engineCx n).retired

/-- Counts bytes of an engine toward its MiB registers. -/
def State.countEngine (s : State) (n inB outB stored : Nat) : State :=
  let e := s.engineCx n
  let i := e.inRest + inB
  let o := e.outRest + outB
  let s := s.setEngineCx n { e with inRest := i % mib, outRest := o % mib }
  ((s.bumpBy .cxEngIn 0 n (i / mib)).bumpBy .cxEngOut 0 n (o / mib)).bumpBy .cxEngStored 0 n stored

/-- The compressor that serves a stream where no command names one: the first in service. [DESIGN CHOICE, log entry 32] -/
def State.anyCompressor (s : State) : Option Nat :=
  match (List.range 32).find? fun n => s.engineUsable n && s.ms.slice != some (3, n) with
  | some n => some n
  | none => (List.range 32).find? s.engineUsable

/-- Puts a parcel just compressed on the list of those that await placement, its engine's counts noted. -/
def State.putOut (s : State) (eng : Nat) (o : CxOut) (stored : Nat) : State :=
  let s := s.countEngine eng o.plainLen o.payload.length stored
  { s with cx := { s.cx with outs := s.cx.outs ++ [o] } }

/-- Ends an engine's parcel: compressed from its start (R221, R226). -/
def State.compressParcel (s : State) (eng k budget : Nat) (start : Place) : State :=
  match s.stream? k with
  | none => s
  | some x =>
    match s.compressFrom k x start (some budget) with
    | none => s
    | some o =>
      let s := s.setEngineCx eng { s.engineCx eng with job := none }
      s.putOut eng o.1 o.2

/-- A stream's next parcel can start on a compressor. -/
def State.mayCompress (s : State) (k : Nat) (x : Stream) : Bool :=
  !(Place.le x.runPlace (s.compressed k x)) && !(s.cx.engines.any fun e => (e.2.job.map CxJob.stream) == some k && x.cxCount ≤ 1)

/-- PARCEL_COMPRESS: a parcel starts on an engine, or the one in progress there ends. [DESIGN CHOICE, log entry 32] -/
def State.parcelCompress (s : State) (eng k budget : Nat) (finish : Bool) : State :=
  if !(s.engineUsable eng && decide (eng < 32)) then s
  else
    let s := s.yieldUnit 3 eng
    match (s.engineCx eng).job with
    | some j => if j.stream = k ∧ finish = true then s.compressParcel eng k budget j.start else s
    | none =>
      match s.stream? k with
      | none => s
      | some x =>
        if !s.mayCompress k x then s
        else
          let a := s.compressed k x
          if finish then s.compressParcel eng k budget a
          else s.setEngineCx eng { s.engineCx eng with job := some ⟨k, a, decide (1 < x.cxCount)⟩ }

/-- A SYNC or close of the stream waits (R178). -/
def State.endWaits (s : State) (k : Nat) : Bool :=
  s.qe.cmds.any fun c => c.stream == some k && c.phase != .staged &&
    (entOpcode c.entry == 0x16 || entOpcode c.entry == 0x04)

/-- Number of a context image not in use. -/
def State.freeImage (s : State) : Nat := (s.cx.images.keys.foldl max 0) + 1

/-- COMPRESSOR_WAIT_SAVE: the running parcel's context is saved and the waiting stream is served (R178, R226). -/
def State.waitSave (s : State) (eng k budget : Nat) : State :=
  match (s.engineCx eng).job with
  | none => s
  | some j =>
    if !(s.engineUsable eng && decide (eng < 32)) || j.stream == k || !s.endWaits k then s
    else
      let s := { s with cx := { s.cx with images := s.cx.images.set s.freeImage j } }
      let s := (s.setEngineCx eng { s.engineCx eng with job := none }).bump .peCxMoves 0 0
      s.parcelCompress eng k budget true

/-- CONTEXT_RESTORE: a saved parcel goes on, on an engine that is free (R226). -/
def State.contextRestore (s : State) (eng img : Nat) : State :=
  match s.cx.images.find img with
  | none => s
  | some j =>
    if !(s.engineUsable eng && decide (eng < 32)) || (s.engineCx eng).job.isSome then s
    else
      let s := { s with cx := { s.cx with images := s.cx.images.del img } }
      (s.setEngineCx eng { s.engineCx eng with job := some j }).bump .cxCtxRestores 0 0

/-! ### The commands -/

/-- BUFFER_ALLOCATE (R158, R185): a grant can bring a pool to its high watermark. -/
def execBufferAllocate (who : Party) (fn : Nat) (size : Nat) (s : State) : Host.Outcome State Fault Refusal :=
  .next (s.allocate ⟨who, fn, size⟩).releaseAllDue

/-- BUFFER_WAIT_GRANT (R158, R185, R186). -/
def execBufferWaitGrant (s : State) : Host.Outcome State Fault Refusal := .next s.waitGrant.releaseAllDue

/-- HOLD_MAX_EXPIRY (R158): the stream's oldest ready byte has been held for PE_HOLD_MAX. [DESIGN CHOICE, log entry 66] -/
def execHoldMaxExpiry (stream : Nat) (s : State) : Host.Outcome State Fault Refusal := .next (s.releaseStream stream)

/-- PARCEL_COMPRESS (R154, R155, R221). -/
def execParcelCompress (engine stream budget : Nat) (finish : Bool) (s : State) : Host.Outcome State Fault Refusal :=
  .next (s.parcelCompress engine stream budget finish)

/-- COMPRESSOR_WAIT_SAVE (R178). -/
def execCompressorWaitSave (engine stream budget : Nat) (s : State) : Host.Outcome State Fault Refusal :=
  .next (s.waitSave engine stream budget)

/-- CONTEXT_RESTORE (R226). -/
def execContextRestore (engine image : Nat) (s : State) : Host.Outcome State Fault Refusal :=
  .next (s.contextRestore engine image)

end Sys2Proof.Machine
end

