-- ==== Sys2Proof/Machine/Form.lean ====
section
/-! DEFINITION. Forming datasets (06 R157 to R171, 10 R271 to R285, 12 R329 to R336): steps, tiers and leftover, rewrite
assignment, filling with parcels, books, parity, restarts, void extents; and the speed matcher. -/

namespace Sys2Proof.Machine

/-! ### The frontier and the end of the cartridge (R162, R166, R167) -/

/-- The extent after one, in the wrap order (R162). -/
def State.nextExtent (s : State) (w i : Nat) : Option (Nat × Nat) :=
  if i + 1 < s.extents w then some (w, i + 1) else (nextWrap w).map fun v => (v, 0)

/-- Moves the frontier past its extent. -/
def State.advanceFrontier (s : State) : State :=
  { s with pe := { s.pe with frontier := s.pe.frontier.bind fun f => s.nextExtent f.1 f.2 } }

/-- Unused extents at and after the frontier, in the wraps the label gives (R166). [DEDUCED, log entry 41] -/
def State.extentsLeft (s : State) : Nat :=
  match s.pe.frontier with
  | none => 0
  | some (w, i) =>
    (s.extents w - i) + ((((wrapOrder.dropWhile (· != w)).drop 1).filter fun v => decide (v < s.ct.cart.wraps)).map
      s.extents).sum

/-- Tier count of the current step vector (R271). -/
def State.tiersNow (s : State) : Nat := min 38 (sumFrames (s.pe.active.map fun n => (s.cal n).step) / 256)

/-- PE_REMAIN (R166): unused extents less parity's share and the reserve, in parcel-area bytes. [DEDUCED, log entry 41] -/
def State.remain (s : State) : Nat :=
  let writers := (s.pe.streams.vals.filter fun x => x.write && x.handle.isSome).length
  let members := ((s.df.groups.getLast?).map fun g => g.members.length).getD 0
  let spare := writers + 1 + (32 - members)
  (s.extentsLeft * 30 / 32 - spare) * areaBytes (max 24 s.tiersNow)

/-- Estimated parcel bytes of all buffered data not yet placed (R167). -/
def State.unplaced (s : State) : Nat :=
  (s.pe.streams.map fun e => Config.parcelEstimate e.1 e.2.readyBytes).sum

/-- Early warning and the close of the credits (R167), on a cartridge mounted for writing. -/
def State.nearEnd (s : State) : State :=
  if !s.ct.mounted || s.ct.readOnly then s
  else
    let r := s.remain
    let ew := s.fld .peEw 0 0 15 0
    let s := if ew ≠ 0 ∧ r < ew * 2 ^ 30 ∧ s.pe.ewPosted = false then
        ({ s with pe := { s.pe with ewPosted := true } }).chimeAll 0x101 (min (r / 2 ^ 30) 0xFFFFFFFF) 0
      else s
    if r ≤ s.unplaced then { s with pe := { s.pe with creditClosed := true } } else s

/-- The cartridge is full: streams whose data does not fit receive the deferred error of R167. -/
def State.outOfTape (s : State) : State :=
  (s.pe.streams.filter fun e => !(Place.le e.2.endPlace e.2.placed)).foldl (fun s e =>
    match s.stream? e.1 with
    | some x => s.deferError e.1 x.placed.record 4
    | none => s) s

/-! ### Steps, T and L (R265, R271, R272, R274) -/

/-- The steps of a data dataset, capped and raised where T would be 24 or 25 (R272). -/
def State.cappedSteps (s : State) (slots steps : List Nat) : List Nat :=
  let tf := sumFrames steps / 256
  if tf = 24 ∨ tf = 25 then raiseTo 6144 (fun _ => 6) (s.healthOrder slots) 8 (steps.map (min 6)) else steps

/-- Entries of the rewrite list not yet assigned (R271, R329). -/
def State.waitingRewrites (s : State) : Nat := (s.df.rewrites.filter fun r => r.into.isNone).length

/-- T of a dataset (R271). -/
def State.tierCount (s : State) (sigma : Nat) : Nat :=
  let tf := min 38 (sigma / 256)
  if min (sigma - 256 * tf) 188 < s.waitingRewrites ∧ 24 < tf then tf - 1 else tf

/-- T of a parity part that still has `rest` bytes to carry (R282). -/
def parityTiers (tf tMax rest : Nat) : Nat :=
  if tMax ≤ tf then tMax else max 24 (min tf ((rest + 4096 + 445439) / 445440))

/-- The steps of a restart (R274). -/
def State.restartSteps (s : State) (slots steps : List Nat) (old : Geometry) : List Nat :=
  let t := old.tiers
  let low := decide (t < 26)
  let st := if low then steps.map (min 6) else steps
  let lim := fun k => if low then 6 else (old.stepOf (slots.getD k 0)).getD (steps.getD k 0)
  raiseTo (256 * t) lim (s.healthOrder slots) 8 st

/-- The current active slots and their calibration steps. -/
def State.vector (s : State) : List Nat × List Nat := (s.pe.active, s.pe.active.map fun n => (s.cal n).step)

/-! ### Assigning rewrites (R274) -/

/-- The earliest entry that may take a position on a slot. -/
def pickRewrite (slot : Nat) : List Rewrite → Option (Rewrite × List Rewrite)
  | [] => none
  | r :: t =>
    if r.into.isNone && !r.slots.contains slot then some (r, t)
    else (pickRewrite slot t).map fun x => (x.1, r :: x.2)

/-- Fills leftover positions in order until one finds no entry: the frames placed, and the slots they go to. -/
def assignRewrites (ds : Nat) : List (Nat × Nat) → List Rewrite → List (FrameRef × Nat) × List Rewrite
  | [], l => ([], l)
  | (slot, _) :: t, l =>
    match pickRewrite slot l with
    | none => ([], l)
    | some (r, rest) =>
      let a := assignRewrites ds t ({ r with into := some ds, slots := r.slots ++ [slot] } :: rest)
      ((r.frame, slot) :: a.1, a.2)

/-- The order of the rewrite list (R329). -/
def rewriteKey (r : Rewrite) : Nat := (r.frame.dataset * 64 + r.frame.tier) * 256 + r.frame.frame

/-- Notes the length of the rewrite list (R341). -/
def State.noteRewrites (s : State) : State :=
  { s with df := { s.df with rwlMax := max s.df.rwlMax s.df.rewrites.length } }

/-! ### A dataset -/

/-- A C3 group just opened (R305). -/
def group0 (n : Nat) : Group :=
  { num := n, members := [], clocked := 0, p0 := [], p1 := [], closed := false, done0 := 0, done1 := 0, parity := [],
    repair := 0 }

/-- The current C3 group, opened where there is none (R280). -/
def State.openGroup (s : State) : State :=
  let add := fun (s : State) =>
    let n := s.df.nextGroup
    { s with df := { s.df with nextGroup := n + 1, groups := s.df.groups ++ [group0 n] } }
  match s.df.groups.getLast? with
  | none => add s
  | some g => if g.closed then add s else s

def State.modGroup (s : State) (n : Nat) (f : Group → Group) : State :=
  { s with df := { s.df with groups := s.df.groups.map fun g => if g.num = n then f g else g } }

def State.group? (s : State) (n : Nat) : Option Group := s.df.groups.find? fun g => g.num == n

def State.modDataset (s : State) (n : Nat) (f : Dataset → Dataset) : State :=
  { s with df := { s.df with datasets := s.df.datasets.map fun d => if d.num = n then f d else d } }

/-- A dataset at the frontier with the geometry given, its rewrites and trims assigned. -/
def State.makeDataset (s : State) (kind num restart tiers : Nat) (slots steps : List Nat) (w i : Nat) :
    State × Dataset :=
  let g : Geometry := ⟨num, kind, restart, w, s.chainOf w i, slots, steps, tiers, sumFrames steps - 256 * tiers⟩
  let a := assignRewrites num (g.extras.take 188) s.df.rewrites
  let tr := s.takeTrims slots (isReverse w)
  let s := { tr.1 with df := { tr.1.df with rewrites := sortBy rewriteKey a.2 } }
  (s, { geo := g, ext := i, rewrites := a.1.map (·.1), group := 0xFFFFFFFF, position := 0xFF, part := 0,
        parityOff := 0, parityLen := 0, members := [], content := [], started := false, encoded := [], written := false,
        trims := tr.2.1, signs := tr.2.2, cut := [], graded := [], good := [], verified := false, needed := 0,
        failed := false, abandoned := false })

/-- Puts a formed dataset into the tape-side queue and moves the frontier. -/
def State.enqueue (s : State) (d : Dataset) : State :=
  let s := { s with df := { s.df with datasets := (s.df.datasets.filter fun (x : Dataset) => x.num != d.num) ++ [d],
                                      queue := s.df.queue ++ [d.num] } }
  s.advanceFrontier

/-- Makes a dataset the next member of the current group (R280). -/
def State.joinGroup (s : State) (d : Dataset) : State × Dataset :=
  let s := s.openGroup
  match s.df.groups.getLast? with
  | none => (s, d)
  | some g =>
    let s := s.modGroup g.num fun g =>
      let m := g.members ++ [(d.num, d.tiers, d.geo.restart)]
      { g with members := m, closed := decide (30 ≤ m.length) }
    (s, { d with group := g.num, position := g.members.length })

/-- A new dataset number (R162). -/
def State.takeNumber (s : State) : State := { s with pe := { s.pe with nextDataset := s.pe.nextDataset + 1 } }

/-! ### Filling (R159, R160, R279) -/

/-- A parcel of a compressed output at a place in a dataset. -/
def parcelAt (o : CxOut) (d : Dataset) (index offset : Nat) : Parcel :=
  { stream := o.stream, dataset := d.num, index := index, first := o.first, last := o.last, continues := o.continues,
    cont := o.cont, chunk := o.chunk, payload := o.payload, plainLen := o.plainLen, sealedText := none, tag := [],
    iv := [], key := 0, offset := offset, wrap := d.geo.wrap, chainage := d.geo.chainage, upto := o.upto, dead := false,
    verified := false, released := false }

/-- How far a dataset is filled: the next payload offset, parcels in it, the stream of the last one. -/
structure Filling where
  offset : Nat
  count : Nat
  lastStream : Option Nat
  deriving DecidableEq, Repr

/-- Bytes left in the dataset. -/
def Filling.left (f : Filling) (tiers : Nat) : Nat := 445440 * tiers - f.offset

/-- Smallest parcel that may be started (R159). -/
def State.minParcel (s : State) : Nat := max 4 (s.fld .peMinParcel 0 0 12 0) * 1024

/-- Places one compressed parcel: the stream's data up to it is placed. -/
def State.putParcel (s : State) (d : Dataset) (f : Filling) (o : CxOut) : State × Filling :=
  let p := parcelAt o d f.count f.offset
  let s := { s with pe := { s.pe with parcels := s.pe.parcels ++ [p] } }
  let s := s.modStream o.stream fun x => { x with placed := Place.max x.placed o.upto, readyAge := s.pe.age }
  (s, ⟨up16 (f.offset + p.size), f.count + 1, some o.stream⟩)

/-- Takes a compressed parcel off the list of those awaiting placement. -/
def State.dropOut (s : State) (o : CxOut) : State :=
  { s with cx := { s.cx with outs := s.cx.outs.filter fun q => !(q.stream == o.stream && q.start == o.start) } }

/-- The next parcel of a stream's run for the space left: one compressed before, or one compressed now under the
budget (R154, R155). A parcel cut short needs the smallest parcel's room (R159). [DESIGN CHOICE, log entry 32] -/
def State.nextParcel (s : State) (k : Nat) (x : Stream) (room : Nat) : Option (CxOut × Nat) :=
  match s.cx.outs.find? fun o => o.stream == k && o.start == x.placed with
  | some o => if 80 + o.payload.length ≤ room then some (o, 0) else none
  | none =>
    match s.compressFrom k x x.placed (some room) with
    | none => none
    | some o =>
      if room < 80 + o.1.payload.length then none
      else if o.1.chunk || Place.le x.runPlace o.1.upto || decide (s.minParcel ≤ room) then some o
      else none

/-- One parcel of a stream's run, if it may have one: the state, the filling, and whether one was placed. -/
def State.fillOne (s : State) (d : Dataset) (f : Filling) (k : Nat) : State × Filling × Bool :=
  match s.stream? k with
  | none => (s, f, false)
  | some x =>
    if !x.hasRun || decide (64 ≤ f.count) then (s, f, false)
    else
      match s.nextParcel k x (f.left d.tiers) with
      | none => (s, f, false)
      | some (o, stored) =>
        let s := if (s.cx.outs.any fun q => q.stream == k && q.start == o.start) then s.dropOut o
          else match s.anyCompressor with
            | some e => s.countEngine e o.plainLen o.payload.length stored
            | none => s
        let r := s.putParcel d f o
        (r.1, r.2, true)

/-- A stream's turn: one parcel in budget mode, parcels until one does not fit in chunk mode (R155, R156, R159). -/
def State.fillTurn (s : State) (d : Dataset) (f : Filling) (k : Nat) : Nat → State × Filling
  | 0 => (s, f)
  | n + 1 =>
    let r := s.fillOne d f k
    if !r.2.2 then (r.1, r.2.1)
    else if ((s.stream? k).map fun x => decide (1 < x.cxCount)).getD false then r.1.fillTurn d r.2.1 k n
    else (r.1, r.2.1)

/-- Fills a dataset from a list of streams until too little space is left (R159). -/
def State.fillList (s : State) (d : Dataset) (f : Filling) : List Nat → State × Filling
  | [] => (s, f)
  | k :: t =>
    if f.left d.tiers < s.minParcel ∨ 64 ≤ f.count then (s, f)
    else
      let r := s.fillTurn d f k 64
      r.1.fillList d r.2 t

/-- Age of a stream for the order of R159: the oldest of those released with it by affinity. -/
def State.orderAge (s : State) (x : Stream) : Nat :=
  if x.affinity = 0 then x.readyAge
  else ((s.pe.streams.vals.filter fun y => y.tenant == x.tenant && y.affinity == x.affinity && y.hasRun).map
    (·.readyAge)).foldl min x.readyAge

/-- The eligible streams in order of age (R159). [DEDUCED, log entry 37] -/
def State.eligibleStreams (s : State) : List Nat :=
  sortBy (fun k => ((s.stream? k).map s.orderAge).getD 0)
    (Tab.keys (s.pe.streams.filter fun e => e.2.hasRun))

/-- Tenants compete for tape: every track at maximum speed and the queue above its high watermark (R160). -/
def State.competing (s : State) : Bool := decide (s.vMax (s.active 1) ≤ s.df.speed) && s.watchState 5

/-- Functions of the eligible streams in turn order: those with a positive deficit first, as the round robin leaves
them; each round gives weight × 1 MiB (R160). -/
def State.deficitOrder (s : State) (ks : List Nat) : State × List Nat :=
  let fnOfKey := fun k => ((s.stream? k).map s.streamFn).getD 0
  let fns := sortBy id (ks.map fnOfKey).dedup
  let d := fun f => s.pe.deficits.get 0 f
  let need := fns.any fun f => decide (0 < d f)
  let def' := if need then s.pe.deficits
    else fns.foldl (fun t f => t.set f (t.get 0 f + (s.weight f * mib : Nat))) s.pe.deficits
  let s := { s with pe := { s.pe with deficits := def' } }
  let turn := fns.filter fun f => decide (0 < s.pe.deficits.get 0 f)
  let rest := fns.filter fun f => decide (s.pe.deficits.get 0 f ≤ 0)
  (s, (turn ++ rest).flatMap fun f => ks.filter fun k => fnOfKey k == f)

/-- Charges each function the bytes its parcels took (R160). -/
def State.chargeDeficits (s : State) (ds : Nat) : State :=
  (s.parcelsIn ds).foldl (fun s p =>
    match s.stream? p.stream with
    | some x => { s with pe := { s.pe with
        deficits := s.pe.deficits.upd 0 (s.streamFn x) fun v => v - (p.size : Nat) } }
    | none => s) s

/-- Fills a data dataset with parcels (R159, R160). -/
def State.fillData (s : State) (d : Dataset) : State :=
  let ks := s.eligibleStreams
  let cont := (s.pe.lastStream.toList).filter fun k => ks.contains k
  let rest := ks.filter fun k => !cont.contains k
  let o := if s.competing then s.deficitOrder rest else (s, rest)
  let r := o.1.fillList d ⟨4096, 0, none⟩ (cont ++ o.2)
  let s := { r.1 with pe := { r.1.pe with lastStream := match r.2.lastStream with
    | some k => some k
    | none => r.1.pe.lastStream } }
  if o.1.competing then s.chargeDeficits d.num else s

/-! ### Books (R168, R284) -/

/-- A SYNC, close, unmount or book dataset forces a dataset to be formed (R161, R337). -/
def State.forced (s : State) : Bool :=
  s.pe.bookDue || decide (256 ≤ s.pe.legCount) || s.qe.cmds.any fun c =>
    [0x16, 0x04, 0x02, 0x51].contains (entOpcode c.entry) && c.phase != .staged

/-- A close that waits for a book: all its records are durable (R168). -/
def State.closeWaits (s : State) (c : Cmd) : Bool :=
  entOpcode c.entry == 0x04 && c.phase == .ready && c.count == 0 &&
    match c.stream.bind s.stream? with
    | some x => x.write && decide (min c.first x.seqEnd ≤ x.durable)
    | none => false

/-- The book's content cut into records of at most 8 MiB, one parcel each. -/
def bookPieces : Nat → Bytes → List Bytes
  | 0, b => [b]
  | n + 1, b => if b.length ≤ 8388608 then [b] else b.take 8388608 :: bookPieces n (b.drop 8388608)

/-- The parcels of a book dataset: stored blocks only, tenant 0, stream 0, one record each (R284). -/
def bookParcels (d : Dataset) (content : Bytes) : List Parcel :=
  let ps := (bookPieces (content.length / 8388608 + 1) content).zipIdx.map fun x =>
    let c := compress 1 true none [⟨x.1, .recEnd⟩]
    parcelAt ⟨Nat.pair 0 0, ⟨x.2, 0⟩, ⟨x.2 + 1, 0⟩, x.2, x.2, false, false, false, c.1, x.1.length⟩ d x.2 0
  (ps.foldl (fun a p => (a.1 ++ [{ p with offset := a.2 }], up16 (a.2 + p.size))) ([], 4096)).1

/-- Fills a book dataset and starts the next leg (R168, R284). -/
def State.fillBook (s : State) (d : Dataset) : State :=
  let leg := s.pe.parcels.filter fun p => decide (s.pe.legFirst ≤ p.dataset) && p.stream != Nat.pair 0 0
  let c := bookContent d.num s.pe.legFirst s.pe.books leg s.pe.deadMarks s.pe.creations
  let s := { s with
    pe := { s.pe with
      parcels := s.pe.parcels ++ bookParcels d c
      books := s.pe.books ++ [⟨d.num, d.geo.wrap, d.geo.chainage, d.geo.restart⟩]
      creations := [], deadMarks := [], legCount := 0, legFirst := d.num + 1, bookDue := false
      legPages := d.num :: s.pe.legPages.filter (· != d.num) }
    qe := { s.qe with cmds := s.qe.cmds.map fun c => if s.closeWaits c then { c with count := d.num + 1 } else c } }
  s

/-! ### The speed matcher (R335, R336) -/

/-- The set-point in units of 0.05 m/s on wrap `w`, for datasets of `tiers` tiers on a number of tracks and a level. -/
def State.speedFor (s : State) (w tiers tracks level : Nat) : Nat :=
  let top := s.vMax tracks
  if s.fld .smSpdMode 0 0 0 0 = 1 then min top (40 + min 200 (s.fld .smSpdMode 0 0 15 8))
  else
    let d := Config.inputDemand s.fresh
    let v := d * 32 * extentTicks w * 20 * (128 + level) / (30 * areaBytes tiers * 10000 * 256)
    max (min 40 top) (min top (max 40 v))

/-- The set-point once a dataset has been formed. -/
def State.matchSpeed (s : State) (w tiers : Nat) : Nat := s.speedFor w tiers s.pe.active.length (s.watchLevel 5)

/-! ### Forming -/

/-- Writing may go on at all: a formatted cartridge mounted for writing, no session, nothing that stops writes, and the
wrap's active set known (R25, R114, R163). [DESIGN CHOICE, log entry 3] -/
def State.mayForm (s : State) : Bool :=
  s.ct.mounted && s.ct.formatted && !s.ct.readOnly && !s.ct.removed && !s.sessionRuns && s.writeBlock.isNone &&
    decide (s.df.queue.length < 4) && !s.readsFirst &&
    (s.pe.frontier.map (·.1)).isSome && s.pe.wrapNow == s.pe.frontier.map (·.1) &&
    !(s.df.groups.any fun g => g.repair == 1)

/-- The 128 bytes of a summary copy (R415). -/
def summaryBytes (seq : Nat) (isOpen : Bool) (root : Bytes) : Bytes :=
  let body := bytesBE 4 0x5246534D ++ bytesBE 4 seq ++ bytesBE 1 (natOf isOpen) ++ zeros 7 ++ fit 64 root ++ zeros 44
  body ++ bytesBE 4 (crc32c body).toNat

/-- Writes a summary into the copy that holds the lower sequence (R415). -/
def State.writeSummary (s : State) (isOpen : Bool) (root : Bytes) : State :=
  let c := s.ct.cart
  let seq := max c.sumA c.sumB + 1
  let a := decide (c.sumA ≤ c.sumB)
  let s := { s with ct := { s.ct with cart := { c with
    sumA := if a then seq else c.sumA, sumB := if a then c.sumB else seq, summaryOpen := isOpen } } }
  s.emit (.cm (if a then 0x200 else 0x280) (summaryBytes seq isOpen root))

/-- Marks the summary open before the first dataset of a write mount (R171, R415). -/
def State.markOpen (s : State) : State :=
  if s.ct.written then s
  else ({ s with ct := { s.ct with written := true } }).writeSummary true (s.rootRecord s.ct.cart.rootSeq)

/-- Notes what VC and the matcher take from a dataset just formed (R335, R377, R385, R387). -/
def State.afterForm (s : State) (d : Dataset) : State :=
  let cal := sortBy id (s.pe.active.map fun n => (s.cal n).step)
  let med := cal.getD ((cal.length - 1) / 2) 0
  let s := { s with
    vc := { s.vc with hints := s.vc.hints.set (bandOf d.geo.wrap) med
                      mix := (List.range 8).map fun st => (d.steps.filter (· == st)).length }
    df := { s.df with speed := s.matchSpeed d.geo.wrap d.tiers } }
  (s.draw.noteRewrites.nearEnd).rewatch

/-- Refuses to form: T_f of the calibration steps is below 24 (R271, R377). -/
def State.refuseForm (s : State) : State := ({ s with pe := { s.pe with refused := true } }).cutOff

/-- Writes the next extent void (R275, R332). -/
def State.formVoid (s : State) (w i : Nat) : State :=
  ({ s with df := { s.df with voidDue := s.df.voidDue - 1 } }.emit (.void w (s.chainOf w i))).advanceFrontier

/-- Restarts a dataset at the frontier (R274, R331). [DESIGN CHOICE, log entry 38] -/
def State.formRestart (s : State) (old : Dataset) (w i : Nat) : State :=
  let v := s.vector
  let steps := s.restartSteps v.1 v.2 old.geo
  if sumFrames steps < 256 * old.tiers then s
  else
    let s := { s with df := { s.df with restartDue := s.df.restartDue.filter (· != old.num)
                                        rewrites := s.df.rewrites.filter fun r => r.frame.dataset != old.num
                                        queue := s.df.queue.filter (· != old.num) } }
    let r := s.makeDataset old.geo.kind old.num (old.geo.restart + 1) old.tiers v.1 steps w i
    let d := { r.2 with group := old.group, position := old.position, part := old.part, parityOff := old.parityOff,
                        parityLen := old.parityLen, members := old.members, content := old.content, started := old.started }
    let s := { r.1 with pe := { r.1.pe with
      parcels := r.1.pe.parcels.map fun (p : Parcel) =>
        if p.dataset = old.num then { p with wrap := w, chainage := d.geo.chainage } else p
      books := r.1.pe.books.map fun (b : Book) =>
        if b.dataset = old.num then { b with wrap := w, chainage := d.geo.chainage, restart := d.geo.restart } else b } }
    let s := s.modGroup old.group fun g => { g with
      members := g.members.map fun (m : Nat × Nat × Nat) =>
        if m.1 = old.num then (m.1, m.2.1, d.geo.restart) else m }
    let s := (s.enqueue d).bump .dfRestarts 0 0
    s.afterForm d

/-- Λ of a group (R281). [DESIGN CHOICE, log entry 38] -/
def Group.parityLen (g : Group) : Nat := areaBytes ((g.members.map fun m => m.2.1).foldl max 0)

/-- The group whose parity is to be written now: closed, all members clocked, parts of P0 or P1 still to come (R306). -/
def State.parityGroup (s : State) : Option Group :=
  s.df.groups.find? fun g => g.closed && (decide (g.done0 < g.parityLen) || decide (g.done1 < g.parityLen))

/-- Writes the next part of a group's parity (R282, R283, R306). -/
def State.formParity (s : State) (g : Group) (w i : Nat) : State :=
  if g.clocked < g.members.length then s
  else
    let v := s.vector
    let steps := s.cappedSteps v.1 v.2
    let second := decide (g.parityLen ≤ g.done0)
    let off := if second then g.done1 else g.done0
    let tMax := (g.members.map fun m => m.2.1).foldl max 0
    let tf := min 38 (sumFrames steps / 256)
    let t := parityTiers tf tMax (g.parityLen - off)
    let num := s.pe.nextDataset
    let r := s.takeNumber.makeDataset 2 num 0 t v.1 steps w i
    let part := ((s.df.datasets.filter fun d => d.group == g.num && d.position == (if second then 31 else 30)).length)
    let empty := List.replicate (30 - g.members.length) (noDataset, 0, 0)
    let d := { r.2 with group := g.num, position := if second then 31 else 30, part := part, parityOff := off,
                        parityLen := g.parityLen, members := g.members ++ empty
                        content := (((if second then g.p1 else g.p0)).drop off).take (areaBytes t) }
    let s := r.1.modGroup g.num fun g => { g with
      done0 := if second then g.done0 else off + areaBytes t
      done1 := if second then off + areaBytes t else g.done1
      parity := g.parity ++ [num] }
    (s.enqueue d).afterForm d

/-- Forms a data or book dataset at the frontier (R157 to R161, R168, R271). -/
def State.formMember (s : State) (book : Bool) (w i : Nat) : State :=
  let v := s.vector
  let steps := s.cappedSteps v.1 v.2
  let num := s.pe.nextDataset
  let r := s.takeNumber.makeDataset (natOf book) num 0 (s.tierCount (sumFrames steps)) v.1 steps w i
  let j := r.1.joinGroup r.2
  let d := j.2
  let s := if book then j.1.fillBook d else j.1.fillData d
  let s := if book then s else { s with pe := { s.pe with legCount := s.pe.legCount + 1 } }
  (s.enqueue d).afterForm d

/-- DATASET_FORM (R271): the next extent at the frontier is fixed and filled. A void extent comes first, then a restart,
parity, a book, and data; with no stream eligible and nothing pending, none is formed (R161). [DESIGN CHOICE, log entry 38] -/
def State.formNext (s : State) : State :=
  if !s.mayForm then (if s.ct.mounted && !s.ct.readOnly && s.pe.frontier.isNone then s.outOfTape else s)
  else
    let s := s.substitute.applyForce
    if sumFrames s.vector.2 < 6144 then s.refuseForm
    else
      let s := s.markOpen
      match s.pe.frontier with
      | none => s
      | some (w, i) =>
        if 0 < s.df.voidDue then s.formVoid w i
        else
          match s.df.restartDue.head?.bind s.dataset? with
          | some old => s.formRestart old w i
          | none =>
            match s.parityGroup with
            | some g => s.formParity g w i
            | none =>
              if s.df.groups.any fun g => g.repair == 2 then s
              else if s.pe.bookDue || decide (256 ≤ s.pe.legCount) then s.formMember true w i
              else
                let s := s.releaseAllDue.releaseLow
                if s.eligibleStreams.isEmpty && !(s.forced || s.fld .smBhCfg 0 0 3 0 == 0) then s
                else s.formMember false w i

/-- DATA_SEQUENCED (R97, R128, R158, R167): the operand is the data as fetched from host memory. -/
def execDataSequenced (id : Nat) (data : Bytes) (s : State) : Host.Outcome State Fault Refusal :=
  .next (s.sequence id data).releaseAllDue.nearEnd

/-- WRITE_RECORDS (R119 to R121): the whole course of the command, as far as it can go now. -/
def execWriteRecords (id : Nat) (pieces : List BufPiece) (recs : List RecItem) (data : Bytes) (s : State) :
    Host.Outcome State Fault Refusal := .next (((s.bringIn id).startTransfer id pieces recs).sequence id data).releaseAllDue.nearEnd

/-- WRITE_PEG (R122): no data and no list. -/
def execWritePeg (id : Nat) (s : State) : Host.Outcome State Fault Refusal :=
  .next (((s.bringIn id).startTransfer id [] []).sequence id []).releaseAllDue.nearEnd

/-- DATASET_FORM (R157, R159, R271). -/
def execDatasetForm (s : State) : Host.Outcome State Fault Refusal := .next s.formNext

end Sys2Proof.Machine
end

