-- ==== Sys2Proof/Machine/Write.lean ====
section
/-! DEFINITION. Writing and verify (12), with sealing (09 R249, R250) and encoding (11 R289 to R307): write runs,
inhibits, grading, rewrites, restarts, abandoned datasets, and what becomes durable and is released (07 R194). -/

namespace Sys2Proof.Machine

/-! ### Sealing (R249, R250, R254) -/

/-- A key is needed no more: no data buffered for the streams on a retiring slot awaits sealing, so it is zeroised
(R254); no reset changes a generation (R235). [DEDUCED, log entry 34] -/
def State.settleRetiring (s : State) (g : Nat) : State :=
  let waits := (s.streamsOn g).any fun k => s.awaitsSeal k || match s.stream? k with
    | some x => !(Place.le x.endPlace x.placed)
    | none => false
  if (s.slot g).retiring && !waits then s.setSlot g { keySlot0 with gen := (s.slot g).gen } else s

/-- Replaces a parcel. -/
def State.setParcel (s : State) (p : Parcel) : State :=
  { s with pe := { s.pe with parcels := s.pe.parcels.map fun q =>
    if q.dataset = p.dataset ∧ q.index = p.index then p else q } }

/-- A parcel sealed under a key with an IV: the whole header is the additional data (R249). -/
def Parcel.seal (p : Parcel) (key : Bytes) (label : Nat) (iv : Bytes) : Parcel :=
  let p := { p with key := label, iv := iv }
  let ct := gcmCrypt key iv p.payload
  { p with sealedText := some ct, tag := gcmTag key iv p.header ct }

/-- The parcel at a place of a dataset. -/
def State.parcel? (s : State) (ds i : Nat) : Option Parcel := s.pe.parcels.find? fun p => p.dataset == ds && p.index == i

/-- PARCEL_SEAL: under the stream's slot, or the all-zero key with the device-wide count (R249). A parcel is sealed once
(R250). [DEDUCED, log entry 42; DESIGN CHOICE, log entry 68] -/
def State.sealParcel (s : State) (ds i : Nat) : Host.Outcome State Fault Refusal :=
  match s.parcel? ds i with
  | none => .next s
  | some p =>
    if p.sealedText.isSome || p.dead || s.noCipher || s.cipherWaits then .next s
    else
      match (s.stream? p.stream).bind fun x => x.keySlot.map fun n => (x, n) with
      | none =>
        if 2 ^ 64 ≤ s.ce.zeroCount + 1 then .fault .zeroKeyCountSpent
        else
          let iv := bytesBE 4 Config.deviceNumber.toNat ++ bytesBE 8 s.ce.zeroCount
          let s := { s with ce := { s.ce with zeroCount := s.ce.zeroCount + 1 } }
          .next ((s.coreWork p.payload.length).setParcel (p.seal (zeros 32) 0 iv))
      | some (x, n) =>
        let f := s.streamFn x
        let g := s.keyBase f + n
        let k := s.slot g
        if k.state = 3 then .next (s.deferError p.stream p.first 6)
        else if k.state ≠ 2 ∨ k.raw = true then .next (s.deferError p.stream p.first 5)
        else
          let s := (s.coreWork p.payload.length).setParcel (p.seal k.key k.label (slotIv k))
          .next ((s.takeInvocation f n).settleRetiring g)

/-! ### Encoding (R289, R300, R305, R313) -/

/-- Bits inverted in each codeword under EE_INJECT (R313). -/
def State.injectCount (s : State) : Nat :=
  if s.fld .eeInject 0 0 31 31 = 1 then min 16384 (s.fld .eeInject 0 0 14 0) else 0

/-- Hands one frame to its write channel. [DEDUCED, log entry 44] -/
def State.emitFrame (s : State) (g : Geometry) (at_ : Nat × Nat) (info : Bytes) : State :=
  let f := frameBits s.injectCount info
  (s.emit (.frame ⟨g.num, g.restart, at_.1, at_.2⟩ f.1)).bumpBy .eeClips 0 0 f.2

/-- The information field of a frame of a dataset that DF holds (R329). -/
def State.frameInfo (s : State) (r : FrameRef) : Bytes :=
  match s.dataset? r.dataset with
  | some d => (c2Encode (tierBytes (s.payloadOf d) r.tier)).getD r.frame (zeros 1920)
  | none => zeros 1920

/-- Every parcel of a dataset is sealed. -/
def State.allSealed (s : State) (ds : Nat) : Bool := (s.parcelsIn ds).all fun p => p.sealedText.isSome

/-- EE may start a dataset: sealed, and its group's members before it clocked (R305). -/
def State.mayEncode (s : State) (d : Dataset) : Bool :=
  s.allSealed d.num && (d.started || decide (30 ≤ d.position) ||
    ((s.group? d.group).map fun g => g.clocked == d.position).getD true)

/-- EE starts a dataset: its content is fixed, and a member is clocked into its group's state (R161, R305). -/
def State.startEncode (s : State) (d : Dataset) : State :=
  if d.started then s
  else
    let s := s.modDataset d.num fun d => { d with started := true }
    if 30 ≤ d.position then s
    else
      let area := d.area (s.parcelsIn d.num)
      s.modGroup d.group fun g =>
        let r := c3Member g.p0 g.p1 area
        { g with clocked := g.clocked + 1, p0 := r.1, p1 := r.2 }

/-- The leftover frames and the preambles, once the last tier is encoded (R274, R268, R309). -/
def State.encodeRest (s : State) (d : Dataset) : State :=
  let s := ((d.geo.extras).zipIdx).foldl (fun s x =>
    s.emitFrame d.geo x.1 (match d.rewrites[x.2]? with
      | some r => s.frameInfo r
      | none => zeros 1920)) s
  let s := (s.bumpBy .eeRewrites 0 0 d.rewrites.length).bumpBy .eeFill 0 0 (d.geo.leftover - d.rewrites.length)
  (List.range d.slots.length).foldl (fun s k =>
    s.emit (.preamble d.num d.geo.restart (d.slots.getD k 0) (d.geo.preamble k))) s

/-- Logs each encoding fault (R298). -/
def State.encFaults (s : State) (ds : Nat) : Nat → State
  | 0 => s
  | n + 1 => ((s.bump .eeEncFault 0 0).logEv .encFault 0 0 ds).encFaults ds n

/-- TIER_ENCODE (R300): the frames of one tier; `faults` codewords fail their syndrome check and are encoded again. -/
def State.tierEncode (s : State) (ds t faults : Nat) : State :=
  match s.dataset? ds with
  | none => s
  | some d =>
    if d.failed || d.abandoned || decide (d.tiers ≤ t) || d.encoded.contains t || !s.mayEncode d then s
    else
      let s := s.startEncode d
      let infos := c2Encode (tierBytes (s.payloadOf d) t)
      let s := ((d.geo.tierFrames t).zip infos).foldl (fun s x => s.emitFrame d.geo x.1 x.2) s
      let s := (s.bump .eeTiers 0 0).encFaults ds faults
      let s := s.modDataset ds fun d => { d with encoded := d.encoded ++ [t] }
      (if d.encoded.length + 1 = d.tiers then s.encodeRest d else s).rewatch

/-! ### Inhibits (R320 to R322) -/

/-- Counter of an inhibit trigger (R341). -/
def triggerCounter (t : Nat) : Option RegName :=
  match t with
  | 0 => some .dfInhPes
  | 1 | 2 => some .dfInhShock
  | 3 => some .dfInhWfault
  | _ => none

/-- A trigger stands: every gate falls and a run in progress is inhibited (R320). It counts when it newly stands. [DEDUCED, log entry 40] -/
def State.raiseTrigger (s : State) (t : Nat) : State :=
  let new_ := !s.wc.triggers.contains t
  let s := match triggerCounter t with
    | some r => if new_ then s.bump r 0 0 else s
    | none => s
  { s with wc := { s.wc with
    triggers := if new_ then t :: s.wc.triggers else s.wc.triggers
    gates := [], inWindow := 0, inhibited := s.wc.inhibited || s.df.running } }

/-- A trigger clears. -/
def State.clearTrigger (s : State) (t : Nat) : State :=
  { s with wc := { s.wc with triggers := s.wc.triggers.filter (· != t) } }

/-- Groups with an active track of a dataset (R319). -/
def Dataset.groups (d : Dataset) : List Nat := (d.slots.map (· / 17)).dedup

/-! ### Datasets written (R319, R339) -/

/-- Adds to a 48-bit counter kept in two registers. -/
def State.bump48 (s : State) (lo hi : RegName) (inst sel n : Nat) : State :=
  let v := (s.reg hi inst sel * 2 ^ 32 + s.reg lo inst sel + n) % 2 ^ 48
  (s.setReg lo inst sel (v % 2 ^ 32)).setReg hi inst sel (v / 2 ^ 32)

/-- Fill bytes of a dataset's parcel area, counted in PE_FILL_BYTES (R182). -/
def State.countFill (s : State) (d : Dataset) : State :=
  if 1 < d.geo.kind then s
  else
    let n := s.df.fillRest + (areaBytes d.tiers - ((s.parcelsIn d.num).map Parcel.size).sum)
    ({ s with df := { s.df with fillRest := n % mib } }).bumpBy .peFillBytes 0 0 (n / mib)

/-- The extent of a dataset has been written: it leaves the queue (R341). [DESIGN CHOICE, log entry 39] -/
def State.markWritten (s : State) (ds : Nat) : State :=
  match s.dataset? ds with
  | none => s
  | some d =>
    if d.written then s
    else
      let s := s.modDataset ds fun d => { d with written := true }
      let s := { s with df := { s.df with queue := s.df.queue.filter (· != ds) } }
      let s := (d.slots.zip d.geo.fs).foldl (fun s x =>
        s.bump48 .wcChFramesLo .wcChFramesHi (x.1 / 17) (x.1 % 17) (x.2 - (d.cut.filter fun c => c.1 == x.1).length)) s
      ((s.bumpBy .dfRewrites 0 0 d.rewrites.length).countFill d).rewatch

/-- A write run may start: the next dataset is encoded and nothing holds the gates (R319, R399, R409). [DESIGN CHOICE, log entry 3] -/
def State.mayRun (s : State) : Bool :=
  !s.df.running && !s.df.backhitch && !s.readsFirst && s.wc.triggers.isEmpty && decide (s.sm.state < 3) &&
    s.fld .smLoopCtrl 0 0 9 8 == 0 && (s.sm.inject.map fun j => decide (2 < j.engine)).getD true &&
    match s.df.queue.head?.bind s.dataset? with
    | some d => d.encoded.length == d.tiers && s.sm.wrap == some d.geo.wrap
    | none => false

/-- Starts a write run (R315, R319): the module of the wrap's direction, the gates of every group with an active track. -/
def State.startRun (s : State) : State :=
  match s.df.queue.head?.bind s.dataset? with
  | none => s
  | some d =>
    if !s.mayRun then s
    else { s with
      wc := { s.wc with wmod := if isReverse d.geo.wrap then 2 else 1, gates := d.groups, inhibited := false }
      sm := { s.sm with state := 2, brake := false, reels := 1 }
      df := { s.df with running := true } }

/-- The backhitch begins (R337): set-point at 2.0 m/s, too few formed datasets, and nothing forces one. -/
def State.maybeBackhitch (s : State) : State :=
  let start := min 4 (s.fld .smBhCfg 0 0 3 0)
  if s.df.speed ≤ 40 ∧ s.df.queue.length < start ∧ s.forced = false then
    ({ s with df := { s.df with backhitch := true } }).bump .smBhCount 0 0
  else s

/-- WRITE_RUN_END (R319, R337): the run has written the first `n` datasets of the queue that were encoded. [DESIGN CHOICE, log entry 39] -/
def State.endRun (s : State) (n : Nat) : State :=
  if !s.df.running then s
  else
    let done := (s.df.queue.take n).filter fun q => ((s.dataset? q).map fun d => d.encoded.length == d.tiers).getD false
    let s := done.foldl (fun s q => s.markWritten q) s
    let s := { s with wc := { s.wc with gates := [], wmod := 0, inhibited := false }
                      df := { s.df with running := false } }
    s.maybeBackhitch

/-- BACKHITCH_RESUME (R337, R338): `ms` is the time the backhitch took. [DESIGN CHOICE, log entry 46] -/
def State.resumeBackhitch (s : State) (ms : Nat) : State :=
  let r := s.fld .smBhCfg 0 0 7 4
  let need := if 1 ≤ r ∧ r ≤ 4 then r else 4
  if s.df.backhitch = true ∧ (need ≤ s.df.queue.length ∨ s.forced = true) then
    (({ s with df := { s.df with backhitch := false } }).bumpBy .smBhTime 0 0 ms).startRun
  else s

/-! ### Restarts and abandonment (R331, R332) -/

/-- Takes every frame of a dataset off the rewrite list (R331). -/
def State.dropRewrites (s : State) (ds : Nat) : State :=
  { s with df := { s.df with rewrites := s.df.rewrites.filter fun r => r.frame.dataset != ds } }

/-- Abandons a dataset (R332). [DESIGN CHOICE, log entry 38] -/
def State.abandon (s : State) (d : Dataset) : State :=
  let hit := sortBy Parcel.first ((s.parcelsIn d.num).filter fun p => !p.dead)
  let streams := (hit.map (·.stream)).dedup
  let s := s.modDataset d.num fun d => { d with abandoned := true }
  let s := streams.foldl (fun s k =>
    match hit.find? fun p => p.stream == k with
    | some p => s.deferError k p.first 1
    | none => s) s
  let s := { s with
    pe := { s.pe with
      parcels := s.pe.parcels.filter fun p => p.dataset != d.num
      books := s.pe.books.filter fun b => b.dataset != d.num
      bookDue := s.pe.bookDue || d.geo.kind == 1 }
    qe := { s.qe with
      cmds := s.qe.cmds.map fun (c : Cmd) => if entOpcode c.entry = 0x04 ∧ c.count = d.num + 1 then
        { c with count := 0 } else c }
    df := { s.df with voidDue := s.df.voidDue + 1 } }
  let s := (s.setReg .dfBadWrap 0 0 (256 + d.geo.wrap)).setReg .dfBadChain 0 0 d.geo.chainage
  (s.bump .dfAbandoned 0 0).logEv .abandon 0 d.geo.wrap d.num

/-- Restarts a dataset, or abandons it at restart count 2 (R331, R332). The frames of the attempt leave the list. -/
def State.restart (s : State) (ds : Nat) : State :=
  match s.dataset? ds with
  | none => s
  | some d =>
    if d.failed || d.abandoned then s
    else
      let s := s.dropRewrites ds
      if 2 ≤ d.geo.restart then s.abandon d
      else
        let s := s.modDataset ds fun d => { d with failed := true }
        let s := { s with df := { s.df with restartDue := s.df.restartDue ++ [ds] } }
        s.logEv .restart 0 d.geo.restart ds

/-! ### The rewrite list (R322, R329, R330) -/

/-- Puts a frame of an attempt on the rewrite list; a full list or too many frames restart its dataset (R331). -/
def State.needRewrite (s : State) (d : Dataset) (t i slot : Nat) : State :=
  if d.failed || d.abandoned then s
  else
    let s := s.modDataset d.num fun d => { d with needed := d.needed + 1 }
    let most := s.fld .vcRestart 0 0 11 0
    if 4096 ≤ s.df.rewrites.length ∨ (most ≠ 0 ∧ most < d.needed + 1) then s.restart d.num
    else
      let r : Rewrite := ⟨⟨d.num, t, i⟩, [slot], 0, none⟩
      ({ s with df := { s.df with rewrites := insBy rewriteKey r s.df.rewrites } }).noteRewrites

/-- Changes an entry of the list. -/
def State.modRewrite (s : State) (r : FrameRef) (f : Rewrite → Rewrite) : State :=
  { s with df := { s.df with rewrites := s.df.rewrites.map fun x => if x.frame = r then f x else x } }

def State.rewrite? (s : State) (r : FrameRef) : Option Rewrite := s.df.rewrites.find? fun x => decide (x.frame = r)

/-- A frame of the present attempt of a dataset, not yet cut. -/
def State.frameStands (s : State) (p : FramePos) : Bool :=
  (s.dataset? p.dataset).any fun d =>
    d.geo.restart == p.restart && !d.cut.contains (p.slot, p.pos) && d.geo.slots.contains p.slot

/-- A frame is lost: a tier frame joins the list, a rewrite goes back on it with its attempts unchanged. -/
def State.loseFrame (s : State) (p : FramePos) : State :=
  match s.dataset? p.dataset with
  | none => s
  | some d =>
    let s := s.modDataset d.num fun d => { d with cut := (p.slot, p.pos) :: d.cut }
    match d.geo.role p.slot p.pos with
    | some (.tier t i) => s.needRewrite d t i p.slot
    | some (.extra i) =>
      match d.rewrites[i]? with
      | some r => s.modRewrite r fun x =>
          if x.into = some d.num then { x with into := none, slots := x.slots.filter (· != p.slot) } else x
      | none => s
    | none => s

/-- A frame has been cut (R322); where it was the track's last one, the record of the rest is formed (R369). [DEDUCED, log entry 40] -/
def State.cutFrame (s : State) (p : FramePos) : State :=
  if s.frameStands p then
    let s := (s.bump .dfCutFrames 0 0).loseFrame p
    match s.dataset? p.dataset with
    | some d => s.formRecord d p.slot
    | none => s
  else s

/-- GATE_RESUME (R321, R322): every trigger clear and 32 samples inside the window; the frames cut meanwhile. -/
def State.resumeGates (s : State) (cut : List FramePos) : State :=
  if !s.wc.inhibited || !s.wc.triggers.isEmpty || decide (s.wc.inWindow < 32) then s
  else
    let s := cut.foldl (fun s p => s.cutFrame p) s
    let gates := ((s.df.queue.head?.bind s.dataset?).map Dataset.groups).getD []
    { s with wc := { s.wc with inhibited := false, gates := if s.df.running then gates else [] } }

/-! ### Durability and release (R129, R170, R194, R195) -/

/-- The durable end of a stream: up to its first live parcel that is not verified (R129). -/
def State.durableEnd (s : State) (k : Nat) (x : Stream) : Nat :=
  match s.pe.parcels.find? fun p => p.stream == k && !p.dead && !p.verified with
  | some p => p.first
  | none => x.placed.record

/-- A verified dataset makes its parcels durable, and with them truncations (R129, R170). -/
def State.makeDurable (s : State) (d : Dataset) : State :=
  let s := { s with pe := { s.pe with parcels := s.pe.parcels.map fun (p : Parcel) =>
    if p.dataset = d.num then { p with verified := true } else p } }
  { s with pe := { s.pe with streams := s.pe.streams.each fun k x =>
    let mine := s.pe.parcels.any fun p => p.dataset == d.num && p.stream == k && !p.dead
    let done := x.truncPending && decide (x.truncFrom ≤ d.num) && (mine || d.geo.kind == 1)
    { x with durable := if mine then max x.durable (s.durableEnd k x) else x.durable
             truncPending := x.truncPending && !done } } }

/-- Every member and both parities of a group are verified (R194, R282). -/
def State.groupDone (s : State) (g : Group) : Bool :=
  g.closed && decide (g.parityLen ≤ g.done0) && decide (g.parityLen ≤ g.done1) &&
    (g.parity.all fun n => ((s.dataset? n).map (·.verified)).getD false) &&
    (g.repair == 2 || g.members.all fun m => match s.dataset? m.1 with
      | some d => d.verified || d.abandoned
      | none => true)

/-- The retention mark of one stream passes its parcels in a list of datasets (R194, R195). -/
def State.passMark (s : State) (nums : List Nat) (k : Nat) : State :=
  match s.stream? k with
  | none => s
  | some x =>
    let m := (s.pe.parcels.filter fun p => p.stream == k && nums.contains p.dataset && !p.dead).foldl
      (fun a p => Place.max a p.upto) x.mark
    let n := bytesBetween x.recs x.mark m
    (s.setStream k { x with mark := m, recs := x.recs.filter fun r => decide (m.record ≤ r.num) }).giveBack k n

/-- Releases a group: marks pass, its datasets and its state are let go (R194). [DESIGN CHOICE, log entry 38] -/
def State.releaseGroup (s : State) (g : Group) : State :=
  let nums := g.members.map (·.1) ++ g.parity
  let s := s.pe.streams.keys.foldl (fun s k => s.passMark nums k) s
  let s := { s with
    pe := { s.pe with parcels := s.pe.parcels.map fun (p : Parcel) =>
      if nums.contains p.dataset then { p with released := true, payload := [], sealedText := none } else p }
    df := { s.df with
      datasets := s.df.datasets.filter fun d => !nums.contains d.num
      groups := s.df.groups.filter fun h => h.num != g.num } }
  s.recredit

/-- Releases the groups that are done, oldest first: a mark passes only contiguous bytes (R194). -/
def State.releaseGroups (s : State) : List Group → State
  | [] => s
  | g :: t => if s.groupDone g then (s.releaseGroup g).releaseGroups t else s

/-- A dataset all of whose tier frames are verified is verified (R328). -/
def State.checkVerified (s : State) (ds : Nat) : State :=
  match s.dataset? ds with
  | none => s
  | some d =>
    if d.verified || d.failed || d.abandoned || decide (d.good.length < 256 * d.tiers) then s
    else
      let s := s.modDataset ds fun d => { d with verified := true }
      let s := s.makeDurable d
      s.releaseGroups s.df.groups

/-- A copy of a tier frame graded good (R328). -/
def State.frameGood (s : State) (ds t i : Nat) : State :=
  let s := s.modDataset ds fun d =>
    let n := 256 * t + i
    { d with good := if d.good.contains n then d.good else n :: d.good }
  s.checkVerified ds

/-! ### Grading (R325 to R327, R330) -/

/-- The margin of a decoded frame (R326). -/
def State.margin (s : State) (g : FrameGot) : Nat :=
  let w := fun hi lo => s.fld .vcGradeW 0 0 hi lo
  if g.info.isNone then 0
  else 255 - (w 31 24 * g.iters + w 23 16 * ((g.corrected + 7) / 8) + w 15 8 * g.missed + w 7 0 * g.mse)

/-- Counts a grade of a slot (R340). -/
def State.countGrade (s : State) (slot : Nat) (g : FrameGot) (m : Nat) (good : Bool) : State :=
  let s := if good then s.bump48 .vcSlotVfyLo .vcSlotVfyHi 0 slot 1
    else if g.info.isNone then s.bump .vcSlotFails 0 slot else s.bump .vcSlotPoor 0 slot
  s.setReg .vcSlotLast 0 slot
    (min 255 ((g.corrected + 7) / 8) * 2 ^ 24 + min 255 g.missed * 2 ^ 16 + min 255 g.iters * 2 ^ 8 + m)

/-- Adds a graded frame to its track's tally (R369). -/
def State.addTally (s : State) (p : FramePos) (m : Nat) (good : Bool) : State :=
  let t := s.tally p.dataset p.restart p.slot
  s.setTally { t with count := t.count + 1, worst := min t.worst m, sum := t.sum + m, k := t.k + natOf (!good) }

/-- A slot has caused a rewrite in its active window (R163). -/
def State.blame (s : State) (slot : Nat) : State :=
  { s with pe := { s.pe with caused := s.pe.caused.upd 0 slot (· + 1) } }

/-- What a grade does to a rewrite copy (R330): good verifies the frame; otherwise the attempt counts, and the third
restarts the frame's dataset. Results of frames no longer on the list are ignored (R331). -/
def State.gradeRewrite (s : State) (ds : Nat) (r : FrameRef) (slot : Nat) (good : Bool) : State :=
  match s.rewrite? r with
  | none => s
  | some x =>
    if x.into ≠ some ds then s
    else if good then
      let s := { s with df := { s.df with rewrites := s.df.rewrites.filter fun y => decide (y.frame ≠ r) } }
      s.frameGood r.dataset r.tier r.frame
    else
      let s := s.blame slot
      if 3 ≤ x.attempts + 1 then s.restart r.dataset
      else s.modRewrite r fun y => { y with attempts := y.attempts + 1, into := none }

/-- What a grade does to the frame at a position of a dataset (R327). -/
def State.gradeRole (s : State) (d : Dataset) (p : FramePos) (good : Bool) : State :=
  match d.geo.role p.slot p.pos with
  | some (.tier t i) =>
    if d.failed || d.abandoned then s
    else if good then s.frameGood d.num t i
    else (s.blame p.slot).needRewrite d t i p.slot
  | some (.extra i) =>
    match d.rewrites[i]? with
    | some r => s.gradeRewrite d.num r p.slot good
    | none => s
  | none => s

/-- FRAME_GRADE (R325 to R330): VC grades a frame that ED has decoded on verify. A cut frame's result is ignored. -/
def State.gradeFrame (s : State) (p : FramePos) : State :=
  match s.dataset? p.dataset, s.ed.verify.find? fun g => decide (g.place = p) with
  | some d, some g =>
    let s := { s with ed := { s.ed with verify := s.ed.verify.filter fun g => decide (g.place ≠ p) } }
    if d.geo.restart ≠ p.restart ∨ d.cut.contains (p.slot, p.pos) = true ∨ d.graded.contains (p.slot, p.pos) = true then s
    else
      let m := s.margin g
      let good := g.info.isSome && decide (s.fld .vcRwThresh 0 0 7 0 ≤ m)
      let s := (s.markWritten d.num).countGrade p.slot g m good
      let s := (s.modDataset d.num fun d => { d with graded := (p.slot, p.pos) :: d.graded }).addTally p m good
      let s := match s.dataset? d.num with
        | some d => s.formRecord d p.slot
        | none => s
      (s.gradeRole d p good).rewatch
  | _, _ => s

/-! ### Groups after an unclean end (R307), and closed early (R280, R305) -/

/-- Clocks zero inputs for the empty positions of a group (R305). -/
def clockZeros (len : Nat) : Nat → Bytes × Bytes → Bytes × Bytes
  | 0, r => r
  | n + 1, r => clockZeros len n (c3Member r.1 r.2 (zeros len))

/-- Closes a group that has fewer than 30 members (R280, R305). -/
def Group.closeEarly (g : Group) : Group :=
  let r := clockZeros g.parityLen (30 - g.members.length) (g.p0, g.p1)
  { g with closed := true, p0 := r.1, p1 := r.2 }

/-- C3_GROUP_CLOSE (R307): the members as re-read are clocked again; those that cannot be read are listed empty. -/
def State.groupClose (s : State) (ms : List MemberRead) : State :=
  match s.df.groups.find? fun g => g.repair == 1 with
  | none => s
  | some g =>
    let ms := ms.take 30
    let r := ms.foldl (fun r m => c3Member r.1 r.2 ((m.area.map (fit (areaBytes m.tiers))).getD [])) ([], [])
    s.modGroup g.num fun g =>
      ({ g with members := ms.map fun m => if m.area.isSome then (m.num, m.tiers, m.restart) else (noDataset, 0, 0)
                clocked := ms.length, p0 := r.1, p1 := r.2, repair := 2 } : Group).closeEarly

/-! ### The commands -/

/-- PARCEL_SEAL (R249). -/
def execParcelSeal (dataset index : Nat) (s : State) : Host.Outcome State Fault Refusal := s.sealParcel dataset index

/-- TIER_ENCODE (R300, R305). -/
def execTierEncode (dataset tier faults : Nat) (s : State) : Host.Outcome State Fault Refusal :=
  .next (s.tierEncode dataset tier faults)

/-- WRITE_RUN_START (R319). -/
def execWriteRunStart (s : State) : Host.Outcome State Fault Refusal := .next s.startRun

/-- WRITE_RUN_END (R319): the operand says how many datasets of the queue the run wrote. -/
def execWriteRunEnd (count : Nat) (s : State) : Host.Outcome State Fault Refusal := .next (s.endRun count)

/-- BACKHITCH_RESUME (R337, R338). -/
def execBackhitchResume (ms : Nat) (s : State) : Host.Outcome State Fault Refusal := .next (s.resumeBackhitch ms)

/-- FRAME_GRADE (R327). -/
def execFrameGrade (place : FramePos) (s : State) : Host.Outcome State Fault Refusal := .next (s.gradeFrame place)

/-- GATE_RESUME (R321, R322). -/
def execGateResume (cut : List FramePos) (s : State) : Host.Outcome State Fault Refusal := .next (s.resumeGates cut)

/-- SHOCK_N asserted (R320, R403). -/
def execShockN (s : State) : Host.Outcome State Fault Refusal := .next (s.raiseTrigger 1)

/-- SHOCK_N deasserted (R403). -/
def execShockNDeassert (s : State) : Host.Outcome State Fault Refusal := .next (s.clearTrigger 1)

/-- ACC_READ (R403): the three axes in mg. -/
def execAccRead (x y z : Int) (s : State) : Host.Outcome State Fault Refusal :=
  let far := fun (v : Int) => decide (s.fld .smAccCfg 0 0 15 0 < v.natAbs)
  .next (if s.fld .smAccCfg 0 0 31 31 = 0 then s
    else if far x || far y || far z then s.raiseTrigger 2 else s.clearTrigger 2)

/-- WFAULT_N asserted (R320). -/
def execWfaultN (s : State) : Host.Outcome State Fault Refusal := .next (s.raiseTrigger 3)

/-- WFAULT_N deasserted (R321). -/
def execWfaultNDeassert (s : State) : Host.Outcome State Fault Refusal := .next (s.clearTrigger 3)

/-- C3_GROUP_CLOSE (R307). -/
def execC3GroupClose (members : List MemberRead) (s : State) : Host.Outcome State Fault Refusal :=
  .next (s.groupClose members)

end Sys2Proof.Machine
end

