-- ==== Sys2Proof/Machine/ReadPath.lean ====
section
/-! DEFINITION. The read path (13; 06 R174 to R176; 09 R251; 08 R227, R229; 11 R308, R311): preambles, frames, tiers, C3,
the opening of parcels and their decompression, and the order in which tape reads are served. -/

namespace Sys2Proof.Machine

/-! ### Channels (R343 to R352) -/

def rcChan0 : RcChan := { locked := false, step := 0, active := false }

def State.chan (s : State) (n : Nat) : RcChan := s.rc.chans.get rcChan0 n

def State.modChan (s : State) (n : Nat) (g : RcChan → RcChan) : State :=
  if n < 136 then { s with rc := { s.rc with chans := s.rc.chans.upd rcChan0 n g } } else s

/-- Every slot takes the step and the place in the active set that a geometry gives it (R350). -/
def State.spreadSteps (s : State) (g : Geometry) : State :=
  (List.range 136).foldl (fun s n =>
    s.modChan n fun c => match g.stepOf n with
      | some st => { c with step := st, active := true }
      | none => { c with active := false }) s

/-- The geometry known for a dataset number: that of its highest restart count (R274). -/
def State.geometry? (s : State) (num : Nat) : Option Geometry := s.rc.geos.find? fun g => g.num == num

/-- Keeps a geometry unless an attempt with a higher restart count is known (R274, R362). -/
def State.keepGeometry (s : State) (g : Geometry) : State :=
  match s.geometry? g.num with
  | some h => if g.restart ≤ h.restart then s
    else { s with rc := { s.rc with geos := s.rc.geos.filter (fun h => h.num != g.num) ++ [g] } }
  | none => { s with rc := { s.rc with geos := s.rc.geos ++ [g] } }

/-- A write that starts mid-wrap with calibration at its defaults takes its active set and steps from the last dataset
before the frontier (R372). -/
def State.resumeVector (s : State) (g : Geometry) : State :=
  match s.pe.wrapNow, s.pe.frontier with
  | none, some (w, i + 1) =>
    if g.kind < 3 ∧ g.wrap = w ∧ g.chainage = s.chainOf w i then s.startWindow w g.slots g.steps else s
  | _, _ => s

/-- PREAMBLE_DECODE (R350, R310): the 1,216 coded bits of a track's preamble as a channel read them. [DEDUCED, log entry 44] -/
def State.preamble (s : State) (slot : Nat) (bits : Bits) (verify : Bool) : State :=
  if 136 ≤ slot then s
  else
    let s := s.adapt slot
    match preambleInfo ((bits ++ List.replicate 1216 false).take 1216) with
    | none =>
      let s := s.bump .rcChPreFail (slot / 17) (slot % 17)
      if verify then s.bump .vcPreFail 0 0 else s
    | some info =>
      if natOfBE (info.take 8) ≠ 0xD7 then s
      else
        let g := readGeometry info
        let s := (s.modChan slot fun c => { c with locked := true }).spreadSteps g
        let s := if g.kind < 3 then s.keepGeometry g else s
        s.resumeVector g

/-! ### Frames and C1 (R354 to R361) -/

/-- The verify limit (R367): 1 to 32. -/
def State.verifyLimit (s : State) : Nat := clamp 1 32 (s.fld .edIter 0 0 15 8)

/-- The read limit: from the verify limit to 64. -/
def State.readLimit (s : State) : Nat := clamp s.verifyLimit 64 (s.fld .edIter 0 0 23 16)

/-- Iterations of an alignment attempt: at least 1. -/
def State.retryLimit (s : State) : Nat := max 1 (s.fld .edIter 0 0 3 0)

/-- The iterations a frame's decode may take (R354, R359). -/
def State.frameLimit (s : State) (f : FrameRead) : Nat :=
  if f.retried then s.retryLimit else if f.verify then s.verifyLimit else s.readLimit

/-- More channel bits are flagged than RC_DEFECT.frame_max allows: the frame is marked (R361). -/
def State.isMarked (s : State) (f : FrameRead) : Bool :=
  let m := s.fld .rcDefect (f.place.slot / 17) 0 31 20
  m != 0 && decide (m < f.flagged)

/-- C1 has found a codeword within the limit (R354). -/
def State.c1Good (s : State) (f : FrameRead) : Bool :=
  !s.isMarked f && f.code.length == 16384 && decide (1 ≤ f.iters ∧ f.iters ≤ s.frameLimit f) && c1Zero f.code

/-- The lane that took a frame is in service, or none took it. -/
def State.laneOk (s : State) (f : FrameRead) : Bool :=
  match f.lane with
  | none => true
  | some n => decide (n < s.present 2) && !s.ed.retired.contains n

/-- Holds a frame for grading or for C2, in place of an earlier reading of it. -/
def State.holdFrame (s : State) (verify : Bool) (g : FrameGot) : State :=
  let put := fun (l : List FrameGot) => l.filter (fun (h : FrameGot) => decide (h.place ≠ g.place)) ++ [g]
  if verify then { s with ed := { s.ed with verify := put s.ed.verify } }
  else { s with ed := { s.ed with frames := put s.ed.frames } }

/-- Notes the iterations of a slot's decoded frame: its last 1,024 (R367). -/
def State.noteIters (s : State) (slot n : Nat) : State :=
  { s with ed := { s.ed with iters := s.ed.iters.upd [] slot fun l => (l ++ [n]).drop (l.length + 1 - 1024) } }

/-- What the channel counts of a frame (R366). -/
def State.countChannel (s : State) (f : FrameRead) : State :=
  let i := f.place.slot / 17
  let n := f.place.slot % 17
  let s := (s.bump48 .rcChFramesLo .rcChFramesHi i n 1).setReg .rcChMse i n (min 255 f.mse)
  (s.bumpBy .rcChMiss i n f.missed).bumpBy .rcChDefect i n f.flagged

/-- What ED counts of a frame (R367). -/
def State.countFrame (s : State) (f : FrameRead) (good : Bool) : State :=
  match f.lane with
  | none => s.bump .edOverrun 0 0
  | some n =>
    if good then
      let s := (s.bump .edLaneFrames 0 n).noteIters f.place.slot f.iters
      if f.retried then s.bump .edSlotRetry 0 f.place.slot else s
    else if s.isMarked f then s
    else s.bump .edSlotC1fail 0 f.place.slot

/-- FRAME_DECODE. [DESIGN CHOICE, log entry 43] -/
def State.decodeFrame (s : State) (f : FrameRead) : State :=
  if 136 ≤ f.place.slot ∨ s.laneOk f = false then s
  else
    let s := match f.lane with
      | some n => s.yieldUnit 2 n
      | none => s
    let s := s.adapt f.place.slot
    let good := f.lane.isSome && s.c1Good f
    let s := (s.countChannel f).countFrame f good
    s.holdFrame f.verify ⟨f.place, if good then some (packMSB (f.code.take 15360)) else none, f.iters, f.corrected,
      f.missed, min 255 f.mse⟩

/-! ### Tiers and C2 (R363, R364) -/

def State.tier? (s : State) (ds t : Nat) : Option TierData :=
  s.ed.tiers.find? fun x => x.dataset == ds && x.tier == t

def State.setTier (s : State) (ds t : Nat) (b : Option Bytes) : State :=
  { s with ed := { s.ed with tiers := s.ed.tiers.filter (fun x => !(x.dataset == ds && x.tier == t)) ++ [⟨ds, t, b⟩] } }

/-- The information field decoded at a place. -/
def State.heldInfo (s : State) (p : FramePos) : Option Bytes :=
  (s.ed.frames.find? fun g => decide (g.place = p)).bind (·.info)

/-- The header of a dataset as read, if its tier 0 is held and its CRC holds (R277). -/
def State.headerOf (s : State) (ds : Nat) : Option Bytes :=
  match s.tier? ds 0 with
  | some t => t.bytes.bind fun b => if headerOk b then some (b.take 4096) else none
  | none => none

/-- A copy of a frame in a later dataset's leftover positions (R364): datasets whose header is held. -/
def State.rewriteCopy (s : State) (r : FrameRef) : Option Bytes :=
  s.rc.geos.findSome? fun g =>
    match s.headerOf g.num with
    | none => none
    | some h =>
      ((headerRewrites h).zip g.extras).findSome? fun x =>
        if x.1 = r then s.heldInfo ⟨g.num, g.restart, x.2.1, x.2.2⟩ else none

/-- A tier's frames as C2 takes them, in order, and how many originals differ from their rewrite (R311, R364). -/
def State.tierFrames (s : State) (g : Geometry) (t : Nat) : List (Option Bytes) × Nat :=
  let l := (g.tierFrames t).zipIdx.map fun x =>
    (s.heldInfo ⟨g.num, g.restart, x.1.1, x.1.2⟩, s.rewriteCopy ⟨g.num, t, x.2⟩)
  (l.map fun x => match x.1 with
    | some a => some a
    | none => x.2,
   (l.filter fun x => match x.1, x.2 with
    | some a, some b => a != b
    | _, _ => false).length)

/-- Both passes over a tier (R363): the decoded codewords of the pass that counts, and its erasures. [DESIGN CHOICE, log entry 43] -/
def c2Decode (promote : Nat) (frames : List (Option Bytes)) : List (List Nat) × List (Option (List Nat)) × List Nat :=
  let w := c2Words frames
  let er := (List.range 256).filter fun i => (frames.getD i none).isNone
  let one := c2Pass w er
  if one.all (·.isSome) || promote == 0 then (w, one, er)
  else
    let er2 := er ++ (errorCounts w one).zipIdx.filterMap fun x => if promote ≤ x.1 then some x.2 else none
    (w, c2Pass w er2, er2)

/-- TIER_DECODE (R363). -/
def State.decodeTier (s : State) (ds t : Nat) : State :=
  match s.geometry? ds with
  | none => s
  | some g =>
    if g.tiers ≤ t then s
    else
      let f := s.tierFrames g t
      let r := c2Decode (s.fld .edC2Cfg 0 0 7 0) f.1
      let wrong := ((errorCounts r.1 r.2.1).filter (0 < ·)).length
      let s := (s.bumpBy .edC2Eras 0 0 r.2.2.length).bumpBy .edC2Err 0 0 (wrong + f.2)
      match c2Bytes r.2.1 with
      | some b => ((s.bump .edC2Tiers 0 0).setTier ds t (some b)).rewatch
      | none => ((s.bump .edC2Fail 0 0).setTier ds t none).rewatch

/-! ### Failing a read (R123) -/

/-- Puts what the read path has made of a record in front of the read that waits for it. -/
def State.deliverRec (s : State) (d : Decoded) : State :=
  { s with pe := { s.pe with
    decoded := s.pe.decoded.filter (fun e => !(e.stream == d.stream && e.num == d.num)) ++ [d] } }

/-- A stream's record cannot be delivered. -/
def State.failRec (s : State) (k r status detail : Nat) : State := s.deliverRec ⟨k, r, none, [], none, some (status, detail)⟩

/-- Every read that waits for a dataset fails at its record. -/
def State.failReads (s : State) (ds detail : Nat) : State :=
  (s.pe.reads.filter fun t => t.dataset == ds).foldl (fun s t => s.failRec t.stream t.record stReadFault detail) s

/-! ### C3 (R281, R308, R365) -/

/-- The member table of a group, from a parity dataset of it whose header is held. -/
def State.groupTable (s : State) (g : Nat) : Option (List (Nat × Nat × Nat)) :=
  s.ed.tiers.findSome? fun t =>
    if t.tier ≠ 0 then none
    else
      match s.headerOf t.dataset with
      | some h => if fieldBE h 5 1 = 2 ∧ fieldBE h 16 4 = g then some (headerMembers h) else none
      | none => none

/-- The headers held. -/
def State.headers (s : State) : List (Nat × Bytes) :=
  s.ed.tiers.filterMap fun t => if t.tier = 0 then (s.headerOf t.dataset).map fun h => (t.dataset, h) else none

/-- Group and position of a dataset (R277): from its header, or from a member table that lists it. -/
def State.groupPlace (s : State) (ds : Nat) : Option (Nat × Nat) :=
  match s.headerOf ds with
  | some h => some (fieldBE h 16 4, fieldBE h 20 1)
  | none =>
    s.headers.findSome? fun x =>
      if fieldBE x.2 5 1 ≠ 2 then none
      else ((headerMembers x.2).findIdx? fun m => m.1 == ds).map fun p => (fieldBE x.2 16 4, p)

/-- The member at a position of a group: its number and tier count, if anything held tells. -/
def State.memberAt (s : State) (g p : Nat) : Option (Nat × Nat) :=
  match s.groupTable g with
  | some l => let m := l.getD p (noDataset, 0, 0); some (m.1, m.2.1)
  | none =>
    (s.headers.find? fun x => decide (fieldBE x.2 5 1 < 2) && fieldBE x.2 16 4 == g && fieldBE x.2 20 1 == p).map
      fun x => (x.1, fieldBE x.2 12 1)

/-- A byte of a dataset's payload as held. -/
def State.heldByte (s : State) (ds j : Nat) : Option Nat :=
  match s.tier? ds (j / 445440) with
  | some t => t.bytes.map fun b => (b.getD (j % 445440) 0).toNat
  | none => none

/-- The bytes of the 32 positions of a group at one byte index; none where erased (R308). -/
def State.c3Bytes (s : State) (mem : List (Option (Nat × Nat))) (par : List (Nat × Bytes)) (idx : Nat) :
    List (Option Nat) :=
  let data := mem.map fun m =>
    match m with
    | none => none
    | some (n, t) => if n = noDataset ∨ areaBytes t ≤ idx then some 0 else s.heldByte n (idx + 4096)
  let parity := [0, 1].map fun k =>
    par.findSome? fun x =>
      if fieldBE x.2 20 1 = 30 + k ∧ fieldBE x.2 32 4 ≤ idx ∧ idx < fieldBE x.2 32 4 + areaBytes (fieldBE x.2 12 1) then
        s.heldByte x.1 (idx - fieldBE x.2 32 4 + 4096)
      else none
  data ++ parity

/-- The bytes of a member's tier that C3 recovers; a tier 0 has no header to recover. -/
def State.c3Tier (s : State) (g p t : Nat) : Option Bytes :=
  let mem := (List.range 30).map fun q => s.memberAt g q
  let par := s.headers.filter fun x => fieldBE x.2 5 1 == 2 && fieldBE x.2 16 4 == g
  let lo := 445440 * t - 4096
  let n := 445440 * (t + 1) - 4096 - lo
  let l := (List.range n).map fun i =>
    (c3Index (s.c3Bytes mem par (lo + i))).map fun b => BitVec.ofNat 8 (b.getD p 0)
  if l.all (·.isSome) then some ((if t = 0 then zeros 4096 else []) ++ l.map (·.getD 0)) else none

/-- C3_RECOVER (R365): of a tier that C2 failed, or of a member of which nothing was received. [DESIGN CHOICE, log entry 43] -/
def State.c3Recover (s : State) (ds t : Nat) : State :=
  let lost := match s.tier? ds t with
    | some x => x.bytes.isNone
    | none => (s.geometry? ds).isNone
  match s.groupPlace ds with
  | none => if lost then (s.bump .edC3Fail 0 0).failReads ds 0x10 else s
  | some (g, p) =>
    if !lost then s
    else
      match s.c3Tier g p t with
      | some b => ((s.bump .edC3Runs 0 0).setTier ds t (some b)).rewatch
      | none => (s.bump .edC3Fail 0 0).failReads ds 0x10

/-! ### Opening a parcel (R14, R251, R278, R279) -/

/-- The bytes of a dataset's payload from an offset; none where a tier of them is not held. -/
def State.payloadPart (s : State) (ds off n : Nat) : Option Bytes :=
  let t0 := off / 445440
  let l := (List.range ((off + n + 445439) / 445440 - t0)).map fun i => (s.tier? ds (t0 + i)).bind (·.bytes)
  if l.all (·.isSome) then some (((l.map (·.getD [])).flatten.drop (off % 445440)).take n) else none

/-- Where parcel `n` lies when the directory is lost: each header gives the place of the next. [DESIGN CHOICE, log entry 43] -/
def State.walkParcels (s : State) (ds : Nat) : Nat → Nat → Option (Nat × Nat)
  | 0, off => (s.payloadPart ds off 64).bind fun h =>
      if fieldBE h 0 2 = 0x50A7 then some (off, 80 + fieldBE h 48 4) else none
  | n + 1, off => (s.payloadPart ds off 64).bind fun h =>
      if fieldBE h 0 2 = 0x50A7 then s.walkParcels ds n (up16 (off + 80 + fieldBE h 48 4)) else none

/-- Offset and size of a parcel in its dataset's payload. -/
def State.parcelPlace (s : State) (ds index : Nat) : Option (Nat × Nat) :=
  match s.headerOf ds with
  | some h => if index < fieldBE h 29 1 then some (fieldBE h (512 + 32 * index) 4, fieldBE h (516 + 32 * index) 4) else none
  | none => s.walkParcels ds index 4096

/-- The key a function holds for a label (R251). -/
def State.keyFor (s : State) (f label : Nat) : Option Bytes :=
  if label = 0 then some (zeros 32)
  else
    (s.ce.slots.find? fun e => decide (s.keyBase f ≤ e.1 ∧ e.1 < s.keyBase f + s.keyCount f) && !e.2.raw &&
      !e.2.retiring && (e.2.state == 2 || e.2.state == 3) && e.2.label == label).map fun e => e.2.key

/-- Verifies a parcel's tag and opens it, or fails the read (R251). -/
def State.openParcel (s : State) (c : Cmd) (t : TapeRead) (ds index : Nat) (b : Bytes) : State :=
  let h := b.take 64
  let label := fieldBE h 28 4
  let ct := (b.drop 64).take (fieldBE h 48 4)
  match s.keyFor c.fn label with
  | none =>
    let s := (s.bump .ceKeyMiss 0 0).logEv .keyMissing (s.tenant c.fn) 0 label
    let s := s.chime c.fn 0x303 (label % 65536) (entHandle c.entry)
    s.failRec t.stream t.record stReadFault 0x13
  | some key =>
    let s := s.coreWork ct.length
    let iv := (h.drop 32).take 12
    if gcmTag key iv h ct = (b.drop (64 + ct.length)).take 16 then
      { s with ce := { s.ce with
        opened := s.ce.opened.filter (fun o => !(o.dataset == ds && o.index == index)) ++
          [⟨ds, index, h, gcmCrypt key iv ct⟩] } }
    else (s.bump .ceAuthFail 0 0).failRec t.stream t.record stReadFault 0x13

/-- PARCEL_OPEN. -/
def State.parcelOpen (s : State) (id ds index : Nat) : State :=
  match s.cmd? id, s.pe.reads.find? fun t => t.cmd == id && t.dataset == ds with
  | some c, some t =>
    if s.cipherWaits || s.noCipher then s
    else
      match (s.parcelPlace ds index).bind fun p => s.payloadPart ds p.1 p.2 with
      | none => s
      | some b =>
        if fieldBE b 0 2 = 0x50A7 ∧ fieldBE b 4 1 = s.tenant c.fn ∧ streamKey (fieldBE b 4 1) (fieldBE b 8 8) = t.stream
        then s.openParcel c t ds index b
        else s
  | _, _ => s

/-! ### Decompression (R227, R229) -/

/-- One record out of a parcel. -/
def State.takeRun (s : State) (k r : Nat) (data : Bytes) (m : Mark) : State :=
  match m with
  | .none => s
  | .peg c => s.deliverRec ⟨k, r, some c, [], none, none⟩
  | .recEnd => s.deliverRec ⟨k, r, none, data, none, none⟩
  | .recEndCrc c =>
    if crc32c data = c then s.deliverRec ⟨k, r, none, data, some c, none⟩ else s.failRec k r stReadFault 0x12

/-- The start of a record that an earlier parcel holds. -/
def State.carried (s : State) (k r : Nat) : Option Bytes :=
  (s.pe.carry.find? fun c => c.1 == k && c.2.1 == r).map fun c => c.2.2

/-- The records of a parcel from record `r` on, up to `last`; the first one may continue a record. -/
def State.takeRuns (s : State) (k last : Nat) : Nat → Bool → List Run → State
  | _, _, [] => s
  | r, cont, x :: t =>
    if last < r then s
    else
      let s := match cont, s.carried k r with
        | false, _ => s.takeRun k r x.data x.mark
        | true, some b => s.takeRun k r (b ++ x.data) x.mark
        | true, none => s
      s.takeRuns k last (r + 1) false t

/-- Keeps the start of a record whose rest lies in the stream's next parcel (R227). -/
def State.keepCarry (s : State) (k r : Nat) (cont : Bool) (b : Bytes) : State :=
  let old := if cont then s.carried k r else some []
  match old with
  | none => s
  | some a => { s with pe := { s.pe with carry := s.pe.carry.filter (fun c => c.1 != k) ++ [(k, r, a ++ b)] } }

/-- A guard has tripped (R229). -/
def State.guardTrip (s : State) (unit ds : Nat) (t : Trip) : State :=
  let s := s.setReg .cxDxFault 0 0 (2 ^ 31 + t.cause * 2 ^ 28 + (if t.cause = 3 then t.sub else 0) * 2 ^ 24 + unit)
  (s.bump .cxDxTrips 0 0).logEv .guard 0 (t.cause * 65536 + t.sub * 256 + unit) ds

/-- PARCEL_DECOMPRESS: a decompressor decodes an opened parcel up to the end of record `upto`. -/
def State.parcelDecompress (s : State) (unit ds index upto : Nat) : State :=
  match s.ce.opened.find? fun o => o.dataset == ds && o.index == index with
  | none => s
  | some o =>
    if 32 ≤ unit ∨ s.engineUsable (32 + unit) = false ∨ s.below 4 = true then s
    else
      let s := s.yieldUnit 4 unit
      let h := o.head
      let k := streamKey (fieldBE h 4 1) (fieldBE h 8 8)
      let first := fieldBE h 16 8
      let cont := bitOf (fieldBE h 3 1) 0
      let r := decompress (fieldBE h 44 4) cont o.payload
      let end_ := first + r.1.length
      let s := s.countEngine (32 + unit) o.payload.length ((r.1.map fun x => x.data.length).sum + r.2.1.length) 0
      let s := s.takeRuns k upto first cont r.1
      let s := if upto < end_ then s
        else match r.2.2 with
          | some t => (s.guardTrip unit ds t).failRec k end_ stExpansionLimit 0
          | none => if bitOf (fieldBE h 3 1) 1 then s.keepCarry k end_ (cont && r.1.isEmpty) r.2.1 else s
      if upto < end_ ∧ upto + 1 < end_ then s
      else { s with ce := { s.ce with opened := s.ce.opened.filter fun o => !(o.dataset == ds && o.index == index) } }

/-! ### The order of tape reads (R175, R176) -/

/-- Wrap and chainage of the dataset a read waits for. -/
def State.readAt (s : State) (t : TapeRead) : Nat × Nat :=
  match s.pe.parcels.find? fun p => p.dataset == t.dataset with
  | some p => (p.wrap, p.chainage)
  | none => (0, 0)

/-- Ticks from the head to a read's dataset, in the direction of motion; none where it is not ahead on this wrap. -/
def State.ahead (s : State) (t : TapeRead) : Option Nat :=
  let a := s.readAt t
  let here := s.sm.chain / 2
  if s.sm.wrap ≠ some a.1 then none
  else if isReverse a.1 then (if a.2 ≤ here then some (here - a.2) else none)
  else if here ≤ a.2 then some (a.2 - here) else none

/-- The next target (R176). -/
def State.nextTarget (s : State) : Option TapeRead :=
  match s.pe.reads.find? (·.longWaited) with
  | some t => some t
  | none =>
    match smallest (fun t => (s.ahead t).getD 0) (s.pe.reads.filter fun t => (s.ahead t).isSome) with
    | some t => some t
    | none => smallest (fun t => Config.locateTime (s.sm.wrap.getD 0) (s.sm.chain / 2) (s.readAt t).1 (s.readAt t).2)
        s.pe.reads

/-- Writing gives way to reads: it is stopped, or its queue has fallen to its low watermark (R176). -/
def State.readsMayRun (s : State) : Bool :=
  s.pe.writeStopped || s.df.queue.isEmpty || decide (s.watchLevel 5 ≤ s.fld .bmWmCfg 0 5 7 0)

/-- READ_TARGET_SELECT. With no read left, what the read path holds for reads is let go and writing resumes. [DESIGN CHOICE, log entry 43] -/
def State.selectTarget (s : State) : State :=
  if s.pe.reads.isEmpty then
    ({ s with
      pe := { s.pe with target := none, writeStopped := false }
      ed := { s.ed with frames := [], tiers := [] }
      ce := { s.ce with opened := [] } }).rewatch
  else if !s.readsMayRun || s.df.running then s
  else { s with pe := { s.pe with target := s.nextTarget.map (·.cmd), writeStopped := true } }

/-- READ_WAIT_EXPIRY: a read has waited PE_READ_WAIT ms, or four times that. -/
def State.waitExpiry (s : State) (id : Nat) (long : Bool) : State :=
  if s.pe.reads.any (fun t => t.cmd == id) then
    { s with pe := { s.pe with
      writeStopped := true
      reads := s.pe.reads.map fun t => if t.cmd = id then { t with waited := true, longWaited := t.longWaited || long }
        else t } }
  else s

/-- PE_LOC_RUNUP in force. -/
def State.runup (s : State) : Nat := max 240 (s.fld .peLocRunup 0 0 15 0)

/-- Where a locate lands (R175): the run-up before an extent, not before the end of the wrap's benchmark. -/
def State.landing (s : State) (w chain : Nat) : Nat :=
  if isReverse w then min (s.endTick - 64) (chain + extentTicks w + s.runup) else max 2464 (chain - s.runup)

/-- The set-point of a read: the level of watch 7 inverted, tracks and T of the target as known (R335). [DEDUCED, log entry 78] -/
def State.readSpeed (s : State) (w ds : Nat) : Nat :=
  let g := s.geometry? ds
  s.speedFor w ((g.map Geometry.tiers).getD 24) ((g.map fun g => g.slots.length).getD s.pe.active.length) (255 - s.watchLevel 7)

/-- LOCATE_LANDING: the tape stands before the target; reads of its dataset are positioned. -/
def State.land (s : State) : State :=
  match s.pe.reads.find? fun t => s.pe.target == some t.cmd with
  | none => s
  | some t =>
    if s.transportDown then s
    else
      let a := s.readAt t
      { s.draw with
        df := { s.df with speed := s.readSpeed a.1 t.dataset }
        sm := { s.sm with wrap := some a.1, band := some (bandOf a.1), chain := 2 * s.landing a.1 a.2
                          reverse := isReverse a.1, state := 2, brake := false, reels := 1 }
        pe := { s.pe with reads := s.pe.reads.map fun u =>
          if u.dataset = t.dataset then { u with landed := true } else u } }

/-! ### The commands -/

/-- FRAME_DECODE (R354 to R361). -/
def execFrameDecode (frame : FrameRead) (s : State) : Host.Outcome State Fault Refusal := .next (s.decodeFrame frame)

/-- PREAMBLE_DECODE (R350). -/
def execPreambleDecode (slot : Nat) (bits : List Bool) (verify : Bool) (s : State) : Host.Outcome State Fault Refusal :=
  .next (s.preamble slot bits verify)

/-- LOSS_OF_LOCK (R349). -/
def execLossOfLock (slot : Nat) (s : State) : Host.Outcome State Fault Refusal :=
  .next (s.modChan slot fun c => { c with locked := false })

/-- TIMING_LOCK_REACQUIRE (R349). -/
def execTimingLockReacquire (slot : Nat) (s : State) : Host.Outcome State Fault Refusal :=
  .next (s.modChan slot fun c => { c with locked := true })

/-- TIER_DECODE (R363). -/
def execTierDecode (dataset tier : Nat) (s : State) : Host.Outcome State Fault Refusal := .next (s.decodeTier dataset tier)

/-- C3_RECOVER (R365). -/
def execC3Recover (dataset tier : Nat) (s : State) : Host.Outcome State Fault Refusal := .next (s.c3Recover dataset tier)

/-- PARCEL_OPEN (R251). -/
def execParcelOpen (cmd dataset index : Nat) (s : State) : Host.Outcome State Fault Refusal :=
  .next (s.parcelOpen cmd dataset index)

/-- PARCEL_DECOMPRESS (R227). -/
def execParcelDecompress (unit dataset index upto : Nat) (s : State) : Host.Outcome State Fault Refusal :=
  .next (s.parcelDecompress unit dataset index upto)

/-- READ_TARGET_SELECT (R176). -/
def execReadTargetSelect (s : State) : Host.Outcome State Fault Refusal := .next s.selectTarget

/-- READ_WAIT_EXPIRY (R176). -/
def execReadWaitExpiry (cmd : Nat) (long : Bool) (s : State) : Host.Outcome State Fault Refusal :=
  .next (s.waitExpiry cmd long)

/-- LOCATE_LANDING (R175). -/
def execLocateLanding (s : State) : Host.Outcome State Fault Refusal := .next s.land

end Sys2Proof.Machine
end

