-- ==== Sys2Proof/Machine/Servo.lean ====
section
/-! DEFINITION. Servo channels and trips (15 R389 to R392, R402, R405 to R408): lateral position, chainage, speed, the
write inhibit, the change of wrap, the safe state. -/

namespace Sys2Proof.Machine

/-! ### Numbers -/

/-- A quotient. Where it is not whole the spec gives no rounding: it is the next integer below or above. By zero it is a
free value. [DESIGN CHOICE, log entry 10; DESIGN CHOICE, log entry 45] -/
def quot (n d : Int) : Int :=
  if d = 0 then Config.zeroQuot n
  else if n % d = 0 then n / d
  else if Config.roundsUp n d then n / d + 1 else n / d

/-- The mean of a list. -/
def meanOf (l : List Int) : Int := quot l.sum l.length

/-! ### Readers (R389 to R391) -/

/-- [DESIGN CHOICE, log entry 7] -/
def reader0 : Reader :=
  { prevRef := none, period := none, y := none, age := 0, bits := [], chain := none, reverse := false }

def State.reader (s : State) (k : Nat) : Reader := s.sm.readers.get reader0 k

def State.setReader (s : State) (k : Nat) (r : Reader) : State :=
  { s with sm := { s.sm with readers := s.sm.readers.set k r } }

/-- The servo readers in use: not retired and not masked (R390). -/
def State.readersInUse (s : State) : List Nat :=
  (List.range 6).filter fun k => !s.sm.readersRetired.contains k && bitOf (s.reg .smRdrState 0 0) (16 + k)

/-- The bit that stripe 1 of an R burst carries (R391): it lies a third of the way from stripe 0 to stripe 3 for 0, two
fifths for 1. -/
def stripeBit (refs : List Int) : Bool :=
  let a := (refs.getD 1 0 - refs.getD 0 0).natAbs
  let b := (refs.getD 3 0 - refs.getD 0 0).natAbs
  decide (11 * b < 30 * a)

/-- One bit of the CRC-16 of R391. -/
def crc16Bit (r : Nat) (b : Bool) : Nat :=
  let top := bitOf r 15 != b
  let r := 2 * r % 65536
  if top then Nat.xor r 0x1021 else r

/-- The CRC-16 of a bit string (R391). -/
def crc16 (b : List Bool) : Nat := b.foldl crc16Bit 0xFFFF

/-- A servo word in ascending chainage order: the chainage of its first frame and the servo band (R391). -/
def servoWord (b : List Bool) : Option (Nat × Nat) :=
  if b.length = 64 ∧ natOfBE (b.take 8) = 0xFE ∧ crc16 ((b.drop 8).take 40) = natOfBE (b.drop 48) then
    some (natOfBE ((b.drop 8).take 32), natOfBE ((b.drop 40).take 3))
  else none

/-- Chainage in half ticks after one more frame, its direction, and the servo band of a word just accepted (R391). -/
def Reader.advance (r : Reader) : Reader × Option Nat :=
  match servoWord r.bits.reverse with
  | some (c, b) => ({ r with chain := some (2 * c + 63), reverse := false }, some b)
  | none =>
    match servoWord r.bits with
    | some (c, b) => ({ r with chain := some (2 * c), reverse := true }, some b)
    | none => ({ r with chain := r.chain.map fun c => if r.reverse then c - 1 else c + 1 }, none)

/-- Lateral position in nm from twice the times' sums: `a` is twice the sum of the S stripes less four times t_R, `p` twice
the frame period (R389). [DESIGN CHOICE, log entry 45] -/
def lateral (a p : Int) : Int := quot (2500000000 * (a - p)) (15838 * p)

/-- What a channel makes of a frame with all eight stripes (R389): its new state, and whether it rejects the frame. -/
def Reader.frame (r : Reader) (refs bias : List Int) : Reader × Bool :=
  let t2 := refs.getD 0 0 + refs.getD 3 0
  let bits := (stripeBit refs :: r.bits).take 64
  match r.prevRef with
  | none => ({ r with prevRef := some t2, y := none, bits := bits }, false)
  | some p =>
    let per := t2 - p
    let y := lateral (bias.sum - 2 * t2) per
    let jump := match r.period with
      | some q => decide (q.natAbs < 10 * (per - q).natAbs)
      | none => false
    let bad := decide (per ≤ 0) || jump || decide (80000 < y.natAbs)
    ({ r with prevRef := some t2, period := some per, age := 0, y := if bad then none else some y, bits := bits }, bad)

/-- Half ticks from a reader to the gap that writes (R391): the modules lie 3.0 mm apart, reader k on module k div 2, and
module 0 writes forward, module 2 in reverse. -/
def gapOffset (k : Nat) (reverse : Bool) : Int := 60 * (k / 2 : Nat) - if reverse then 120 else 0

/-- SM_CHAIN follows the lowest reader in use that knows its chainage (R391). -/
def State.followChain (s : State) : State :=
  match s.readersInUse.find? fun k => (s.reader k).chain.isSome with
  | none => s
  | some k =>
    let r := s.reader k
    { s with sm := { s.sm with
      reverse := r.reverse, chain := ((r.chain.getD 0 : Int) + gapOffset k r.reverse).toNat } }

/-- SERVO_FRAME (R389, R391): arrival times in ps of the R and the S stripes that reader `k` found. -/
def State.servoFrame (s : State) (k : Nat) (refs bias : List Int) : State :=
  if 6 ≤ k then s
  else if refs.length ≠ 4 ∨ bias.length ≠ 4 then
    (s.setReader k { s.reader k with prevRef := none, y := none }).bump .smRdrFail 0 0
  else
    let f := (s.reader k).frame refs bias
    let a := f.1.advance
    let s := s.setReader k a.1
    let s := if f.2 then s.bump .smRdrFail 0 0 else s
    let s := match a.2 with
      | some b => { s with sm := { s.sm with bandSeen := some (b - k % 2) } }
      | none => s
    s.followChain

/-! ### Position error and write inhibit (R390, R402) -/

/-- A band's offset in nm (R390). -/
def State.bandOffset (s : State) (b : Nat) : Int := 2 * signed 8 (bitsOf (s.reg .smLatOfs 0 0) (8 * b + 7) (8 * b))

/-- The lateral target of a wrap in nm (R390). -/
def State.lateralTarget (s : State) (w : Nat) : Int := 330 * (w % 64 : Nat) - 10395 + s.bandOffset (bandOf w)

/-- SM_INHIBIT.threshold in force (R412). -/
def State.inhibitAt (s : State) : Nat := clamp 1 50 (s.fld .smInhibit 0 0 15 8)

/-- A distance in nm is above a percentage of the 330 nm track pitch (R402). -/
def abovePitch (nm : Int) (percent : Nat) : Bool := decide (330 * percent < 100 * nm.natAbs)

/-- The comparisons of a LAT sample (R402, R320, R321). -/
def State.compare (s : State) (pes : Int) : State :=
  let s := if abovePitch pes s.inhibitAt then s.raiseTrigger 0 else s.clearTrigger 0
  let inside := !abovePitch pes (s.fld .smInhibit 0 0 7 0) && s.wc.triggers.isEmpty
  { s with wc := { s.wc with inWindow := if inside then s.wc.inWindow + 1 else 0 } }

/-- Takes the position of every reader in use that has a frame since the last sample (R390): PES, or a missing sample. [DESIGN CHOICE, log entry 45] -/
def State.latSample (s : State) : Option Int × State :=
  let have_ := s.readersInUse.filter fun k => (s.reader k).y.isSome
  let ys := have_.filterMap fun k => (s.reader k).y
  let s := { s with sm := { s.sm with
    valid := have_, readers := s.sm.readers.each fun _ (r : Reader) => { r with y := none } } }
  match s.sm.wrap with
  | none => (none, s)
  | some w =>
    if ys.length < 2 then
      (none, { s with sm := { s.sm with missing := s.sm.missing + 1 }, wc := { s.wc with inWindow := 0 } })
    else
      let pes := meanOf ys - s.lateralTarget w
      (some pes, { s with sm := { s.sm with pes := pes, missing := 0 } }.compare pes)

/-- Tape speed at an SPD sample (R392): the mean over the readers in use whose last period ended within 4 samples, else
what the Hall rates give, in mm/s. -/
def State.spdSample (s : State) (hall : Int) : Int × State :=
  let s := { s with sm := { s.sm with readers := s.sm.readers.each fun _ (r : Reader) => { r with age := r.age + 1 } } }
  let v := s.readersInUse.filterMap fun k =>
    let r := s.reader k
    if r.age ≤ 4 then r.period.map fun p => quot 100000000000 p else none
  let mm := if v.isEmpty then hall else meanOf v
  (mm, { s with sm := { s.sm with speed := min 65535 mm.natAbs } })

/-! ### Trips (R406 to R408) -/

/-- Trips the transport (R406 to R408): logged; during another trip nothing more; otherwise latched, the gates fall, the
write outputs idle, injections end and the tape starts to stop. [DESIGN CHOICE, log entry 17; DEDUCED, log entry 72] -/
def State.trip (s : State) (cause engine : Nat) : State :=
  let s := s.logEv .trip 0 engine cause
  if 3 ≤ s.sm.state then s
  else
    let s := if s.fld .smTrip 0 0 31 31 = 0 then s.setReg .smTrip 0 0 (2 ^ 31 + engine * 2 ^ 28 + cause * 2 ^ 24) else s
    let s := s.raiseTrigger 4
    { s with
      wc := { s.wc with wmod := 0, inhibited := false }
      df := { s.df with running := false, backhitch := false }
      sm := { s.sm with
        state := 3, tripEngine := engine, tripStep := 1, inject := none
        reels := if engine = 3 ∨ engine = 4 then 2 else s.sm.reels
        cap := { s.sm.cap with trig := s.sm.cap.trig || (s.sm.cap.armed && s.fld .smCapCfg 0 0 30 28 == 2) } } }

/-- Too few servo readers in use (R25): the transport goes to its safe state. [DEDUCED, log entry 72] -/
def State.readersTrip (s : State) : State := if s.readersInUse.length < 2 ∧ s.sm.state < 3 then s.trip 3 0 else s

/-- The tape of a trip stands still (R408): it is held at SM_TENSION. [DEDUCED, log entry 72] -/
def State.tripStopped (s : State) : State :=
  if s.sm.state = 3 ∧ s.sm.tripStep = 1 ∧ s.sm.speed < 50 then { s with sm := { s.sm with tripStep := 2 } } else s

/-- The end of a trip (R408): tension off, brakes applied, PWM low, state safe. What can no longer reach tape gives its
streams their deferred errors (R132, R323). [DEDUCED, log entry 72] -/
def State.tripSafe (s : State) : State :=
  if s.sm.state = 3 ∧ s.sm.tripStep = 2 then
    { s with sm := { s.sm with state := 4, tripStep := 0, brake := true, reels := 0 } }.cutOff
  else s

/-- Both reels have come to rest under short braking, or 3 s have passed (R408). -/
def State.reelBrake (s : State) : State :=
  if s.sm.state = 3 ∧ s.sm.reels = 2 then { s with sm := { s.sm with brake := true } } else s

/-- Three samples that all satisfy a test. -/
def threeOf (l : List Nat) (p : Nat → Bool) : Bool := decide (3 ≤ l.length) && (l.take 3).all p

/-- WFAULT_N has stayed asserted for 50 ms (R323). -/
def State.wfaultPersist (s : State) : State :=
  if s.wc.triggers.contains 3 && !s.wc.wfault then
    let s := { s with wc := { s.wc with wfault := true } }
    ((s.trip 4 7).logEv .wfault 0 0 0).cutOff
  else s

/-! ### Wrap change (R405) -/

/-- The wrap the RFX plans to be on: the target's while reads are served, else the frontier's. -/
def State.plannedWrap (s : State) : Option Nat :=
  match s.pe.reads.find? fun t => s.pe.target == some t.cmd with
  | some t => some (s.readAt t).1
  | none => s.pe.frontier.map (·.1)

/-- The band is confirmed by one of the first four looks; wrong four times it is not; otherwise it is still open. -/
def bandConfirmed (goal : Nat) (bands : List Nat) : Option Bool :=
  if (bands.take 4).contains goal then some true else if 4 ≤ bands.length then some false else none

/-- An engine takes a set at its next sample (R404). -/
def State.planMode (s : State) (e mode : Nat) (e0 : Engine) : State :=
  { s with sm := { s.sm with engines := s.sm.engines.upd e0 e fun g => if g.closed then { g with next := some mode } else g } }

/-! ### The commands -/

/-- SERVO_FRAME (R389, R391). -/
def execServoFrame (reader : Nat) (refs bias : List Int) (s : State) : Host.Outcome State Fault Refusal :=
  .next (s.servoFrame reader refs bias)

/-- MISSING_SAMPLE_TRIP (R406): 64 missing LAT samples in a row while the tape moves above 0.5 m/s. -/
def execMissingSampleTrip (s : State) : Host.Outcome State Fault Refusal :=
  .next (if 64 ≤ s.sm.missing ∧ 500 < s.sm.speed then s.trip 2 0 else s)

/-- VMOT_UNDERVOLTAGE (R406): three REEL samples of VMOT_SENSE in mV. -/
def execVmotUndervoltage (millivolts : List Nat) (s : State) : Host.Outcome State Fault Refusal :=
  .next (if threeOf millivolts fun v => decide (v < 10 * s.fld .smLimits 0 0 15 0) then s.trip 5 7 else s)

/-- HALL_CODE_FAULT (R406): three Hall codes of a reel, each 0b000 or 0b111. -/
def execHallCodeFault (engine : Nat) (codes : List Nat) (s : State) : Host.Outcome State Fault Refusal :=
  .next (if (engine = 3 ∨ engine = 4) ∧ threeOf codes (fun c => c == 0 || c == 7) = true then s.trip 6 engine else s)

/-- OVERCURRENT (R406): three phase currents of a reel in mA. -/
def execOvercurrent (engine : Nat) (milliamps : List Nat) (s : State) : Host.Outcome State Fault Refusal :=
  .next (if (engine = 3 ∨ engine = 4) ∧ threeOf milliamps (fun i => decide (10 * s.fld .smLimits 0 0 31 16 < i)) = true
    then s.trip 7 engine else s)

/-- WFAULT_PERSIST (R323, R406). -/
def execWfaultPersist (s : State) : Host.Outcome State Fault Refusal := .next s.wfaultPersist

/-- TRIP_TAPE_STOPPED (R408). -/
def execTripTapeStopped (s : State) : Host.Outcome State Fault Refusal := .next s.tripStopped

/-- SAFE_HOLD_EXPIRY (R408). -/
def execSafeHoldExpiry (s : State) : Host.Outcome State Fault Refusal := .next s.tripSafe

/-- REEL_BRAKE_ENGAGE (R408). -/
def execReelBrakeEngage (s : State) : Host.Outcome State Fault Refusal := .next s.reelBrake

/-- SM_TRANSPORT_SAFE_REQ (R406): a write of SM_TRANSPORT by the owner. -/
def execSmTransportSafeReq (src : Port) (value : Word) (s : State) : Host.Outcome State Fault Refusal :=
  .next (s.regWrite src .smTransport 0 value fun s v => if s.reachesBlock src && bitOf v 3 then s.trip 8 7 else s)

end Sys2Proof.Machine
end

