-- ==== Sys2Proof/Machine/Loops.lean ====
section
/-! DEFINITION. The loop engines (15 R393 to R401, R404, R409, R410): samples, modes, coefficients, closing and opening,
injection and capture. -/

namespace Sys2Proof.Machine

/-! ### Engines and coefficients (R393, R401) -/

/-- [DESIGN CHOICE, log entry 7] -/
def engine0 : Engine :=
  { closed := false, mode := 0, next := none, integ := 0, prevErr := 0, states := [], setPoint := 0, limited := 0, out := 0,
    pid := 0, clipHigh := false, clipLow := false, intHeld := false, overruns := 0, modeRun := 0, points := [] }

def State.engine (s : State) (e : Nat) : Engine := s.sm.engines.get engine0 e

def State.setEngine (s : State) (e : Nat) (g : Engine) : State :=
  { s with sm := { s.sm with engines := s.sm.engines.set e g } }

/-- A signal in Q1.30 (R393): what passes the ends of the format is not stated. -/
def q30 (v : Int) : Int :=
  if -2147483648 ≤ v ∧ v < 2147483648 then v else max (-2147483648) (min 2147483647 (Config.signalOver v))

/-- The product of a Q3.28 coefficient and a signal. -/
def mulQ (c x : Int) : Int := q30 (quot (c * x) 268435456)

/-- Place of a coefficient word: engine, set, word. -/
def coefPlace (e set word : Nat) : Nat := 256 * e + 64 * set + word

/-- A coefficient word in force: as written, or as the running image gives it (R401). -/
def State.coefWord (s : State) (e set word : Nat) : Word :=
  match s.sm.coef.find (coefPlace e set word) with
  | some w => w
  | none => Config.coefWord s.ms.version (coefPlace e set word)

/-- A coefficient as a signed number. -/
def State.coef (s : State) (e set word : Nat) : Int := (s.coefWord e set word).toInt

/-- P and Q of a set; stages beyond 10 do not exist (R394, R401). -/
def State.stagesP (s : State) (e set : Nat) : Nat := min 10 (bitsOf (s.coefWord e set 60).toNat 3 0)
def State.stagesQ (s : State) (e set : Nat) : Nat := min (10 - s.stagesP e set) (bitsOf (s.coefWord e set 60).toNat 7 4)

/-- The five coefficients of a biquad: b0, b1, b2, a1, a2. -/
def State.biquad (s : State) (e set k : Nat) : Int × Int × Int × Int × Int :=
  (s.coef e set (5 * k), s.coef e set (5 * k + 1), s.coef e set (5 * k + 2), s.coef e set (5 * k + 3),
    s.coef e set (5 * k + 4))

/-- One sample of a biquad in transposed direct form II (R394): output and new states. -/
def biquadStep (c : Int × Int × Int × Int × Int) (st : Int × Int) (x : Int) : Int × (Int × Int) :=
  let (b0, b1, b2, a1, a2) := c
  let y := q30 (mulQ b0 x + st.1)
  (y, q30 (mulQ b1 x - mulQ a1 y + st.2), q30 (mulQ b2 x - mulQ a2 y))

/-- Runs biquads from number `k` on, `n` of them. -/
def State.runBiquads (s : State) (e set : Nat) : Nat → Nat → List (Int × Int) → Int → Int × List (Int × Int)
  | _, 0, st, x => (x, st)
  | k, n + 1, st, x =>
    let r := biquadStep (s.biquad e set k) (st.getD k (0, 0)) x
    s.runBiquads e set (k + 1) n ((st ++ List.replicate (10 - st.length) (0, 0)).set k r.2) r.1

/-- The DC gain of biquads as numerator and denominator (R404). -/
def State.dcGain (s : State) (e set : Nat) : Nat → Nat → Int × Int
  | _, 0 => (1, 1)
  | k, n + 1 =>
    let (b0, b1, b2, a1, a2) := s.biquad e set k
    let r := s.dcGain e set (k + 1) n
    ((b0 + b1 + b2) * r.1, (268435456 + a1 + a2) * r.2)

/-- Biquad states at their DC steady state for an input (R404). -/
def State.steady (s : State) (e set : Nat) : Nat → Nat → List (Int × Int) → Int → List (Int × Int)
  | _, 0, st, _ => st
  | k, n + 1, st, x =>
    let (b0, b1, b2, a1, a2) := s.biquad e set k
    let y := q30 (quot ((b0 + b1 + b2) * x) (268435456 + a1 + a2))
    s.steady e set (k + 1) n ((st ++ List.replicate (10 - st.length) (0, 0)).set k
      (q30 (y - mulQ b0 x), q30 (mulQ b2 x - mulQ a2 y))) y

/-! ### Set-points (R398, R399) -/

def State.loopSource (s : State) (e : Nat) : Nat := let v := s.fld .smLoopCtrl 0 e 9 8; if v = 3 then 0 else v

/-- The tape drive force and the tension force, as the engines last put them out. -/
def State.driveForce (s : State) : Int := (s.engine 1).limited
def State.tensionForce (s : State) : Int := (s.engine 2).limited

/-- A reel takes up tape on the wrap's direction (R398). -/
def State.takesUp (s : State) (e : Nat) : Bool := (e == 4) != ((s.sm.wrap.map isReverse).getD false)

/-- The internal set-point target of an engine (R398, R399). While a trip stops the tape SPD's is 0 (R408). -/
def State.internalTarget (s : State) (e : Nat) : Int :=
  match e with
  | 0 => (s.sm.wrap.map fun w => Config.scaled 0 (s.lateralTarget w)).getD 0
  | 1 => if 3 ≤ s.sm.state then 0 else Config.scaled 1 (50 * s.df.speed : Nat)
  | 2 => if s.sm.tripStep = 0 ∧ s.sm.state = 4 then 0 else Config.scaled 2 (s.fld .smTension 0 0 15 0)
  | 3 | 4 =>
    Config.reelSetPoint e s.tensionForce (if s.takesUp e then s.driveForce else -s.driveForce)
  | _ => Config.auxSetPoint (s.sm.band.getD 0)

/-- The set-point target (R399): internal, a pulse rate in Hz, or a voltage in mV on SETPT_ANA. An external target of SPD
stays within R24. -/
def State.target (s : State) (e : Nat) (ext : Int) : Int :=
  let v := match s.loopSource e with
    | 1 => quot (ext * 1073741824) (10 * max 1 (s.fld .smExtScale 0 0 15 0) : Nat)
    | 2 => quot (ext * 2147483648) 1800 - 1073741824
    | _ => s.internalTarget e
  if e = 1 ∧ s.loopSource e ≠ 0 then
    if 3 ≤ s.sm.state then 0 else min v (Config.scaled 1 (50 * s.vMax s.pe.active.length : Nat))
  else v

/-- Most that stage 1 moves the set-point in a sample: r_slew; SM_SAFE.decel for SPD during a trip (R408). -/
def State.setPointSlew (s : State) (e set : Nat) : Int :=
  if e = 1 ∧ 3 ≤ s.sm.state then
    (quot (Config.scaled 1 (100 * clamp 10 200 (s.fld .smSafe 0 0 15 8) : Nat)) (max 1 (s.reg .smLoopRate 0 1) : Nat)).natAbs
  else (s.coef e set 58).natAbs

/-- Stage 1. -/
def State.stage1 (s : State) (e set : Nat) (old ext : Int) : Int :=
  let t := max (Config.setPointLow e) (min (Config.setPointHigh e) (s.target e ext))
  let m := s.setPointSlew e set
  q30 (max (old - m) (min (old + m) t))

/-! ### Injection (R409) -/

/-- One step of PRBS-11. -/
def prbsStep (r : Nat) : Nat := (2 * r + natOf (bitOf r 10 != bitOf r 8)) % 2048

/-- The value an injection adds at a point of an engine now. -/
def State.injected (s : State) (e point : Nat) : Int :=
  match s.sm.inject with
  | none => 0
  | some j =>
    if j.engine ≠ e ∨ j.point ≠ point ∨ j.left = 0 then 0
    else
      let a := signed 32 (s.reg .smInjAmp 0 0)
      match j.kind with
      | 0 => Config.sweep (s.reg .smInjAmp 0 0) (s.reg .smInjFreq 0 0) (j.run + j.left) j.run
      | 1 => if bitOf j.lfsr 0 then a else -a
      | _ => a

/-- The injection has run one more sample. -/
def State.tickInject (s : State) (e : Nat) : State :=
  { s with sm := { s.sm with inject := s.sm.inject.map fun j =>
    if j.engine = e ∧ 0 < j.left then { j with left := j.left - 1, run := j.run + 1, lfsr := prbsStep j.lfsr } else j } }

/-! ### One sample (R394 to R397, R404) -/

/-- The error of stage 3 with injection points 0 and 1: LAT uses minus PES. [DESIGN CHOICE, log entry 45] -/
def State.loopError (s : State) (e : Nat) (r meas : Int) : Int :=
  let i := s.injected e 0 + s.injected e 1
  if e = 0 ∧ s.loopSource 0 = 0 then q30 (-meas + i) else q30 (r - meas + i)

/-- Feed-forward of stage 8 from the change of the set-point (R400). -/
def State.feedForward (s : State) (e set : Nat) (dr : Int) : Int :=
  if e = 1 then mulQ (s.coef e set 57) dr
  else if e = 3 ∨ e = 4 then Config.radiusScale e (mulQ (s.coef e set 57) dr)
  else 0

/-- Duty of a reel (R394 stage 12, R400): scaled by the supply while VMOT_SENSE is above its limit. -/
def State.supplyScale (s : State) (e : Nat) (u vmot : Int) : Int :=
  if (e = 3 ∨ e = 4) ∧ (10 * s.fld .smLimits 0 0 15 0 : Nat) < vmot then q30 (quot (u * Config.vNom) vmot) else u

/-- A set takes over (R404): post-PID states at their steady state. On closing every state starts at zero (R401). -/
def State.enterSet (s : State) (e : Nat) (g : Engine) : Engine :=
  match g.next with
  | none => g
  | some m => { g with states := s.steady e m (s.stagesP e m) (s.stagesQ e m) g.states g.pid }

/-- Integrator preload of R404: its value, and whether it had to be clamped. [DESIGN CHOICE, log entry 45] -/
def State.preload (s : State) (e m : Nat) (g : Engine) (ff err : Int) : Int × Bool :=
  let gain := s.dcGain e m (s.stagesP e m) (s.stagesQ e m)
  let lim := max 0 (s.coef e m 53)
  if gain.1 = 0 then (0, true)
  else
    let i := quot ((g.limited - ff) * gain.2) gain.1 - mulQ (s.coef e m 50) err - mulQ (s.coef e m 52) (err - g.prevErr)
    if lim < i then (lim, true) else if i < -lim then (-lim, true) else (i, false)

/-- What one computed sample makes of an engine (R394, R395), and whether its hand-over was rough. [DESIGN CHOICE, log entry 45] -/
def State.computed (s : State) (e : Nat) (g : Engine) (meas ext vmot : Int) : Engine × Bool :=
  let m := g.next.getD g.mode
  let g := s.enterSet e g
  let r := s.stage1 e m g.setPoint ext
  let er := s.loopError e r meas
  let pre := s.runBiquads e m 0 (s.stagesP e m) g.states er
  let e' := pre.1
  let ff := s.feedForward e m (r - g.setPoint)
  let load := if g.next.isSome then s.preload e m g ff e' else (g.integ, false)
  let u := q30 (mulQ (s.coef e m 50) e' + load.1 + mulQ (s.coef e m 52) (e' - g.prevErr))
  let di := mulQ (s.coef e m 51) e'
  let held := (g.clipHigh && decide (0 < di)) || (g.clipLow && decide (di < 0))
  let lim := max 0 (s.coef e m 53)
  let integ := max (-lim) (min lim (load.1 + if held then 0 else di))
  let post := s.runBiquads e m (s.stagesP e m) (s.stagesQ e m) pre.2 u
  let v := q30 (post.1 + ff + s.injected e 2)
  let hi := s.coef e m 54
  let lo := s.coef e m 55
  let v1 := max lo (min hi v)
  let sl : Int := (s.coef e m 56).natAbs
  let v2 := max (g.limited - sl) (min (g.limited + sl) v1)
  let w := decide (er.natAbs < (s.coef e m 59).natAbs)
  ({ g with
    mode := m, next := none, integ := integ, prevErr := e', states := post.2, setPoint := r, limited := v2
    out := s.supplyScale e v2 vmot, pid := u
    clipHigh := decide (hi < v) || decide (v2 < v1), clipLow := decide (v < lo) || decide (v1 < v2)
    intHeld := held, overruns := 0, modeRun := if g.next.isSome then 0 else if w then g.modeRun + 1 else 0
    points := [r, meas, er, u, s.supplyScale e v2 vmot,
      s.injected e 0 + s.injected e 1 + s.injected e 2, ff, integ] }, load.2)

/-- While a trip stops the tape the tripped engine does not compute (R408): SPD puts out the deceleration alone. -/
def State.trippedOut (s : State) (e : Nat) (g : Engine) : Engine :=
  if e = 1 then
    let v := -(mulQ (s.coef 1 g.mode 57) (s.setPointSlew 1 g.mode))
    { g with limited := v, out := v }
  else g

/-! ### Capture (R410) -/

def State.capSignal (s : State) (k : Nat) : Int :=
  let c := s.fld .smCapCfg 0 0 (6 * k + 5) (6 * k)
  (s.engine (c / 8)).points.getD (c % 8) 0

/-- The capture's trigger condition at a sample. -/
def State.capTriggered (s : State) : Bool :=
  match s.fld .smCapCfg 0 0 30 28 with
  | 1 | 2 => s.sm.cap.trig
  | 3 => abovePitch s.sm.pes s.inhibitAt
  | _ => true

/-- Records before the trigger that a capture keeps. -/
def State.capPre (s : State) : Nat := s.fld .smCapCfg 0 0 27 24 * 4096

/-- Takes a record at a sample of the engine of signal 0. -/
def State.capture (s : State) (e : Nat) (late hand : Bool) : State :=
  let c := s.sm.cap
  if !c.armed || s.fld .smCapCfg 0 0 5 3 != e || c.left == some 0 then s
  else
    let g := s.engine e
    let now := c.left.isNone && s.capTriggered
    let flags := natOf now + 2 * natOf late + 4 * natOf hand + 8 * natOf (g.clipHigh || g.clipLow)
    let r : CapRec := ⟨s.ms.time, c.index, flags, [s.capSignal 0, s.capSignal 1, s.capSignal 2, s.capSignal 3]⟩
    let recs := if now then c.recs.drop (c.recs.length - s.capPre) else c.recs.drop (c.recs.length + 1 - 65536)
    let left := if now then some (65535 - recs.length) else c.left.map (· - 1)
    { s with sm := { s.sm with cap := { c with index := c.index + 1, recs := recs ++ [r], left := left, trig := false } } }

/-- A record's 32 bytes. -/
def CapRec.bytes (r : CapRec) : Bytes :=
  bytesLE 8 r.time ++ bytesLE 4 r.index ++ bytesLE 2 r.flags ++ zeros 2 ++
    (r.signals.map fun (v : Int) => bytesLE 4 (v % 4294967296).toNat).flatten

/-! ### LOOP_SAMPLE -/

/-- Rough hand-over (R404). -/
def State.rough (s : State) (e old new_ : Nat) : State :=
  (s.bump .smRough 0 0).logEv .roughHandover 0 e (old * 256 + new_)

/-- An engine's sample once its measurement is known. -/
def State.runSample (s : State) (e : Nat) (meas ext vmot : Int) : State :=
  let g := s.engine e
  if !g.closed then s
  else if s.sm.state = 3 ∧ s.sm.tripEngine = e then (s.setEngine e (s.trippedOut e g)).capture e false false
  else
    let r := s.computed e g meas ext vmot
    let s := s.setEngine e r.1
    let s := if r.2 then s.rough e g.mode r.1.mode else s
    let s := if e = 0 ∧ g.next.isSome = true then { s with wc := { s.wc with inWindow := 0 } } else s
    let s := if e = 1 then { s with sm := { s.sm with target := s.target 1 ext } } else s
    (s.tickInject e).capture e false g.next.isSome

/-- A sample that comes before the last output was applied (R397). -/
def State.overrun (s : State) (e : Nat) : State :=
  let g := s.engine e
  if !g.closed then s
  else ((s.setEngine e { g with overruns := g.overruns + 1 }).bump .smOverruns 0 0).capture e true false

/-- LOOP_SAMPLE. `meas` is the physical measurement where readers give none: the Hall speed in mm/s, the tension
estimate in mN, a torque current in mA, a position; `ext` the external set-point; `vmot` VMOT_SENSE in mV. -/
def State.loopSample (s : State) (e : Nat) (meas ext vmot : Int) (late : Bool) : State :=
  if 6 ≤ e then s
  else if late then s.overrun e
  else
    match e with
    | 0 =>
      let r := s.latSample
      match r.1 with
      | some pes => r.2.runSample 0 (if s.loopSource 0 = 0 then Config.scaled 0 pes
          else Config.scaled 0 (pes + (s.sm.wrap.map s.lateralTarget).getD 0)) ext vmot
      | none => r.2
    | 1 =>
      let r := s.spdSample meas
      r.2.runSample 1 (Config.scaled 1 r.1) ext vmot
    | e => s.runSample e (Config.scaled e meas) ext vmot

/-! ### Modes (R404) -/

/-- The condition for an engine to take a set. -/
def State.modeDue (s : State) (e mode : Nat) : Bool :=
  let g := s.engine e
  match e, mode with
  | 0, 0 => s.plannedWrap.isSome && s.plannedWrap != s.sm.wrap
  | 0, 1 => g.mode == 0 && decide (8 ≤ g.modeRun)
  | 0, 2 => g.mode == 1 && decide (16 ≤ g.modeRun)
  | 1, 0 => g.mode == 1 &&
      decide ((Config.scaled 1 50).natAbs < (s.internalTarget 1 - s.sm.target).natAbs)
  | 1, 1 => g.mode == 0 && decide (20 ≤ g.modeRun) && g.setPoint == s.sm.target
  | 2, m => decide (m < 2) && g.mode != m
  | 5, m => decide (m < 2) && g.mode != m
  | _, _ => false

/-- LOOP_MODE_SWITCH: the set takes effect at the next sample. -/
def State.switchMode (s : State) (e mode : Nat) : State :=
  if s.modeDue e mode then s.planMode e mode engine0 else s

/-! ### Changing wrap (R405) -/

/-- WRAP_CHANGE: `bands` are the band numbers found, look by look, where the band changes. [DEDUCED, log entry 36] -/
def State.wrapChange (s : State) (w : Nat) (bands : List Nat) : State :=
  if !s.ct.mounted || decide (256 ≤ w) || s.transportDown then s
  else
    let goal := bandOf w
    match if s.sm.band = some goal then some true else bandConfirmed goal bands with
    | none => s
    | some false => s.trip 6 5
    | some true =>
      let s := if s.pe.wrapNow.isSome && s.pe.wrapNow != some w && s.pe.frontier.map (·.1) == some w then s.endWindow
        else s
      let s := { s with
        wc := { s.wc with gates := [], wmod := 0, inWindow := 0 }
        df := { s.df with running := false }
        sm := { s.sm with wrap := some w, band := some goal, reverse := isReverse w, state := 2, brake := false, reels := 1 } }
      s.planMode 0 0 engine0

/-! ### Registers of the loops (R397, R401, R409, R410) -/

/-- The engine SM_LOOP_SEL names. -/
def State.selEngine (s : State) : Nat := s.fld .smLoopSel 0 0 2 0

/-- Cycles that the largest set of an engine takes (R396). -/
def State.loopCycles (s : State) (e : Nat) : Nat :=
  40 + 18 * ((List.range 4).map fun m => s.stagesP e m + s.stagesQ e m).foldl max 0

/-- A rate leaves the engine time to apply its output (R397). -/
def rateFits (hz cycles : Nat) : Bool := decide (hz * (600 + 2 * cycles) ≤ 1000000000)

/-- Most samples per second of an engine (R393). -/
def maxRate (e : Nat) : Nat := if e = 3 ∨ e = 4 then 50000 else 20000

/-- SM_LOOP_RATE (R397, R412). -/
def State.writeRate (s : State) (src : Port) (v : Nat) : State :=
  let e := s.selEngine
  if !s.reachesBlock src || decide (6 ≤ e) || e == 0 then s
  else if (s.engine e).closed then s.rwlReject .smLoopRate 0
  else
    let hz := v % 1048576
    if maxRate e < hz ∨ rateFits hz (s.loopCycles e) = false then s.logEv .rateReject 0 e hz
    else s.setReg .smLoopRate 0 e hz

/-- SM_COEF_DATA (R397, R401). Reserved words keep nothing. -/
def State.writeCoef (s : State) (src : Port) (v : Nat) : State :=
  let e := s.selEngine
  let set := s.fld .smCoefAddr 0 0 7 6
  let word := s.fld .smCoefAddr 0 0 5 0
  if !s.reachesBlock src || decide (6 ≤ e) || decide (60 < word) then s
  else if (s.engine e).closed then s.rwlReject .smCoefData 0
  else
    let p := bitsOf v 3 0 + bitsOf v 7 4
    let coef := s.sm.coef.set (coefPlace e set word) (BitVec.ofNat 32 (if word = 60 then v % 256 else v))
    let t := { s with sm := { s.sm with coef := coef } }
    if word ≠ 60 then t
    else if 10 < p then s
    else if e ≠ 0 ∧ rateFits (s.reg .smLoopRate 0 e) (t.loopCycles e) = false then s.logEv .rateReject 0 e (s.reg .smLoopRate 0 e)
    else t

/-- The source field of a write to SM_LOOP_CTRL (R399): writable while the engine is open. -/
def State.writeSource (s : State) (e v : Nat) : State :=
  let src := let x := bitsOf v 9 8; if x = 3 then 0 else x
  if src = s.loopSource e then s
  else if (s.engine e).closed then s.rwlReject .smLoopCtrl 0
  else s.setReg .smLoopCtrl 0 e (src * 256)

/-- A closed engine starts in mode 0 with every state zero; I is preloaded at its first sample (R401). -/
def State.closeLoop (s : State) (src : Port) (v : Nat) : State :=
  let e := s.selEngine
  if !s.reachesBlock src || decide (6 ≤ e) || !bitOf v 0 then s
  else
    let s := s.writeSource e v
    if (s.engine e).closed then s else s.setEngine e { engine0 with closed := true, next := some 0 }

/-- The condition under which an engine may be opened (R401). [DESIGN CHOICE, log entry 45] -/
def State.mayOpen (s : State) (e : Nat) : Bool :=
  match e with
  | 0 => s.sm.speed == 0 || !s.ct.mounted
  | 5 => true
  | _ => s.sm.brake && s.sm.reels == 0

/-- Opens an engine: its output idles (R401). -/
def State.openLoop (s : State) (src : Port) (v : Nat) : State :=
  let e := s.selEngine
  if !s.reachesBlock src || decide (6 ≤ e) || bitOf v 0 then s
  else if !(s.engine e).closed then s.writeSource e v
  else if s.mayOpen e then (s.setEngine e engine0).writeSource e v
  else s.logEv .openReject 0 e 0

/-- SM_INJ_CFG (R409): the fields are kept; an injection on an open engine, or during another, does not start. [DESIGN CHOICE, log entry 45] -/
def State.writeInject (s : State) (src : Port) (v : Nat) : State :=
  if !s.reachesBlock src then s
  else
    let s := s.setReg .smInjCfg 0 0 (v % 2 ^ 31)
    let e := bitsOf v 30 28
    let n := bitsOf v 23 0
    if !bitOf v 31 || s.sm.inject.isSome || !(s.engine e).closed || n == 0 || decide (3 ≤ s.sm.state) then s
    else
      let j : Inject := { engine := e, point := if bitsOf v 27 26 = 3 then 0 else bitsOf v 27 26, kind := min 2 (bitsOf v 25 24),
                          left := n, run := 0, lfsr := Config.freeNat 1 s.fresh % 2047 + 1 }
      let c := s.sm.cap
      { s.draw with sm := { s.sm with
        inject := some j, cap := { c with trig := c.trig || (c.armed && s.fld .smCapCfg 0 0 30 28 == 1) } } }

/-- INJECTION_END: its last sample has run. -/
def State.injectEnd (s : State) : State :=
  match s.sm.inject with
  | some j => if j.left = 0 then { s with sm := { s.sm with inject := none } } else s
  | none => s

/-- SM_CAP_CFG (R410): arming discards the buffer. -/
def State.writeCapture (s : State) (src : Port) (v : Nat) : State :=
  if !s.reachesBlock src then s
  else
    let s := s.setReg .smCapCfg 0 0 (v % 2 ^ 31)
    if bitOf v 31 then
      { s with sm := { s.sm with
        cap := { armed := true, done := false, trig := false, left := none, index := 0, recs := [] } } }
    else s

/-- CAPTURE_FULL. -/
def State.captureFull (s : State) : State :=
  if s.sm.cap.armed && s.sm.cap.left == some 0 then
    { s with sm := { s.sm with cap := { s.sm.cap with armed := false, done := true } } }
  else s

/-! ### The commands -/

/-- LOOP_SAMPLE (R394, R397). -/
def execLoopSample (engine : Nat) (meas ext vmot : Int) (late : Bool) (s : State) : Host.Outcome State Fault Refusal :=
  .next (s.loopSample engine meas ext vmot late)

/-- OVERRUN_TRIP (R397, R406): three overruns in a row. -/
def execOverrunTrip (engine : Nat) (s : State) : Host.Outcome State Fault Refusal :=
  .next (if engine < 6 ∧ 3 ≤ (s.engine engine).overruns then s.trip 1 engine else s)

/-- LOOP_MODE_SWITCH (R404). -/
def execLoopModeSwitch (engine mode : Nat) (s : State) : Host.Outcome State Fault Refusal :=
  .next (s.switchMode engine mode)

/-- WRAP_CHANGE (R405). -/
def execWrapChange (wrap : Nat) (bands : List Nat) (s : State) : Host.Outcome State Fault Refusal :=
  .next (s.wrapChange wrap bands)

/-- SM_LOOP_CLOSE (R401): a write of SM_LOOP_CTRL with close set. -/
def execSmLoopClose (src : Port) (value : Word) (s : State) : Host.Outcome State Fault Refusal :=
  .next (s.regWrite src .smLoopCtrl 0 value fun s v => s.closeLoop src v)

/-- SM_LOOP_OPEN (R401): a write of SM_LOOP_CTRL with close clear. -/
def execSmLoopOpen (src : Port) (value : Word) (s : State) : Host.Outcome State Fault Refusal :=
  .next (s.regWrite src .smLoopCtrl 0 value fun s v => s.openLoop src v)

/-- SM_LOOP_RATE_WRITE (R397). -/
def execSmLoopRateWrite (src : Port) (value : Word) (s : State) : Host.Outcome State Fault Refusal :=
  .next (s.regWrite src .smLoopRate 0 value fun s v => s.writeRate src v)

/-- SM_COEF_DATA_WRITE (R401). -/
def execSmCoefDataWrite (src : Port) (value : Word) (s : State) : Host.Outcome State Fault Refusal :=
  .next (s.regWrite src .smCoefData 0 value fun s v => s.writeCoef src v)

/-- SM_INJ_START (R409). -/
def execSmInjStart (src : Port) (value : Word) (s : State) : Host.Outcome State Fault Refusal :=
  .next (s.regWrite src .smInjCfg 0 value fun s v => s.writeInject src v)

/-- INJECTION_END (R409). -/
def execInjectionEnd (s : State) : Host.Outcome State Fault Refusal := .next s.injectEnd

/-- SM_CAP_ARM (R410). -/
def execSmCapArm (src : Port) (value : Word) (s : State) : Host.Outcome State Fault Refusal :=
  .next (s.regWrite src .smCapCfg 0 value fun s v => s.writeCapture src v)

/-- CAPTURE_FULL (R410). -/
def execCaptureFull (s : State) : Host.Outcome State Fault Refusal := .next s.captureFull

end Sys2Proof.Machine
end

