-- ==== Sys2Proof/Machine/Cartridge.lean ====
section
/-! DEFINITION. Cartridge memory and its records (16 R413 to R415, R427), the field book as a mount takes it from tape (06
R173; 10 R284 to R287), and what MOUNT finds (R418 to R421). -/

namespace Sys2Proof.Machine

/-! ### SENSE (R416) -/

/-- The SENSE levels after polarity (CT_SENSE). [DEDUCED, log entry 62] -/
def State.sense (s : State) : Nat := Nat.xor (s.ct.pins % 256) (s.fld .ctSensePol 0 0 7 0)

/-- One SENSE input is active. -/
def State.senses (s : State) (b : Nat) : Bool := bitOf s.sense b

/-! ### Records in cartridge memory (R414, R415, R287, R427) -/

/-- Bytes `n` of a string from an offset. -/
def part (b : Bytes) (off n : Nat) : Bytes := (b.drop off).take n

/-- A record whose last four bytes are the CRC-32C of what precedes them, with a magic number in front. -/
def recordOk (magic n : Nat) (b : Bytes) : Bool :=
  b.length == n && fieldBE b 0 4 == magic && fieldBE b (n - 4) 4 == (crc32c (b.take (n - 4))).toNat

/-- Puts the CRC-32C after a record's body. -/
def withCrc (b : Bytes) : Bytes := b ++ bytesBE 4 (crc32c b).toNat

/-- A valid summary copy (R415). -/
def summaryAt (cm : Bytes) (off : Nat) : Option Bytes :=
  let b := part cm off 128
  if recordOk 0x5246534D 128 b then some b else none

/-- A valid root record (R286). -/
def rootOf (b : Bytes) : Option Bytes := if recordOk 0x52465254 64 (b.take 64) then some (b.take 64) else none

/-- A valid label block (R287). -/
def labelOf (b : Bytes) : Option Bytes := if recordOk 0x52464C42 256 (b.take 256) then some (b.take 256) else none

/-- A valid progress record (R427). -/
def progressOf (b : Bytes) : Option Bytes := if recordOk 0x52465047 128 b then some b else none

/-- Sequence of a copy; 0 where it is not valid. -/
def seqOf (off : Nat) (b : Option Bytes) : Nat := (b.map fun x => fieldBE x off 4).getD 0

/-- The copy with the higher sequence. -/
def newer (off : Nat) (a b : Option Bytes) : Option Bytes :=
  match a, b with
  | some x, some y => some (if fieldBE x off 4 < fieldBE y off 4 then y else x)
  | some x, none => some x
  | none, y => y

/-- The summary in force (R415). -/
def summaryOfCm (cm : Bytes) : Option Bytes := newer 4 (summaryAt cm 0x200) (summaryAt cm 0x280)

/-- A progress record (R427). -/
def Session.bytes (x : Session) (kind : Nat) : Bytes :=
  withCrc (bytesBE 4 0x52465047 ++ bytesBE 1 kind ++ bytesBE 1 x.phase ++ zeros 2 ++ bytesBE 4 x.done ++ bytesBE 4 x.total ++
    bytesBE 4 x.elapsed ++ ((List.range 32).map fun i => BitVec.ofNat 8 (((List.range 8).map fun b =>
      natOf (x.tenants.contains (8 * i + b)) * 2 ^ b).sum)) ++ fit 64 x.label ++ bytesBE 4 x.seq ++ zeros 4)

/-- Tenants of a progress record's bitmap. -/
def bitmapTenants (b : Bytes) : List Nat := (List.range 256).filter fun n => bitOf ((b.getD (20 + n / 8) 0).toNat) (n % 8)

/-- Writes a session's progress record: cartridge memory first, then the NV store, keyed by serial (R427). [DESIGN CHOICE, log entry 67] -/
def State.writeProgress (s : State) (x : Session) (kind : Nat) : State :=
  let x := { x with seq := x.seq + 1 }
  let b := x.bytes kind
  let s := s.emit (.cm (0x300 + 0x80 * x.copy) b)
  { s with ct := { s.ct with session := some { x with copy := 1 - x.copy }, nvProgress := s.ct.nvProgress.set x.serial b } }

/-! ### The field book as tape gives it (R173, R284, R285) -/

/-- A list cut into pieces of `w` bytes. -/
def pieces (w n : Nat) (b : Bytes) : List Bytes := (List.range n).map fun i => part b (w * i) w

/-- The parts of a book's content (R284): prior books, parcel records, dead marks, creations. -/
def bookParts (b : Bytes) : List Bytes × List Bytes × List Bytes × List Bytes :=
  let n := fieldBE b 16 4
  let p := fieldBE b 20 4
  let d := fieldBE b 24 4
  let c := fieldBE b 28 4
  let o := 64 + 16 * n
  (pieces 16 n (b.drop 64), pieces 40 p (b.drop o), pieces 24 d (b.drop (o + 40 * p)),
    pieces 16 c (b.drop (o + 40 * p + 24 * d)))

/-- A parcel that a mount knows from its field-book record (R285). -/
def parcelOfRecord (b : Bytes) : Parcel :=
  let fl := fieldBE b 9 1
  let last := fieldBE b 32 8
  { stream := streamKey (fieldBE b 8 1) (fieldBE b 0 8), dataset := fieldBE b 16 6, index := fieldBE b 11 1
    first := fieldBE b 24 8, last := last, continues := bitOf fl 1, cont := bitOf fl 2, chunk := false, payload := []
    plainLen := 0, sealedText := none, tag := [], iv := [], key := 0, offset := 0, wrap := fieldBE b 10 1
    chainage := fieldBE b 12 4, upto := if bitOf fl 2 then ⟨last, 0⟩ else ⟨last + 1, 0⟩, dead := bitOf fl 0
    verified := true, released := true }

/-- The parcels a scanned dataset's directory gives (R277, R278). -/
def parcelsOfHeader (h : Bytes) : List Parcel :=
  (List.range (min 64 (fieldBE h 29 1))).map fun i =>
    let e := part h (512 + 32 * i) 32
    let fl := fieldBE e 9 1
    let first := fieldBE e 20 8
    let last := first + fieldBE e 28 4 - 1
    { stream := streamKey (fieldBE e 8 1) (fieldBE e 12 8), dataset := fieldBE h 6 6, index := i, first := first, last := last
      continues := bitOf fl 0, cont := bitOf fl 1, chunk := bitOf fl 2, payload := [], plainLen := 0, sealedText := none
      tag := [], iv := [], key := 0, offset := fieldBE e 0 4, wrap := fieldBE h 22 1, chainage := fieldBE h 24 4
      upto := if bitOf fl 1 then ⟨last, 0⟩ else ⟨last + 1, 0⟩, dead := false, verified := true, released := true }

/-- What a mount has gathered of the field book: parcels in tape order, streams known, where each stream ends, whether a
gap has ended it (R173 step 4). -/
structure FieldBook where
  parcels : List Parcel
  streams : List Nat
  ends : Tab Nat
  ended : List Nat
  deriving DecidableEq, Repr

/-- Adds a stream. -/
def FieldBook.know (f : FieldBook) (k : Nat) : FieldBook :=
  if f.streams.contains k then f else { f with streams := f.streams ++ [k], ends := f.ends.set k 0 }

/-- Record number after the last whole record of a parcel. -/
def Parcel.after (p : Parcel) : Nat := if p.cont then p.last else p.last + 1

/-- Adds a parcel. Its first record number implies a truncation of what reached beyond it (R170). With the scan, a gap ends
the stream and the parcels after it are dead; without, a gap is kept. -/
def FieldBook.add (f : FieldBook) (scan : Bool) (p : Parcel) : FieldBook :=
  if p.stream = streamKey 0 0 then f
  else
    let f := f.know p.stream
    if p.dead then { f with parcels := f.parcels ++ [p] }
    else if f.ended.contains p.stream || (scan && decide (f.ends.get 0 p.stream < p.first)) then
      { f with parcels := f.parcels ++ [{ p with dead := true }], ended := p.stream :: f.ended }
    else
      { f with
        parcels := (f.parcels.map fun q =>
          if q.stream = p.stream ∧ (p.first < q.first ∨ (p.first = q.first ∧ p.continues = false)) then { q with dead := true } else q) ++ [p]
        ends := f.ends.set p.stream p.after }

/-- Applies a dead mark of the book whose leg starts at `leg` (R284): to the parcels of earlier books, and to a last parcel of
this leg that reaches over it. -/
def FieldBook.mark (f : FieldBook) (leg k r : Nat) : FieldBook :=
  let f := { f with parcels := f.parcels.map fun (p : Parcel) =>
    if p.stream = k ∧ p.dataset < leg ∧ r ≤ p.first then { p with dead := true } else p }
  let mine := f.parcels.filter fun p => p.stream == k && !p.dead && decide (leg ≤ p.dataset)
  match mine.getLast? with
  | some p => if p.first < r then { f with ends := f.ends.upd 0 k (min r) } else f
  | none => { f with ends := f.ends.upd 0 k (min r) }

/-- Adds one book's content. -/
def FieldBook.book (f : FieldBook) (b : Bytes) : FieldBook :=
  let ps := bookParts b
  let f := ps.2.2.2.foldl (fun f c => f.know (streamKey (fieldBE c 8 1) (fieldBE c 0 8))) f
  let f := ps.2.1.foldl (fun f r => f.add false (parcelOfRecord r)) f
  ps.2.2.1.foldl (fun f d => f.mark (fieldBE b 10 6) (streamKey (fieldBE d 8 1) (fieldBE d 0 8)) (fieldBE d 16 8)) f

def fieldBook0 : FieldBook := { parcels := [], streams := [], ends := [], ended := [] }

/-- The books before and including the last, as the last one's content and the root give them. -/
def bookChain (last : Book) (content : Bytes) : List Book :=
  ((bookParts content).1.map fun b => ⟨fieldBE b 0 6, fieldBE b 6 1, fieldBE b 8 4, 0⟩) ++ [last]

/-- Content of a book dataset as read. -/
def bookOf (m : MediaRead) (n : Nat) : Option Bytes := (m.books.find? fun x => x.1 == n).map (·.2)

/-- The last book a root record names; none where its fields are zero. -/
def rootBook (r : Bytes) : Option Book :=
  if fieldBE r 8 6 = 0 ∧ fieldBE r 16 4 = 0 then none
  else some ⟨fieldBE r 8 6, fieldBE r 14 1, fieldBE r 16 4, fieldBE r 15 1⟩

/-! ### The mount scan (R173) -/

/-- What the scan gathers: items with the place of each, where it stopped, and the last book it met. -/
structure Scan where
  items : List (ScanItem × Nat × Nat)
  stop : Option (Nat × Nat)
  deriving DecidableEq, Repr

/-- Walks the extents from a place, one item each, up to the first without a preamble or with a number below B; void extents
are passed. -/
def State.scanFrom (s : State) (base : Nat) : Option (Nat × Nat) → List ScanItem → Scan
  | none, _ => ⟨[], none⟩
  | some p, [] => ⟨[], some p⟩
  | some p, x :: t =>
    if x.kind ≠ 5 ∧ (x.num < base ∨ 2 < x.kind) then ⟨[], some p⟩
    else
      let r := s.scanFrom base (s.nextExtent p.1 p.2) t
      { r with items := if x.kind = 5 then r.items else (x, p.1, p.2) :: r.items }

/-- The attempt of each dataset number with the highest restart count (R274). -/
def bestAttempts (l : List (ScanItem × Nat × Nat)) : List (ScanItem × Nat × Nat) :=
  l.filter fun x => !(l.any fun y => y.1.num == x.1.num && decide (x.1.restart < y.1.restart))

/-- Adds a scanned dataset of parcels. -/
def State.addScanned (s : State) (f : FieldBook) (x : ScanItem × Nat × Nat) : FieldBook :=
  match x.1.header with
  | some h =>
    if x.1.kind = 0 ∧ x.1.whole = true then
      (parcelsOfHeader h).foldl (fun f p => f.add true
        { p with wrap := x.2.1, chainage := s.chainOf x.2.1 x.2.2, dataset := x.1.num }) f
    else f
  | none => f

/-! ### Taking up a cartridge -/

/-- A closed stream as a mount knows it. -/
def mountedStream (k e : Nat) : Stream :=
  { stream0 k.unpair.1 k.unpair.2 with
    endNum := e, seqEnd := e, placed := ⟨e, 0⟩, runEnd := e, durable := e, mark := ⟨e, 0⟩ }

/-- PE without a cartridge: the settings of the round robin and of the clock stay. -/
def State.emptyPe (s : State) : State :=
  { s with pe := { s.pe with
    streams := [], parcels := [], books := [], creations := [], deadMarks := [], legCount := 0, legFirst := 0
    bookDue := false, legPages := [], frontier := none, nextDataset := 0, base := 0, health := [], wrapNow := none
    caused := [], active := [], idle := [], ewPosted := false, creditClosed := false, refused := false, lastStream := none
    deficits := [], reads := [], target := none, writeStopped := false, decoded := [], carry := [] } }

/-- DF and what hangs on its datasets, empty. -/
def State.emptyDf (s : State) : State :=
  { s with
    df := { s.df with datasets := [], queue := [], rewrites := [], groups := [], nextGroup := 0, restartDue := [],
                      voidDue := 0, running := false, backhitch := false, speed := 0 }
    cx := { s.cx with images := [], outs := [], engines := s.cx.engines.each fun _ (e : CxEngine) => { e with job := none } }
    ed := { s.ed with frames := [], verify := [], tiers := [] }
    rc := { s.rc with geos := [] }
    ce := { s.ce with opened := [] }
    vc := { s.vc with tallies := [], hints := [] } }

/-- Calibration at a MOUNT (R386): trims kept, everything else as at the start of a mount. -/
def State.mountCalibration (s : State) : State :=
  { s with vc := { s.vc with slots := s.vc.slots.each fun _ (c : CalSlot) =>
    { c.emptied with retired := false, bench := none, last := none } } }

/-- Streams and parcels of a field book enter PE's tables. -/
def State.takeBook (s : State) (f : FieldBook) (books : List Book) : State :=
  let streams := f.streams.foldl (fun t k => Tab.set t k (mountedStream k (f.ends.get 0 k))) ([] : Tab Stream)
  let leg := (books.getLast?.map fun b => b.dataset + 1).getD s.pe.base
  { s with pe := { s.pe with streams := streams, parcels := f.parcels, books := books, legFirst := leg
                             legPages := (books.map (·.dataset)).reverse } }

/-- Why a mount stops at its last steps: it failed, or the tables are taken up. -/
inductive RootResult where
  | lost
  | taken (s : State)
  deriving Repr

/-- Reads the books of a root into a field book; none where one cannot be read. -/
def readBooks (m : MediaRead) (root : Bytes) : Option (FieldBook × List Book) :=
  match rootBook root with
  | none => some (fieldBook0, [])
  | some b =>
    match bookOf m b.dataset with
    | none => none
    | some content =>
      let chain := bookChain b content
      let all := chain.map fun (x : Book) => if x.dataset = b.dataset then some content else bookOf m x.dataset
      if all.all (·.isSome) then some (all.foldl (fun f c => f.book (c.getD [])) fieldBook0, chain) else none

/-- A closed summary's root is taken as it stands (R173). -/
def State.takeRoot (s : State) (m : MediaRead) (root : Bytes) : Option State :=
  (readBooks m root).map fun r =>
    let w := fieldBE root 26 1
    let s := { s with
      pe := { s.pe with frontier := some (w, s.extentAt w (fieldBE root 28 4)), nextDataset := fieldBE root 20 6 }
      df := { s.df with nextGroup := fieldBE root 32 4 + natOf (decide (0 < fieldBE root 36 1)) } }
    s.takeBook r.1 r.2

/-- The C3 group that the scanned headers, or the root, leave open: closed anew on a mount that may write (R307). -/
def State.openGroupAfter (s : State) (root : Bytes) (l : List (ScanItem × Nat × Nat)) : State :=
  let hs := l.filterMap fun x => x.1.header
  let g := match hs.getLast? with
    | some h => fieldBE h 16 4
    | none => fieldBE root 32 4
  let members := match hs.getLast? with
    | some _ => (hs.filter fun h => fieldBE h 16 4 == g && decide (fieldBE h 20 1 < 30)).length
    | none => fieldBE root 36 1
  let whole := hs.any fun h => fieldBE h 16 4 == g && fieldBE h 20 1 == 31
  let s := { s with df := { s.df with nextGroup := g + natOf (decide (0 < members) || whole) } }
  if members = 0 ∨ whole = true ∨ s.ct.readOnly = true then s
  else { s with df := { s.df with groups := [{ group0 g with closed := true, repair := 1 }] } }

/-- The mount scan (R173). A book it meets is the new root. [DEDUCED, log entry 58] -/
def State.takeScan (s : State) (m : MediaRead) (root : Bytes) : Option State :=
  if !m.scanOk then none
  else
    (readBooks m root).map fun r =>
      let start := match rootBook root with
        | some b => s.nextExtent b.wrap (s.extentAt b.wrap b.chainage)
        | none => wrapOrder.head?.map fun w => (w, 0)
      let sc := s.scanFrom s.pe.base start m.scan
      let l := bestAttempts sc.items
      let books := l.filterMap fun x =>
        if x.1.kind = 1 ∧ x.1.whole = true then
          x.1.book.map fun b => ((⟨x.1.num, x.2.1, s.chainOf x.2.1 x.2.2, x.1.restart⟩ : Book), b)
        else none
      let lastBook := (books.getLast?.map fun b => b.1.dataset).getD 0
      let f := books.foldl (fun f b => f.book b.2) r.1
      let tail := l.filter fun x => books.isEmpty || decide (lastBook < x.1.num)
      let f2 := tail.foldl s.addScanned f
      let next := (sc.items.map fun x => x.1.num + 1).foldl max (fieldBE root 20 6)
      let s := { s with
        pe := { s.pe with frontier := sc.stop, nextDataset := max s.pe.base next }
        ct := { s.ct with scan := some sc.items.length } }
      let s := (s.takeBook f2 (r.2 ++ books.map (·.1))).openGroupAfter root sc.items
      let found := f2.streams.filter fun k => !f.streams.contains k
      { s with pe := { s.pe with
        creations := found
        bookDue := !s.ct.readOnly
        legCount := (tail.filter fun x => x.1.kind == 0).length } }

end Sys2Proof.Machine
end

