-- ==== Sys2Proof/Machine/Media.lean ====
section
/-! DEFINITION. MOUNT and UNMOUNT (05 R114, R115; 06 R171; 16 R418 to R422), FORMAT and SANITIZE with their sessions (05
R144; 16 R423 to R429), and the SENSE inputs (R416, R417). -/

namespace Sys2Proof.Machine

/-! ### Results -/

/-- Streams open in the whole part (R115). [DEDUCED, log entry 59] -/
def State.streamsOpen (s : State) : Nat :=
  (s.pe.streams.vals.filter fun x => x.handle.isSome || x.closing.isSome).length

/-- The 64 bytes of the mount summary (R421). [DEDUCED, log entry 58] -/
def State.mountSummary (s : State) : Bytes :=
  let c := s.ct.cart
  let flags := natOf s.ct.formatted + 2 * natOf s.ct.wp + 4 * natOf s.ct.readOnly + 8 * natOf s.ct.scan.isSome +
    16 * natOf (!s.ct.cmOk) + 32 * natOf s.ct.session.isSome
  bytesLE 8 c.serial ++ bytesLE 4 c.endTick ++ bytesLE 1 (c.wraps - 1) ++ bytesLE 1 flags ++ bytesLE 2 c.table ++
    bytesLE 6 s.pe.nextDataset ++ bytesLE 1 ((s.pe.frontier.map (·.1)).getD 0) ++ [0] ++ bytesLE 8 s.remain ++
    fit 32 (part c.hostLabel 16 32)

/-- A MOUNT that succeeds: the summary goes to the host where there is room for it (R114). -/
def State.mounted (s : State) (c : Cmd) (ps : List BufPiece) (detail : Nat) : State :=
  let s := if 64 ≤ entLen c.entry then s.scatter c s.mountSummary ps else s
  s.finishCmd c stSuccess detail 0

/-- After a failed step of MOUNT the tape is unthreaded and the door unlocked (R418); a tripped transport stays tripped. -/
def State.unthread (s : State) : State :=
  { s with
    ct := { s.ct with threaded := false, gpio := 0 }
    sm := { s.sm with state := if s.sm.state = 4 then 4 else 0, brake := true, reels := 0 } }

/-- A step of MOUNT fails (R418): the tape is unthreaded, the door unlocked, and the fault is told (R430). [DEDUCED, log entry 58] -/
def State.mountFails (s : State) (c : Cmd) (step status detail : Nat) : State :=
  let s := { s with
    ct := { s.ct with threaded := false, gpio := 0, mounted := false, formatted := false }
    sm := { s.sm with state := 0, brake := true, reels := 0 } }
  (s.chimeAll 0x104 step 0).finishCmd c status detail 0

/-! ### Sessions (R427 to R429) -/

/-- Numbering base of a new format (R424): 2^24 above the frontier of the format before, taken from the summary's root or a
replica; 0 on a blank cartridge. [DEDUCED, log entry 61] -/
def newBase (cm : Bytes) (m : MediaRead) : Nat :=
  let sum := (summaryOfCm cm).bind fun b => rootOf (part b 16 64)
  let rep := m.datum.findSome? fun d => newer 4 (d.rootA.bind rootOf) (d.rootB.bind rootOf)
  match sum, rep with
  | some r, _ => fieldBE r 20 6 + 2 ^ 24
  | none, some r => fieldBE r 20 6 + 2 ^ 24
  | none, none => 0

/-- E_L as FORMAT sets it (R423). -/
def formatEnd (tapeLen : Nat) : Nat := (tapeLen - 2400) / 32 * 32

/-- The session that a progress record stands for (R428). -/
def sessionOf (b : Bytes) (serial state : Nat) : Session :=
  { kind := fieldBE b 4 1, phase := fieldBE b 5 1, done := fieldBE b 8 4, total := fieldBE b 12 4, elapsed := fieldBE b 16 4
    tenants := bitmapTenants b, label := part b 52 64, seq := fieldBE b 116 4, copy := 0, state := state, fn := none
    cmd := none, serial := serial, base := 0, endTick := 0 }

/-- The progress record in force for a cartridge: the highest sequence among its two copies and the NV record (R428). [DEDUCED, log entry 49] -/
def State.progress? (s : State) (cm : Option Bytes) : Option Bytes :=
  match cm with
  | none => none
  | some b =>
    newer 116 (newer 116 (progressOf (part b 0x300 128)) (progressOf (part b 0x380 128)))
      ((s.ct.nvProgress.find (fieldBE b 0 8)).bind progressOf)

/-- The copy in cartridge memory that holds the lower sequence. [DESIGN CHOICE, log entry 60] -/
def lowerCopy (cm : Bytes) : Nat :=
  if seqOf 116 (progressOf (part cm 0x300 128)) ≤ seqOf 116 (progressOf (part cm 0x380 128)) then 0 else 1

/-- Takes what a session needs to know of its cartridge. -/
def Session.on (x : Session) (cm : Bytes) (m : MediaRead) : Session :=
  { x with copy := lowerCopy cm, base := newBase cm m, endTick := formatEnd (fieldBE cm 8 4), serial := fieldBE cm 0 8 }

/-! ### MOUNT (R418 to R421) -/

/-- Valid label of the datum region, from the first band whose copy gives one (R418 step 5). -/
def labelRead (m : MediaRead) : Option (Bytes × DatumRead) :=
  m.datum.findSome? fun d => (d.label.bind labelOf).map fun b => (b, d)

/-- Some sign of a format: a valid preamble in the datum region, or a record in cartridge memory (R419). -/
def formatSeen (m : MediaRead) : Bool :=
  (m.datum.any fun d => !d.formats.isEmpty) ||
    (m.cm.map fun b => (labelOf (part b 0x100 256)).isSome || (summaryOfCm b).isSome).getD false

/-- A sign of a foreign format (R419). -/
def foreign (m : MediaRead) : Bool :=
  (m.cm.map fun b => fieldBE b 12 1 != 0x52).getD false || m.datum.any fun d => d.formats.any (· != 0xD7)

/-- The RFX knows a label's version and its zone and step table (R418, R467). -/
def State.knowsLabel (s : State) (b : Bytes) : Bool :=
  let t := fieldBE b 12 4
  let mine := (s.activeImage.bind fun i => (i.tables.find? fun x => x.1 == 4).map (·.2)).getD 0
  fieldBE b 4 1 == 1 && (t == mine || Config.knowsTable t)

/-- What MOUNT reads from label and cartridge memory. -/
def State.takeLabel (s : State) (m : MediaRead) (lab : Bytes) (d : DatumRead) : State :=
  let cm := m.cm.getD []
  let hint := fun b => let v := fieldBE cm (0x400 + b) 1; if bitOf v 7 then some (v % 8) else none
  { s with
    pe := { s.pe with base := fieldBE lab 80 6 }
    ct := { s.ct with formatted := true, cart := {
      serial := fieldBE cm 0 8, mediaType := fieldBE cm 12 1, tapeLen := fieldBE cm 8 4, endTick := fieldBE lab 8 4
      wraps := fieldBE lab 5 1 + 1, table := fieldBE lab 12 4, hostLabel := part lab 16 64, base := fieldBE lab 80 6
      hints := (List.range 4).map hint, sumA := seqOf 4 (summaryAt cm 0x200), sumB := seqOf 4 (summaryAt cm 0x280)
      rootA := seqOf 4 (d.rootA.bind rootOf), rootB := seqOf 4 (d.rootB.bind rootOf), rootSeq := 0
      summaryOpen := ((summaryOfCm cm).map fun b => fieldBE b 8 1 != 0).getD true } } }

/-- The state in which a cartridge is threaded and under tension (R418 step 4): the transport holds, and what a fault left is
cleared unless its cause stands (R323, R408, R417). -/
def State.threadIn (s : State) : State :=
  let wf := s.wc.triggers.contains 3
  let s := s.setReg .smTrip 0 0 0
  { s with
    ct := { s.ct with threaded := true, removed := false }
    wc := { s.wc with wfault := s.wc.wfault && wf, triggers := s.wc.triggers.filter (· != 4), gates := [], wmod := 0 }
    sm := { s.sm with state := 1, brake := false, reels := 1, tripStep := 0 } }

/-- Streams of a cartridge that has left are closed; their pending errors go to the log (R417, R493). -/
def State.closeLeft (s : State) : State := s.pe.streams.keys.foldl (fun s k => s.logDeferred k) s

/-- Takes up a cartridge whose label decodes: the root is chosen, and the scan runs if one is needed (R173, R418 step 6);
or the step, status and detail of the failure. -/
def State.takeUp (s : State) (m : MediaRead) (lab : Bytes) (d : DatumRead) : (Nat × Nat × Nat) ⊕ State :=
  if !s.knowsLabel lab then .inl (5, stMediaFormat, 1)
  else
    let s := s.takeLabel m lab d
    let rep := newer 4 (d.rootA.bind rootOf) (d.rootB.bind rootOf)
    let sroot := (m.cm.bind summaryOfCm).bind fun b => rootOf (part b 16 64)
    let root := match sroot, rep with
      | some a, some b => if fieldBE a 8 6 < fieldBE b 8 6 then some b else some a
      | some a, none => some a
      | none, b => b
    match root with
    | none => .inl (6, stReadFault, 0x10)
    | some r =>
      let s := { s with ct := { s.ct with cart := { s.ct.cart with rootSeq := fieldBE r 4 4 } } }
      let direct := !s.ct.cart.summaryOpen && sroot == some r
      match if direct then s.takeRoot m r else s.takeScan m r with
      | none => .inl (6, stReadFault, 0x10)
      | some s =>
        let w := (s.pe.frontier.map (·.1)).getD (wrapOrder.headD 0)
        .inr { s with sm := { s.sm with wrap := some w, band := some (bandOf w) } }

/-- Steps 5 to 7 with a label that decodes. -/
def State.mountFormatted (s : State) (c : Cmd) (ps : List BufPiece) (m : MediaRead) (lab : Bytes) (d : DatumRead) :
    State :=
  match s.takeUp m lab d with
  | .inl e => s.mountFails c e.1 e.2.1 e.2.2
  | .inr s =>
    ({ s with ct := { s.ct with mounted := true } }).mounted c ps (if s.ct.readOnly then 0x12 else 0)

/-- Step 5 (R419): the cartridge is classed. -/
def State.mountClass (s : State) (c : Cmd) (ps : List BufPiece) (m : MediaRead) : State :=
  if foreign m then s.mountFails c 5 stMediaFormat 1
  else
    match labelRead m with
    | some (lab, d) => s.mountFormatted c ps m lab d
    | none =>
      if formatSeen m then s.mountFails c 5 stReadFault 0x10
      else ({ s with ct := { s.ct with mounted := true, formatted := false } }).mounted c ps 0x11

/-- Resumes the session of a progress record (R428). The crypto form takes up the cartridge's field book first. [DESIGN CHOICE, log entry 60] -/
def State.resumeSession (s : State) (b : Bytes) (m : MediaRead) : State :=
  let cm := m.cm.getD []
  let s := { s with ct := { s.ct with
    session := some ((sessionOf b 0 1).on cm m)
    cart := { s.ct.cart with sumA := seqOf 4 (summaryAt cm 0x200), sumB := seqOf 4 (summaryAt cm 0x280) } } }
  if fieldBE b 4 1 ≠ 3 then s
  else
    match labelRead m with
    | some (lab, d) =>
      match s.takeUp m lab d with
      | .inr s => s
      | .inl _ => s
    | none => s

/-- Steps 2 to 4, and the resumption of a session that the cartridge waits for (R418, R420, R428). -/
def State.mountSteps (s : State) (c : Cmd) (ps : List BufPiece) (m : MediaRead) : State :=
  let wp := s.senses 2
  let s := s.closeLeft.emptyPe.emptyDf.mountCalibration
  let s := { s with ct := { s.ct with
    gpio := 1, wp := wp, cmOk := m.cm.isSome, readOnly := wp || bitOf (entFlags c.entry) 1 || m.cm.isNone, scan := none
    written := false, formatted := false } }
  let s := if m.cm.isNone then (s.bump .ctCmErr 0 0).logEv .cmFail 0 0 0 else s
  match (s.progress? m.cm).bind fun b => if fieldBE b 4 1 = 0 then none else some b with
  | some b =>
    let s := s.resumeSession b m
    s.finishCmd c stMediaBusy 2 0
  | none =>
    let hub := s.senses 4
    if !hub && !m.threaded then s.mountFails c 3 stReadFault 6
    else
      let s := if hub then s else s.bump .ctLoads 0 0
      if !m.tension then s.mountFails c 4 stReadFault 6
      else s.threadIn.mountClass c ps m

/-- MOUNT (R114, R418). [DEDUCED, log entry 58] -/
def State.mount (s : State) (c : Cmd) (m : MediaRead) (ps : List BufPiece) : State :=
  if s.ct.leaving then s.finishCmd c stMediaBusy 3 0
  else if s.sessionRuns then s.finishCmd c stMediaBusy 2 0
  else if s.ct.mounted && !s.ct.removed then s.mounted c ps 0x10
  else if !s.senses 0 || !s.senses 1 then (s.unthread.chimeAll 0x104 1 0).finishCmd c stNoMedia 1 0
  else s.mountSteps c ps m

/-! ### UNMOUNT (R115, R171, R422) -/

/-- Everything the tape is to hold stands verified on it, or was given up. -/
def State.tapeQuiet (s : State) : Bool :=
  (s.df.datasets.all fun d => d.verified || d.abandoned) && s.df.restartDue.isEmpty && s.df.voidDue == 0 &&
    !s.pe.bookDue && (s.df.groups.all fun g => g.members.isEmpty && g.repair == 0) &&
    s.pe.streams.vals.all fun x => decide (x.seqEnd ≤ x.durable)

/-- What is due before the group can be closed: a book that holds what the leg has. -/
def State.bookOwed (s : State) : Bool :=
  decide (0 < s.pe.legCount) || !s.pe.creations.isEmpty || !s.pe.deadMarks.isEmpty

/-- Asks for the closing book, and once that is formed closes the last C3 group (R171, R280). -/
def State.prepareUnmount (s : State) : State :=
  if s.bookOwed then { s with pe := { s.pe with bookDue := true } }
  else if s.pe.bookDue || s.df.datasets.any (fun d => !d.started) || !s.df.restartDue.isEmpty then s
  else
    match s.df.groups.getLast? with
    | some g =>
      if g.closed || g.members.isEmpty || decide (g.clocked < g.members.length) then s
      else s.modGroup g.num Group.closeEarly
    | none => s

/-- The hints of the bands written (R385, R414). -/
def State.writeHints (s : State) : State :=
  s.vc.hints.foldl (fun s h => s.emit (.cm (0x400 + h.1) (bytesBE 1 (128 + h.2)))) s

/-- The root in the replica with the lower sequence, then the closed summary (R171, R286). `ok` tells whether the replica
could be written (R333). -/
def State.writeRoot (s : State) (ok : Bool) : State :=
  let c := s.ct.cart
  let seq := max c.rootSeq (max c.rootA c.rootB) + 1
  let a := decide (c.rootA ≤ c.rootB)
  let root := s.rootRecord seq
  let s := if ok then
      let s := s.emit (.datum (if a then 4 else 5) root)
      { s with ct := { s.ct with cart := { c with rootA := if a then seq else c.rootA
                                                  rootB := if a then c.rootB else seq } } }
    else s.logEv .rootFail 0 0 seq
  let s := { s with ct := { s.ct with cart := { s.ct.cart with rootSeq := seq } } }
  s.writeSummary false root

/-- The cartridge is no longer mounted; with `unload` it leaves the drive (R422). -/
def State.dismount (s : State) (unload : Bool) : State :=
  let s := s.closeLeft.emptyPe.emptyDf
  let s := { s with ct := { s.ct with mounted := false, formatted := false, written := false, leaving := false,
                                      removed := false, scan := none } }
  if unload then
    { s with
      ct := { s.ct with threaded := false, gpio := 0 }
      sm := { s.sm with state := 0, brake := true, reels := 0, engines := [], wrap := none, band := none } }
  else s

/-- Runs the end of a mount as far as it can go: done, or still waiting for tape. [DEDUCED, log entry 59] -/
def State.endMount (s : State) (ok unload : Bool) : State × Bool :=
  if !s.ct.written || s.writeBlock.isSome then (s.dismount unload, true)
  else
    let s := ({ s with ct := { s.ct with leaving := true } }).prepareUnmount
    if s.tapeQuiet then ((s.writeHints.writeRoot ok).dismount unload, true) else (s, false)

/-- UNMOUNT. [DEDUCED, log entry 59] -/
def State.unmount (s : State) (c : Cmd) (ok : Bool) : State :=
  if s.sessionRuns then s.finishCmd c stMediaBusy 2 0
  else if !s.ct.mounted then s.finishCmd c stNoMedia 2 0
  else if 0 < s.streamsOpen then s.finishCmd c stMediaBusy 1 s.streamsOpen
  else
    let r := s.endMount ok (bitOf (entFlags c.entry) 1)
    if r.2 then r.1.finishCmd c stSuccess 0 0 else r.1

/-! ### FORMAT and SANITIZE (R144, R423 to R426) -/

/-- What a session requires of the part (R144). -/
def State.sessionBlock (s : State) : Option (Nat × Nat) :=
  if s.sessionRuns then some (stMediaBusy, 2)
  else if !s.senses 0 then some (stNoMedia, 1)
  else if 0 < s.streamsOpen then some (stMediaBusy, 1)
  else if s.senses 2 then some (stWriteProtected, 0)
  else none

/-- The checks of FORMAT on the cartridge (R423). -/
def formatCheck (m : MediaRead) : Option (Nat × Nat) :=
  match m.cm with
  | none => some (stMediaFormat, 4)
  | some b =>
    if fieldBE b 12 1 ≠ 0x52 then some (stMediaFormat, 1)
    else if fieldBE b 8 4 < 1000000 ∨ 14000000 < fieldBE b 8 4 then some (stMediaFormat, 3)
    else none

/-- Items of a session's first phase (R427): a benchmark or datum copy each for FORMAT, an extent for the overwrite. -/
def formatItems : Nat := 256 + 4

/-- Extents of all wraps of a tape. -/
def extentItems (endTick : Nat) : Nat := ((List.range 256).map fun w => (endTick - 2464) / extentTicks w).sum

/-- Starts a session: the progress record is written to cartridge memory and the NV store. [DESIGN CHOICE, log entry 60] -/
def State.startSession (s : State) (c : Cmd) (kind phase total : Nat) (tenants : List Nat) (label : Bytes)
    (m : MediaRead) : State :=
  let cm := m.cm.getD []
  let x : Session := { kind := kind, phase := phase, done := 0, total := total, elapsed := 0, tenants := tenants, label := label
                       seq := seqOf 116 (s.progress? m.cm), copy := 0, state := 1, fn := some c.fn, cmd := some c.id
                       serial := 0, base := 0, endTick := 0 }
  let x := x.on cm m
  let s := if kind = 3 then s else { s with ct := { s.ct with cart := { s.ct.cart with
    sumA := seqOf 4 (summaryAt cm 0x200), sumB := seqOf 4 (summaryAt cm 0x280) } } }
  s.writeProgress { x with total := if kind = 2 then extentItems x.endTick else total } kind

/-- A cartridge that is to be written anew is not mounted any more; its streams cease to exist (R423, R425). -/
def State.leaveForSession (s : State) : State :=
  let s := s.emptyPe.emptyDf
  { s with ct := { s.ct with mounted := false, formatted := false, written := false, removed := false, scan := none } }

/-- FORMAT (R423). -/
def State.format (s : State) (c : Cmd) (label : Bytes) (m : MediaRead) : State :=
  match s.sessionBlock with
  | some (st, d) => s.finishCmd c st d 0
  | none =>
    match formatCheck m with
    | some (st, d) => s.finishCmd c st d 0
    | none => s.leaveForSession.startSession c 1 1 formatItems [] (fit 64 label) m

/-- SANITIZE in the overwrite form (R425): the host label of the label block stays. -/
def State.overwrite (s : State) (c : Cmd) (m : MediaRead) : State :=
  match s.sessionBlock with
  | some (st, d) => s.finishCmd c st d 0
  | none =>
    match formatCheck m with
    | some (st, d) => s.finishCmd c st d 0
    | none =>
      let cmLabel := m.cm.bind fun b => labelOf (part b 0x100 256)
      let lab := match labelRead m with
        | some (b, _) => some b
        | none => cmLabel
      s.leaveForSession.startSession c 2 1 0 [] ((lab.map fun b => part b 16 64).getD (zeros 64)) m

/-- Functions with a tenant number in a list. -/
def State.fnsOf (s : State) (tenants : List Nat) : List Nat := s.quotaFns.filter fun f => tenants.contains (s.tenant f)

/-- Erases every key slot and KEK of a function at once (R254, R426). -/
def State.wipeKeys (s : State) (f : Nat) : State :=
  let g := (s.ce.slots.keys.filter fun g => decide (s.keyBase f ≤ g ∧ g < s.keyBase f + s.keyCount f))
  (g.foldl (fun s g => s.eraseSlot g) s).eraseKek f

/-- SANITIZE in the crypto form (R144, R426): step 1 now, steps 2 to 4 when the session ends. -/
def State.crypto (s : State) (c : Cmd) (names : Bytes) (m : MediaRead) : State :=
  let tenants := ((fit (entLen c.entry) names).map (·.toNat)).dedup
  if s.isOwner c.fn = false ∧ (tenants.any fun t => t != s.tenant c.fn) = true then s.finishCmd c stNotOwner 0 0
  else
    match s.mediaCheck with
    | some (st, d) => s.finishCmd c st d 0
    | none =>
      if 0 < s.streamsOpen then s.finishCmd c stMediaBusy 1 0
      else if s.ct.readOnly then s.finishCmd c stWriteProtected 0 0
      else
        match s.writeBlock with
        | some d => s.finishCmd c stWriteFault d 0
        | none =>
          let s := (s.fnsOf tenants).foldl (fun s f => s.wipeKeys f) s
          s.startSession c 3 2 s.pe.books.length tenants s.ct.cart.hostLabel m

/-! ### The end of a session -/

/-- The label block of a session (R287). [DEDUCED, log entry 61] -/
def Session.labelBlock (x : Session) (table : Nat) : Bytes :=
  withCrc (bytesBE 4 0x52464C42 ++ [1, 255, 0, 0] ++ bytesBE 4 x.endTick ++ bytesBE 4 table ++ fit 64 x.label ++
    bytesBE 6 x.base ++ zeros 166)

/-- The empty root (R424): no book, the frontier at the first extent of the wrap order. [DEDUCED, log entry 61] -/
def Session.emptyRoot (x : Session) (seq : Nat) : Bytes :=
  let w := wrapOrder.headD 0
  let chain := if isReverse w then x.endTick - 64 - extentTicks w else 2464
  withCrc (bytesBE 4 0x52465254 ++ bytesBE 4 seq ++ zeros 12 ++ bytesBE 6 x.base ++ bytesBE 1 w ++ [0] ++ bytesBE 4 chain ++
    zeros 28)

/-- What FORMAT and the overwrite form have written when they end (R423, R425). [DESIGN CHOICE, log entry 60] -/
def State.formatDone (s : State) (x : Session) : State :=
  let table := (s.activeImage.bind fun i => (i.tables.find? fun t => t.1 == 4).map (·.2)).getD 0
  let lab := x.labelBlock table
  let s := if x.kind = 2 then wrapOrder.foldl (fun s w => s.emit (.voidWrap w)) s else s
  let s := ((s.emit (.datum 3 lab)).emit (.datum 4 (x.emptyRoot 1))).emit (.datum 5 (x.emptyRoot 2))
  let s := if x.kind = 1 then (List.range 256).foldl (fun s w => s.emit (.benchmark w)) s else s
  ((s.emit (.cm 0x100 lab)).writeSummary false (x.emptyRoot 2)).emit (.cm 0x400 (zeros 4))

/-- What the crypto form has written when it ends (R426): a book of the other tenants' parcels with no prior book, the
earlier books void, roots and a closed summary. [DESIGN CHOICE, log entry 60] -/
def State.cryptoDone (s : State) (x : Session) : State :=
  let gone := fun (k : Nat) => x.tenants.contains k.unpair.1
  match s.pe.frontier with
  | none => s
  | some (w, i) =>
    let live := s.pe.parcels.filter fun p => !gone p.stream && !p.dead && p.stream != streamKey 0 0
    let num := s.pe.nextDataset
    let keys := (s.pe.streams.keys.filter fun k => !gone k)
    let s := s.emit (.datum 1 (bookContent num s.pe.base [] live [] keys))
    let s := s.pe.books.foldl (fun s b => s.emit (.void b.wrap b.chainage)) s
    let s := { s with pe := { s.pe with
      parcels := live, streams := s.pe.streams.keep fun k _ => !gone k, books := [⟨num, w, s.chainOf w i, 0⟩]
      nextDataset := num + 1, creations := [], deadMarks := [], legCount := 0, legFirst := num + 1, legPages := [num] } }
    let s := (s.advanceFrontier.writeRoot true).writeRoot true
    { s with ct := { s.ct with written := false } }

/-- Tells the end of a session to the function that started it, if it is unchanged, and to the owner (R428, R430). -/
def State.tellSession (s : State) (x : Session) (status : Nat) : State :=
  let s := match x.fn with
    | some f => if s.ownerFn = some f then s else s.chime f 0x102 x.kind status
    | none => s
  s.chimeOwner 0x102 x.kind status

/-- MEDIA_SESSION_END (R427, R428; R146): the session's work has ended, or failed on the way. [DESIGN CHOICE, log entry 60] -/
def State.sessionEnd (s : State) (ok : Bool) (phase done elapsed : Nat) : State :=
  match s.ct.session with
  | none => s
  | some x =>
    if x.state ≠ 1 then s
    else
      let x := { x with phase := phase, done := done, elapsed := elapsed }
      let s := if ok then (if x.kind = 3 then s.cryptoDone x else s.formatDone x) else s
      let s := if ok then
          let s := s.writeProgress x 0
          { s with ct := { s.ct with session := none } }
        else
          let s := s.writeProgress x x.kind
          { s with ct := { s.ct with session := s.ct.session.map fun y => { y with state := 3, cmd := none } } }
      let st := if ok then stSuccess else stWriteFault
      let s := match x.cmd.bind s.cmd? with
        | some c => s.finishCmd c st 0 0
        | none => s
      s.tellSession x st

/-! ### SENSE_CHANGE (R416, R417, R440) -/

/-- The cartridge has left during a mount (R417). [DEDUCED, log entry 59] -/
def State.cartridgeLeft (s : State) : State :=
  let s := { s with ct := { s.ct with removed := true } }
  ((s.trip 6 7).logEv .removed 0 0 0).cutOff

/-- Debounced SENSE inputs have taken new levels. [DEDUCED, log entry 62] -/
def State.senseChange (s : State) (pins : Nat) : State :=
  let old := s.sense
  let s := { s with ct := { s.ct with pins := pins % 256 } }
  let now := s.sense
  if now = old then s
  else
    let s := (s.wake 3).chimeAll 0x103 now 0
    let s := if s.ct.mounted ∧ bitOf now 2 ≠ bitOf old 2 then s.logEv .wpChange 0 0 (natOf (bitOf now 2)) else s
    if s.ct.mounted && !s.ct.removed && !(bitOf now 0 && bitOf now 1 && bitOf now 4) &&
        (bitOf old 0 != bitOf now 0 || bitOf old 1 != bitOf now 1 || bitOf old 4 != bitOf now 4) then s.cartridgeLeft
    else s

/-! ### The commands -/

/-- MOUNT (R114, R418): the operands are the buffer list in host memory and what is found on the cartridge. -/
def execMount (id : Nat) (pieces : List BufPiece) (media : MediaRead) (s : State) : Host.Outcome State Fault Refusal :=
  .next (s.onCommand id 0x01 fun s c => s.withBuffer c pieces fun s ps => s.mount c media ps)

/-- UNMOUNT (R115, R171): `rootOk` tells whether the root replica could be written (R333). -/
def execUnmount (id : Nat) (rootOk : Bool) (s : State) : Host.Outcome State Fault Refusal :=
  .next (s.onCommand id 0x02 fun s c => s.unmount c rootOk)

/-- FORMAT (R423): the operands are the buffer list and label in host memory and what is found on the cartridge. -/
def execFormat (id : Nat) (pieces : List BufPiece) (label : Bytes) (media : MediaRead) (s : State) :
    Host.Outcome State Fault Refusal :=
  .next (s.onCommand id 0x40 fun s c =>
    if s.ct.session.any fun x => x.cmd == some c.id then s
    else s.withBuffer c pieces fun s _ => s.format c label media)

/-- SANITIZE, overwrite (R425). -/
def execSanitizeOverwrite (id : Nat) (media : MediaRead) (s : State) : Host.Outcome State Fault Refusal :=
  .next (s.onCommand id 0x41 fun s c =>
    if bitOf (entFlags c.entry) 1 || s.ct.session.any (fun x => x.cmd == some c.id) then s else s.overwrite c media)

/-- SANITIZE, crypto (R426): the operands are the buffer list, the tenant list and what is found on the cartridge. -/
def execSanitizeCrypto (id : Nat) (pieces : List BufPiece) (tenants : Bytes) (media : MediaRead) (s : State) :
    Host.Outcome State Fault Refusal :=
  .next (s.onCommand id 0x41 fun s c =>
    if !bitOf (entFlags c.entry) 1 || s.ct.session.any (fun x => x.cmd == some c.id) then s
    else s.withBuffer c pieces fun s _ => s.crypto c tenants media)

/-- MEDIA_SESSION_END (R427, R428). -/
def execMediaSessionEnd (ok : Bool) (phase done elapsed : Nat) (s : State) : Host.Outcome State Fault Refusal :=
  .next (s.sessionEnd ok phase done elapsed)

/-- SENSE_CHANGE (R416, R417): the debounced levels of the pins. -/
def execSenseChange (pins : Nat) (s : State) : Host.Outcome State Fault Refusal := .next (s.senseChange pins)

end Sys2Proof.Machine
end

