-- ==== Sys2Proof/Machine/Update.lean ====
section
/-! DEFINITION. The personality image and its field update (18): the checks of an image, the update session, activation,
confirmation and rollback, the settings journal. -/

namespace Sys2Proof.Machine

/-! ### The staged image (R453 to R456, R462, R463) -/

/-- The bytes of the staging slot up to a length; none where a page below it has not been written. -/
def State.staged (s : State) (len : Nat) : Option Bytes :=
  let l := (List.range ((len + 4095) / 4096)).map fun n => s.ms.pages.find n
  if l.all (·.isSome) then some ((l.map (·.getD [])).flatten.take len) else none

/-- All bytes of a range are zero. -/
def zeroPart (b : Bytes) (off n : Nat) : Bool := (part b off n).all (· == 0)

/-- One section entry (R453): identifier, version, offset, length; its zero bytes are zero. -/
structure SectionEntry where
  id : Nat
  version : Nat
  off : Nat
  len : Nat
  deriving DecidableEq, Repr

def sectionAt (h : Bytes) (i : Nat) : SectionEntry :=
  let o := 64 + 16 * i
  ⟨fieldBE h o 2, fieldBE h (o + 4) 4, fieldBE h (o + 8) 4, fieldBE h (o + 12) 4⟩

def sectionsOf (h : Bytes) : List SectionEntry := (List.range (fieldBE h 6 2)).map (sectionAt h)

/-- Two sections overlap. -/
def sectionsMeet (a b : SectionEntry) : Bool := decide (a.off < b.off + b.len ∧ b.off < a.off + a.len)

/-- No section overlaps one after it. -/
def apart : List SectionEntry → Bool
  | [] => true
  | a :: t => !t.any (sectionsMeet a) && apart t

/-- A header is well formed (R454). -/
def imageWellFormed (h : Bytes) : Bool :=
  let n := fieldBE h 6 2
  let len := fieldBE h 8 4
  let l := sectionsOf h
  h.length == 4096 && fieldBE h 0 4 == 0x52464A50 && fieldBE h 4 2 == 1 && decide (7 ≤ n ∧ n ≤ 32) &&
    decide (4096 ≤ len ∧ len ≤ 8388608 ∧ len % 4096 = 0) && zeroPart h 24 40 && zeroPart h 721 3271 && zeroPart h 4088 8 &&
    ((List.range 32).all fun i => if i < n then zeroPart h (66 + 16 * i) 2 else zeroPart h (64 + 16 * i) 16) &&
    ((List.range 7).all fun k => (l.filter fun e => e.id == k + 1).length == 1) &&
    (l.all fun e => decide (4096 ≤ e.off ∧ e.off % 16 = 0 ∧ e.off + e.len ≤ len)) && apart l

/-- A point from its uncompressed form. -/
def pointOf (b : Bytes) : Point :=
  let x := fieldBE b 1 48
  let y := fieldBE b 49 48
  if b.length = 97 ∧ b.head? = some 4#8 ∧ onCurve x y = true then some (x, y) else none

/-- An image is authentic (R455). -/
def imageAuthentic (b : Bytes) : Bool :=
  let signer := part b 624 97
  decide (sha384 signer = Config.signerHash) &&
    ecdsaHolds (pointOf signer) (sha384 (b.take 3992)) (fieldBE b 3992 48) (fieldBE b 4040 48) &&
    decide (part b 576 48 = sha384 (b.drop 4096))

/-- What the header of an image states. -/
def imageOf (h : Bytes) : Image :=
  { version := fieldBE h 12 4, sv := fieldBE h 16 2, floor := fieldBE h 18 2, schema := fieldBE h 20 4, length := fieldBE h 8 4
    tables := (sectionsOf h).map fun e => (e.id, e.version) }

/-- The checks of UPDATE_VERIFY in order (R463): the image, or the detail of the first that fails. -/
def State.verifyStaged (s : State) : Nat ⊕ Image :=
  match s.staged 4096 with
  | none => .inl 7
  | some h =>
    match s.staged (fieldBE h 8 4) with
    | none => .inl 7
    | some b =>
      if !imageWellFormed h then .inl 7
      else if !imageAuthentic b then .inl 5
      else if fieldBE h 16 2 < s.ms.fused then .inl 6
      else .inr (imageOf h)

/-! ### Sessions (R461 to R464) -/

/-- Sector erases, whose number the flash's sectors give (R458). [DESIGN CHOICE, log entry 63] -/
def State.countErases (s : State) : State := s.draw.bumpBy .msXsErases 0 0 (Config.freeNat 3 s.fresh)

/-- MS_UPD_LOCK.lock. -/
def State.updLocked (s : State) : Bool := s.fld .msUpdLock 0 0 0 0 == 1

/-- UPDATE_OPEN (R461). -/
def State.updateOpen (s : State) (c : Cmd) : State :=
  if s.updLocked then s.finishCmd c stUpdateRefused 4 0
  else if s.ms.upd.isSome || s.ms.pointer.trial then s.finishCmd c stUpdateBusy 0 0
  else
    let s := s.countErases
    let s := { s with ms := { s.ms with upd := some ⟨s.tenant c.fn, none⟩, pages := [], updTime := s.ms.time } }
    s.finishCmd c stSuccess 0 0

/-- Writes pages into the staging slot from a page number on. -/
def writePages (t : Tab Bytes) (n : Nat) : Nat → Bytes → Tab Bytes
  | 0, _ => t
  | k + 1, b => writePages (Tab.set t n (b.take 4096)) (n + 1) k (b.drop 4096)

/-- Notes a command of the session: the timer starts anew (R464). -/
def State.touchUpdate (s : State) (v : Option Image) : State :=
  { s with ms := { s.ms with upd := s.ms.upd.map fun u => { u with verified := v }, updTime := s.ms.time } }

/-- UPDATE_BLOCK (R143, R462). [DESIGN CHOICE, log entry 63] -/
def State.updateBlock (s : State) (c : Cmd) (data : Bytes) : State :=
  let off := entRecord c.entry
  let len := entLen c.entry
  if !s.updOpen then s.finishCmd c stUpdateRefused 1 0
  else if off % 4096 ≠ 0 ∨ len % 4096 ≠ 0 ∨ len < 4096 ∨ 1048576 < len ∨ 8388608 < off + len then
    (s.touchUpdate (s.ms.upd.bind (·.verified))).finishCmd c stLength 4 0
  else
    let s := s.touchUpdate none
    let s := { s with ms := { s.ms with pages := writePages s.ms.pages (off / 4096) (len / 4096) (fit len data) } }
    s.finishCmd c stSuccess 0 0

/-- UPDATE_VERIFY (R463). -/
def State.updateVerify (s : State) (c : Cmd) : State :=
  if !s.updOpen then s.finishCmd c stUpdateRefused 1 0
  else
    match s.verifyStaged with
    | .inl d => (s.touchUpdate none).finishCmd c stUpdateRefused d 0
    | .inr i => (s.touchUpdate (some i)).finishCmd c stSuccess 0 0

/-! ### Settings (R460) -/

/-- The registers of class N that have been written. -/
def State.nCells (s : State) : Tab Word := s.regs.keep fun k _ => (keyName k).info.cls == .n

/-- Bytes one snapshot takes. -/
def snapshotSize (n : Nat) : Nat := Config.snapshotBytes + 12 * n

/-- Bytes of the journal area (R458). -/
def journalArea : Nat := 0x1FE000

/-- Drops the N registers that a schema does not list (R460). [DESIGN CHOICE, log entry 63] -/
def State.convert (s : State) (schema : Nat) : State :=
  { s with regs := s.regs.keep fun k _ => (keyName k).info.cls != .n || Config.schemaKnows schema (keyName k).ctorIdx }

/-- JOURNAL_COMPACT (R460): past three quarters, fresh snapshots of every mark still referenced. -/
def State.compact (s : State) : State :=
  if 4 * s.ms.journal < 3 * journalArea then s
  else
    let old := (s.ms.oldSettings.map fun t => snapshotSize t.length).getD 0
    { s.countErases with ms := { s.countErases.ms with journal := snapshotSize s.nCells.length + old } }

/-! ### Activation (R465 to R467) -/

/-- The conditions of R465 but for the session and the verified image. -/
def State.activateBlock (s : State) (holdup : Bool) : Option Nat :=
  if s.sm.state = 2 ∨ s.sm.state = 3 then some 2 else if holdup then none else some 3

/-- Every consumer takes the tables of an image (R467): each engine reloads its sets, and a closed one changes to the new set
of its mode at its next sample. -/
def State.switchTables (s : State) (i : Image) : State :=
  { s with
    ms := { s.ms with version := i.version }
    sm := { s.sm with coef := [], engines := s.sm.engines.each fun _ (e : Engine) =>
      if e.closed then { e with next := some e.mode } else e } }

/-- Writes the pointer (R459). -/
def State.writePointer (s : State) (slot : Nat) (trial : Bool) (starts mark : Nat) : State :=
  { s with ms := { s.ms with pointer := ⟨s.ms.pointer.seq + 1, slot, trial, starts, mark⟩ } }

/-- Puts an image into a slot. -/
def State.setSlotImage (s : State) (slot : Nat) (i : Option Image) : State :=
  if slot = 0 then { s with ms := { s.ms with slotA := i } } else { s with ms := { s.ms with slotB := i } }

/-- Steps 1 to 5 of R466. -/
def State.activate (s : State) (i : Image) : State :=
  let slot := 1 - s.ms.pointer.slot
  let old := s.nCells
  let s := (s.countErases.setSlotImage slot (some i)).convert i.schema
  let s := { s with ms := { s.ms with oldSettings := some old, journal := s.ms.journal + snapshotSize s.nCells.length
                                      pages := [] } }
  ((s.writePointer slot true 0 (s.ms.pointer.mark + 1)).switchTables i).kltTrigger .all false

/-- UPDATE_ACTIVATE (R465, R466); `holdup` is HOLDUP_OK. [DESIGN CHOICE, log entry 63] -/
def State.updateActivate (s : State) (c : Cmd) (holdup : Bool) : State :=
  if !s.updOpen then s.finishCmd c stUpdateRefused 1 0
  else if s.updLocked then (s.touchUpdate (s.ms.upd.bind (·.verified))).finishCmd c stUpdateRefused 4 0
  else
    match s.ms.upd.bind (·.verified) with
    | none => (s.touchUpdate none).finishCmd c stUpdateRefused 8 0
    | some i =>
      let s := s.touchUpdate (some i)
      match s.activateBlock holdup with
      | some d => s.finishCmd c stUpdateRefused d 0
      | none => ((s.activate i).finishCmd c stSuccess 0 0).chimeOwner 0x202 i.version i.sv

/-! ### Confirmation and rollback (R456, R468, R469) -/

/-- Blows fuses until the fused minimum equals the running image's floor (R468 step 3). -/
def State.blowFuses (s : State) : State :=
  { s with ms := { s.ms with fused := min 64 (max s.ms.fused ((s.activeImage.map (·.floor)).getD 0)) } }

/-- UPDATE_CONFIRM (R468). -/
def State.updateConfirm (s : State) (c : Cmd) : State :=
  let p := s.ms.pointer
  if !p.trial then (s.touchUpdate (s.ms.upd.bind (·.verified))).finishCmd c stUpdateRefused 9 0
  else
    let s := ((s.writePointer p.slot false 0 p.mark).kltTrigger .all false).blowFuses
    let s := { s with ms := { s.ms with upd := none, oldSettings := none } }
    (s.finishCmd c stSuccess 0 0).chimeOwner 0x203 s.ms.version s.ms.fused

/-- The previous image is named again, with its settings (R469, R470). -/
def State.rollBack (s : State) : State :=
  let p := s.ms.pointer
  let regs := match s.ms.oldSettings with
    | some t => (t.keep fun k _ => (keyName k).info.cls == .n).foldl (fun (r : Tab Word) e => Tab.set r e.1 e.2) (s.regs.keep fun k _ => (keyName k).info.cls != .n)
    | none => s.regs
  let s := { s with regs := regs, ms := { s.ms with upd := none, oldSettings := none } }
  let s := s.writePointer (1 - p.slot) false 0 (p.mark - 1)
  match s.activeImage with
  | some i => { s with ms := { s.ms with version := i.version } }
  | none => s

/-- UPDATE_REVERT (R469). [DESIGN CHOICE, log entry 63] -/
def State.updateRevert (s : State) (c : Cmd) (holdup : Bool) : State :=
  if s.ms.pointer.trial then
    if s.updLocked then s.finishCmd c stUpdateRefused 4 0
    else
      match s.activateBlock holdup with
      | some d => s.finishCmd c stUpdateRefused d 0
      | none =>
        let s := s.rollBack
        let s := match s.activeImage with
          | some i => s.switchTables i
          | none => s
        let s := { s with ms := { s.ms with lastRollback := 1 } }
        ((s.kltTrigger .all false).finishCmd c stSuccess 0 0).chimeOwner 0x204 1 0
  else if s.ms.upd.isSome then (s.draw.abandonUpdate (Config.freeNat 4 s.fresh)).finishCmd c stSuccess 0 0
  else s.finishCmd c stUpdateRefused 9 0

/-! ### GET_LOG page 5 (R474) -/

/-- Session state of GET_LOG byte 0 and MS_UPD_STATE.session. -/
def State.updState (s : State) : Nat :=
  if s.ms.pointer.trial then 4
  else match s.ms.upd with
    | none => 0
    | some u => if u.verified.isSome then 2 else 1

def State.updatePage (s : State) : Bytes :=
  let p := s.ms.pointer
  let sv := (s.activeImage.map (·.sv)).getD 0
  bytesLE 1 s.updState ++ bytesLE 1 p.slot ++ bytesLE 1 p.starts ++ bytesLE 1 s.ms.fused ++ bytesLE 4 s.ms.version ++
    bytesLE 2 sv ++ bytesLE 2 s.ms.pages.length ++
    bytesLE 4 ((s.otherImage.map (·.version)).getD 0xFFFFFFFF) ++ bytesLE 2 ((s.otherImage.map (·.sv)).getD 0) ++
    bytesLE 1 s.ms.lastAbandon ++ bytesLE 1 s.ms.lastRollback ++
    bytesLE 4 (if s.ms.upd.isSome then (s.ms.time - s.ms.updTime) / 1000000000 else 0) ++ bytesLE 8 p.seq

/-! ### The commands -/

/-- UPDATE_OPEN (R461). -/
def execUpdateOpen (id : Nat) (s : State) : Host.Outcome State Fault Refusal :=
  .next (s.onCommand id 0x60 State.updateOpen)

/-- UPDATE_BLOCK (R462): the operands are the buffer list and the data in host memory. -/
def execUpdateBlock (id : Nat) (pieces : List BufPiece) (data : Bytes) (s : State) : Host.Outcome State Fault Refusal :=
  .next (s.onCommand id 0x61 fun s c => s.withBuffer c pieces fun s _ => s.updateBlock c data)

/-- UPDATE_VERIFY (R463). -/
def execUpdateVerify (id : Nat) (s : State) : Host.Outcome State Fault Refusal :=
  .next (s.onCommand id 0x62 State.updateVerify)

/-- UPDATE_ACTIVATE (R465). -/
def execUpdateActivate (id : Nat) (holdup : Bool) (s : State) : Host.Outcome State Fault Refusal :=
  .next (s.onCommand id 0x63 fun s c => s.updateActivate c holdup)

/-- UPDATE_CONFIRM (R468). -/
def execUpdateConfirm (id : Nat) (s : State) : Host.Outcome State Fault Refusal :=
  .next (s.onCommand id 0x64 State.updateConfirm)

/-- UPDATE_REVERT (R469). -/
def execUpdateRevert (id : Nat) (holdup : Bool) (s : State) : Host.Outcome State Fault Refusal :=
  .next (s.onCommand id 0x65 fun s c => s.updateRevert c holdup)

/-- UPDATE_SESSION_TIMEOUT (R464): 60 s have passed since the session's last command. -/
def execUpdateSessionTimeout (s : State) : Host.Outcome State Fault Refusal := .next (s.abandonUpdate 1)

/-- JOURNAL_COMPACT (R460). -/
def execJournalCompact (s : State) : Host.Outcome State Fault Refusal := .next s.compact

/-- EVENT_LOG_BLOCK_RESERVE (R492, R495). -/
def execEventLogBlockReserve (s : State) : Host.Outcome State Fault Refusal := .next s.reserveLog

end Sys2Proof.Machine
end

