-- ==== Sys2Proof/Machine/Klt.lean ====
section
/-! DEFINITION. The Kelny Layout Table (02 R26 to R43): the records of a view and their rebuild. -/

namespace Sys2Proof.Machine

/-! ### Records (R29 to R40) -/

/-- A record: its header (R29) and its body. -/
def kltRecord (type id : Nat) (body : Bytes) : Bytes :=
  bytesLE 2 type ++ bytesLE 2 (8 + body.length) ++ bytesLE 4 id ++ body

/-- FEATURE word 0 in a function's view (R39). [DEDUCED, log entry 12] -/
def State.featureWord (s : State) (f : Fn) : Nat :=
  natOf ((s.hi.links.find (partOf f)).any (·.flit)) + 2 * (if 2 < s.board.partSel then 0 else s.board.partSel) +
    8 * natOf (s.isOwner f) + 16 * natOf (s.board.ownerSel == 3) + 32 * natOf (idxOf f == 0) + 64 * natOf s.qe.window +
    128 * s.fld .qeStageMode 0 0 0 0 + 256 * s.fld .msBistCfg 0 0 1 1 + 512 * s.fld .msBistCfg 0 0 0 0 +
    1024 * natOf s.ms.pointer.trial

/-- Version of a table of the running image (R38): 0 the image as a whole, 8 its security version. -/
def State.tableVersion (s : State) (t : Nat) : Nat :=
  if t = 0 then s.ms.version
  else if t = 8 then ((s.activeImage.map (·.sv)).getD 0) * 65536
  else (s.activeImage.bind fun i => (i.tables.find? fun x => x.1 == t).map (·.2)).getD 0

/-- Exit time of a power state in ns (R37). -/
def exitTime (n : Nat) : Nat := if n = 1 then 50000 else if n = 2 then 2000000 else 30000000

/-- Base and size of every block instance in the owner's BAR0 (R34, as shipped), by block type and instance. -/
def State.blockList (s : State) : List (Nat × Nat × Nat × Nat) :=
  ((List.range s.parts).map fun i => (1, i, 0x20000 + 0x4000 * i, 0x4000)) ++
  [(2, 0, 0x40000, 0x40000), (3, 0, 0x80000, 0x10000), (4, 0, 0x90000, 0x10000)] ++
  ((List.range 4).map fun n => (5, n, 0xA0000 + 0x4000 * n, 0x4000)) ++
  [(6, 0, 0xB0000, 0x10000), (7, 0, 0xC0000, 0x10000), (8, 0, 0xD0000, 0x10000), (9, 0, 0xE0000, 0x10000)] ++
  ((List.range 8).map fun g => (10, g, 0x100000 + 0x10000 * g, 0x10000)) ++
  ((List.range 8).map fun g => (11, g, 0x180000 + 0x10000 * g, 0x10000)) ++
  [(12, 0, 0x200000, 0x20000), (13, 0, 0xF0000, 0x10000), (14, 0, 0x220000, 0x10000), (15, 0, 0x230000, 0x10000),
   (16, 0, 0x10000, 0x10000)]

/-- A block version, major 1 and minor 0 as in the example of R44. [DEDUCED, log entry 11] -/
def blockVersion : Nat := 0x0100

/-- Pages of a function: register page, doorbell region, peal pages, and the window where it is present (R40, R79, R102):
page index, base, size, BAR. [DEDUCED, log entry 12] -/
def State.pageList (s : State) : List (Nat × Nat × Nat × Nat) :=
  [(0, 0x1000000, 0x1000, 0), (1, 0, 0x140000, 2), (2, 0x140000, 0x40000, 2)] ++
    (if s.qe.window then [(3, 0, 0x1000, 4)] else [])

/-- The records of a function's view, in the order of R30 and with the content of R40. -/
def State.kltRecords (s : State) (f : Fn) : List Bytes :=
  [kltRecord 1 0 (bytesLE 8 (s.featureWord f))] ++
  ((List.range 8).map fun t => kltRecord 2 (t + 1) (bytesLE 4 (s.present (t + 1)) ++ bytesLE 4 (s.active (t + 1)))) ++
  ((List.range 23).map fun i =>
    kltRecord 3 (i + 1) (bytesLE 8 (s.limit f (i + 1)).1 ++ bytesLE 2 (s.limit f (i + 1)).2 ++ zeros 6)) ++
  ((List.range 3).map fun n => kltRecord 4 (n + 1) (bytesLE 4 (exitTime (n + 1)) ++ zeros 4)) ++
  ((List.range 9).map fun t => kltRecord 5 t (bytesLE 4 (s.tableVersion t) ++ zeros 4)) ++
  (if s.isOwner f then s.blockList.map fun b =>
    kltRecord 6 (b.1 * 65536 + b.2.1) (bytesLE 4 b.2.2.1 ++ bytesLE 4 b.2.2.2 ++ bytesLE 2 blockVersion ++ zeros 6)
   else []) ++
  (s.pageList.map fun p =>
    kltRecord 7 (2 * 65536 + p.1) (bytesLE 4 p.2.1 ++ bytesLE 4 p.2.2.1 ++ bytesLE 2 blockVersion ++
      bytesLE 1 p.2.2.2 ++ zeros 5))

/-! ### A view as read (R26 to R28) -/

/-- The root with a generation and a crc (R26). -/
def kltRoot (total count gen crc : Nat) : Bytes :=
  [0x4B, 0x4C, 0x54, 1] ++ bytesLE 4 total ++ bytesLE 2 count ++ bytesLE 2 gen ++ bytesLE 4 crc

/-- The bytes of a function's view: the generation reads 0 during a rebuild, and the crc covers the generation that stands
once rebuilds have ended (R28). -/
def State.kltView (s : State) (f : Fn) : Bytes :=
  let recs := s.klt.views.get [] f
  let body := recs.flatten
  let total := 16 + body.length
  let crc := (crc32c (kltRoot total recs.length s.klt.gen.toNat 0 ++ body)).toNat
  kltRoot total recs.length s.klt.shown.toNat crc ++ body

/-! ### Rebuilds (R41 to R43) -/

/-- A trigger covers a function's view. -/
def KltTrigger.covers (t : KltTrigger) (f : Fn) : Bool :=
  match t.scope with
  | .all => true
  | .fns l => l.contains f

/-- The generation after one more rebuild (R28). -/
def kltNext (g : BitVec 16) : BitVec 16 := if g = 0xFFFF then 1 else g + 1

/-- Rewrites the views of the functions that exist and that some trigger covers; a function that has gone has no view. -/
def State.rewriteViews (s : State) (l : List KltTrigger) : Tab (List Bytes) :=
  let kept := s.klt.views.keep fun f _ => s.hasFn f
  (s.allFns.filter fun f => l.any (·.covers f)).foldl (fun (t : Tab (List Bytes)) f => Tab.set t f (s.kltRecords f)) kept

/-- The rebuild that runs ends (R42, R43): the views take their new records and the generation, functions are told unless
only resets were covered, and one further rebuild begins for the triggers that arrived in the meantime. [DEDUCED, log entry 13] -/
def State.kltEnd (s : State) : State :=
  let run := s.klt.running
  if run.isEmpty || s.ms.phase != 2 then s
  else
    let g := kltNext s.klt.gen
    let wait := s.klt.waiting
    let s := { s with klt := { s.klt with
      views := s.rewriteViews run, gen := g, running := wait, waiting := [], shown := if wait.isEmpty then g else 0 } }
    let told := s.allFns.filter fun f => run.any (·.covers f)
    if run.all (·.reset) then s else told.foldl (fun s f => s.chime f 1 g.toNat 0) s

/-- KLT_REBUILD (R42): the sequence of a rebuild completes. -/
def execKltRebuild (s : State) : Host.Outcome State Fault Refusal := .next s.kltEnd

end Sys2Proof.Machine
end

