-- ==== Sys2Proof/Machine/Retire.lean ====
section
/-! DEFINITION. Retirement and return of units (01 R20 to R25; 19 R481, R485, R486) and crossings (01 R15 to R18). -/

namespace Sys2Proof.Machine

/-- Frames on a slot that are not verified are written again elsewhere (R22): each is cut on its slot and needs a rewrite. -/
def State.rewriteSlot (s : State) (slot : Nat) : State :=
  let hit := s.df.datasets.filter fun d => d.started && !d.verified && !d.abandoned && !d.failed && d.slots.contains slot
  hit.foldl (fun s d =>
    let i := (d.slots.idxOf? slot).getD 0
    let f := 48 + 4 * d.steps.getD i 0
    (List.range f).foldl (fun s pos =>
      if d.cut.contains (slot, pos) || d.graded.contains (slot, pos) then s
      else s.loseFrame ⟨d.num, d.geo.restart, slot, pos⟩) s) s

/-- An engine of CX leaves service; its parcel is rerun from its start elsewhere (R22). -/
def State.dropEngine (s : State) (n : Nat) : State :=
  let e := s.cx.engines.get { retired := false, job := none, inRest := 0, outRest := 0 } n
  { s with cx := { s.cx with engines := s.cx.engines.set n { e with retired := true, job := none } } }

/-- What leaves service with a unit, by COUNT type. -/
def State.dropUnit (s : State) (t n : Nat) : State :=
  match t with
  | 1 => (({ s with wc := { s.wc with retired := insBy id n s.wc.retired } }).yieldUnit 1 n).rewriteSlot n
  | 2 => { s with ed := { s.ed with retired := insBy id n s.ed.retired } }
  | 3 => s.dropEngine n
  | 4 => s.dropEngine (32 + n)
  | 5 => { s with ce := { s.ce with retired := insBy id n s.ce.retired } }
  | 7 => ({ s with sm := { s.sm with readersRetired := insBy id n s.sm.readersRetired } }).readersTrip
  | _ => s

/-- Streams lose what can no longer be written once a kind falls below its minimum (R25). -/
def State.newlyBelow (s : State) (t : Nat) (was : Bool) : State :=
  if !was && s.below t && [1, 2, 3, 5].contains t then s.cutOff else s

/-- Retires a unit (R21, R22): a memory channel takes its pair along at the next interleave rebuild (R23). -/
def State.retireUnit (s : State) (t n : Nat) : State :=
  if t = 6 then s.schedulePair (n / 2) n
  else if s.isRetired t n || !decide (n < s.present t) then s
  else
    let was := s.below t
    let s := if s.ms.slice = some (t, n) then { s with ms := { s.ms with slice := none } } else s
    ((s.dropUnit t n).tellRetired t n).newlyBelow t was

/-- A unit's retirement record is cleared (R486). A track returns to the active sets at the next wrap start, a channel pair at
the next interleave rebuild. -/
def State.restoreUnit (s : State) (t n : Nat) : State :=
  match t with
  | 1 => { s with wc := { s.wc with retired := s.wc.retired.filter (· != n) } }
  | 2 => { s with ed := { s.ed with retired := s.ed.retired.filter (· != n) } }
  | 3 => { s with cx := { s.cx with engines := s.cx.engines.each fun k (e : CxEngine) => if k = n then { e with retired := false } else e } }
  | 4 => { s with cx := { s.cx with engines := s.cx.engines.each fun k (e : CxEngine) =>
      if k = 32 + n then { e with retired := false } else e } }
  | 5 => { s with ce := { s.ce with retired := s.ce.retired.filter (· != n) } }
  | 6 => s.setPair (n / 2) { s.pair (n / 2) with retired := false, pendingRetire := false }
  | 7 => { s with sm := { s.sm with readersRetired := s.sm.readersRetired.filter (· != n) } }
  | _ => s

/-- Returns a unit to service (R22, R486). -/
def State.returnUnit (s : State) (t n : Nat) : State :=
  ((s.restoreUnit t n).logEv .unitReturned 0 (t * 65536 + n) 0).kltTrigger .all false

/-! ### Crossings (R18) -/

/-- A corrupted item of a crossing is not used (R18): a frame counts as not decoded, a parcel is taken again from where its
data lies. -/
def State.dropItem (s : State) (x : DbeItem) : State :=
  match x with
  | .frame place verify => s.holdFrame verify ⟨place, none, 0, 0, 0, 0⟩
  | .parcel ds i =>
    { s with
      pe := { s.pe with parcels := s.pe.parcels.map fun p =>
        if p.dataset = ds ∧ p.index = i ∧ p.verified = false then { p with sealedText := none } else p }
      ce := { s.ce with opened := s.ce.opened.filter fun o => !(o.dataset == ds && o.index == i) } }
  | .other => s

/-- CROSSING_DBE (R18): a double-bit error in the FIFO of a crossing between two islands, by their codes. -/
def execCrossingDbe (producer consumer : Nat) (item : DbeItem) (s : State) : Host.Outcome State Fault Refusal :=
  .next ((s.logEv .xingDbe 0 (producer % 32 * 32 + consumer % 32) 0).dropItem item)

end Sys2Proof.Machine
end

