-- ==== Sys2Proof/Machine/Reset.lean ====
section
/-! DEFINITION. Resets (03 R64, R70, R100; 05 R146; 17 R442 to R451): functions that go away, the resets of the whole part, and
the start that follows. -/

namespace Sys2Proof.Machine

/-! ### The work of a function that is reset (R70, R100, R254) -/

/-- A stream leaves its handle: a write stream closes after its last accepted command and its data still goes to tape; a read
stream is discarded. -/
def Stream.detached (x : Stream) : Stream :=
  { (if x.write then x.releaseRun else x) with handle := none, opening := false, closing := none, partialRead := false }

/-- Detaches a function's streams; a pending deferred error goes to the event log. -/
def State.detachStreams (s : State) (f : Fn) : State :=
  let mine := s.pe.streams.keys.filter fun k => (s.stream? k).any fun x =>
    (x.handle.any fun h => h.1 == f) || x.closing.any fun h => h.1 == f
  mine.foldl (fun s k =>
    let s := s.logDeferred k
    let s := s.modStream k Stream.detached
    { s with pe := { s.pe with decoded := s.pe.decoded.filter fun d =>
        !(d.stream == k && !(s.stream? k).any (·.write)) } }) s

/-- A function's KEK goes at once and its slots retire (R254); no reset changes a generation (R235). [DEDUCED, log entry 34] -/
def State.retireKeys (s : State) (f : Fn) : State :=
  let mine := s.ce.slots.keys.filter fun g => decide (s.keyBase f ≤ g ∧ g < s.keyBase f + s.keyCount f)
  let s := if (s.kek f).key.isSome then s.setKek f ⟨none, (s.kek f).gen⟩ else s
  mine.foldl (fun s g =>
    let k := s.slot g
    if k.state = 0 then s else (s.setSlot g { k with retiring := true }).settleRetiring g) s

/-- Accepted commands of a function run on; nothing of them reaches the host (R70). [DESIGN CHOICE, log entry 22] -/
def State.orphanCmds (s : State) (f : Fn) : State :=
  { s with qe := { s.qe with cmds := s.qe.cmds.map fun c => if c.fn = f then { c with ring := goneRing } else c } }

/-- Rings, completions, chimes and the window of a function are gone. -/
def State.dropRings (s : State) (f : Fn) : State :=
  let due := s.qe.ready.any fun r => r.fn == f && r.devrst
  { s with
    qe := { s.qe with
      sqs := s.qe.sqs.keep fun k _ => k.unpair.1 != f
      cqs := s.qe.cqs.keep fun k _ => k.unpair.1 != f
      ready := s.qe.ready.filter fun r => r.fn != f
      serving := if s.qe.serving = some f then none else s.qe.serving
      devrstDue := s.qe.devrstDue || due }
    hi := { s.hi with fns := s.hi.fns.del f }
    bm := { s.bm with
      bufs := s.bm.bufs.keep fun _ b => match b.owner with
        | .ring g _ => g != f
        | .unit _ _ => true
      waits := s.bm.waits.filter fun w => match w.who with
        | .ring g _ => g != f
        | .unit _ _ => true } }

/-- What a reset of one function does to its work (R70, R100, R254, R428, R464). -/
def State.stopFn (s : State) (f : Fn) : State :=
  let gone := sortBy Cmd.order (s.qe.cmds.filter fun c => c.fn == f && !c.accepted && c.ring != goneRing)
  let s := gone.foldl (fun s c => s.abandonCmd c) s
  let s := ((s.orphanCmds f).detachStreams f).retireKeys f
  let s := s.dropRings f
  let s := s.clearRegs fun r i => regOfPage r && i == f
  let s := { s with ct := { s.ct with session := s.ct.session.map fun (x : Session) => if x.fn = some f then { x with fn := none } else x } }
  if s.isOwner f then s.abandonUpdate 3 else s

/-- The VFs that a partition's PF has enabled. -/
def State.vfList (s : State) (p : Nat) : List Fn := (List.range (s.vfs p)).map fun i => fnOf p (i + 1)

/-- The number of enabled VFs of a partition. -/
def State.setVfs (s : State) (p n : Nat) : State :=
  { s with hi := { s.hi with numVfs := if n = 0 then s.hi.numVfs.del p else s.hi.numVfs.set p n } }

/-- FLR (R64, R100): an FLR of a PF takes its VFs along. [DEDUCED, log entry 48] -/
def State.flr (s : State) (f : Fn) : State :=
  if s.ms.phase ≠ 2 ∨ s.hasFn f = false then s
  else if idxOf f = 0 then
    let p := partOf f
    let fs := s.vfList p ++ [f]
    let s := fs.foldl (fun s g => s.stopFn g) s
    (s.setVfs p 0).kltTrigger (.fns fs) true
  else (s.stopFn f).kltTrigger (.fns [f]) true

/-- A PF changes its number of enabled VFs (R58, R100). A count above the quota is refused by its configuration space. -/
def State.vfCount (s : State) (p n : Nat) : State :=
  if s.ms.phase ≠ 2 ∨ s.parts ≤ p ∨ s.reg .hiVfQuota p 0 % 256 < n ∨ s.vfs p = n then s
  else
    let old := s.vfs p
    let gone := (s.vfList p).filter fun f => decide (n < idxOf f)
    let s := gone.foldl (fun s f => s.stopFn f) s
    (s.setVfs p n).kltTrigger (.fns ((List.range (max old n)).map fun i => fnOf p (i + 1))) false

/-- PERST_N of a partition (R70, R442). [DEDUCED, log entry 48] -/
def State.perst (s : State) (p : Nat) : State :=
  if s.parts ≤ p ∨ s.hi.perst.contains p = true then s
  else
    let s := { s with hi := { s.hi with perst := insBy id p s.hi.perst, links := s.hi.links.del p } }
    if s.ms.phase ≠ 2 then s
    else
      let fs := s.vfList p ++ [fnOf p 0]
      let s := fs.foldl (fun s f => s.stopFn f) s
      let s := (s.setVfs p 0).clearRegs fun r i => r.info.cls == .p && i == p
      s.kltTrigger (.fns fs) true

/-- A link that trains (R57, R448). -/
def linkTraining : Link := { state := 1, rate := 0, width := 0, flit := false, clk := true }

/-- PERST_N rises: the link leaves Detect, and the part wakes (R440, R448). -/
def State.perstEnd (s : State) (p : Nat) : State :=
  if s.hi.perst.contains p = false then s
  else
    let s := { s with hi := { s.hi with perst := s.hi.perst.filter (· != p) } }
    if s.ms.phase ≠ 2 then s
    else ({ s with hi := { s.hi with links := s.hi.links.set p linkTraining } }).wake 2

/-! ### Volatile state (R442, R444 to R446) -/

def engineGone (e : CxEngine) : CxEngine := { e with job := none, inRest := 0, outRest := 0 }

/-- No capture. -/
def cap0 : Capture := { armed := false, done := false, trig := false, left := none, index := 0, recs := [] }

/-- SM as a reset leaves it (R411, R444). [DEDUCED, log entry 48] -/
def State.resetSm (s : State) : SmState :=
  { s.sm with
    engines := [], coef := [], state := 0, brake := true, readers := [], valid := [], pes := 0, missing := 0, chain := 0
    reverse := false, speed := 0, wrap := none, band := none, reels := 0, bandSeen := none, target := 0, tripEngine := 0
    tripStep := 0, inject := none, cap := cap0 }

/-- A queue engine without rings and commands. -/
def State.resetQe (s : State) : QeState :=
  { sqs := [], cqs := [], cmds := [], nextId := s.qe.nextId, stamp := 0, resolved := 0, ready := [], roundStart := 0
    serving := none, turns := [], window := s.qe.window, leaving := false, devrstDue := false }

/-- CE with every key zeroised (R235, R254, R256); the identity key's working copy comes back with the start. [DEDUCED, log entry 34] -/
def State.resetCe (s : State) (por : Bool) : CeState :=
  { s.ce with
    slots := if por then [] else s.ce.slots.each fun _ (k : KeySlot) =>
      if k.state = 0 ∧ k.retiring = false then k else { keySlot0 with gen := k.gen }
    keks := if por then [] else s.ce.keks.each fun _ (k : Kek) =>
      if k.key.isNone then k else { key := none, gen := k.gen }
    epoch := if por then s.ce.epochBound else s.ce.epoch
    nextCore := 0, rest := [], zeroCount := if por then 0 else s.ce.zeroCount, healthy := false, retesting := false
    retests := 0, failed := false, drbgUses := 0, opened := [], identity := false }

/-- Classes a reset of the whole part clears (R49, R442). [DEDUCED, log entry 48] -/
def clearsClass (por : Bool) (r : RegName) (_inst : Nat) : Bool :=
  match r.info.cls with
  | .n => false
  | .a => por
  | _ => true

/-- Cartridge and session as a reset leaves them (R445, R428): a session waits for the next MOUNT of its cartridge. -/
def State.resetCt (s : State) : CtState :=
  { s.ct with
    gpio := 0, mounted := false, readOnly := false, cmOk := false, wp := false, formatted := false, removed := false
    written := false, scan := none, leaving := false
    session := (s.ct.nvProgress.findSome? fun e => (progressOf e.2).bind fun b =>
      if fieldBE b 4 1 = 0 then none else some (sessionOf b e.1 2)) }

/-- MS as a reset leaves it. [DEDUCED, log entry 16; DEDUCED, log entry 48] -/
def State.resetMs (s : State) (por keepScan : Bool) : MsState :=
  { s.ms with
    phase := 1, quiescent := false, power := 0, moving := false, cause := 0, wakeBuf := [], pages := [], upd := none
    lastAbandon := if s.updOpen then 3 else if por then 0 else s.ms.lastAbandon
    lastRollback := if por then 0 else s.ms.lastRollback
    shutDue := 0, slice := none, sliceLast := if por then (0, 0) else s.ms.sliceLast, loops := []
    unlocked := keepScan && s.ms.unlocked
    log := if por then [] else s.ms.log
    time := if por then 0 else s.ms.time
    since := if por then 0 else s.ms.time
    tempMax := if por then -32768 else s.ms.tempMax }

/-- Everything a reset of the whole part throws away (R442, R444 to R446). [DEDUCED, log entry 48] -/
def State.hardReset (s : State) (por : Bool) (keepScan : Bool := false) : State :=
  let s := (s.emptyPe.emptyDf).clearRegs (clearsClass por)
  { s with
    hi := { s.hi with numVfs := [], links := [], ownerNext := none, fns := [] }
    qe := s.resetQe
    bm := { bufs := [], waits := [], overdraft := 0, watch := 0, poolLow := if por then [] else s.bm.poolLow }
    cx := { engines := s.cx.engines.each fun _ (e : CxEngine) => engineGone e, images := [], outs := [] }
    ce := s.resetCe por
    df := { s.df with rwlMax := if por then 0 else s.df.rwlMax, fillRest := 0 }
    wc := { s.wc with gates := [], wmod := 0, triggers := s.wc.triggers.filter fun t => t == 1 || t == 3, inWindow := 0
                      inhibited := false, wfault := false }
    rc := { s.rc with chans := [], geos := [], adapted := [], written := [] }
    ed := { s.ed with iters := [] }
    vc := { slots := [], tallies := [], hints := [], mix := [] }
    mc := { s.mc with pairs := s.mc.pairs.each fun _ (p : McPair) => { p with ueSeen := [] } }
    sm := s.resetSm
    ct := s.resetCt
    ms := s.resetMs por keepScan
    latch := [], pendWord := [] }

/-! ### The start (R447, R450, R456, R457, R470, R479, R482, R495) -/

/-- Number of the slots a slot of the pointer leaves. -/
def State.slotImage (s : State) (slot : Nat) : Option Image := if slot = 0 then s.ms.slotA else s.ms.slotB

/-- The image of a slot passes the checks of a start (R455, R456). -/
def State.slotValid (s : State) (slot : Nat) : Bool :=
  (if slot = 0 then s.board.okA else s.board.okB) && (s.slotImage slot).any fun i => decide (s.ms.fused ≤ i.sv)

/-- The part stays in reset and says so (R456, R457). [DEDUCED, log entry 50] -/
def State.stuck (s : State) : State :=
  { s.logEv .xsFail 0 0 0 with ms := { (s.logEv .xsFail 0 0 0).ms with alert := true } }

/-- A trial that fails at a start is rolled back (R470). [DEDUCED, log entry 50] -/
def State.rollBackAtStart (s : State) (reason : Nat) : State :=
  let s := s.rollBack.logEv .rollback 0 reason 0
  { s with ms := { s.ms with lastRollback := reason, rollbackDue := some reason } }

/-- Chooses the image at step 6 (R456, R470): none where neither slot has a valid one. [DEDUCED, log entry 50] -/
def State.chooseImage (s : State) (por : Bool) : Option State :=
  let p := s.ms.pointer
  let s :=
    if p.trial then
      if !s.slotValid p.slot then s.rollBackAtStart 3
      else if por && decide (2 ≤ p.starts) then s.rollBackAtStart 2
      else if por then s.writePointer p.slot true (p.starts + 1) p.mark
      else s
    else s
  let p := s.ms.pointer
  let s := if !s.slotValid p.slot && !p.trial && s.slotValid (1 - p.slot) then s.writePointer (1 - p.slot) false 0 p.mark else s
  if s.slotValid s.ms.pointer.slot then
    let s := { s with ms := { s.ms with version := (s.activeImage.map (·.version)).getD 0 } }
    some (if s.ms.pointer.trial then s else s.blowFuses)
  else none

/-- A run of the self-test enters the results (R479 to R482): soft repairs, critical faults, failed units. [DESIGN CHOICE, log entry 57] -/
def State.recordRun (s : State) (run : Nat) (t : TestRead) : State :=
  let bad := (t.islands.any fun i => Nat.land (i.flags % 8) (7 - i.flags / 8 % 8) != 0 || bitOf i.flags 6) || !t.failed.isEmpty
  let crit := t.islands.any fun i => bitOf i.flags 6
  let s := { s with ms := { s.ms with
    test := { run := run, fail := bad, start := s.ms.time, ms := t.ms, seq := s.ms.test.seq + 1, islands := t.islands }
    critical := crit
    soft := t.repairs.foldl (fun (b : Tab Nat) r => Tab.upd b 0 (r.1 * 65536 + r.2.1) (· + r.2.2)) s.ms.soft } }
  t.failed.foldl (fun s u => s.retireUnit u.1 u.2) s

/-- Settles channel pairs (R23): what was scheduled leaves the interleave. [DEDUCED, log entry 47] -/
def State.interleave (s : State) : State :=
  { s with mc := { s.mc with pairs := s.mc.pairs.each fun _ (p : McPair) =>
    let out := p.retired || p.pendingRetire
    { p with retired := out, pendingRetire := false, active := !out } } }

/-- The highest supported data rate that the board allows (R201). -/
def trainedRate (mts : Nat) : Nat := ([8533, 7500, 6400, 5500, 4266].find? fun r => decide (r ≤ mts)).getD 0

/-- Densities differ (R201). -/
def State.densitiesDiffer (s : State) : Bool :=
  let l := s.board.density.filter (fun d => decide (1 ≤ d))
  l.any fun d => l.any fun e => d != e

/-- The owner at a start (R62): from the straps, or from MS_SB_OWNER. -/
def State.startOwner (s : State) : Option Nat :=
  if s.board.ownerSel = 3 then
    if s.fld .msSbOwner 0 0 2 2 = 1 ∧ s.fld .msSbOwner 0 0 1 0 < s.parts then some (s.fld .msSbOwner 0 0 1 0) else none
  else if s.board.ownerSel < s.parts then some s.board.ownerSel
  else some 0

/-- Straps that name what the part does not have (R56, R62). -/
def State.strapBad (s : State) : Bool :=
  s.board.partSel == 3 || (s.board.ownerSel != 3 && decide (s.parts ≤ s.board.ownerSel))

/-- Gives every function under a quota a tenant number of its own (R59). -/
def State.repairTenants (s : State) : State :=
  (s.quotaFns.foldl (fun (a : State × List Nat) f =>
    let t := a.1.tenant f
    if t = 0 ∨ a.2.contains t = true then
      let n := a.1.freeTenant
      (a.1.writeN .hiFnTenant (partOf f) (idxOf f) n, n :: a.2)
    else (a.1, t :: a.2)) (s, [])).1

/-- Links train where PERST_N is not asserted (R448). -/
def State.startLinks (s : State) : State :=
  { s with hi := { s.hi with links :=
    ((List.range s.parts).filter fun p => !s.hi.perst.contains p).map fun p => (p, linkTraining) } }

/-- Steps 7 to 9 (R447): keys, randomness, defaults, buffer memory, owner, links; the KLT build begins. [DEDUCED, log entry 16; DEDUCED, log entry 49] -/
def State.startUp (s : State) (por : Bool) : State :=
  let s := s.draw.interleave
  let s := { s with
    ce := { s.ce with healthy := s.board.trngOk, failed := !s.board.trngOk, seeds := s.ce.seeds + 1, identity := true }
    mc := { s.mc with mts := trainedRate s.board.mts } }
  let s := if s.board.trngOk then s else (s.bump .ceTrngFail 0 0).logEv .trngFail 0 0 0
  let s := if s.densitiesDiffer then s.logEv .mismatch 0 0 0 else s
  if (List.range 4).all (fun n => !((s.mc.pairs.find n).any (·.active))) then s
  else
    let s := { s with hi := { s.hi with owner := s.startOwner } }
    let s := if por && s.strapBad then s.logEv .strapBad 0 (s.board.ownerSel * 4 + s.board.partSel) 0 else s
    let s := s.repairTenants.startLinks
    let s := { s with
      qe := { s.qe with window := s.fld .qeWindowEn 0 0 0 0 == 1 }
      klt := { shown := 0, gen := if por then 0 else s.klt.gen, running := [⟨.all, true⟩], waiting := []
               views := if por then [] else s.klt.views }
      ms := { s.ms with phase := 2, alert := s.startOwner.isNone && s.board.ownerSel == 3, rollbackDue := s.ms.rollbackDue } }
    match s.ms.rollbackDue with
    | some r => if s.hi.owner.isSome then ({ s with ms := { s.ms with rollbackDue := none } }).chimeOwner 0x204 r 0 else s
    | none => s

/-- The log after POR: the summary replayed with bit 7 of the severity set, the sequence at the reserved bound (R492, R495). [DEDUCED, log entry 16] -/
def State.replayLog (s : State) : State :=
  { s with ms := { s.ms with
    log := s.ms.nvSummary.map fun e => { e with sev := e.sev % 128 + 128 }, seq := s.ms.seqBound } }

/-- Reads and clears the clean-shutdown record (R450). [DEDUCED, log entry 49] -/
def State.readClean (s : State) : State :=
  let s := if s.ms.clean then s else s.setFld .msResetCause 0 0 4 4 1
  { s with ms := { s.ms with clean := false } }

/-- A start from step 4 on (R447). `mem` is what the memory-only test finds, where it runs (R482). -/
def State.start (s : State) (por : Bool) (mem : TestRead) : State :=
  let s := if por then s.replayLog else s
  if s.board.flashMib < 32 then s.stuck
  else
    let dirty := !s.ms.clean
    let s := s.readClean
    let s := if s.ms.critical then s.logEv .bistFail 0 0 0 else s
    let s := if por && dirty && s.fld .msBistCfg 0 0 0 0 == 1 then (s.recordRun 2 mem).setFld .msResetCause 0 0 5 5 1 else s
    match s.chooseImage por with
    | none => s.stuck
    | some s => s.startUp por

/-- A test run that finds nothing. -/
def test0 : TestRead := { islands := [], failed := [], repairs := [], ms := 0 }

/-- A device reset: DEVRST (cause bit 2) or the sideband's (cause bit 3) (R146, R443). [DEDUCED, log entry 48] -/
def State.deviceReset (s : State) (bit : Nat) : State :=
  ((s.hardReset false true).setFld .msResetCause 0 0 bit bit 1).start false test0

/-- The reset that follows the posting of a DEVRST's completion (R146). -/
def State.settleDevrst (s : State) : State := if s.qe.devrstDue then s.deviceReset 2 else s

/-! ### The commands -/

/-- COMPLETION_POST (R88, R146): the first completion that can be posted is. -/
def execCompletionPost (s : State) : Host.Outcome State Fault Refusal := .next s.postOne.settleDevrst

/-- CHIME_POST (R94). -/
def execChimePost (fn : Nat) (s : State) : Host.Outcome State Fault Refusal := .next (s.chimePost fn).settleDevrst

/-- PERST_N_ASSERT (R70, R442). -/
def execPerstNAssert (part : Nat) (s : State) : Host.Outcome State Fault Refusal := .next (s.perst part)

/-- PERST_N_DEASSERT (R440, R448). -/
def execPerstNDeassert (part : Nat) (s : State) : Host.Outcome State Fault Refusal := .next (s.perstEnd part)

/-- FLR (R100). -/
def execFlr (fn : Nat) (s : State) : Host.Outcome State Fault Refusal := .next (s.flr fn).settleDevrst

/-- VF_COUNT_CHANGE (R100). -/
def execVfCountChange (part count : Nat) (s : State) : Host.Outcome State Fault Refusal := .next (s.vfCount part count)

/-- DEVRST (R146): the completions of its ring that wait are posted in order, its own among them; then the part is reset. -/
def execDevrst (id : Nat) (s : State) : Host.Outcome State Fault Refusal :=
  .next (s.onCommand id 0x53 fun s c =>
    let s := s.finishCmd c stSuccess 0 0
    let s := if c.ring = windowRing then { s with qe := { s.qe with devrstDue := true } }
      else s.postRing c.fn (s.boundCq c.fn c.ring) s.qe.ready.length
    s.settleDevrst)

/-- MS_SB_DEVRST_WRITE (R443): only the sideband's write counts. [DEDUCED, log entry 52] -/
def execMsSbDevrstWrite (value : Word) (s : State) : Host.Outcome State Fault Refusal :=
  .next (s.regWrite .sideband .msSbDevrst 0 value fun s v => if v % 256 = 0xD5 then s.deviceReset 3 else s)

/-- A write to MS_SB_OWNER over the sideband (R62, R64, R452). [DEDUCED, log entry 52] -/
def State.writeSbOwner (s : State) (v : Nat) : State :=
  let new_ := v % 8
  if s.reg .msSbOwner 0 0 = new_ then s
  else if s.board.ownerSel ≠ 3 then s.rwlReject .msSbOwner 0
  else if bitOf new_ 2 && decide (s.parts ≤ new_ % 4) then s.rwlReject .msSbOwner 0
  else
    let s := s.setReg .msSbOwner 0 0 new_
    ({ s with hi := { s.hi with ownerNext := some (if bitOf new_ 2 then some (new_ % 4) else none) } }).settleOwner

/-- MS_SB_OWNER_WRITE (R62, R64). -/
def execMsSbOwnerWrite (value : Word) (s : State) : Host.Outcome State Fault Refusal :=
  .next (s.regWrite .sideband .msSbOwner 0 value fun s v => s.writeSbOwner v)

/-- POWER_ON (R447): the supplies are good; the board, and what a memory-only test would find. -/
def execPowerOn (board : Board) (mem : TestRead) (s : State) : Host.Outcome State Fault Refusal :=
  .next (if s.ms.phase ≠ 0 then s
    else
      let s := { s with board := board }
      ({ s with ms := { s.ms with phase := 1, ioUp := true } }).start true mem)

/-- POWER_LOSS (R442, R444, R449): the volatile state is gone; `io` tells whether VDD_IO stays up. -/
def execPowerLoss (io : Bool) (s : State) : Host.Outcome State Fault Refusal :=
  .next (if s.ms.phase = 0 then { s with ms := { s.ms with ioUp := io } }
    else
      let s := s.hardReset true
      { s with ms := { s.ms with phase := 0, ioUp := io, alert := false } })

/-- RESET_N_ASSERT (R442). -/
def execResetNAssert (s : State) : Host.Outcome State Fault Refusal :=
  .next (if s.ms.phase = 0 then s else (s.hardReset false).setFld .msResetCause 0 0 1 1 1)

/-- RESET_N_DEASSERT (R447): steps 4 and 6 to 9 run; the straps are not sampled again (R56), what the flash and the memory are
found to be is. -/
def execResetNDeassert (board : Board) (s : State) : Host.Outcome State Fault Refusal :=
  .next (if s.ms.phase ≠ 1 then s
    else ({ s with board := { board with
      partSel := s.board.partSel, ownerSel := s.board.ownerSel, lite := s.board.lite } }).start false test0)

/-- VDD_IO_UP (R447 step 1): the I/O ring drives the reset levels. -/
def execVddIoUp (s : State) : Host.Outcome State Fault Refusal :=
  .next (if s.ms.phase = 0 then { s with ms := { s.ms with ioUp := true } } else s)

end Sys2Proof.Machine
end

