-- ==== Sys2Proof/Machine/RegRead.lean ====
section
/-! DEFINITION. Reading registers (02 R26, R40, R44 to R47; the register tables of 03 to 20). -/

namespace Sys2Proof.Machine

/-! ### Where a register lies -/

/-- The instances a block has (R32). -/
def State.instOk (s : State) (b : Blk) (inst : Nat) : Bool :=
  match b with
  | .hi => decide (inst < s.parts)
  | .mc => decide (inst < 4)
  | .wc | .rc => decide (inst < 8)
  | .peal => decide (inst < 64)
  | _ => inst == 0

/-- An access from this source sees the block or page (R40, R52, R505): blocks are mapped in the owner's BAR0 alone, MS through the
sideband too; every function has pages of its own. [DEDUCED, log entry 51] -/
def State.sees (s : State) (src : Port) (b : Blk) : Bool :=
  match src, b with
  | .sideband, .ms => true
  | .sideband, _ => false
  | .fn f, .klt | .fn f, .qePage | .fn f, .peal | .fn f, .msix | .fn f, .bells => s.hasFn f
  | .fn f, .task => s.hasFn f && s.qe.window
  | .fn f, _ => s.isOwner f

/-- The function of a page access. -/
def portFn : Port → Nat
  | .fn f => f
  | .sideband => 0

/-- A place, where a condition on the selector holds. -/
def placeIf (ok : Bool) (inst sel : Nat) : Option (Nat × Nat) := if ok then some (inst, sel) else none

/-- Instance and selector under which a register is kept, at an index of its array; none where the selector names nothing. [DEDUCED, log entry 51] -/
def State.regPlace (s : State) (src : Port) (r : RegName) (inst idx : Nat) : Option (Nat × Nat) :=
  let f := (portFn src)
  match r with
  | .qeSqAddrLo | .qeSqAddrHi | .qeSqCfg | .qeSqCtrl | .qeSqStatus =>
    let n := s.fld .qeSqSel f 0 17 0
    placeIf (decide (n < s.sqCount f)) f n
  | .qeCqAddrLo | .qeCqAddrHi | .qeCqCfg | .qeCqMod | .qeCqCtrl | .qeCqStatus =>
    let n := s.fld .qeCqSel f 0 15 0
    placeIf (decide (n < s.cqCount f)) f n
  | .hiFnTenant | .hiFnSqBase | .hiFnSqCount | .hiFnCqBase | .hiFnCqCount | .hiFnVecBase | .hiFnVecCount | .hiFnStreamQuota
  | .hiFnKeyBase | .hiFnKeyCount | .hiFnBufMin | .hiFnBufMax | .hiFnWeight =>
    (s.selFn inst).map fun g => (partOf g, idxOf g)
  | .peSlotState => let n := s.fld .peSlotSel 0 0 7 0; placeIf (decide (n < 136)) 0 n
  | .bmPoolTotal | .bmPoolFree | .bmPoolLow | .bmPoolFall =>
    let n := s.fld .bmPoolSel 0 0 2 0
    placeIf (decide (n < 5)) 0 n
  | .bmWmCfg | .bmWmLevel => some (0, s.fld .bmWmSel 0 0 3 0)
  | .bmXingCorr => some (0, s.fld .bmXingSel 0 0 9 0)
  | .cxEngState | .cxEngIn | .cxEngOut | .cxEngStored =>
    let n := s.fld .cxEngSel 0 0 5 0
    placeIf (decide (n % 32 < s.present (3 + n / 32))) 0 n
  | .ceCoreState | .ceCoreBytes => let n := s.fld .ceCoreSel 0 0 4 0; placeIf (decide (n < s.present 5)) 0 n
  | .wcChTrim | .wcChState | .wcChFramesLo | .wcChFramesHi =>
    let n := s.fld .wcChSel inst 0 4 0
    placeIf (decide (n < 17)) inst n
  | .rcChState | .rcChFreeze | .rcChAfe | .rcChLoops | .rcTapSel | .rcChMse | .rcChFramesLo | .rcChFramesHi | .rcChMiss
  | .rcChDefect | .rcChPreFail =>
    let n := s.fld .rcChSel inst 0 4 0
    placeIf (decide (n < 17)) inst n
  | .rcTap =>
    let n := s.fld .rcChSel inst 0 4 0
    let t := s.fld .rcTapSel inst n 5 0
    placeIf (decide (n < 17 ∧ t < 35)) inst (64 * n + t)
  | .edLaneState | .edLaneFrames => let n := s.fld .edLaneSel 0 0 6 0; placeIf (decide (n < s.present 2)) 0 n
  | .edSlotC1fail | .edSlotRetry | .edSlotIter => let n := s.fld .edSlotSel 0 0 7 0; placeIf (decide (n < 136)) 0 n
  | .vcSlotVfyLo | .vcSlotVfyHi | .vcSlotFails | .vcSlotPoor | .vcSlotLast =>
    let n := s.fld .vcSlotSel 0 0 7 0
    placeIf (decide (n < 136)) 0 n
  | .vcCalCtrl | .vcCalState | .vcCalTrims | .vcCalWin | .vcBenchRes =>
    let n := s.fld .vcCalSel 0 0 7 0
    placeIf (decide (n < 136)) 0 n
  | .smLoopCtrl | .smLoopRate | .smLoopStatus | .smCoefData =>
    placeIf (decide (s.selEngine < 6)) 0 s.selEngine
  | _ =>
    match r.info.blk with
    | .qePage | .task => some (f, idx)
    | .peal => some (f, pealSel inst idx)
    | _ => some (inst, idx)

/-- Low and high word of the 64-bit registers (R45). -/
def highWord : RegName → Option RegName
  | .qeSqAddrLo => some .qeSqAddrHi
  | .qeCqAddrLo => some .qeCqAddrHi
  | .peFrontierDsLo => some .peFrontierDsHi
  | .peRemainLo => some .peRemainHi
  | .mcUeAddrLo => some .mcUeAddrHi
  | .wcChFramesLo => some .wcChFramesHi
  | .rcChFramesLo => some .rcChFramesHi
  | .vcSlotVfyLo => some .vcSlotVfyHi
  | .msTimeLo => some .msTimeHi
  | .msLogSeqLo => some .msLogSeqHi
  | _ => none

/-- The low word of a high one. -/
def lowWord : RegName → Option RegName
  | .qeSqAddrHi => some .qeSqAddrLo
  | .qeCqAddrHi => some .qeCqAddrLo
  | .peFrontierDsHi => some .peFrontierDsLo
  | .peRemainHi => some .peRemainLo
  | .mcUeAddrHi => some .mcUeAddrLo
  | .wcChFramesHi => some .wcChFramesLo
  | .rcChFramesHi => some .rcChFramesLo
  | .vcSlotVfyHi => some .vcSlotVfyLo
  | .msTimeHi => some .msTimeLo
  | .msLogSeqHi => some .msLogSeqLo
  | _ => none

/-- A port as part of a key: each function has a latch of its own. -/
def portCode : Port → Nat
  | .sideband => 0
  | .fn f => f + 1

/-- Key of the latch and of the pending word of a 64-bit register. -/
def pairKey (lo : RegName) (inst sel : Nat) (src : Port) : Nat := regKey lo inst (Nat.pair sel (portCode src))

/-! ### Status registers (the RO fields of the register tables) -/

/-- BLOCK_ID (R34): version 1.0, instance, block type. [DEDUCED, log entry 11] -/
def blockIdOf (b : Blk) (inst : Nat) : Nat :=
  0x01000000 + (match b with
    | .peal => 0
    | _ => inst % 256) * 256 + blkCode b

/-- HI_LINK_STATUS. -/
def State.linkStatus (s : State) (p : Nat) : Nat :=
  match s.hi.links.find p with
  | some l => l.state % 8 + l.rate % 8 * 8 + l.width % 32 * 64 + natOf l.flit * 2048
  | none => 0

/-- PE_SLOT_STATE. -/
def State.slotState (s : State) (n : Nat) : Nat :=
  let c := s.cal n
  s.healthOf n % 256 * 256 + (if s.pe.active.contains n then c.step else 0) % 16 * 16 +
    8 * natOf (s.isRetired 1 n || c.retired) + 4 * natOf (s.excluded n) + 2 * natOf (s.pe.idle.contains n) +
    natOf (s.pe.active.contains n)

/-- Units' state bits: busy, retired, present. -/
def unitBits (present busy retired : Bool) : Nat := natOf present + 2 * natOf busy + 4 * natOf retired

/-- WC_CH_STATE. -/
def State.wcState (s : State) (g pos : Nat) : Nat :=
  let n := 17 * g + pos
  let act := s.pe.active.contains n
  1 + 2 * natOf act + 4 * natOf (act && s.wc.gates.contains g) + 8 * natOf (s.isRetired 1 n) + 16 * ((s.cal n).step % 16)

/-- RC_CH_STATE. -/
def State.rcStateOf (s : State) (g pos : Nat) : Nat :=
  let n := 17 * g + pos
  let c := s.rc.chans.get rcChan0 n
  1 + 2 * natOf c.active + 4 * natOf (s.isRetired 1 n) + 8 * natOf c.locked + 16 * (c.step % 16)

/-- The write module of the current wrap is module 2 (R384); module 0 with no wrap in progress. -/
def State.trimModule2 (s : State) : Bool := (s.sm.wrap.map isReverse).getD false

def Trims.word (t : Trims) : Nat := t.iw % 64 + t.pre1 % 32 * 256 + t.pre2 % 32 * 65536

/-- VC_CAL_STATE. -/
def State.calState (s : State) (n : Nat) : Nat :=
  let c := s.cal n
  c.step % 8 + (c.window.length % 32) * 128 + (if s.ditherStep = 0 ∨ s.trimFrozen n = true then 3 else c.trim % 4) * 4096 +
    natOf c.retired * 16384

/-- VC_CAL_WIN. -/
def State.calWin (s : State) (n : Nat) : Nat :=
  let w := (s.cal n).window
  if w.isEmpty then 0
  else
    (w.map CalRec.worst).foldl min 255 * 2 ^ 24 + (w.map CalRec.mean).sum / w.length % 256 * 65536 +
      min 255 (w.map CalRec.k).sum * 256 + min 255 (w.map CalRec.probeFails).sum

/-- VC_BENCH_RES. -/
def State.benchRes (s : State) (n : Nat) : Nat :=
  match (s.cal n).bench with
  | some b => natOf b.locked * 2 ^ 31 + min 255 b.mse * 65536 + min 65535 b.errors
  | none => 0

/-- Four step counts of VC_STEP_MIX. -/
def State.stepMix (s : State) (lo : Nat) : Nat := ((List.range 4).map fun i => (s.vc.mix.getD (lo + i) 0) % 256 * 2 ^ (8 * i)).sum

/-- SM_LOOP_RATE of LAT: servo frames per second at the period last seen. [DEDUCED, log entry 19] -/
def State.latRate (s : State) : Nat :=
  match s.readersInUse.findSome? fun k => (s.sm.readers.find k).bind Reader.period with
  | some p => if 0 < p then (2000000000000 / p).toNat % 1048576 else 0
  | none => 0

/-- SM_LOOP_STATUS. [DEDUCED, log entry 19] -/
def State.loopStatus (s : State) (e : Nat) : Nat :=
  let g := s.engine e
  (quot g.out 65536 % 65536).toNat * 65536 + natOf (g.clipHigh || g.clipLow) * 32768 + natOf g.intHeld * 16384 + g.overruns % 4

/-- A word of the capture window: the page that SM_CAP_PAGE names (R410). -/
def State.capWord (s : State) (i : Nat) : Nat :=
  let at_ := s.fld .smCapPage 0 0 5 0 * 8192 + i
  match s.sm.cap.recs[at_ / 8]? with
  | some r => natLE (part r.bytes (4 * (at_ % 8)) 4)
  | none => 0

/-- SM_SPD_NOW (R335). -/
def State.spdNow (s : State) : Nat :=
  (if s.sm.state = 2 ∧ s.df.backhitch = false ∧ 40 ≤ s.df.speed then (s.df.speed - 40) % 256 else 255) +
    natOf s.df.backhitch * 256

/-- CT_MEDIA. -/
def State.media (s : State) : Nat :=
  natOf s.ct.threaded + 2 * natOf s.ct.mounted + 4 * natOf s.ct.readOnly + 8 * natOf s.ct.wp + 16 * natOf s.ct.cmOk +
    32 * natOf (s.ct.session.any fun x => x.state != 3)

/-- Partitions on a PHY island: lanes 0 to 7 and 8 to 15 (R56). -/
def State.onPhy (s : State) (i : Nat) : List Nat :=
  match s.parts with
  | 1 => [0]
  | 2 => [i]
  | _ => [2 * i, 2 * i + 1]

/-- A PHY island keeps its power in A3 where a host has not let its link into L1.2 (R438, R441). -/
def State.phyOn (s : State) (i : Nat) : Bool := (s.onPhy i).any fun p => (s.hi.links.find p).any (·.clk)

/-- Islands powered (R435, R457). -/
def State.islandOn (s : State) (i : Nat) : Bool :=
  if s.ms.phase ≠ 2 then i == 0 || i == 1 || i == 24
  else if s.ms.power = 3 ∧ (i = 2 ∨ i = 3) then s.phyOn (i - 2)
  else !(offIslands s.ms.power).contains i

/-- Islands clocked (R435): A1 gates the track groups, A2 FE. -/
def State.islandClk (s : State) (i : Nat) : Bool :=
  s.islandOn i && !(s.ms.power == 1 && decide (14 ≤ i ∧ i ≤ 21)) && !(s.ms.power == 2 && i == 12)

def islandMask (p : Nat → Bool) : Nat := ((List.range 25).map fun i => natOf (p i) * 2 ^ i).sum

/-- MS_UPD_STATE (R475). -/
def State.updWord (s : State) : Nat :=
  let p := s.ms.pointer
  s.updState % 8 + 8 * natOf p.trial + 16 * natOf ((s.ms.upd.bind (·.verified)).isSome) + 32 * p.slot + 64 * (p.starts % 4) +
    256 * ((s.ms.upd.map (·.holder)).getD 0 % 256)

/-- MS_BIST_STATUS (R499). -/
def State.bistStatus (s : State) : Nat := s.ms.test.run % 8 + 64 * natOf s.ms.test.fail + 128 * natOf s.ms.critical

/-- Free value of a sensor or pin (MS_TEMP, MS_GPIO_IN): what is outside is not given. [DESIGN CHOICE, log entry 10] -/
def State.freeWord (s : State) (k : Nat) : Nat := Config.freeNat k s.fresh

/-- A status register of a block for the host, where the model computes it. [DEDUCED, log entry 19] -/
def State.status (s : State) (r : RegName) (inst sel : Nat) : Option Nat :=
  match r with
  | .hiLinkStatus => some (s.linkStatus inst)
  | .hiStrap => some (s.board.partSel % 4 + s.board.ownerSel % 4 * 4)
  | .hiOwner => some ((s.hi.owner.map (· + 4)).getD 0)
  | .qeSqStatus =>
    let q := s.sq inst sel
    some (q.head + 2 ^ 29 * natOf q.enabled + 2 ^ 30 * natOf q.resetting + 2 ^ 31 * natOf q.failed)
  | .qeCqStatus =>
    let q := s.cq inst sel
    some (q.tail + 2 ^ 29 * natOf q.enabled + 2 ^ 30 * natOf q.phase + 2 ^ 31 * natOf q.failed)
  | .qeActiveSq => some s.activeSq
  | .peFrontierDsLo => some ((if s.ct.mounted then s.pe.nextDataset else 0) % 2 ^ 32)
  | .peFrontierDsHi => some ((if s.ct.mounted then s.pe.nextDataset else 0) / 2 ^ 32 % 65536)
  | .peFrontierWrap => some (if s.ct.mounted then (s.pe.frontier.map fun p => p.1 + 256).getD 0 else 0)
  | .peFrontierChain => some (if s.ct.mounted then (s.pe.frontier.map fun p => s.chainOf p.1 p.2).getD 0 else 0)
  | .peRemainLo => some ((if s.ct.mounted then s.remain else 0) % 2 ^ 32)
  | .peRemainHi => some ((if s.ct.mounted then s.remain else 0) / 2 ^ 32 % 2 ^ 32)
  | .peOpenStreams => some s.streamsOpen
  | .peSlotState => some (s.slotState sel)
  | .peScanStatus => some ((s.ct.scan.map fun n => 2 ^ 30 + n % 65536).getD 0)
  | .bmPoolTotal => some (s.poolTotal sel)
  | .bmPoolFree => some (s.poolFree sel)
  | .bmPoolLow => some (s.bm.poolLow.get (s.poolTotal sel) sel)
  | .bmWmLevel => some (s.watchLevel sel)
  | .bmWmState => some s.bm.watch
  | .bmOverdraft => some (s.bm.overdraft / mib)
  | .mcCfg => some (s.mc.mts + 65536 * (s.board.density.getD (2 * inst) 0) + 2 ^ 20 * (s.board.density.getD (2 * inst + 1) 0))
  | .mcStatus =>
    let p := s.pair inst
    some (natOf p.active + 2 * natOf p.pendingRetire + 4 * natOf p.retired)
  | .cxEngState =>
    let e := s.cx.engines.find sel
    some (unitBits true (e.any fun e => e.job.isSome) (e.any (·.retired)))
  | .ceCoreState => some (unitBits true false (s.ce.retired.contains sel))
  | .ceDeviceNum => some Config.deviceNumber.toNat
  | .ceEpoch => some s.ce.epoch
  | .ceTrngStatus => some (natOf s.ce.healthy + 2 * natOf s.ce.retesting + 4 * natOf s.ce.failed)
  | .dfRwlLen => some s.df.rewrites.length
  | .dfRwlMax => some s.df.rwlMax
  | .dfQueue => some (min 7 s.df.queue.length)
  | .wcChTrim => some ((s.cal (17 * inst + sel)).trimsFor s.trimModule2).word
  | .wcChState => some (s.wcState inst sel)
  | .wcGate =>
    some (natOf (s.wc.gates.contains inst) + 2 * natOf s.wc.inhibited + 4 * natOf (s.wc.triggers.contains 3))
  | .rcChState => some (s.rcStateOf inst sel)
  | .edLaneState => some (unitBits true false (s.ed.retired.contains sel))
  | .edSlotIter =>
    let l := s.ed.iters.get [] sel
    some (if l.isEmpty then 0 else l.sum * 256 / l.length)
  | .vcCalState => some (s.calState sel)
  | .vcCalTrims =>
    let c := s.cal sel
    some (if s.fld .vcCalSel 0 0 8 8 = 1 then c.trims2 else c.trims0).word
  | .vcCalWin => some (s.calWin sel)
  | .vcBenchRes => some (s.benchRes sel)
  | .vcStepMix0 => some (s.stepMix 0)
  | .vcStepMix1 => some (s.stepMix 4)
  | .rcChAfe | .rcChLoops | .rcTap => some (s.loopReg r inst sel)
  | .smTransport => some s.sm.state
  | .smLoopCtrl =>
    let g := s.engine sel
    some (natOf g.closed * 3 + g.mode % 4 * 16 + s.loopSource sel * 256)
  | .smLoopRate => if sel = 0 then some s.latRate else none
  | .smLoopStatus => some (s.loopStatus sel)
  | .smCoefData =>
    let w := s.fld .smCoefAddr 0 0 5 0
    some (if 60 < w then 0 else (s.coefWord sel (s.fld .smCoefAddr 0 0 7 6) w).toNat)
  | .smPes => some (s.sm.pes % 4294967296).toNat
  | .smChain => some (s.sm.chain / 2)
  | .smSpeed => some (s.sm.speed % 65536 + natOf s.sm.reverse * 65536)
  | .smRdrState =>
    let m := fun (l : List Nat) => ((List.range 6).map fun k => natOf (l.contains k) * 2 ^ k).sum
    some (m s.sm.valid + 256 * m s.sm.readersRetired + s.fld .smRdrState 0 0 21 16 * 65536)
  | .smInjCfg => some (s.reg .smInjCfg 0 0 % 2 ^ 31 + 2 ^ 31 * natOf s.sm.inject.isSome)
  | .smCapCfg => some (s.reg .smCapCfg 0 0 % 2 ^ 31 + 2 ^ 31 * natOf s.sm.cap.armed)
  | .smCapStatus => some (s.sm.cap.recs.length + 2 ^ 30 * natOf s.sm.cap.armed + 2 ^ 31 * natOf s.sm.cap.done)
  | .smCapWin => some (s.capWord sel)
  | .smSpdNow => some s.spdNow
  | .ctSense => some s.sense
  | .ctMedia => some s.media
  | .msPwrState => some (s.ms.power + 4 * natOf s.ms.moving + 256 * s.ms.cause)
  | .msIslandOn => some (islandMask s.islandOn)
  | .msIslandClk => some (islandMask s.islandClk)
  | .msPllLock => some (islandMask s.islandClk)
  | .msTimeLo => some (s.ms.time % 2 ^ 32)
  | .msTimeHi => some (s.ms.time / 2 ^ 32 % 2 ^ 32)
  | .msUpdState => some s.updWord
  | .msSvFused => some s.ms.fused
  | .msImgVer => some s.ms.version
  | .msImgSv => some ((s.activeImage.map fun i => i.sv % 128 + i.schema % 65536 * 65536).getD 0)
  | .msXsCfg => some (s.board.flashMode % 4 + s.board.flashMhz % 256 * 256 + s.board.flashMib % 65536 * 65536)
  | .msJrnlUse => some (min 255 (s.ms.journal * 256 / journalArea))
  | .msBistStatus => some s.bistStatus
  | .msRepair => some (s.ms.fuseLeft % 1024 + (s.ms.soft.vals.sum % 65536) * 65536)
  | .msLogSeqLo => some (s.ms.seq % 2 ^ 32)
  | .msLogSeqHi => some (s.ms.seq / 2 ^ 32 % 2 ^ 32)
  | .msDbgCtrl => some (256 * natOf s.ms.unlocked)
  | .msTemp => some (s.freeWord 6 % 65536 + s.freeWord 7 % 25 * 2 ^ 24)
  | .msTempMax => some (s.ms.tempMax % 65536).toNat
  | .msGpioIn => some (s.freeWord 8 % 65536)
  | _ => none

/-- A register's value at a place, as a read returns it. -/
def State.peek (s : State) (r : RegName) (inst sel : Nat) : Nat :=
  match s.status r inst sel with
  | some v => v
  | none => Nat.land (s.reg r inst sel) (0xFFFFFFFF - r.info.wo)

/-! ### Reads (R45 to R47) -/

/-- What a read that covers an RC field leaves behind (R46, R205, R341, R521). -/
def State.clearOnRead (s : State) (r : RegName) (inst sel : Nat) : State :=
  match r with
  | .bmPoolLow => { s with bm := { s.bm with poolLow := s.bm.poolLow.set sel (s.poolFree sel) } }
  | .dfRwlMax => { s with df := { s.df with rwlMax := s.df.rewrites.length } }
  | .msTempMax => { s.draw with ms := { s.ms with tempMax := signed 16 (s.freeWord 6) } }
  | _ => s.setReg r inst sel (Nat.land (s.reg r inst sel) (0xFFFFFFFF - r.info.rc))

/-- The bytes of a word that a read covers, as a mask. -/
def byteMask (lo hi : Nat) : Nat := ((List.range 4).map fun i => if lo ≤ i ∧ i < hi then 255 * 2 ^ (8 * i) else 0).sum

/-- One word of a register as a read of some of its bytes sees it, and what the read does: 64-bit latches, and RC fields whose
bytes are all covered. [DESIGN CHOICE, log entry 14] -/
def State.readReg (s : State) (src : Port) (r : RegName) (inst sel mask : Nat) : Nat × State :=
  match highWord r, lowWord r with
  | some hi, _ =>
    (s.peek r inst sel, { s with latch := Tab.set s.latch (pairKey r inst sel src) (BitVec.ofNat 32 (s.peek hi inst sel)) })
  | none, some lo =>
    let k := pairKey lo inst sel src
    match Tab.find s.latch k with
    | some v => (v.toNat, { s with latch := Tab.del s.latch k })
    | none => (s.peek r inst sel, s)
  | none, none =>
    let v := s.peek r inst sel
    let s := if r = .msTemp ∨ r = .msGpioIn then s.draw else s
    if r.info.rc ≠ 0 ∧ Nat.land r.info.rc (0xFFFFFFFF - mask) = 0 then (v, s.clearOnRead r inst sel) else (v, s)

/-- One word of a block, page or region. -/
def State.readWord (s : State) (src : Port) (b : Blk) (inst off mask : Nat) : Nat × State :=
  match b with
  | .klt => (natLE (part (s.kltView (portFn src)) off 4), s)
  | .msix =>
    (if off % 16 = 12 ∧ off / 16 < 65536 then natOf ((s.fctx (portFn src)).masked.contains (off / 16)) else 0, s)
  | _ =>
    match regAt b off with
    | none => (0, s)
    | some (.blockId, _) => (blockIdOf b inst, s)
    | some (r, idx) =>
      match s.regPlace src r inst idx with
      | some p => s.readReg src r p.1 p.2 mask
      | none => (0, s)

/-- The words a read covers, one after another. -/
def State.readWords (s : State) (src : Port) (b : Blk) (inst off width : Nat) : Nat → Nat → Nat × State
  | _, 0 => (0, s)
  | w, n + 1 =>
    let lo := off - 4 * w
    let hi := min 4 (off + width - 4 * w)
    let r := s.readWord src b inst (4 * w) (byteMask lo hi)
    let rest := r.2.readWords src b inst off width (w + 1) n
    (r.1 / 2 ^ (8 * lo) % 2 ^ (8 * (hi - lo)) + rest.1 * 2 ^ (8 * (hi - lo)), rest.2)

/-- A read of a register or region from outside: what its source does not see reads 0. [DESIGN CHOICE, log entry 14] -/
def State.hostRead (s : State) (src : Port) (b : Blk) (inst off width : Nat) : State :=
  if !s.portOpen src || width == 0 || decide (4096 < width) then s
  else if !s.sees src b || !s.instOk b inst then s.emit (.value src 0)
  else
    let r := s.readWords src b inst off width (off / 4) ((off + width + 3) / 4 - off / 4)
    r.2.emit (.value src r.1)

/-- READ_CLEAR (R46, R47). [DESIGN CHOICE, log entry 14] -/
def execReadClear (src : Port) (blk : Blk) (inst off width : Nat) (s : State) : Host.Outcome State Fault Refusal :=
  .next (s.hostRead src blk inst off width)

/-- LOW_WORD_READ (R45). [DESIGN CHOICE, log entry 14] -/
def execLowWordRead (src : Port) (blk : Blk) (inst off : Nat) (s : State) : Host.Outcome State Fault Refusal :=
  .next (s.hostRead src blk inst off 4)

end Sys2Proof.Machine
end

