-- ==== Sys2Proof/Machine/Diag.lean ====
section
/-! DEFINITION. Self-test, loop-backs, the log pages and the end of service (05 R138, R143 to R145, R148; 17 R449; 19; 20
R520). -/

namespace Sys2Proof.Machine

/-! ### GET_LOG (R138, R429, R480, R494, R496) -/

/-- An event-log entry (R492). -/
def LogEntry.bytes (e : LogEntry) : Bytes :=
  bytesLE 8 e.seq ++ bytesLE 8 e.time ++ bytesLE 2 e.code ++ bytesLE 1 e.sev ++ bytesLE 1 e.tenant ++ bytesLE 4 e.unit ++
    bytesLE 8 e.value

/-- Page 1: the header, then the entries from a sequence number on that the function may see and that fit. [DEDUCED, log entry 56] -/
def State.logPage (s : State) (f : Fn) (seq len : Nat) : Bytes :=
  let mine := s.ms.log.filter fun e => decide (seq ≤ e.seq) && (s.isOwner f || e.tenant == s.tenant f)
  let l := mine.take ((len - 32) / 32)
  (bytesLE 8 ((s.ms.log.head?.map (·.seq)).getD s.ms.seq) ++ bytesLE 8 s.ms.seq ++ bytesLE 8 (s.reg .msLogLost 0 0) ++
    bytesLE 4 l.length ++ zeros 4 ++ (l.map LogEntry.bytes).flatten).take len

/-- Page 2 (R429): the estimated remaining time is a free value, for the item rate is measured. [DESIGN CHOICE, log entry 67] -/
def State.sessionPage (s : State) : Bytes :=
  match s.ct.session with
  | none => zeros 32
  | some x =>
    let pct := if x.total = 0 then 0 else min 100 (100 * x.done / x.total)
    bytesLE 1 x.state ++ bytesLE 1 x.kind ++ bytesLE 1 x.phase ++ bytesLE 1 pct ++ bytesLE 4 x.done ++ bytesLE 4 x.total ++
      bytesLE 4 x.elapsed ++ bytesLE 4 (Config.freeNat 5 s.fresh) ++ bytesLE 8 x.serial ++ zeros 4

/-- An island entry of page 3 (R480). -/
def islandEntry (i : Nat) (r : IslandResult) : Bytes :=
  bytesLE 1 i ++ bytesLE 1 r.flags ++ bytesLE 1 r.sram ++ bytesLE 1 r.stuck ++ bytesLE 1 r.trans ++ bytesLE 1 r.units ++
    bytesLE 2 r.ms ++ bytesLE 2 r.used ++ bytesLE 2 r.left ++ zeros 4

def island0 : IslandResult := { flags := 0, sram := 0, stuck := 0, trans := 0, units := 0, ms := 0, used := 0, left := 0 }

/-- An island failed: a test run on it did not pass, it is critical, or units of it were retired. -/
def IslandResult.bad (r : IslandResult) : Bool :=
  Nat.land (r.flags % 8) (7 - r.flags / 8 % 8) != 0 || bitOf r.flags 6 || r.units != 0

/-- Page 3. -/
def State.testPage (s : State) : Bytes :=
  let t := s.ms.test
  let l := (List.range 25).map fun i => t.islands.getD i island0
  [0x52, 0x46, 0x53, 0x54] ++ bytesLE 1 t.run ++ bytesLE 1 (natOf t.fail) ++ bytesLE 2 (l.filter IslandResult.bad).length ++
    bytesLE 8 t.start ++ bytesLE 4 t.ms ++ bytesLE 4 t.seq ++ bytesLE 4 s.ms.fuseLeft ++ zeros 4 ++
    ((List.range 25).map fun i => islandEntry i (l.getD i island0)).flatten

/-- The blocks in the order of their type codes (R32). -/
def allBlks : List Blk := [.hi, .qe, .pe, .bm, .mc, .cx, .ce, .df, .ee, .wc, .rc, .ed, .sm, .vc, .ct, .ms]

/-- Instances of a block. -/
def State.instances (s : State) (b : Blk) : Nat := ((List.range 8).filter (s.instOk b)).length

/-- The A-class counters of a block: 32-bit ones, and the 48-bit ones by their low word (R46, R497). -/
def isCounter (r : RegName) : Bool :=
  r.info.cls == .a && (r.info.rc != 0 || r == .wcChFramesLo || r == .rcChFramesLo || r == .vcSlotVfyLo)

/-- A counter's value as a read would return it, with both words of a 48-bit one. -/
def State.counterValue (s : State) (src : Port) (r : RegName) (inst : Nat) : Nat :=
  match s.regPlace src r inst 0 with
  | none => 0
  | some p =>
    match highWord r with
    | some hi => s.peek r p.1 p.2 + 2 ^ 32 * s.peek hi p.1 p.2
    | none => s.peek r p.1 p.2

/-- Page 4: nothing is cleared. [DEDUCED, log entry 56] -/
def State.counterPage (s : State) (src : Port) : Bytes :=
  (allBlks.map fun b => ((List.range (s.instances b)).map fun i =>
    ((sortBy (fun r => r.info.off) (b.regs.filter isCounter)).map fun r =>
      bytesLE 2 (blkCode b) ++ bytesLE 2 i ++ bytesLE 4 r.info.off ++ bytesLE 8 (s.counterValue src r i)).flatten).flatten).flatten

/-- The bytes GET_LOG writes. -/
def State.logBytes (s : State) (c : Cmd) : Bytes :=
  let off := entRecord c.entry
  let len := entLen c.entry
  match entAux c.entry with
  | 1 => s.logPage c.fn off len
  | 2 => (s.sessionPage.drop off).take len
  | 3 => (s.testPage.drop off).take len
  | 4 => ((s.counterPage (.fn c.fn)).drop off).take len
  | _ => (s.updatePage.drop off).take len

/-- GET_LOG (R138). [DEDUCED, log entry 56] -/
def State.getLog (s : State) (c : Cmd) (ps : List BufPiece) : State :=
  let b := s.logBytes c
  let s := if entAux c.entry = 2 then s.draw else s
  (s.scatter c b ps).finishCmd c stSuccess 0 b.length

/-! ### SELF_TEST and UNIT_CTRL (R22, R481, R485, R486) -/

def entUnitType (e : Entry) : Nat := entHandle e / 65536
def entUnitNum (e : Entry) : Nat := entHandle e % 65536

/-- Tests of track channels, memory channels and servo readers run only with no cartridge mounted (R485). -/
def State.testBlocked (s : State) (t : Nat) : Bool := (t == 1 || t == 6 || t == 7) && s.ct.mounted

/-- What a run found of the units named: all of a type, or one. -/
def testNamed (t : Nat) (n : Option Nat) (x : Nat × Nat) : Bool := x.1 == t && (n.isNone || n == some x.2)

/-- A test of units on demand: its results stand, and failed units are retired. -/
def State.testUnits (s : State) (t : Nat) (n : Option Nat) (r : TestRead) : State × Nat :=
  let failed := r.failed.filter (testNamed t n)
  (s.recordRun 3 { islands := r.islands, failed := failed, repairs := r.repairs, ms := r.ms }, failed.length)

/-- SELF_TEST (R485): the result is the number of units that failed. [DESIGN CHOICE, log entry 57] -/
def State.selfTest (s : State) (c : Cmd) (r : TestRead) : State :=
  let t := entUnitType c.entry
  if s.testBlocked t then s.finishCmd c stMediaBusy 3 0
  else
    let x := s.testUnits t (if entAux c.entry = 1 then some (entUnitNum c.entry) else none) r
    x.1.finishCmd c (if x.2 = 0 then stSuccess else stTestFailed) 0 x.2

/-- UNIT_CTRL aux 2 (R486). [DESIGN CHOICE, log entry 57] -/
def State.unitReturn (s : State) (c : Cmd) (r : TestRead) : State :=
  let t := entUnitType c.entry
  if s.testBlocked t then s.finishCmd c stMediaBusy 3 0
  else
    let x := s.testUnits t (some (entUnitNum c.entry)) r
    if x.2 ≠ 0 then x.1.finishCmd c stTestFailed 0 0
    else (x.1.returnUnit t (entUnitNum c.entry)).finishCmd c stSuccess 0 0

/-- UNIT_CTRL aux 3 (R481): `good` tells whether every read-back held, `burned` how many records were burned before one that
did not. -/
def State.unitBurn (s : State) (c : Cmd) (good : Bool) (burned : Nat) : State :=
  let k := entHandle c.entry
  let n := s.ms.soft.get 0 k
  if s.ms.fuseLeft < n then s.finishCmd c stTestFailed 0 0
  else if good then
    let s := { s with ms := { s.ms with soft := s.ms.soft.del k, fuseLeft := s.ms.fuseLeft - n } }
    s.finishCmd c stSuccess 0 0
  else
    let s := { s with ms := { s.ms with fuseLeft := s.ms.fuseLeft - min n burned } }
    s.finishCmd c stTestFailed 0 0

/-! ### Slice tests (R483, R484) -/

/-- Units a slice test takes, in turn: lanes, compressors, decompressors, cipher cores (R483). -/
def State.sliceUnits (s : State) : List (Nat × Nat) :=
  ([2, 3, 4, 5].map fun t => (List.range (s.present t)).map fun n => (t, n)).flatten

/-- A unit is idle. -/
def State.unitIdle (s : State) (u : Nat × Nat) : Bool :=
  match u.1 with
  | 3 => !(s.cx.engines.find u.2).any fun e => e.job.isSome
  | 4 => !(s.cx.engines.find (32 + u.2)).any fun e => e.job.isSome
  | _ => true

/-- The unit whose turn it is: the one after the last tested. -/
def State.sliceNext (s : State) : Option (Nat × Nat) :=
  let l := s.sliceUnits.filter fun u => !s.isRetired u.1 u.2
  let last := s.ms.sliceLast
  match l.find? fun u => decide (last.1 < u.1) || (last.1 == u.1 && decide (last.2 < u.2)) with
  | some u => some u
  | none => l.head?

/-- A slice test starts. The first unit after power-on is lane 0. [DESIGN CHOICE, log entry 57] -/
def State.sliceStart (s : State) : State :=
  if s.ms.phase ≠ 2 ∨ s.ms.quiescent = true ∨ s.qe.leaving = true ∨ s.fld .msBistCfg 0 0 1 1 = 0 ∨ s.ms.slice.isSome = true ∨
      2 ≤ s.ms.power then s
  else
    match s.sliceNext with
    | none => s
    | some u => if s.unitIdle u then { s with ms := { s.ms with slice := some u, sliceLast := u } } else s

/-- A slice test ends (R484): a unit that fails is counted, logged and retired. -/
def State.sliceEnd (s : State) (r : TestRead) : State :=
  match s.ms.slice with
  | none => s
  | some u =>
    let s := ({ s with ms := { s.ms with slice := none } }).bump .msSliceRuns 0 0
    let bad := r.failed.any fun x => x == u
    let s := if bad then (s.bump .msSliceFails 0 0).logEv .sliceFail 0 (u.1 * 65536 + u.2) 0 else s
    (s.testUnits u.1 (some u.2) r).1

/-! ### The end of service (R145, R449, R476, R477, R498) -/

/-- Step 1 of R476: every key slot, every KEK, the identity key's working copy and the DRBG state. [DEDUCED, log entry 54] -/
def State.zeroise (s : State) : State := { s with ce := { s.resetCe false with healthy := s.ce.healthy, failed := s.ce.failed } }

/-- Every stream is closed as CLOSE_STREAM closes it; a deferred error goes to the log (R145). -/
def State.closeAll (s : State) : State :=
  s.pe.streams.keys.foldl (fun s k =>
    if (s.stream? k).any fun x => x.handle.isSome || x.closing.isSome then (s.logDeferred k).modStream k Stream.detached else s) s

/-- The transport comes to rest, braked (R444, R476). [DEDUCED, log entry 53] -/
def State.brakeTape (s : State) : State :=
  { s with sm := { s.sm with state := if s.sm.state = 4 then 4 else 0, brake := true, reels := 0, inject := none }
           wc := { s.wc with gates := [], wmod := 0 } }

/-- The device leaves service (R145). [DEDUCED, log entry 53] -/
def State.leaveService (s : State) : State := { s with qe := { s.qe with leaving := true } }

/-- SHUTDOWN_PREP (R145): it waits while data that is to be closed goes to tape. [DEDUCED, log entry 53] -/
def State.shutdownPrep (s : State) (c : Cmd) (rootOk : Bool) : State :=
  if s.sessionRuns then s.finishCmd c stMediaBusy 2 0
  else if 0 < s.streamsOpen ∧ bitOf (entFlags c.entry) 1 = false then s.finishCmd c stMediaBusy 1 0
  else
    let s := s.closeAll
    let r := if s.ct.mounted then s.endMount rootOk false else (s, true)
    if !r.2 then r.1
    else
      let s := ((r.1.brakeTape).finishCmd c stSuccess 0 0).leaveService.saveSummary
      { s with ms := { s.ms with shutDue := 2 } }

/-- The part stays quiescent, its pins at the reset levels (R449, R520). [DEDUCED, log entry 53] -/
def State.quiet (s : State) : State :=
  let s := s.brakeTape
  { s with ms := { s.ms with quiescent := true, shutDue := 0 } }

/-- SHUTDOWN_SELF_TEST (R476, R477, R479): `zeroOk` tells whether step 1 reads back zero. -/
def State.shutdownTest (s : State) (zeroOk : Bool) (r : TestRead) : State :=
  if s.ms.shutDue = 0 ∨ s.ms.phase ≠ 2 ∨ s.ms.quiescent = true ∨ ¬ (s.sm.state = 0 ∨ s.sm.state = 4) then s
  else
    let s := s.zeroise
    if !zeroOk then (s.logEv .bistFail 0 0 0).quiet
    else
      let s := s.recordRun 1 r
      ({ s with ms := { s.ms with clean := true } }).quiet

/-- MS_DBG_CTRL (R498). [DEDUCED, log entry 54] -/
def State.unlock (s : State) (src : Port) (v : Nat) : State :=
  if !s.sees src .ms || v % 256 == 0 then s
  else if s.ct.mounted ∨ ¬ (s.sm.state = 0 ∨ s.sm.state = 4) then s.rwlReject .msDbgCtrl 0
  else if v % 256 ≠ 0x5C then s
  else
    let s := s.leaveService.zeroise.logEv .scanUnlock 0 0 0
    { s with ms := { s.ms with unlocked := true } }

/-! ### LOOP_TEST (R71, R487 to R491) -/

/-- Whether two loop-backs need the same path (R488). -/
def LoopRun.samePath (a : LoopRun) (aux handle : Nat) : Bool :=
  a.aux / 16 == aux / 16 && (a.aux / 16 != 0 || a.handle == handle) && (a.aux / 16 != 1 || a.handle == handle)

/-- What keeps a loop-back from starting (R71, R144, R487, R490). [DESIGN CHOICE, log entry 55] -/
def State.loopBlock (s : State) (c : Cmd) : Option (Nat × Nat) :=
  let aux := entAux c.entry
  let h := entHandle c.entry
  if aux < 0x10 then
    if h = partOf c.fn then some (stInvalidField, 4)
    else if s.qe.sqs.any fun e => partOf e.1.unpair.1 == h && e.1.unpair.2 != windowRing && e.2.enabled then
      some (stMediaBusy, 3)
    else none
  else if aux = 0x10 then
    if h = c.ring ∨ s.sqCount c.fn ≤ h ∨ (s.sq c.fn h).enabled = false then some (stInvalidField, 4) else none
  else if s.ct.mounted then some (stMediaBusy, 3)
  else if aux = 0x33 ∧ (s.senses 0 = false ∨ s.senses 1 = false) then some (stNoMedia, 1)
  else none

/-- What starting a loop-back does. -/
def State.loopBegin (s : State) (c : Cmd) : State :=
  let aux := entAux c.entry
  let h := entHandle c.entry
  let s := { s with ms := { s.ms with loops := s.ms.loops ++ [⟨c.id, aux, h, entRecord c.entry⟩] } }
  if aux < 0x10 then
    let s := s.setFld .hiLoopCtrl h 0 1 0 aux
    { s with hi := { s.hi with links := s.hi.links.set h { state := 5, rate := 0, width := 0, flit := false, clk := true } } }
  else if aux = 0x10 then s.setSq c.fn h { s.sq c.fn h with echo := true, echoed := 0 }
  else s

/-- Starts a loop-back of a class of depths, once its path is free; `before` is what the depth needs first. [DESIGN CHOICE, log entry 55] -/
def State.loopStart (s : State) (id : Nat) (mine : Nat → Bool) (before : State → Cmd → State × Bool) : State :=
  s.onCommand id 0x70 fun s c =>
    if !mine (entAux c.entry) || s.ms.loops.any (fun l => l.cmd == c.id) then s
    else
      match s.loopBlock c with
      | some (st, d) => s.finishCmd c st d 0
      | none =>
        if s.ms.loops.any fun l => l.samePath (entAux c.entry) (entHandle c.entry) then s
        else
          let r := before s c
          if r.2 then r.1.loopBegin c else r.1

/-- Nothing to do first. -/
def loopReady (s : State) (_ : Cmd) : State × Bool := (s, true)

/-- Depth 0x33 threads the cartridge as MOUNT does; an unformatted one takes the benchmark of the wrap first (R490). -/
def State.loopThread (s : State) (c : Cmd) (threaded tension formatted : Bool) : State × Bool :=
  let hub := s.senses 4
  if (!hub && !threaded) || !tension then (s.finishCmd c stReadFault 6 0, false)
  else
    let s := (if hub then s else s.bump .ctLoads 0 0).threadIn
    (if formatted then s else s.emit (.benchmark (entHandle c.entry)), true)

/-- The report of a loop-back (R491). -/
def loopBytes (l : LoopRun) (r : LoopReport) (len : Nat) : Bytes :=
  let head := bytesLE 1 l.aux ++ bytesLE 1 r.lanes.length ++ zeros 2 ++ bytesLE 4 l.handle ++ bytesLE 8 l.duration ++
    bytesLE 8 r.bits ++ bytesLE 8 r.errors ++ bytesLE 8 r.items ++ bytesLE 8 r.itemsBad ++ zeros 16
  if len < 64 then []
  else if len < 64 + 8 * r.lanes.length then head
  else head ++ (r.lanes.map (bytesLE 8)).flatten

/-- What a depth counts of itself: entries echoed (R489), the bits EE_INJECT inverts (R488). [DESIGN CHOICE, log entry 55] -/
def State.loopCounts (s : State) (c : Cmd) (l : LoopRun) (r : LoopReport) : LoopReport :=
  if l.aux = 0x10 then { bits := 0, errors := 0, items := (s.sq c.fn l.handle).echoed, itemsBad := 0, lanes := [] }
  else if l.aux = 0x30 ∧ 0 < s.injectCount then { r with errors := r.items * s.injectCount, itemsBad := r.items }
  else r

/-- Restores what a loop-back took. -/
def State.loopRestore (s : State) (c : Cmd) (l : LoopRun) : State :=
  let s := { s with ms := { s.ms with loops := s.ms.loops.filter fun x => x.cmd != l.cmd } }
  if l.aux < 0x10 then
    let s := s.setFld .hiLoopCtrl l.handle 0 1 0 0
    if s.hi.perst.contains l.handle then { s with hi := { s.hi with links := s.hi.links.del l.handle } }
    else { s with hi := { s.hi with links := s.hi.links.set l.handle linkTraining } }
  else if l.aux = 0x10 then s.setSq c.fn l.handle { s.sq c.fn l.handle with echo := false, echoed := 0 }
  else s

/-- LOOP_TEST_DURATION_END. -/
def State.loopEnd (s : State) (id : Nat) (listed : List BufPiece) (r : LoopReport) : State :=
  match s.ms.loops.find? (fun l => l.cmd == id), s.cmd? id with
  | some l, some c =>
    let r := s.loopCounts c l r
    let s := s.loopRestore c l
    s.withBuffer c listed fun s ps =>
      (s.scatter c (loopBytes l r (entLen c.entry)) ps).finishCmd c (if r.errors = 0 then stSuccess else stTestFailed) 0
        (min r.errors 0xFFFFFFFF)
  | some l, none => { s with ms := { s.ms with loops := s.ms.loops.filter fun x => x.cmd != l.cmd } }
  | none, _ => s

/-! ### The commands -/

/-- GET_LOG (R138): the operand is the buffer list in host memory. -/
def execGetLog (id : Nat) (pieces : List BufPiece) (s : State) : Host.Outcome State Fault Refusal :=
  .next (s.onCommand id 0x21 fun s c => s.withBuffer c pieces fun s ps => s.getLog c ps)

/-- SELF_TEST (R485): the operand is what the tests find. -/
def execSelfTest (id : Nat) (test : TestRead) (s : State) : Host.Outcome State Fault Refusal :=
  .next (s.onCommand id 0x50 fun s c => s.selfTest c test)

/-- UNIT_CTRL aux 1 (R22, R486). -/
def execUnitCtrlRetire (id : Nat) (s : State) : Host.Outcome State Fault Refusal :=
  .next (s.onCommand id 0x52 fun s c =>
    if entAux c.entry = 1 then (s.retireUnit (entUnitType c.entry) (entUnitNum c.entry)).finishCmd c stSuccess 0 0 else s)

/-- UNIT_CTRL aux 2 (R486). -/
def execUnitCtrlReturn (id : Nat) (test : TestRead) (s : State) : Host.Outcome State Fault Refusal :=
  .next (s.onCommand id 0x52 fun s c => if entAux c.entry = 2 then s.unitReturn c test else s)

/-- UNIT_CTRL aux 3 (R481). -/
def execUnitCtrlBurn (id : Nat) (good : Bool) (burned : Nat) (s : State) : Host.Outcome State Fault Refusal :=
  .next (s.onCommand id 0x52 fun s c => if entAux c.entry = 3 then s.unitBurn c good burned else s)

/-- SLICE_TEST_START (R483): MS_BIST_CFG.period has passed. -/
def execSliceTestStart (s : State) : Host.Outcome State Fault Refusal := .next s.sliceStart

/-- SLICE_TEST_END (R484). -/
def execSliceTestEnd (test : TestRead) (s : State) : Host.Outcome State Fault Refusal := .next (s.sliceEnd test)

/-- SHUTDOWN_PREP (R145): `rootOk` tells whether the root replica could be written (R333). -/
def execShutdownPrep (id : Nat) (rootOk : Bool) (s : State) : Host.Outcome State Fault Refusal :=
  .next (s.onCommand id 0x51 fun s c => s.shutdownPrep c rootOk)

/-- SHUTDOWN_SELF_TEST (R476). -/
def execShutdownSelfTest (zeroOk : Bool) (test : TestRead) (s : State) : Host.Outcome State Fault Refusal :=
  .next (s.shutdownTest zeroOk test)

/-- MS_DBG_CTRL_UNLOCK (R498). -/
def execMsDbgCtrlUnlock (src : Port) (value : Word) (s : State) : Host.Outcome State Fault Refusal :=
  .next (s.regWrite src .msDbgCtrl 0 value fun s v => s.unlock src v)

/-- LOOP_TEST at the host depths (R71, R487). -/
def execLoopTestHost (id : Nat) (s : State) : Host.Outcome State Fault Refusal :=
  .next (s.loopStart id (fun a => decide (a ≤ 3)) loopReady)

/-- LOOP_TEST at depth 0x10 (R489). -/
def execLoopTestDescriptorEcho (id : Nat) (s : State) : Host.Outcome State Fault Refusal :=
  .next (s.loopStart id (fun a => a == 0x10) loopReady)

/-- LOOP_TEST at the LPDDR5X depths (R488). -/
def execLoopTestLpddr5x (id : Nat) (s : State) : Host.Outcome State Fault Refusal :=
  .next (s.loopStart id (fun a => decide (0x20 ≤ a ∧ a ≤ 0x22)) loopReady)

/-- LOOP_TEST from EE or the write output into the read side (R488). -/
def execLoopTestDecoder (id : Nat) (s : State) : Host.Outcome State Fault Refusal :=
  .next (s.loopStart id (fun a => decide (0x30 ≤ a ∧ a ≤ 0x32)) loopReady)

/-- LOOP_TEST at depth 0x33 (R490): what threading finds, and whether the cartridge is formatted. -/
def execLoopTestHeadTape (id : Nat) (threaded tension formatted : Bool) (s : State) : Host.Outcome State Fault Refusal :=
  .next (s.loopStart id (fun a => a == 0x33) fun s c => s.loopThread c threaded tension formatted)

/-- LOOP_TEST of the servo readers (R487). -/
def execLoopTestServo (id : Nat) (s : State) : Host.Outcome State Fault Refusal :=
  .next (s.loopStart id (fun a => a == 0x40) loopReady)

/-- LOOP_TEST of the motion outputs (R487). -/
def execLoopTestMotion (id : Nat) (s : State) : Host.Outcome State Fault Refusal :=
  .next (s.loopStart id (fun a => a == 0x50) loopReady)

/-- LOOP_TEST of the cartridge SPI (R487). -/
def execLoopTestCartridgeSpi (id : Nat) (s : State) : Host.Outcome State Fault Refusal :=
  .next (s.loopStart id (fun a => a == 0x60) loopReady)

/-- LOOP_TEST of the NV flash (R487). -/
def execLoopTestNvFlash (id : Nat) (s : State) : Host.Outcome State Fault Refusal :=
  .next (s.loopStart id (fun a => a == 0x61) loopReady)

/-- LOOP_TEST_DURATION_END (R491): the operands are the buffer list and what was compared. -/
def execLoopTestDurationEnd (id : Nat) (pieces : List BufPiece) (report : LoopReport) (s : State) :
    Host.Outcome State Fault Refusal := .next (s.loopEnd id pieces report)

/-- DMA_COMPLETION_ERROR (R148): a read of host memory for a command fails; the detail tells how. -/
def execDmaCompletionError (id detail : Nat) (s : State) : Host.Outcome State Fault Refusal :=
  match s.cmd? id with
  | some c => .next (if 1 ≤ detail ∧ detail ≤ 4 ∧ c.phase ≠ .staged then s.endCmd c stDmaError detail 0 else s)
  | none => .next s

end Sys2Proof.Machine
end

