-- ==== Sys2Proof/Machine/Idle.lean ====
section
/-! DEFINITION. Stepping down (17 R435, R439, R441): the conditions of each step, the idle timers, a requested state. -/

namespace Sys2Proof.Machine

/-- No tape work stands (R439, A0 to A1). -/
def State.tapeIdle (s : State) : Bool :=
  decide (s.sm.state ≤ 1) && s.df.queue.isEmpty && (s.df.datasets.all fun d => d.verified || d.abandoned) &&
    (s.pe.streams.vals.all fun x => x.readyBytes == 0) && s.df.rewrites.isEmpty && s.df.restartDue.isEmpty &&
    s.df.voidDue == 0 && s.pe.reads.isEmpty && !s.pe.bookDue && !s.sessionRuns && s.ms.loops.isEmpty

/-- CX, CE and ED are idle (R439, A1 to A2). -/
def State.codecIdle (s : State) : Bool :=
  !(s.cx.engines.any fun e => e.2.job.isSome) && s.cx.outs.isEmpty && s.cx.images.isEmpty &&
    !(s.qe.cmds.any fun c => entOpcode c.entry == 0x38 || entOpcode c.entry == 0x39) && s.ed.frames.isEmpty &&
    s.ed.verify.isEmpty && s.ed.tiers.isEmpty

/-- No host work stands (R439, A2 to A3). -/
def State.hostIdle (s : State) : Bool :=
  s.qe.cmds.isEmpty && !(s.qe.sqs.any fun e => decide (0 < s.unfetched e.1.unpair.1 e.1.unpair.2)) && s.qe.ready.isEmpty &&
    !(s.hi.fns.any fun e => !e.2.chimes.isEmpty || decide (0 < e.2.lost)) && !s.updOpen

/-- The conditions of every step down to a state (R439), and MS_PWR_POLICY. -/
def State.mayEnter (s : State) (n : Nat) : Bool :=
  s.ms.phase == 2 && !s.ms.quiescent && !s.qe.leaving && !s.ms.moving && decide (1 ≤ n ∧ s.ms.power < n ∧ n ≤ 3) &&
    decide (n ≤ s.fld .msPwrPolicy 0 0 1 0) && s.tapeIdle && (decide (n < 2) || s.codecIdle) && (decide (n < 3) || s.hostIdle)

/-- Enters a state (R435, R441): A3 takes the tension off, applies the brakes and stops the loops. -/
def State.enterState (s : State) (n : Nat) : State :=
  let s := s.countResidency.setFld .msPwrReq 0 0 1 0 0
  let s := { s with ms := { s.ms with power := n, since := s.ms.time } }
  if n = 3 then { s with sm := { s.sm with state := 0, brake := true, reels := 0, engines := [], inject := none } } else s

/-- A state that MS_PWR_REQ.enter asks for is entered once its conditions hold (R439). -/
def State.tryEnter (s : State) : State :=
  let n := s.fld .msPwrReq 0 0 1 0
  if s.mayEnter n then s.enterState n else s

/-- The idle timer of the step to a state expires (R439): a timer of 0 disables its step and every deeper one. -/
def State.idleExpire (s : State) (n : Nat) : State :=
  let on := fun (k : Nat) (r : RegName) => decide (n < k) || s.reg r 0 0 != 0
  if decide (s.ms.power + 1 = n) && on 1 .msIdleT1 && on 2 .msIdleT2 && on 3 .msIdleT3 && s.mayEnter n then s.enterState n
  else s

/-- A write to MS_PWR_REQ (R439, R440, R452). -/
def State.writePwrReq (s : State) (v : Nat) : State :=
  let s := (s.setReg .msPwrReq 0 0 (v % 4)).tryEnter
  if bitOf v 8 then s.wake 5 else s

/-- IDLE_T1_EXPIRY (R439). [DESIGN CHOICE, log entry 66] -/
def execIdleT1Expiry (s : State) : Host.Outcome State Fault Refusal := .next (s.idleExpire 1)

/-- IDLE_T2_EXPIRY (R439). -/
def execIdleT2Expiry (s : State) : Host.Outcome State Fault Refusal := .next (s.idleExpire 2)

/-- IDLE_T3_EXPIRY (R439, R441). -/
def execIdleT3Expiry (s : State) : Host.Outcome State Fault Refusal := .next (s.idleExpire 3)

/-- MS_PWR_REQ_ENTER (R439): a write of MS_PWR_REQ with a state in enter. -/
def execMsPwrReqEnter (src : Port) (value : Word) (s : State) : Host.Outcome State Fault Refusal :=
  .next (s.regWrite src .msPwrReq 0 value fun s v => if s.sees src .ms then s.writePwrReq v else s)

/-- MS_PWR_REQ_WAKE (R440): a write of MS_PWR_REQ with wake set. -/
def execMsPwrReqWake (src : Port) (value : Word) (s : State) : Host.Outcome State Fault Refusal :=
  .next (s.regWrite src .msPwrReq 0 value fun s v => if s.sees src .ms then s.writePwrReq v else s)

end Sys2Proof.Machine
end

