-- ==== Sys2Proof/Machine/RegWrite.lean ====
section
/-! DEFINITION. Writing registers (02 R45, R46, R48, R51; the register tables of 03 to 20): fields by their access codes, with the
registers that have a rule of their own handed to it. -/

namespace Sys2Proof.Machine

/-! ### Conditions of RWL fields (R48) -/

/-- RWL fields of a register that the general rule serves: mask of each and whether its condition holds. -/
def State.rwlFields (s : State) (r : RegName) (inst sel : Nat) : List (Nat × Bool) :=
  let frz := fun (pos i : Nat) => bitOf (s.reg .rcChFreeze inst pos) i
  match r with
  | .qeSqCfg | .qeSqAddrLo | .qeSqAddrHi => [(r.info.rwl, !(s.sq inst sel).enabled)]
  | .qeCqCfg | .qeCqAddrLo | .qeCqAddrHi => [(r.info.rwl, !(s.cq inst sel).enabled)]
  | .qeStageMode => [(r.info.rwl, s.activeSq == 0)]
  | .peStageSplit | .peBookBudget | .bmReadRes | .eeInject => [(r.info.rwl, !s.ct.mounted)]
  | .rcChAfe => [(0xFF, frz sel 0), (0xFF00, frz sel 1)]
  | .rcChLoops => [(0xFFF, frz sel 0), (0x3FF000, frz sel 1), (0x3FC00000, frz sel 2)]
  | .rcTap => [(0x3FF, frz (sel / 64) (if sel % 64 < 17 then 3 else 4))]
  | .smExtScale => [(r.info.rwl, !(s.engine s.selEngine).closed)]
  | _ => []

/-- A written value that the register's table drops. -/
def State.dropsValue (s : State) (r : RegName) (sel v : Nat) : Bool :=
  match r with
  | .peStageSplit =>
    let w := bitsOf v 15 8
    let d := bitsOf v 7 0
    !decide (32 ≤ w ∧ w ≤ 48 ∧ 16 ≤ d ∧ d ≤ 32 ∧ w + d ≤ 64)
  | .peBookBudget => !decide (64 ≤ v % 131072 ∧ 2 * (v % 131072) ≤ s.usableMiB)
  | .smInhibit => decide (bitsOf v 15 8 < bitsOf v 7 0)
  | .rcTap => sel % 64 == 8
  | _ => false

/-- Takes the fields whose mask is given from a written word. -/
def mergeWord (old v mask : Nat) : Nat := Nat.lor (Nat.land old (0xFFFFFFFF - mask)) (Nat.land v mask)

/-- The word an accepted write leaves, and whether some RWL field was refused. -/
def State.mergeFields (s : State) (r : RegName) (inst sel v : Nat) : Nat × Bool :=
  let old := s.reg r inst sel
  let i := r.info
  let w := Nat.land (mergeWord old v i.rw) (0xFFFFFFFF - Nat.land v i.w1c)
  (s.rwlFields r inst sel).foldl (fun a f =>
    if Nat.land v f.1 = Nat.land old f.1 then a
    else if f.2 then (mergeWord a.1 v f.1, a.2)
    else (a.1, true)) (w, false)

/-- Stores a register, in the settings journal too where its class is N. -/
def State.store (s : State) (r : RegName) (inst sel v : Nat) : State :=
  if s.reg r inst sel = v then s else if r.info.cls == .n then s.writeN r inst sel v else s.setReg r inst sel v

/-- What follows a change of a setting. -/
def State.settled (s : State) (r : RegName) (inst sel : Nat) : State :=
  match r with
  | .bmReadRes | .peBookBudget => s.recredit.rewatch
  | .peStageSplit => s.rewatch
  | .qeCqCfg => s.signal inst sel
  | .smRdrState => s.readersTrip
  | _ => s

/-- A write by the access codes of a register's fields (R46, R48). -/
def State.writeFields (s : State) (r : RegName) (inst sel v : Nat) : State :=
  if s.dropsValue r sel v then s
  else
    let x := s.mergeFields r inst sel v
    let s := if s.reg r inst sel = x.1 then s else (s.store r inst sel x.1).settled r inst sel
    if x.2 then s.rwlReject r inst else s

/-- A write to a 64-bit register (R45): the low word is held, the high word applies both. [DEDUCED, log entry 15] -/
def State.writePair (s : State) (src : Port) (r lo hi : RegName) (inst sel v : Nat) : State :=
  let k := pairKey lo inst sel src
  if r = lo then { s with pendWord := Tab.set s.pendWord k (BitVec.ofNat 32 v) }
  else
    let low := ((Tab.find s.pendWord k).map BitVec.toNat).getD (s.reg lo inst sel)
    let s := { s with pendWord := Tab.del s.pendWord k }
    let open_ := (s.rwlFields lo inst sel).all (·.2)
    let same := decide (s.reg hi inst sel = v) && decide (s.reg lo inst sel = Nat.land low lo.info.rwl)
    if same then s
    else if open_ then (s.setReg lo inst sel (Nat.land low lo.info.rwl)).setReg hi inst sel v
    else s.rwlReject hi inst

/-- WC_CH_TRIM (R339, R384): writable while the slot's trims are frozen. -/
def State.writeTrim (s : State) (inst sel v : Nat) : State :=
  let n := 17 * inst + sel
  let t : Trims := { iw := bitsOf v 5 0, pre1 := bitsOf v 12 8, pre2 := bitsOf v 20 16 }
  if (s.cal n).trimsFor s.trimModule2 = t then s
  else if !s.trimFrozen n then s.rwlReject .wcChTrim inst
  else if s.trimModule2 then s.modCal n fun c => { c with trims2 := t }
  else s.modCal n fun c => { c with trims0 := t }

/-- HI_FN registers by kind. -/
def allocKind : RegName → Option AllocKind
  | .hiFnSqBase => some .sqBase
  | .hiFnSqCount => some .sqCount
  | .hiFnCqBase => some .cqBase
  | .hiFnCqCount => some .cqCount
  | .hiFnVecBase => some .vecBase
  | .hiFnVecCount => some .vecCount
  | .hiFnStreamQuota => some .streamQuota
  | .hiFnKeyBase => some .keyBase
  | .hiFnKeyCount => some .keyCount
  | .hiFnBufMin => some .bufMin
  | .hiFnBufMax => some .bufMax
  | .hiFnWeight => some .weight
  | _ => none

/-- A vector's Mask bit in the MSI-X table: a write that clears it sends a held message (R91; PRESUMED, log entry 20). -/
def State.writeMask (s : State) (f vector : Nat) (mask : Bool) : State :=
  let held := (s.fctx f).pba.contains vector
  if mask then s.modFctx f fun x => { x with masked := if x.masked.contains vector then x.masked else vector :: x.masked }
  else
    let s := s.modFctx f fun x =>
      { x with masked := x.masked.filter (· != vector), pba := x.pba.filter (· != vector) }
    if held then s.emit (.msix f vector) else s

/-- RC_CH_AFE, RC_CH_LOOPS and RC_TAP (R347): the fields of frozen loops. -/
def State.writeLoops (s : State) (r : RegName) (inst sel v : Nat) : State :=
  let s := if s.loopReg r inst sel = s.reg r inst sel then s else s.setReg r inst sel (s.loopReg r inst sel)
  (s.keepLoops r inst sel).writeFields r inst sel v

/-- TASK_OPCODE and the parameters (R103): a write while the window is busy is dropped and counted. -/
def State.writeTask (s : State) (r : RegName) (f idx v : Nat) : State :=
  if s.windowBusy f then s.bump .qeBadDb f 0 else s.writeFields r f idx v

/-- A word written to a register, its place known: the registers with a rule of their own, then the general rule. [DEDUCED, log entry 15] -/
def State.writeReg (s : State) (src : Port) (r : RegName) (inst idx v : Nat) : State :=
  let f := portFn src
  match r with
  | .blockId => s
  | .qeSqCtrl => s.writeSqCtrl f v
  | .qeCqCtrl => s.writeCqCtrl f v
  | .qeSqReset => s.writeSqReset f v
  | .qePealCommit => s.pealCommit f inst v
  | .taskGo => s.taskGo f v
  | .taskOpcode | .taskParam => s.writeTask r f idx v
  | .hiFnTenant => s.writeTenant src inst v
  | .hiVfQuota => s.writeQuota src inst v
  | .bmPoolSplit => s.writePoolSplit src v
  | .bmStreamWin => s.writeStreamWin src v
  | .bmWmCfg => s.writeWmCfg src v
  | .bmFcwCfg => s.writeFcwCfg src v
  | .vcCalCtrl => s.writeCalCtrl src v
  | .smLoopCtrl => if bitOf v 0 then s.closeLoop src v else s.openLoop src v
  | .smLoopRate => s.writeRate src v
  | .smCoefData => s.writeCoef src v
  | .smInjCfg => s.writeInject src v
  | .smCapCfg => s.writeCapture src v
  | .smTransport => if bitOf v 3 then s.trip 8 7 else s
  | .msPwrReq => s.writePwrReq v
  | .msSbDevrst => if src = .sideband ∧ v % 256 = 0xD5 then s.deviceReset 3 else s
  | .msSbOwner =>
    if src = .sideband then s.writeSbOwner v
    else if s.reg .msSbOwner 0 0 = v % 8 then s else s.rwlReject .msSbOwner 0
  | .msDbgCtrl => s.unlock src v
  | .msUpdLock => if src = .sideband then s else s.writeFields .msUpdLock 0 0 v
  | r =>
    match allocKind r with
    | some k => s.writeAlloc src inst k v
    | none =>
      match s.regPlace src r inst idx with
      | none => s
      | some p =>
        if r = .wcChTrim then s.writeTrim p.1 p.2 v
        else if r = .rcChAfe ∨ r = .rcChLoops ∨ r = .rcTap then s.writeLoops r p.1 p.2 v
        else
          match highWord r, lowWord r with
          | some hi, _ => if r.info.rwl = 0 then s else s.writePair src r r hi p.1 p.2 v
          | none, some lo => if r.info.rwl = 0 then s else s.writePair src r lo r p.1 p.2 v
          | none, none => s.writeFields r p.1 p.2 v

/-- One word written to a block, page or region that the source sees. -/
def State.writeWord (s : State) (src : Port) (b : Blk) (inst off v : Nat) : State :=
  if !s.sees src b || !s.instOk b inst then s
  else
    match b with
    | .klt => s
    | .msix =>
      if off % 16 = 12 ∧ off / 16 < s.vecCount (portFn src) then s.writeMask (portFn src) (off / 16) (bitOf v 0) else s
    | _ =>
      match regAt b off with
      | some (r, idx) => s.writeReg src r inst idx v
      | none => s

/-- Consecutive words in ascending address order (R45). -/
def State.writeWords (s : State) (src : Port) (b : Blk) (inst off value : Nat) : Nat → State
  | 0 => s
  | n + 1 => (s.writeWord src b inst off (value % 2 ^ 32)).writeWords src b inst (off + 4) (value / 2 ^ 32) n

/-- A write that is dropped for its width or alignment (R45, R81). -/
def State.narrow (s : State) (src : Port) (b : Blk) (inst off : Nat) : State :=
  if b = .peal then s.dropDoorbell (portFn src) 1
  else (s.bump .msNarrowWrite 0 0).logEv .narrowWrite 0 (blkCode b * 65536 + inst % 65536) off

/-- A register write of any width; where the source does not see the block it goes nowhere (R52). -/
def State.writeAccess (s : State) (src : Port) (b : Blk) (inst off width value : Nat) : State :=
  if !s.sees src b then s
  else if b = .bells then s.bellWrite (portFn src) off width value
  else if width < 4 ∨ off % 4 ≠ 0 then s.narrow src b inst off
  else s.writeWords src b inst off value (min 1024 (width / 4))

/-- A write that has waited in the wake buffer is applied (R440). [DEDUCED, log entry 64] -/
def State.runHeld (s : State) : HeldWrite → State
  | .reg src b inst off width value => if s.portOpen src then s.writeAccess src b inst off width value else s
  | .bell f off width value => if s.portOpen (.fn f) then s.bellWrite f off width value else s

/-! ### The commands -/

/-- REGISTER_WRITE (R45, R46, R48). -/
def execRegisterWrite (src : Port) (blk : Blk) (inst off width value : Nat) (s : State) :
    Host.Outcome State Fault Refusal :=
  .next (s.hostWrite (.reg src blk inst off width value) fun s => s.writeAccess src blk inst off width value)

/-- HI_FN_ALLOC_WRITE (R65, R66). -/
def execHiFnAllocWrite (src : Port) (part : Nat) (kind : AllocKind) (value : Word) (s : State) :
    Host.Outcome State Fault Refusal :=
  .next (s.regWrite src (allocReg kind).1 part value fun s v => s.writeAlloc src part kind v)

/-! ### The sideband (20 R505) -/

/-- A transaction addressed to the RFX that it can answer. [DEDUCED, log entry 51] -/
def State.smbusOpen (s : State) : Bool := s.portOpen .sideband

/-- SMB_BLOCK_WRITE: `ok` tells that the PEC and the command are good. A transaction with a wrong PEC, a misaligned offset or an
unknown command is NACKed and applies nothing. -/
def execSmbBlockWrite (off : Nat) (value : Word) (ok : Bool) (s : State) : Host.Outcome State Fault Refusal :=
  .next (if !s.smbusOpen then s
    else
      let s := s.wake 4
      if !ok || off % 4 != 0 then s.emit (.smbus false 0)
      else (s.writeWord .sideband .ms 0 (off % 65536) value.toNat).emit (.smbus true 0))

/-- SMB_BLOCK_READ. -/
def execSmbBlockRead (off : Nat) (ok : Bool) (s : State) : Host.Outcome State Fault Refusal :=
  .next (if !s.smbusOpen then s
    else
      let s := s.wake 4
      if !ok || off % 4 != 0 then s.emit (.smbus false 0)
      else
        let r := s.readWord .sideband .ms 0 (off % 65536) 0xFFFFFFFF
        r.2.emit (.smbus true r.1))

/-- ALERT_RESPONSE: the ARA reply, with the RFX's address, clears SMB_ALERT_N. -/
def execAlertResponse (s : State) : Host.Outcome State Fault Refusal :=
  .next (if s.ms.alert then ({ s with ms := { s.ms with alert := false } }).emit (.smbus true 0x2C) else s)

end Sys2Proof.Machine
end

