-- ==== Sys2Proof/Machine/Power.lean ====
section
/-! DEFINITION. Waking and leaving service (17 R436 to R441, R449; 20 R520), links, and the passing of time. -/

namespace Sys2Proof.Machine

/-! ### Exits (R437, R440, R441, R446) -/

/-- What an exit from A3 returns to its defaults (R348, R386, R411, R446 with R436, R255). -/
def State.sleepDefaults (s : State) : State :=
  let s := s.draw.clearRegs fun r _ => r == .rcChAfe || r == .rcChLoops || r == .rcTap
  { s with
    vc := { s.vc with slots := [], tallies := [] }
    pe := { s.pe with health := [], wrapNow := none }
    rc := { s.rc with chans := [], adapted := [], written := [] }
    ed := { s.ed with iters := [] }
    ce := { s.ce with drbgUses := 0, seeds := s.ce.seeds + 1, healthy := s.board.trngOk }
    sm := { s.sm with
      engines := [], readers := [], inject := none, cap := cap0
      state := if s.ct.mounted then 1 else s.sm.state
      brake := !s.ct.mounted && s.sm.brake
      reels := if s.ct.mounted then 1 else s.sm.reels } }

/-- The part runs again in A0. -/
def State.awake (s : State) : State :=
  { s with ms := { s.ms with power := 0, moving := false, since := s.ms.time } }

/-- The end of an exit from A3: defaults, then the held writes in order (R440, R441 X6). -/
def State.wakeUp (s : State) : State :=
  let held := s.ms.wakeBuf
  let s := s.sleepDefaults.awake
  let s := { s with ms := { s.ms with wakeBuf := [] } }
  held.foldl (fun s w => s.runHeld w) s

/-- EXIT_LATENCY_END (R437): an exit from A1 or A2 ends. -/
def execExitLatencyEnd (s : State) : Host.Outcome State Fault Refusal :=
  .next (if s.ms.moving = true ∧ (s.ms.power = 1 ∨ s.ms.power = 2) then s.awake else s)

/-- A3_EXIT_COMPLETE (R441). -/
def execA3ExitComplete (s : State) : Host.Outcome State Fault Refusal :=
  .next (if s.ms.moving = true ∧ s.ms.power = 3 then s.wakeUp else s)

/-- WAKE (R440): a trigger, by its cause in MS_PWR_STATE. -/
def execWake (cause : Nat) (s : State) : Host.Outcome State Fault Refusal :=
  .next (if 1 ≤ cause ∧ cause ≤ 6 then s.wake cause else s)

/-! ### PWR_WARN_N and the thermal limit (R449, R520) -/

/-- Steps 1 to 3 of R449, the part having woken to A0. [DEDUCED, log entry 53] -/
def State.powerWarn (s : State) : State :=
  let s := s.wake 6
  let s := if s.ms.power = 3 then s.wakeUp else if s.ms.power = 0 then s else s.awake
  let s := { s with wc := { s.wc with gates := [], wmod := 0 } }
  let s := (s.leaveService.trip 8 7).logEv .pwrWarn 0 0 0
  let s := match s.ct.session with
    | some x => if x.state = 1 then s.writeProgress x x.kind else s
    | none => s
  s.saveSummary

/-- PWR_WARN_N (R449): `holdup` is HOLDUP_OK at step 2. -/
def execPwrWarnN (holdup : Bool) (s : State) : Host.Outcome State Fault Refusal :=
  .next (if s.ms.phase ≠ 2 ∨ s.ms.quiescent = true then s
    else
      let s := s.powerWarn
      { s with ms := { s.ms with shutDue := if holdup then 1 else 0 } })

/-- THERMAL_LIMIT (R520): a sensor's reading in 1/16 °C. [DEDUCED, log entry 53] -/
def execThermalLimit (island : Nat) (temp : Int) (s : State) : Host.Outcome State Fault Refusal :=
  .next (if s.ms.phase = 0 ∨ 25 ≤ island then s
    else
      let s := { s with ms := { s.ms with tempMax := max s.ms.tempMax temp } }
      if temp ≤ 1840 ∨ s.ms.phase ≠ 2 ∨ s.ms.quiescent = true then s
      else (if s.qe.leaving then s else s.powerWarn).quiet)

/-! ### Links (R57, R67, R438) -/

/-- A partition's link takes a state (HI_LINK_STATUS); its functions are in D3cold while it is in L2. -/
def State.linkChange (s : State) (p : Nat) (l : Link) : State :=
  if s.ms.phase ≠ 2 ∨ s.parts ≤ p ∨ s.hi.perst.contains p = true ∨
      s.ms.loops.any (fun x => decide (x.aux < 16) && x.handle == p) = true then s
  else
    let s := { s with hi := { s.hi with links := s.hi.links.set p l } }
    ((s.allFns.filter fun f => partOf f == p && (s.fctx f).d3cold != decide (l.state = 4)).foldl
      (fun s f => s.modFctx f fun x => { x with d3cold := decide (l.state = 4) }) s)

/-- LINK_STATE_CHANGE. -/
def execLinkStateChange (part state rate width : Nat) (flit clk : Bool) (s : State) : Host.Outcome State Fault Refusal :=
  .next (s.linkChange part { state := state % 8, rate := rate % 8, width := width % 32, flit := flit, clk := clk })

/-! ### Time -/

/-- What passes while no command waits (DESIGN CHOICE, log entry 2): MS_TIME goes on by 20 ns, and a requested power state is
entered once its conditions hold. [DESIGN CHOICE, log entry 2] -/
def State.tick (s : State) : State :=
  if s.ms.phase = 0 then s
  else ({ s with ms := { s.ms with time := s.ms.time + 20 } }).tryEnter

end Sys2Proof.Machine
end

