-- ==== Sys2Proof/Machine/Dispatch.lean ====
section
/-! DEFINITION. The one dispatch: each command to its meaning. -/

namespace Sys2Proof.Machine

def exec (i : Instr) (s : State) : Host.Outcome State Fault Refusal :=
  match i with
  | .sqDoorbell fn off width value => Sys2Proof.Machine.execSqDoorbell fn off width value s
  | .cqDoorbell fn off width value => Sys2Proof.Machine.execCqDoorbell fn off width value s
  | .qePealCommit fn page seq => Sys2Proof.Machine.execQePealCommit fn page seq s
  | .entryFetch entries => Sys2Proof.Machine.execEntryFetch entries s
  | .entryResolve id => Sys2Proof.Machine.execEntryResolve id s
  | .lockGrant id => Sys2Proof.Machine.execLockGrant id s
  | .dataTransferStart id pieces recs => Sys2Proof.Machine.execDataTransferStart id pieces recs s
  | .dataSequenced id data => Sys2Proof.Machine.execDataSequenced id data s
  | .completionPost => Sys2Proof.Machine.execCompletionPost s
  | .cqModerationTimer fn cq => Sys2Proof.Machine.execCqModerationTimer fn cq s
  | .chimePost fn => Sys2Proof.Machine.execChimePost fn s
  | .msixEnable fn enable => Sys2Proof.Machine.execMsixEnable fn enable s
  | .qeSqReset fn value => Sys2Proof.Machine.execQeSqReset fn value s
  | .resetDone fn ring => Sys2Proof.Machine.execResetDone fn ring s
  | .sqEnable fn value => Sys2Proof.Machine.execSqEnable fn value s
  | .sqDisable fn value => Sys2Proof.Machine.execSqDisable fn value s
  | .cqEnable fn value => Sys2Proof.Machine.execCqEnable fn value s
  | .cqDisable fn value => Sys2Proof.Machine.execCqDisable fn value s
  | .taskGoStart fn value => Sys2Proof.Machine.execTaskGoStart fn value s
  | .taskGoAbort fn value => Sys2Proof.Machine.execTaskGoAbort fn value s
  | .ringContextUe cq fn ring => Sys2Proof.Machine.execRingContextUe cq fn ring s
  | .hiFnTenantWrite src part value => Sys2Proof.Machine.execHiFnTenantWrite src part value s
  | .hiVfQuotaWrite src part value => Sys2Proof.Machine.execHiVfQuotaWrite src part value s
  | .hiFnAllocWrite src part kind value => Sys2Proof.Machine.execHiFnAllocWrite src part kind value s
  | .msSbOwnerWrite value => Sys2Proof.Machine.execMsSbOwnerWrite value s
  | .kltRebuild => Sys2Proof.Machine.execKltRebuild s
  | .registerWrite src blk inst off width value => Sys2Proof.Machine.execRegisterWrite src blk inst off width value s
  | .readClear src blk inst off width => Sys2Proof.Machine.execReadClear src blk inst off width s
  | .lowWordRead src blk inst off => Sys2Proof.Machine.execLowWordRead src blk inst off s
  | .perstNAssert part => Sys2Proof.Machine.execPerstNAssert part s
  | .perstNDeassert part => Sys2Proof.Machine.execPerstNDeassert part s
  | .flr fn => Sys2Proof.Machine.execFlr fn s
  | .vfCountChange part count => Sys2Proof.Machine.execVfCountChange part count s
  | .bufferAllocate who fn size => Sys2Proof.Machine.execBufferAllocate who fn size s
  | .bufferWaitGrant => Sys2Proof.Machine.execBufferWaitGrant s
  | .bufferFree who pool index => Sys2Proof.Machine.execBufferFree who pool index s
  | .bufferTransfer who dest pool index => Sys2Proof.Machine.execBufferTransfer who dest pool index s
  | .bmPoolSplitWrite src value => Sys2Proof.Machine.execBmPoolSplitWrite src value s
  | .bmStreamWinWrite src value => Sys2Proof.Machine.execBmStreamWinWrite src value s
  | .bmWmCfgWrite src value => Sys2Proof.Machine.execBmWmCfgWrite src value s
  | .bmFcwCfgWrite src value => Sys2Proof.Machine.execBmFcwCfgWrite src value s
  | .crossingDbe producer consumer item => Sys2Proof.Machine.execCrossingDbe producer consumer item s
  | .mcUe inst addr content => Sys2Proof.Machine.execMcUe inst addr content s
  | .patrolScrub inst corr0 corr1 => Sys2Proof.Machine.execPatrolScrub inst corr0 corr1 s
  | .mcCorrLimit inst errors => Sys2Proof.Machine.execMcCorrLimit inst errors s
  | .holdMaxExpiry stream => Sys2Proof.Machine.execHoldMaxExpiry stream s
  | .datasetForm => Sys2Proof.Machine.execDatasetForm s
  | .backhitchResume ms => Sys2Proof.Machine.execBackhitchResume ms s
  | .parcelCompress engine stream budget finish => Sys2Proof.Machine.execParcelCompress engine stream budget finish s
  | .compressorWaitSave engine stream budget => Sys2Proof.Machine.execCompressorWaitSave engine stream budget s
  | .contextRestore engine image => Sys2Proof.Machine.execContextRestore engine image s
  | .parcelSeal dataset index => Sys2Proof.Machine.execParcelSeal dataset index s
  | .tierEncode dataset tier faults => Sys2Proof.Machine.execTierEncode dataset tier faults s
  | .writeRunStart => Sys2Proof.Machine.execWriteRunStart s
  | .writeRunEnd count => Sys2Proof.Machine.execWriteRunEnd count s
  | .frameDecode frame => Sys2Proof.Machine.execFrameDecode frame s
  | .frameGrade place => Sys2Proof.Machine.execFrameGrade place s
  | .marginProbe place pass => Sys2Proof.Machine.execMarginProbe place pass s
  | .preambleDecode slot bits verify => Sys2Proof.Machine.execPreambleDecode slot bits verify s
  | .lossOfLock slot => Sys2Proof.Machine.execLossOfLock slot s
  | .shockN => Sys2Proof.Machine.execShockN s
  | .accRead x y z => Sys2Proof.Machine.execAccRead x y z s
  | .wfaultN => Sys2Proof.Machine.execWfaultN s
  | .wfaultPersist => Sys2Proof.Machine.execWfaultPersist s
  | .gateResume cut => Sys2Proof.Machine.execGateResume cut s
  | .benchmarkTrain results => Sys2Proof.Machine.execBenchmarkTrain results s
  | .wrapChange wrap bands => Sys2Proof.Machine.execWrapChange wrap bands s
  | .readTargetSelect => Sys2Proof.Machine.execReadTargetSelect s
  | .readWaitExpiry cmd long => Sys2Proof.Machine.execReadWaitExpiry cmd long s
  | .locateLanding => Sys2Proof.Machine.execLocateLanding s
  | .tierDecode dataset tier => Sys2Proof.Machine.execTierDecode dataset tier s
  | .c3Recover dataset tier => Sys2Proof.Machine.execC3Recover dataset tier s
  | .parcelOpen cmd dataset index => Sys2Proof.Machine.execParcelOpen cmd dataset index s
  | .parcelDecompress unit dataset index upto => Sys2Proof.Machine.execParcelDecompress unit dataset index upto s
  | .c3GroupClose members => Sys2Proof.Machine.execC3GroupClose members s
  | .servoFrame reader refs bias => Sys2Proof.Machine.execServoFrame reader refs bias s
  | .loopSample engine meas ext vmot late => Sys2Proof.Machine.execLoopSample engine meas ext vmot late s
  | .overrunTrip engine => Sys2Proof.Machine.execOverrunTrip engine s
  | .missingSampleTrip => Sys2Proof.Machine.execMissingSampleTrip s
  | .vmotUndervoltage millivolts => Sys2Proof.Machine.execVmotUndervoltage millivolts s
  | .hallCodeFault engine codes => Sys2Proof.Machine.execHallCodeFault engine codes s
  | .overcurrent engine milliamps => Sys2Proof.Machine.execOvercurrent engine milliamps s
  | .loopModeSwitch engine mode => Sys2Proof.Machine.execLoopModeSwitch engine mode s
  | .tripTapeStopped => Sys2Proof.Machine.execTripTapeStopped s
  | .safeHoldExpiry => Sys2Proof.Machine.execSafeHoldExpiry s
  | .reelBrakeEngage => Sys2Proof.Machine.execReelBrakeEngage s
  | .smTransportSafeReq src value => Sys2Proof.Machine.execSmTransportSafeReq src value s
  | .smLoopClose src value => Sys2Proof.Machine.execSmLoopClose src value s
  | .smLoopOpen src value => Sys2Proof.Machine.execSmLoopOpen src value s
  | .smLoopRateWrite src value => Sys2Proof.Machine.execSmLoopRateWrite src value s
  | .smCoefDataWrite src value => Sys2Proof.Machine.execSmCoefDataWrite src value s
  | .smInjStart src value => Sys2Proof.Machine.execSmInjStart src value s
  | .injectionEnd => Sys2Proof.Machine.execInjectionEnd s
  | .smCapArm src value => Sys2Proof.Machine.execSmCapArm src value s
  | .captureFull => Sys2Proof.Machine.execCaptureFull s
  | .senseChange pins => Sys2Proof.Machine.execSenseChange pins s
  | .mediaSessionEnd ok phase done elapsed => Sys2Proof.Machine.execMediaSessionEnd ok phase done elapsed s
  | .mount id pieces media => Sys2Proof.Machine.execMount id pieces media s
  | .unmount id rootOk => Sys2Proof.Machine.execUnmount id rootOk s
  | .openStream id => Sys2Proof.Machine.execOpenStream id s
  | .closeStream id => Sys2Proof.Machine.execCloseStream id s
  | .writeRecords id pieces recs data => Sys2Proof.Machine.execWriteRecords id pieces recs data s
  | .writePeg id => Sys2Proof.Machine.execWritePeg id s
  | .readRecords id pieces => Sys2Proof.Machine.execReadRecords id pieces s
  | .discardRemainder id => Sys2Proof.Machine.execDiscardRemainder id s
  | .locate id => Sys2Proof.Machine.execLocate id s
  | .space id => Sys2Proof.Machine.execSpace id s
  | .sync id => Sys2Proof.Machine.execSync id s
  | .queryStream id pieces => Sys2Proof.Machine.execQueryStream id pieces s
  | .getLog id pieces => Sys2Proof.Machine.execGetLog id pieces s
  | .getFieldBookExtent id pieces => Sys2Proof.Machine.execGetFieldBookExtent id pieces s
  | .keyInstall id pieces blob => Sys2Proof.Machine.execKeyInstall id pieces blob s
  | .keyInstallKek id pieces blob => Sys2Proof.Machine.execKeyInstallKek id pieces blob s
  | .keyErase id => Sys2Proof.Machine.execKeyErase id s
  | .keyQuery id pieces => Sys2Proof.Machine.execKeyQuery id pieces s
  | .keyQueryIdentity id pieces => Sys2Proof.Machine.execKeyQueryIdentity id pieces s
  | .cipherRaw id pieces data => Sys2Proof.Machine.execCipherRaw id pieces data s
  | .cipherAead id pieces data aad area => Sys2Proof.Machine.execCipherAead id pieces data aad area s
  | .format id pieces label media => Sys2Proof.Machine.execFormat id pieces label media s
  | .sanitizeOverwrite id media => Sys2Proof.Machine.execSanitizeOverwrite id media s
  | .sanitizeCrypto id pieces tenants media => Sys2Proof.Machine.execSanitizeCrypto id pieces tenants media s
  | .selfTest id test => Sys2Proof.Machine.execSelfTest id test s
  | .shutdownPrep id rootOk => Sys2Proof.Machine.execShutdownPrep id rootOk s
  | .unitCtrlRetire id => Sys2Proof.Machine.execUnitCtrlRetire id s
  | .unitCtrlReturn id test => Sys2Proof.Machine.execUnitCtrlReturn id test s
  | .unitCtrlBurn id good burned => Sys2Proof.Machine.execUnitCtrlBurn id good burned s
  | .devrst id => Sys2Proof.Machine.execDevrst id s
  | .updateOpen id => Sys2Proof.Machine.execUpdateOpen id s
  | .updateBlock id pieces data => Sys2Proof.Machine.execUpdateBlock id pieces data s
  | .updateVerify id => Sys2Proof.Machine.execUpdateVerify id s
  | .updateActivate id holdup => Sys2Proof.Machine.execUpdateActivate id holdup s
  | .updateConfirm id => Sys2Proof.Machine.execUpdateConfirm id s
  | .updateRevert id holdup => Sys2Proof.Machine.execUpdateRevert id holdup s
  | .updateSessionTimeout => Sys2Proof.Machine.execUpdateSessionTimeout s
  | .loopTestHost id => Sys2Proof.Machine.execLoopTestHost id s
  | .loopTestDescriptorEcho id => Sys2Proof.Machine.execLoopTestDescriptorEcho id s
  | .loopTestLpddr5x id => Sys2Proof.Machine.execLoopTestLpddr5x id s
  | .loopTestDecoder id => Sys2Proof.Machine.execLoopTestDecoder id s
  | .loopTestHeadTape id threaded tension formatted => Sys2Proof.Machine.execLoopTestHeadTape id threaded tension formatted s
  | .loopTestServo id => Sys2Proof.Machine.execLoopTestServo id s
  | .loopTestMotion id => Sys2Proof.Machine.execLoopTestMotion id s
  | .loopTestCartridgeSpi id => Sys2Proof.Machine.execLoopTestCartridgeSpi id s
  | .loopTestNvFlash id => Sys2Proof.Machine.execLoopTestNvFlash id s
  | .loopTestDurationEnd id pieces report => Sys2Proof.Machine.execLoopTestDurationEnd id pieces report s
  | .sliceTestStart => Sys2Proof.Machine.execSliceTestStart s
  | .sliceTestEnd test => Sys2Proof.Machine.execSliceTestEnd test s
  | .trngHealthFail => Sys2Proof.Machine.execTrngHealthFail s
  | .trngRetestEnd pass => Sys2Proof.Machine.execTrngRetestEnd pass s
  | .drbgReseed => Sys2Proof.Machine.execDrbgReseed s
  | .keyStoreUe slot => Sys2Proof.Machine.execKeyStoreUe slot s
  | .epochBatchReserve => Sys2Proof.Machine.execEpochBatchReserve s
  | .eventLogBlockReserve => Sys2Proof.Machine.execEventLogBlockReserve s
  | .journalCompact => Sys2Proof.Machine.execJournalCompact s
  | .vcCalCtrlWrite src value => Sys2Proof.Machine.execVcCalCtrlWrite src value s
  | .msDbgCtrlUnlock src value => Sys2Proof.Machine.execMsDbgCtrlUnlock src value s
  | .smbBlockWrite off value ok => Sys2Proof.Machine.execSmbBlockWrite off value ok s
  | .smbBlockRead off ok => Sys2Proof.Machine.execSmbBlockRead off ok s
  | .alertResponse => Sys2Proof.Machine.execAlertResponse s
  | .msSbDevrstWrite value => Sys2Proof.Machine.execMsSbDevrstWrite value s
  | .powerOn board mem => Sys2Proof.Machine.execPowerOn board mem s
  | .powerLoss io => Sys2Proof.Machine.execPowerLoss io s
  | .resetNAssert => Sys2Proof.Machine.execResetNAssert s
  | .resetNDeassert board => Sys2Proof.Machine.execResetNDeassert board s
  | .pwrWarnN holdup => Sys2Proof.Machine.execPwrWarnN holdup s
  | .shutdownSelfTest zeroOk test => Sys2Proof.Machine.execShutdownSelfTest zeroOk test s
  | .thermalLimit island temp => Sys2Proof.Machine.execThermalLimit island temp s
  | .idleT1Expiry => Sys2Proof.Machine.execIdleT1Expiry s
  | .idleT2Expiry => Sys2Proof.Machine.execIdleT2Expiry s
  | .idleT3Expiry => Sys2Proof.Machine.execIdleT3Expiry s
  | .msPwrReqEnter src value => Sys2Proof.Machine.execMsPwrReqEnter src value s
  | .msPwrReqWake src value => Sys2Proof.Machine.execMsPwrReqWake src value s
  | .wake cause => Sys2Proof.Machine.execWake cause s
  | .a3ExitComplete => Sys2Proof.Machine.execA3ExitComplete s
  | .msixVectorUnmask fn vector => Sys2Proof.Machine.execMsixVectorUnmask fn vector s
  | .timingLockReacquire slot => Sys2Proof.Machine.execTimingLockReacquire slot s
  | .shockNDeassert => Sys2Proof.Machine.execShockNDeassert s
  | .wfaultNDeassert => Sys2Proof.Machine.execWfaultNDeassert s
  | .linkStateChange part state rate width flit clk => Sys2Proof.Machine.execLinkStateChange part state rate width flit clk s
  | .vddIoUp => Sys2Proof.Machine.execVddIoUp s
  | .exitLatencyEnd => Sys2Proof.Machine.execExitLatencyEnd s
  | .dmaCompletionError id detail => Sys2Proof.Machine.execDmaCompletionError id detail s

end Sys2Proof.Machine
end

