-- ==== Sys2Proof/Machine/Step.lean ====
section
/-! DEFINITION. One step: the command at the front of the queue, or the passing of time. -/

namespace Sys2Proof.Machine

/-- The state with the command that a word spells put at the front of its queue; unchanged where it spells none. [DEDUCED, log entry 8; DESIGN CHOICE, log entry 69] -/
def State.withFetchWord (s : State) (nbits w : Nat) : State :=
  match decodeTableWord nbits w with
  | some c => { s with pending := c :: s.pending }
  | none => s

/-- Takes the command at the front of the queue and runs it on the rest; on an empty queue time passes (log entry 2). [DESIGN CHOICE, log entry 1] -/
def step (s : State) : Host.Outcome State Fault Refusal :=
  match s.pending with
  | [] => .next s.tick
  | c :: rest => exec c { s with pending := rest }

end Sys2Proof.Machine
end

