-- ==== Sys2Proof/Safety.lean ====
section
/-! DEFINITION. The terms in which claims about runs are put: which parts of the state a command may change, what must never
come twice or go back, and a step that goes on. -/

namespace Sys2Proof.Machine

/-- The parts of the state, one for each field of State. -/
inductive Part where
  | board | regs | latch | pendWord | hi | klt | qe | pe | bm | mc | cx | ce | df | wc | rc | ed | vc | sm | ct | ms | out
  | fresh | pending
  deriving DecidableEq, Repr

/-- Two states hold the same in one part. -/
def State.agree (s t : State) : Part → Prop
  | .board => t.board = s.board
  | .regs => t.regs = s.regs
  | .latch => t.latch = s.latch
  | .pendWord => t.pendWord = s.pendWord
  | .hi => t.hi = s.hi
  | .klt => t.klt = s.klt
  | .qe => t.qe = s.qe
  | .pe => t.pe = s.pe
  | .bm => t.bm = s.bm
  | .mc => t.mc = s.mc
  | .cx => t.cx = s.cx
  | .ce => t.ce = s.ce
  | .df => t.df = s.df
  | .wc => t.wc = s.wc
  | .rc => t.rc = s.rc
  | .ed => t.ed = s.ed
  | .vc => t.vc = s.vc
  | .sm => t.sm = s.sm
  | .ct => t.ct = s.ct
  | .ms => t.ms = s.ms
  | .out => t.out = s.out
  | .fresh => t.fresh = s.fresh
  | .pending => t.pending = s.pending

/-- Every part that the list does not name is the same in both states: the frame of a command. -/
def Frame (l : List Part) (s t : State) : Prop := ∀ p, l.contains p = false → s.agree t p

/-- The counters whose values must never come twice stay below the bounds the NV store holds for them: event-log sequence
numbers (R492), install epochs (R243), the anti-rollback fuses (R456). -/
def State.countersBound (s : State) : Prop :=
  s.ms.seq ≤ s.ms.seqBound ∧ s.ce.epoch ≤ s.ce.epochBound ∧ s.ms.fused ≤ 64

/-- No counter of the NV store has gone back between two states. -/
def State.countersRise (s t : State) : Prop :=
  s.ms.seq ≤ t.ms.seq ∧ s.ms.seqBound ≤ t.ms.seqBound ∧ s.ce.epoch ≤ t.ce.epoch ∧ s.ce.epochBound ≤ t.ce.epochBound ∧
    s.ms.fused ≤ t.ms.fused

/-- A register access from this port takes effect at once: it reaches the part (R70, R448, R505), which is in A0 (R436). -/
abbrev State.serves (s : State) (p : Port) : Prop := s.portOpen p = true ∧ s.ms.power = 0

/-- A command in flight that has been handed over and has not completed (R97), with its opcode, while no change of owner
waits for it (R64). -/
abbrev State.holds (s : State) (id op : Nat) (c : Cmd) : Prop :=
  s.cmd? id = some c ∧ c.phase = .ready ∧ entOpcode c.entry = op ∧ s.hi.ownerNext = none

/-- A command has ended with a status, a detail and a result: it is in flight no more, and on a host ring its completion is
ready for the ring's completion ring (R87, R88). -/
def State.told (s t : State) (c : Cmd) (status detail result : Nat) : Prop :=
  t.cmd? c.id = none ∧ (c.ring < windowRing → ∃ r ∈ t.qe.ready, r.fn = c.fn ∧ r.cq = s.boundCq c.fn c.ring ∧ r.ring = c.ring ∧
    r.status = status ∧ r.detail = detail ∧ r.result = min result 0xFFFFFFFF ∧ r.tag = entTag c.entry)

/-- Every register but the named ones holds in `t` what it holds in `s`. -/
def State.regsBut (l : List RegName) (s t : State) : Prop :=
  ∀ r inst sel, l.contains r = false → t.reg r inst sel = s.reg r inst sel

/-- A start goes through (R447, R455 to R457): the flash is there, the image named runs and is not on trial, and a channel pair
stays in the interleave. -/
abbrev State.canStart (s : State) : Prop :=
  32 ≤ s.board.flashMib ∧ s.ms.pointer.trial = false ∧ s.slotValid s.ms.pointer.slot = true ∧
    ∃ n < 4, ((s.mc.pairs.find n).map fun p => !p.retired && !p.pendingRetire) = some true

/-- No key is held: every slot is empty and no function has a KEK (R254). -/
def State.keyless (t : State) : Prop := (∀ g, (t.slot g).state = 0) ∧ ∀ f, (t.kek f).key = none

/-- What every reset of the whole part leaves once the part runs again (R442 to R448): no work of any function, no key, no
stream, the tape braked with every engine open, A0, and the first rebuild of the KLT under way. -/
def State.restarted (t : State) : Prop :=
  t.ms.phase = 2 ∧ t.ms.power = 0 ∧ t.qe.cmds = [] ∧ t.qe.sqs = [] ∧ t.qe.cqs = [] ∧ t.qe.ready = [] ∧ t.keyless ∧
    t.pe.streams = [] ∧ t.sm.state = 0 ∧ t.sm.brake = true ∧ t.sm.engines = [] ∧ t.klt.shown = 0 ∧
    t.klt.running = [⟨.all, true⟩]

/-- A step goes on. -/
def State.runs (s : State) : Prop := ∃ t, step s = .next t

end Sys2Proof.Machine

namespace Sys2Proof

/-- The parts of the state that a command can change: the units its rules name, with what their work may call on (registers,
completions and chimes, the event log, free values). -/
def Instr.touches : Instr → List Machine.Part
  | .sqDoorbell _ _ _ _ | .cqDoorbell _ _ _ _ | .qePealCommit _ _ _ | .cqEnable _ _ | .cqDisable _ _ =>
        [.regs, .qe, .ms]
  | .entryFetch _ =>
        [.regs, .hi, .qe, .out]
  | .entryResolve _ | .dataTransferStart _ _ _ | .qeSqReset _ _ | .sqEnable _ _ | .sqDisable _ _ | .taskGoStart _ _ |
    .taskGoAbort _ _ | .openStream _ | .closeStream _ | .readRecords _ _ | .discardRemainder _ | .locate _ | .space _
    | .sync _ | .queryStream _ _ | .getFieldBookExtent _ _ | .keyQuery _ _ | .keyQueryIdentity _ _ | .unitCtrlBurn _ _
    _ | .updateBlock _ _ _ | .updateVerify _ | .updateConfirm _ | .loopTestHost _ | .loopTestDescriptorEcho _ |
    .loopTestLpddr5x _ | .loopTestDecoder _ | .loopTestServo _ | .loopTestMotion _ | .loopTestCartridgeSpi _ |
    .loopTestNvFlash _ | .loopTestDurationEnd _ _ _ | .dmaCompletionError _ _ =>
        [.regs, .hi, .klt, .qe, .pe, .bm, .ms, .out]
  | .lockGrant _ =>
        [.qe]
  | .dataSequenced _ _ | .writeRecords _ _ _ _ | .writePeg _ =>
        [.regs, .hi, .klt, .qe, .pe, .bm, .cx, .ms, .out]
  | .completionPost | .chimePost _ | .registerWrite _ _ _ _ _ _ | .flr _ | .devrst _ | .smbBlockWrite _ _ _ |
    .msSbDevrstWrite _ | .pwrWarnN _ | .thermalLimit _ _ | .a3ExitComplete =>
        [.regs, .latch, .pendWord, .hi, .klt, .qe, .pe, .bm, .mc, .cx, .ce, .df, .wc, .rc, .ed, .vc, .sm, .ct, .ms,
      .out, .fresh]
  | .cqModerationTimer _ _ | .msixEnable _ _ | .resetDone _ _ =>
        [.hi, .qe, .out]
  | .ringContextUe _ _ _ | .updateSessionTimeout =>
        [.regs, .hi, .qe, .ms, .out]
  | .hiFnTenantWrite _ _ _ | .hiVfQuotaWrite _ _ _ | .bmFcwCfgWrite _ _ | .smLoopRateWrite _ _ | .vcCalCtrlWrite _ _ |
    .wake _ =>
        [.regs, .ms]
  | .hiFnAllocWrite _ _ _ _ | .msSbOwnerWrite _ =>
        [.regs, .hi, .klt, .qe, .ms, .out]
  | .kltRebuild =>
        [.regs, .hi, .klt, .qe, .out]
  | .readClear _ _ _ _ _ | .lowWordRead _ _ _ _ | .smbBlockRead _ _ =>
        [.regs, .latch, .bm, .df, .ms, .out, .fresh]
  | .perstNAssert _ | .vfCountChange _ _ =>
        [.regs, .latch, .pendWord, .hi, .klt, .qe, .pe, .bm, .ce, .ct, .ms, .out]
  | .perstNDeassert _ =>
        [.regs, .hi, .ms]
  | .bufferAllocate _ _ _ | .bufferWaitGrant =>
        [.regs, .bm]
  | .bufferFree _ _ _ | .bufferTransfer _ _ _ _ | .bmWmCfgWrite _ _ =>
        [.regs, .bm, .ms]
  | .bmPoolSplitWrite _ _ =>
        [.regs, .hi, .qe, .pe, .bm, .ms, .out]
  | .bmStreamWinWrite _ _ =>
        [.regs, .hi, .qe, .pe, .ms, .out]
  | .crossingDbe _ _ _ =>
        [.regs, .pe, .ce, .ed, .ms]
  | .mcUe _ _ _ =>
        [.regs, .hi, .klt, .qe, .pe, .bm, .mc, .cx, .ed, .ms, .out]
  | .patrolScrub _ _ _ =>
        [.regs]
  | .mcCorrLimit _ _ =>
        [.regs, .hi, .klt, .qe, .mc, .ms, .out]
  | .holdMaxExpiry _ | .readWaitExpiry _ _ =>
        [.pe]
  | .datasetForm =>
        [.regs, .hi, .klt, .qe, .pe, .bm, .cx, .df, .vc, .ct, .ms, .out, .fresh]
  | .backhitchResume _ =>
        [.regs, .df, .wc, .sm]
  | .parcelCompress _ _ _ _ | .compressorWaitSave _ _ _ =>
        [.regs, .cx, .ms]
  | .contextRestore _ _ =>
        [.regs, .cx]
  | .parcelSeal _ _ | .keyErase _ | .trngRetestEnd _ | .keyStoreUe _ =>
        [.regs, .hi, .klt, .qe, .pe, .bm, .cx, .ce, .ms, .out]
  | .tierEncode _ _ _ =>
        [.regs, .bm, .df, .ms, .out]
  | .writeRunStart =>
        [.df, .wc, .sm]
  | .writeRunEnd _ =>
        [.regs, .bm, .df, .wc]
  | .frameDecode _ =>
        [.regs, .ed, .ms]
  | .frameGrade _ =>
        [.regs, .hi, .klt, .qe, .pe, .bm, .cx, .df, .ed, .vc, .ms, .out]
  | .marginProbe _ _ =>
        [.regs, .vc]
  | .preambleDecode _ _ _ =>
        [.regs, .pe, .rc, .vc]
  | .lossOfLock _ | .timingLockReacquire _ =>
        [.rc]
  | .shockN | .accRead _ _ _ | .wfaultN =>
        [.regs, .wc]
  | .wfaultPersist =>
        [.regs, .hi, .klt, .qe, .pe, .bm, .cx, .df, .wc, .sm, .ms, .out]
  | .gateResume _ =>
        [.regs, .hi, .klt, .qe, .pe, .bm, .cx, .df, .wc, .ms, .out]
  | .benchmarkTrain _ =>
        [.pe, .vc]
  | .wrapChange _ _ =>
        [.regs, .pe, .df, .wc, .vc, .sm, .ms]
  | .readTargetSelect =>
        [.pe, .bm, .ce, .ed]
  | .locateLanding =>
        [.pe, .sm]
  | .tierDecode _ _ =>
        [.regs, .bm, .ed]
  | .c3Recover _ _ =>
        [.regs, .pe, .bm, .ed]
  | .parcelOpen _ _ _ =>
        [.regs, .hi, .qe, .pe, .ce, .ms, .out]
  | .parcelDecompress _ _ _ _ =>
        [.regs, .pe, .cx, .ce, .ms]
  | .c3GroupClose _ =>
        [.df]
  | .servoFrame _ _ _ =>
        [.regs, .sm]
  | .loopSample _ _ _ _ _ =>
        [.regs, .wc, .sm, .ms]
  | .overrunTrip _ | .missingSampleTrip | .vmotUndervoltage _ | .hallCodeFault _ _ | .overcurrent _ _ |
    .smTransportSafeReq _ _ =>
        [.regs, .df, .wc, .sm, .ms]
  | .loopModeSwitch _ _ | .tripTapeStopped | .reelBrakeEngage | .injectionEnd | .captureFull =>
        [.sm]
  | .safeHoldExpiry =>
        [.regs, .hi, .klt, .qe, .pe, .bm, .cx, .sm, .ms, .out]
  | .smLoopClose _ _ | .smLoopOpen _ _ | .smCoefDataWrite _ _ | .smCapArm _ _ | .idleT1Expiry | .idleT2Expiry |
    .idleT3Expiry | .msPwrReqEnter _ _ | .msPwrReqWake _ _ =>
        [.regs, .sm, .ms]
  | .smInjStart _ _ =>
        [.regs, .sm, .ms, .fresh]
  | .senseChange _ =>
        [.regs, .hi, .klt, .qe, .pe, .bm, .cx, .df, .wc, .sm, .ct, .ms, .out]
  | .mediaSessionEnd _ _ _ _ =>
        [.regs, .hi, .klt, .qe, .pe, .bm, .ct, .ms, .out]
  | .mount _ _ _ | .shutdownPrep _ _ =>
        [.regs, .hi, .klt, .qe, .pe, .bm, .cx, .ce, .df, .wc, .rc, .ed, .vc, .sm, .ct, .ms, .out]
  | .unmount _ _ =>
        [.regs, .hi, .klt, .qe, .pe, .bm, .cx, .ce, .df, .rc, .ed, .vc, .sm, .ct, .ms, .out]
  | .getLog _ _ | .updateOpen _ =>
        [.regs, .hi, .klt, .qe, .pe, .bm, .ms, .out, .fresh]
  | .keyInstall _ _ _ | .keyInstallKek _ _ _ | .cipherRaw _ _ _ =>
        [.regs, .hi, .klt, .qe, .pe, .bm, .ce, .ms, .out]
  | .cipherAead _ _ _ _ _ =>
        [.regs, .hi, .klt, .qe, .pe, .bm, .ce, .ms, .out, .fresh]
  | .format _ _ _ _ | .sanitizeOverwrite _ _ =>
        [.regs, .hi, .klt, .qe, .pe, .bm, .cx, .ce, .df, .rc, .ed, .vc, .ct, .ms, .out]
  | .sanitizeCrypto _ _ _ _ =>
        [.regs, .hi, .klt, .qe, .pe, .bm, .cx, .ce, .ct, .ms, .out]
  | .selfTest _ _ | .unitCtrlRetire _ | .unitCtrlReturn _ _ | .sliceTestEnd _ | .shutdownSelfTest _ _ =>
        [.regs, .hi, .klt, .qe, .pe, .bm, .mc, .cx, .ce, .df, .wc, .ed, .sm, .ms, .out]
  | .updateActivate _ _ | .updateRevert _ _ =>
        [.regs, .hi, .klt, .qe, .pe, .bm, .sm, .ms, .out, .fresh]
  | .loopTestHeadTape _ _ _ _ =>
        [.regs, .hi, .klt, .qe, .pe, .bm, .wc, .sm, .ct, .ms, .out]
  | .sliceTestStart | .eventLogBlockReserve | .vddIoUp | .exitLatencyEnd =>
        [.ms]
  | .trngHealthFail | .epochBatchReserve =>
        [.ce]
  | .drbgReseed =>
        [.ce, .fresh]
  | .journalCompact =>
        [.regs, .ms, .fresh]
  | .msDbgCtrlUnlock _ _ =>
        [.regs, .qe, .ce, .ms]
  | .alertResponse =>
        [.ms, .out]
  | .powerOn _ _ | .resetNDeassert _ =>
        [.board, .regs, .hi, .klt, .qe, .pe, .bm, .mc, .cx, .ce, .df, .wc, .ed, .sm, .ms, .out, .fresh]
  | .powerLoss _ | .resetNAssert =>
        [.regs, .latch, .pendWord, .hi, .qe, .pe, .bm, .mc, .cx, .ce, .df, .wc, .rc, .ed, .vc, .sm, .ct, .ms]
  | .msixVectorUnmask _ _ =>
        [.hi, .out]
  | .shockNDeassert | .wfaultNDeassert =>
        [.wc]
  | .linkStateChange _ _ _ _ _ _ =>
        [.hi]

end Sys2Proof
end

