-- ==== Sys2Proof/WellFormed.lean ====
section
/-! DEFINITION. Which commands can arise at all: operands within the ranges that the spec gives what they name. The machine
gives every command a meaning; this says which of them a part can meet. -/

namespace Sys2Proof

/-- A function number: partition 0 to 3, index 0 to 252 (R58). -/
def fnOk (f : Nat) : Bool := decide (f / 256 < 4) && decide (f % 256 ≤ 252)

/-- A sender of register accesses: a function, or the sideband (R505). -/
def portOk : Port → Bool
  | .fn f => fnOk f
  | .sideband => true

/-- An owner of buffers (R189). -/
def partyOk : Party → Bool
  | .unit _ _ => true
  | .ring f _ => fnOk f

/-- The width of an access in bytes (R45). -/
def widthOk (w : Nat) : Bool := w == 1 || w == 2 || w == 4 || w == 8

/-- A piece of a buffer list: a 64-bit address and a 32-bit length (R108). -/
def pieceOk (p : BufPiece) : Bool := decide (p.addr < 2 ^ 64) && decide (p.len < 2 ^ 32)

/-- A place of a frame: a track slot (R9) and a restart count of 0 to 2 (R269). -/
def placeOk (p : FramePos) : Bool := decide (p.slot < 136) && decide (p.restart < 3)

/-- What a lane reports of a frame: 16,384 bits (R289). -/
def frameOk (f : FrameRead) : Bool := placeOk f.place && f.code.length == 16384

/-- A board: straps of two bits (R56, R62), eight channels with density codes 0 to 4 (R206). -/
def boardOk (b : Board) : Bool :=
  decide (b.partSel < 4) && decide (b.ownerSel < 4) && b.density.length == 8 && b.density.all fun d => decide (d ≤ 4)

/-- A test run's results: at most one entry for each of the 25 islands (R480). -/
def testOk (t : TestRead) : Bool := decide (t.islands.length ≤ 25)

/-- A command that the part can meet. -/
def Instr.wf : Instr → Bool
  | .sqDoorbell fn _ width value => fnOk fn && widthOk width && decide (value < 2 ^ (8 * width))
  | .cqDoorbell fn _ width value => fnOk fn && widthOk width && decide (value < 2 ^ (8 * width))
  | .qePealCommit fn page _ => fnOk fn && decide (page < 64)
  | .entryFetch _ => true
  | .entryResolve _ => true
  | .lockGrant _ => true
  | .dataTransferStart _ pieces _ => pieces.all pieceOk
  | .dataSequenced _ _ => true
  | .completionPost => true
  | .cqModerationTimer fn _ => fnOk fn
  | .chimePost fn => fnOk fn
  | .msixEnable fn _ => fnOk fn
  | .qeSqReset fn _ => fnOk fn
  | .resetDone fn _ => fnOk fn
  | .sqEnable fn _ => fnOk fn
  | .sqDisable fn _ => fnOk fn
  | .cqEnable fn _ => fnOk fn
  | .cqDisable fn _ => fnOk fn
  | .taskGoStart fn _ => fnOk fn
  | .taskGoAbort fn _ => fnOk fn
  | .ringContextUe _ fn _ => fnOk fn
  | .hiFnTenantWrite src part _ => portOk src && decide (part < 4)
  | .hiVfQuotaWrite src part _ => portOk src && decide (part < 4)
  | .hiFnAllocWrite src part _ _ => portOk src && decide (part < 4)
  | .msSbOwnerWrite _ => true
  | .kltRebuild => true
  | .registerWrite src _ _ _ width value => portOk src && widthOk width && decide (value < 2 ^ (8 * width))
  | .readClear src _ _ _ width => portOk src && widthOk width
  | .lowWordRead src _ _ _ => portOk src
  | .perstNAssert part => decide (part < 4)
  | .perstNDeassert part => decide (part < 4)
  | .flr fn => fnOk fn
  | .vfCountChange part count => decide (part < 4) && decide (count ≤ 252)
  | .bufferAllocate who fn _ => partyOk who && fnOk fn
  | .bufferWaitGrant => true
  | .bufferFree who pool _ => partyOk who && decide (pool < 5)
  | .bufferTransfer who dest pool _ => partyOk who && partyOk dest && decide (pool < 5)
  | .bmPoolSplitWrite src _ => portOk src
  | .bmStreamWinWrite src _ => portOk src
  | .bmWmCfgWrite src _ => portOk src
  | .bmFcwCfgWrite src _ => portOk src
  | .crossingDbe producer consumer _ => decide (producer < 32) && decide (consumer < 32)
  | .mcUe inst _ _ => decide (inst < 4)
  | .patrolScrub inst _ _ => decide (inst < 4)
  | .mcCorrLimit inst _ => decide (inst < 4)
  | .holdMaxExpiry _ => true
  | .datasetForm => true
  | .backhitchResume _ => true
  | .parcelCompress engine _ _ _ => decide (engine < 32)
  | .compressorWaitSave engine _ _ => decide (engine < 32)
  | .contextRestore engine _ => decide (engine < 32)
  | .parcelSeal _ _ => true
  | .tierEncode _ tier _ => decide (tier < 256)
  | .writeRunStart => true
  | .writeRunEnd _ => true
  | .frameDecode frame => frameOk frame
  | .frameGrade place => placeOk place
  | .marginProbe place _ => placeOk place
  | .preambleDecode slot _ _ => decide (slot < 136)
  | .lossOfLock slot => decide (slot < 136)
  | .shockN => true
  | .accRead _ _ _ => true
  | .wfaultN => true
  | .wfaultPersist => true
  | .gateResume _ => true
  | .benchmarkTrain _ => true
  | .wrapChange wrap _ => decide (wrap < 256)
  | .readTargetSelect => true
  | .readWaitExpiry _ _ => true
  | .locateLanding => true
  | .tierDecode _ tier => decide (tier < 256)
  | .c3Recover _ tier => decide (tier < 256)
  | .parcelOpen _ _ _ => true
  | .parcelDecompress unit _ _ _ => decide (unit < 32)
  | .c3GroupClose _ => true
  | .servoFrame reader _ _ => decide (reader < 8)
  | .loopSample engine _ _ _ _ => decide (engine < 6)
  | .overrunTrip engine => decide (engine < 6)
  | .missingSampleTrip => true
  | .vmotUndervoltage _ => true
  | .hallCodeFault engine _ => decide (engine < 6)
  | .overcurrent engine _ => decide (engine < 6)
  | .loopModeSwitch engine mode => decide (engine < 6) && decide (mode < 4)
  | .tripTapeStopped => true
  | .safeHoldExpiry => true
  | .reelBrakeEngage => true
  | .smTransportSafeReq src _ => portOk src
  | .smLoopClose src _ => portOk src
  | .smLoopOpen src _ => portOk src
  | .smLoopRateWrite src _ => portOk src
  | .smCoefDataWrite src _ => portOk src
  | .smInjStart src _ => portOk src
  | .injectionEnd => true
  | .smCapArm src _ => portOk src
  | .captureFull => true
  | .senseChange pins => decide (pins < 256)
  | .mediaSessionEnd _ _ _ _ => true
  | .mount _ pieces _ => pieces.all pieceOk
  | .unmount _ _ => true
  | .openStream _ => true
  | .closeStream _ => true
  | .writeRecords _ pieces _ _ => pieces.all pieceOk
  | .writePeg _ => true
  | .readRecords _ pieces => pieces.all pieceOk
  | .discardRemainder _ => true
  | .locate _ => true
  | .space _ => true
  | .sync _ => true
  | .queryStream _ pieces => pieces.all pieceOk
  | .getLog _ pieces => pieces.all pieceOk
  | .getFieldBookExtent _ pieces => pieces.all pieceOk
  | .keyInstall _ pieces _ => pieces.all pieceOk
  | .keyInstallKek _ pieces _ => pieces.all pieceOk
  | .keyErase _ => true
  | .keyQuery _ pieces => pieces.all pieceOk
  | .keyQueryIdentity _ pieces => pieces.all pieceOk
  | .cipherRaw _ pieces _ => pieces.all pieceOk
  | .cipherAead _ pieces _ _ _ => pieces.all pieceOk
  | .format _ pieces _ _ => pieces.all pieceOk
  | .sanitizeOverwrite _ _ => true
  | .sanitizeCrypto _ pieces _ _ => pieces.all pieceOk
  | .selfTest _ test => testOk test
  | .shutdownPrep _ _ => true
  | .unitCtrlRetire _ => true
  | .unitCtrlReturn _ test => testOk test
  | .unitCtrlBurn _ _ _ => true
  | .devrst _ => true
  | .updateOpen _ => true
  | .updateBlock _ pieces _ => pieces.all pieceOk
  | .updateVerify _ => true
  | .updateActivate _ _ => true
  | .updateConfirm _ => true
  | .updateRevert _ _ => true
  | .updateSessionTimeout => true
  | .loopTestHost _ => true
  | .loopTestDescriptorEcho _ => true
  | .loopTestLpddr5x _ => true
  | .loopTestDecoder _ => true
  | .loopTestHeadTape _ _ _ _ => true
  | .loopTestServo _ => true
  | .loopTestMotion _ => true
  | .loopTestCartridgeSpi _ => true
  | .loopTestNvFlash _ => true
  | .loopTestDurationEnd _ pieces _ => pieces.all pieceOk
  | .sliceTestStart => true
  | .sliceTestEnd test => testOk test
  | .trngHealthFail => true
  | .trngRetestEnd _ => true
  | .drbgReseed => true
  | .keyStoreUe slot => decide (slot < 4096)
  | .epochBatchReserve => true
  | .eventLogBlockReserve => true
  | .journalCompact => true
  | .vcCalCtrlWrite src _ => portOk src
  | .msDbgCtrlUnlock src _ => portOk src
  | .smbBlockWrite off _ _ => decide (off < 65536)
  | .smbBlockRead off _ => decide (off < 65536)
  | .alertResponse => true
  | .msSbDevrstWrite _ => true
  | .powerOn board mem => boardOk board && testOk mem
  | .powerLoss _ => true
  | .resetNAssert => true
  | .resetNDeassert board => boardOk board
  | .pwrWarnN _ => true
  | .shutdownSelfTest _ test => testOk test
  | .thermalLimit island _ => decide (island < 25)
  | .idleT1Expiry => true
  | .idleT2Expiry => true
  | .idleT3Expiry => true
  | .msPwrReqEnter src _ => portOk src
  | .msPwrReqWake src _ => portOk src
  | .wake cause => decide (1 ≤ cause ∧ cause ≤ 6)
  | .a3ExitComplete => true
  | .msixVectorUnmask fn vector => fnOk fn && decide (vector < 2048)
  | .timingLockReacquire slot => decide (slot < 136)
  | .shockNDeassert => true
  | .wfaultNDeassert => true
  | .linkStateChange part state rate _ _ _ => decide (part < 4) && decide (state < 8) && decide (rate ≤ 6)
  | .vddIoUp => true
  | .exitLatencyEnd => true
  | .dmaCompletionError _ detail => decide (1 ≤ detail ∧ detail ≤ 4)

end Sys2Proof
end

