-- ==== Sys2Proof/Certificates/Slice0/Obligations.lean ====
section
/-! DEFINITION. The statements for the provers, from the rules of the spec. -/

open Sys2Proof Sys2Proof.Machine

/-- A step runs the command at the front of the queue. (R4) -/
def Obligations.StepRunsTheFrontCommand : Prop :=
  ∀ (c : Instr) (rest : List Instr) (s : State), step { s with pending := c :: rest } = exec c { s with pending := rest }

/-- With no command waiting, time passes. (R452, R439) -/
def Obligations.AnEmptyQueueLetsTimePass : Prop :=
  ∀ s : State, s.pending = [] → ∃ t, step s = .next t ∧ t.pending = [] ∧
    (s.ms.phase ≠ 0 → s.fld .msPwrReq 0 0 1 0 = 0 → t = { s with ms := { s.ms with time := s.ms.time + 20 } })

/-- No command changes the commands that wait behind it. (R4) -/
def Obligations.NoCommandTouchesTheQueue : Prop :=
  ∀ (c : Instr) (s t : State), exec c s = .next t → t.pending = s.pending

/-- What each of the 181 commands leaves unchanged. (R12, R13, R14, R49) -/
def Obligations.EachCommandKeepsItsFrame : Prop :=
  ∀ (c : Instr) (s t : State), exec c s = .next t → Frame c.touches s t

/-- Every command completes but PARCEL_SEAL with its count of all-zero-key parcels spent. (R249) -/
def Obligations.OnlyParcelSealCanStop : Prop :=
  ∀ (c : Instr) (s : State), (∃ t, exec c s = .next t) ∨
    (exec c s = .fault .zeroKeyCountSpent ∧ (∃ d i, c = .parcelSeal d i) ∧ 2 ^ 64 ≤ s.ce.zeroCount + 1)

/-- Log sequence numbers, install epochs and anti-rollback fuses never go back, and stay below their reserved bounds.
(R243, R456, R492, R495) -/
def Obligations.CountersNeverComeTwice : Prop :=
  ∀ s t : State, s.countersBound → step s = .next t → t.countersBound ∧ s.countersRise t

/-- What the machine holds after reset, and that the counter invariant holds there. (R28, R59, R62, R65, R434, R442, R447) -/
def Obligations.ResetHoldsTheCounterBounds : Prop :=
  State.reset.countersBound ∧ State.reset.restarted ∧ State.reset.ms.time = 0 ∧ State.reset.allFns = [fnOf 0 0] ∧
    State.reset.isOwner (fnOf 0 0) = true ∧ State.reset.tenant (fnOf 0 0) = 1 ∧ State.reset.sqCount (fnOf 0 0) = 262144 ∧
    State.reset.cqCount (fnOf 0 0) = 65536 ∧ State.reset.vecCount (fnOf 0 0) = 4096 ∧ State.reset.keyCount (fnOf 0 0) = 4096 ∧
    State.reset.reg .smTension 0 0 = 800 ∧ State.reset.reg .vcStart 0 0 = 0x14 ∧ State.reset.pending = []

/-- Doorbells publish entries and release slots, and a bad one is dropped and counted. (R46, R79, R80, R81, R85) -/
def Obligations.DoorbellsPublishReleaseOrAreDropped : Prop :=
  ∀ (s : State) (f i v : Nat), s.serves (.fn f) → s.hasFn f = true → v < 65536 →
    (i < 262144 → s.sqBellOk f i v = true → (s.sq f i).tail ≠ v →
      ∃ t, exec (.sqDoorbell f (4 * i) 4 v) s = .next t ∧
        t.sq f i = { s.sq f i with tail := v, pubs := (s.sq f i).pubs ++ [(v, s.qe.stamp)] } ∧
        t.qe.stamp = s.qe.stamp + 1 ∧ (∀ g j, (g, j) ≠ (f, i) → t.sq g j = s.sq g j) ∧ t.qe.cqs = s.qe.cqs ∧
        Frame [.qe] s t) ∧
    (i < 65536 → s.cqBellOk f i v = true →
      exec (.cqDoorbell f (0x100000 + 4 * i) 4 v) s = .next (s.setCq f i { s.cq f i with head := v })) ∧
    (∀ off w, off % 4 = 0 → exec (.sqDoorbell f off 8 w) s =
      .next ((s.bellWord f off (w % 2 ^ 32)).bellWord f (off + 4) (w / 2 ^ 32 % 2 ^ 32))) ∧
    (∀ off w, (i < 262144 ∧ s.sqBellOk f i v = false ∧ off = 4 * i ∧ w = 4 ∨
      i < 65536 ∧ s.cqBellOk f i v = false ∧ off = 0x100000 + 4 * i ∧ w = 4 ∨ w < 4 ∨ off % 4 ≠ 0) →
      ∃ t, exec (.sqDoorbell f off w v) s = .next t ∧ exec (.cqDoorbell f off w v) s = .next t ∧
        t.reg .qeBadDb f 0 = min (s.reg .qeBadDb f 0 + 1) 0xFFFFFFFF ∧ t.fld .qeStatus f 0 1 1 = 1 ∧
        (∀ r g k, (r ≠ .qeBadDb ∧ r ≠ .qeStatus) ∨ g ≠ f → t.reg r g k = s.reg r g k) ∧ Frame [.regs] s t)

/-- A peal commit applies its pairs in order, or none where the count is out of range. (R83) -/
def Obligations.PealCommitAppliesEveryPair : Prop :=
  ∀ (s : State) (f page : Nat) (seq : Word), s.serves (.fn f) → s.hasFn f = true → page < 64 →
    let n := s.reg .qePealCount f (pealSel page 0) % 1024
    (1 ≤ n → n ≤ 510 → exec (.qePealCommit f page seq) s =
      .next ((s.applyPairs f page (List.range n)).1.setReg .qePealStatus f (pealSel page 0)
        (seq.toNat % 65536 * 65536 + (s.applyPairs f page (List.range n)).2))) ∧
    (n = 0 ∨ 510 < n → ∃ t, exec (.qePealCommit f page seq) s = .next t ∧ t.fld .qeStatus f 0 2 2 = 1 ∧
      t.reg .qePealStatus f (pealSel page 0) = seq.toNat % 65536 * 65536 + 1023 ∧ Frame [.regs] s t) ∧
    (∀ (k : Nat) (u : State) (rej : Nat), (u.applyPair f page k rej).1 =
      u.bell f (bitOf (u.reg .qePealRing f (pealSel page k)) 31) (u.reg .qePealRing f (pealSel page k) % 2 ^ 18)
        (u.reg .qePealValue f (pealSel page k) % 65536) 2)

/-- TASK_GO publishes a window command while idle and drops it on abort. (R103, R104) -/
def Obligations.WindowCommandsStartAndAbort : Prop :=
  ∀ (s : State) (f : Nat), s.serves (.fn f) → s.hasFn f = true → s.qe.window = true →
    (s.windowBusy f = false → ∃ t, exec (.taskGoStart f 1) s = .next t ∧ t.windowBusy f = true ∧
      (t.sq f windowRing).enabled = true ∧ (t.sq f windowRing).tail = ((s.sq f windowRing).tail + 1) % 2 ∧
      ((s.sq f windowRing).tail < 2 → (t.sq f windowRing).pubs = (s.sq f windowRing).pubs ++ [((t.sq f windowRing).tail, s.qe.stamp)]) ∧
      (∀ g j, (g, j) ≠ (f, windowRing) → t.sq g j = s.sq g j) ∧ Frame [.regs, .qe] s t) ∧
    (s.windowBusy f = true → (s.qe.cmds.all fun c => c.fn != f || c.ring != windowRing) = true →
      ∃ t, exec (.taskGoAbort f 2) s = .next t ∧ t.windowBusy f = false ∧ bitOf (t.reg .taskStatus f 0) 29 = true ∧
        (t.sq f windowRing).head = (s.sq f windowRing).tail ∧ (t.sq f windowRing).pubs = [] ∧ t.qe.cmds = s.qe.cmds ∧
        Frame [.regs, .hi, .qe, .bm, .out] s t) ∧
    (s.windowBusy f = true → ∀ (k v : Nat), k < 9 → ∃ t, exec (.registerWrite (.fn f) .task 0 (4 + 4 * k) 4 v) s = .next t ∧
      (∀ j < 8, t.reg .taskParam f j = s.reg .taskParam f j) ∧ t.reg .taskOpcode f 0 = s.reg .taskOpcode f 0 ∧
      Frame [.regs] s t)

/-- Enabling and disabling rings. (R76, R77) -/
def Obligations.RingsAreEnabledAndDisabled : Prop :=
  ∀ (s : State) (f : Nat) (v : Word), s.serves (.fn f) →
    let r := s.fld .qeSqSel f 0 17 0
    let c := s.fld .qeCqSel f 0 15 0
    let s' := s.setFld .qeSqCtrl f r 3 2 (bitsOf v.toNat 3 2)
    (r < s.sqCount f → (s.sq f r).enabled = false → bitOf v.toNat 0 = true →
      (s'.sqEnableOk f r = true → ∃ t, exec (.sqEnable f v) s = .next t ∧ (t.sq f r).enabled = true ∧
        (t.sq f r).head = 0 ∧ (t.sq f r).tail = 0 ∧ t.fld .qeSqCtrl f r 0 0 = 1 ∧
        (∀ g j, (g, j) ≠ (f, r) → t.sq g j = s.sq g j) ∧ Frame [.regs, .qe] s t) ∧
      (s'.sqEnableOk f r = false → ∃ t, exec (.sqEnable f v) s = .next t ∧ t.fld .qeStatus f 0 3 3 = 1 ∧
        Frame [.regs] s t)) ∧
    (r < s.sqCount f → (s.sq f r).enabled = true → (s.sq f r).resetting = false → bitOf v.toNat 0 = false →
      ∃ t, exec (.sqDisable f v) s = .next t ∧ (t.sq f r).resetting = true ∧ (t.sq f r).disabling = true ∧
        (t.sq f r).enabled = true ∧ (t.sq f r).pubs = []) ∧
    (c < s.cqCount f → (s.cq f c).enabled = false → bitOf v.toNat 0 = true →
      (s.cqEnableOk f c = true → ∃ t, exec (.cqEnable f v) s = .next t ∧ (t.cq f c).enabled = true ∧
        (t.cq f c).tail = 0 ∧ (t.cq f c).phase = true ∧ (∀ g j, (g, j) ≠ (f, c) → t.cq g j = s.cq g j) ∧
        t.qe.sqs = s.qe.sqs ∧ Frame [.regs, .qe] s t) ∧
      (s.cqEnableOk f c = false → ∃ t, exec (.cqEnable f v) s = .next t ∧ t.fld .qeStatus f 0 3 3 = 1 ∧
        Frame [.regs] s t)) ∧
    (c < s.cqCount f → (s.cq f c).enabled = true → bitOf v.toNat 0 = false →
      (s.cqBusy f c = false → ∃ t, exec (.cqDisable f v) s = .next t ∧ (t.cq f c).enabled = false ∧
        (∀ g j, (g, j) ≠ (f, c) → t.cq g j = s.cq g j) ∧ t.qe.sqs = s.qe.sqs ∧ Frame [.regs, .qe] s t) ∧
      (s.cqBusy f c = true → ∃ t, exec (.cqDisable f v) s = .next t ∧ t.fld .qeStatus f 0 3 3 = 1 ∧
        Frame [.regs] s t))

/-- A queue reset drops the unaccepted, and RESET_DONE reports it. (R97, R98, R99) -/
def Obligations.QueueResetsDropAndReport : Prop :=
  ∀ (s : State) (f r : Nat) (v : Word), r < s.sqCount f →
    (s.serves (.fn f) → r = v.toNat % 2 ^ 18 → (s.sq f r).enabled = true → (s.sq f r).resetting = false →
      s.unaccepted f r = [] →
      ∃ t, exec (.qeSqReset f v) s = .next t ∧
        t.sq f r = { s.sq f r with resetting := true, disabling := false, pubs := [], completed := 0, highTag := 0,
                                   dropped := if (s.sq f r).failed then 0xFFFFFFFF else s.unfetched f r } ∧
        (∀ g j, (g, j) ≠ (f, r) → t.sq g j = s.sq g j) ∧ t.qe.cmds = s.qe.cmds ∧ Frame [.qe, .bm] s t) ∧
    ((s.sq f r).resetting = true → s.resetQuiet f r = true → s.cqRoom f (s.boundCq f r) = true →
      (s.qe.ready.all fun x => x.fn != f || x.cq != s.boundCq f r) = true →
      ∃ t, exec (.resetDone f r) s = .next t ∧ (t.sq f r).resetting = false ∧ (t.sq f r).head = 0 ∧ (t.sq f r).tail = 0 ∧
        (t.sq f r).enabled = !(s.sq f r).disabling ∧ (∀ g j, (g, j) ≠ (f, r) → t.sq g j = s.sq g j) ∧
        t.qe.cmds = s.qe.cmds ∧ t.regs = s.regs ∧ t.ms = s.ms)

/-- An uncorrectable context error fails its ring, and only it. (R101, R492) -/
def Obligations.RingsFailOnContextErrors : Prop :=
  ∀ (s : State) (f r : Nat),
    ((s.sq f r).enabled = true → (s.sq f r).failed = false → ∃ t, exec (.ringContextUe false f r) s = .next t ∧
      t.sq f r = { s.sq f r with failed := true } ∧ (∀ g j, (g, j) ≠ (f, r) → t.sq g j = s.sq g j) ∧
      t.fld .qeStatus f 0 4 4 = 1 ∧ t.ms.seq = s.ms.seq + 1 ∧ t.qe.ready = s.qe.ready ∧ Frame [.regs, .hi, .qe, .ms, .out] s t) ∧
    ((s.cq f r).enabled = true → (s.cq f r).failed = false → ∃ t, exec (.ringContextUe true f r) s = .next t ∧
      (t.cq f r).failed = true ∧ t.qe.sqs = s.qe.sqs ∧ (∀ g j, (g, j) ≠ (f, r) → (t.cq g j).failed = (s.cq g j).failed) ∧
      t.qe.ready = s.qe.ready.filter (fun x => !(x.fn == f && x.cq == r)) ∧ t.fld .qeStatus f 0 4 4 = 1 ∧
      t.ms.seq = s.ms.seq + 1)

/-- Entries are fetched, resolved in order and handed over with their locks. (R84, R85, R97, R112, R136) -/
def Obligations.FetchResolveAndLock : Prop :=
  (∀ (s : State) (f r : Nat) (e : Entry), r ≠ windowRing → (s.sq f r).echo = false →
    fetchCheck (s.advance f r) f r e = none → ∃ t, s.takeEntries f r [e] = t ∧
      (t.sq f r).head = ((s.sq f r).head + 1) % s.sqSize f r ∧ (∀ g j, (g, j) ≠ (f, r) → t.sq g j = s.sq g j) ∧
      t.qe.cmds.length = s.qe.cmds.length + 1 ∧ (∃ c, t.qe.cmds = s.qe.cmds ++ [c] ∧ c.entry = e ∧ c.fn = f ∧ c.ring = r ∧
        c.phase = .staged ∧ c.id = s.qe.nextId)) ∧
  (∀ (s u : State) (f r : Nat) (es : List Entry), s.pickFn = (u, some f) → u.pickRing f = some r →
    let l := if r = windowRing then [u.windowEntry f] else es
    let n := u.fetchLen f r l.length
    exec (.entryFetch es) s =
      .next ((u.modFctx f fun x => { x with deficit := x.deficit - (n : Nat), lastRing := r }).takeEntries f r (l.take n))) ∧
  (∀ (s : State) (id : Nat) (c : Cmd), s.cmd? id = some c → s.mayResolve c = true → entOpcode c.entry ≠ 0x03 →
    usesHandle (entOpcode c.entry) = false → ∃ t, exec (.entryResolve id) s = .next t ∧
      (∃ d, t.cmd? id = some d ∧ d.phase = .ready ∧ d.entry = c.entry ∧ d.order = s.qe.resolved) ∧
      t.qe.resolved = s.qe.resolved + 1 ∧ Frame [.qe] s t) ∧
  (∀ (s : State) (id : Nat) (c : Cmd), s.cmd? id = some c → c.phase = .waiting → s.lockBlocked c = false →
    s.openBlocked c = false → exec (.lockGrant id) s = .next (s.setCmd { c with phase := .ready }))

/-- A write takes credit, transfers, and is accepted into its stream. (R97, R119, R120, R122, R192) -/
def Obligations.WritesTransferAndSequence : Prop :=
  (∀ (s : State) (id : Nat) (ps : List BufPiece) (rs : List RecItem) (c : Cmd) (k : Nat) (x : Stream),
    s.cmd? id = some c → c.phase = .ready → isWriteClass (entOpcode c.entry) = true → c.stream = some k →
    s.stream? k = some x → s.writeFailure c x ps rs = none → s.mayStart c x = true →
    ∃ t, exec (.dataTransferStart id ps rs) s = .next t ∧
      t.stream? k = some { x with held := x.held + c.bytes, overdraft := x.overdraft + (c.bytes - s.credit x) } ∧
      t.bm.overdraft = s.bm.overdraft + (c.bytes - s.credit x) ∧ (∀ j, j ≠ k → t.stream? j = s.stream? j) ∧
      (∃ d, t.cmd? id = some d ∧ d.phase = .moving ∧ d.held = c.bytes) ∧ Frame [.qe, .pe, .bm] s t) ∧
  (∀ (s : State) (id : Nat) (c : Cmd) (k : Nat) (x : Stream), s.cmd? id = some c → c.phase = .moving →
    entOpcode c.entry = 0x13 → c.stream = some k → s.stream? k = some x → s.sequenceTurn c = true → c.truncates = false → s.pe.creditClosed = false →
    ∃ t y, exec (.dataSequenced id []) s = .next t ∧ t.stream? k = some y ∧ y.seqEnd = x.seqEnd + 1 ∧
      y.recs.getLast? = some ⟨c.first, [], some (entAux c.entry), none⟩ ∧ t.cmd? id = none) ∧
  (∀ (s : State) (id : Nat) (ps : List BufPiece) (rs : List RecItem) (data : Bytes),
    exec (.writeRecords id ps rs data) s =
      .next ((((s.bringIn id).startTransfer id ps rs).sequence id data).releaseAllDue.nearEnd) ∧
    exec (.writePeg id) s = .next ((((s.bringIn id).startTransfer id [] []).sequence id []).releaseAllDue.nearEnd))

/-- A ready completion is written at its ring's tail with the ring's phase. (R87, R88) -/
def Obligations.CompletionsArePosted : Prop :=
  (∀ (s : State) (r : Ready) (rest : List Ready), s.qe.ready = r :: rest → s.cqRoom r.fn r.cq = true → r.devrst = false →
    s.qe.devrstDue = false →
    let q := s.cq r.fn r.cq
    ∃ t, exec .completionPost s = .next t ∧ t.qe.ready = rest ∧
      (t.cq r.fn r.cq).tail = (if s.cqSize r.fn r.cq ≤ q.tail + 1 then 0 else q.tail + 1) ∧
      (t.cq r.fn r.cq).phase = (q.phase != decide (s.cqSize r.fn r.cq ≤ q.tail + 1)) ∧
      Out.dma r.fn (s.cqBase r.fn r.cq + 16 * q.tail)
        (bytesLE 4 r.result ++ bytesLE 4 (r.status + 65536 * r.detail) ++
         bytesLE 4 (r.tag + 65536 * (s.sq r.fn r.ring).head) ++ bytesLE 4 (r.ring + natOf q.phase * 2 ^ 31)) ∈ t.out ∧
      (t.sq r.fn r.ring).lastTag = some r.tag ∧ Frame [.hi, .qe, .out] s t) ∧
  (∀ (s : State) (c : Cmd) (st d res : Nat), s.hi.ownerNext = none → c.stream = none → isWriteClass (entOpcode c.entry) = false →
    (s.finishCmd c st d res).cmd? c.id = none ∧
    (c.ring < windowRing → (s.finishCmd c st d res).qe.ready = s.qe.ready ++
      [⟨c.fn, s.boundCq c.fn c.ring, c.ring, 0, min res 0xFFFFFFFF, st, d, entTag c.entry,
        entOpcode c.entry == 0x53 && st == stSuccess⟩]) ∧
    (c.ring = windowRing → (s.finishCmd c st d res).qe.ready = s.qe.ready) ∧
    (c.ring = goneRing → (s.finishCmd c st d res).qe.ready = s.qe.ready ∧ (s.finishCmd c st d res).out = s.out))

/-- A pending chime is posted once its event ring has room. (R92, R93, R94) -/
def Obligations.ChimesWaitAndGo : Prop :=
  ∀ (s : State) (f c : Nat) (m : Chime), s.fld .qeEvtCfg f 0 31 31 = 1 → s.eventRing f = some c → s.cqRoom f c = true →
    s.qe.ready = [] → (s.fctx f).lost = 0 → (s.fctx f).chimes = [m] → s.qe.devrstDue = false →
    ∃ t, exec (.chimePost f) s = .next t ∧ (t.fctx f).chimes = [] ∧
      Out.dma f (s.cqBase f c + 16 * (s.cq f c).tail)
        (bytesLE 4 m.arg ++ bytesLE 4 (m.code + 65536 * m.arg2) ++ bytesLE 4 (m.seq % 2 ^ 32) ++
         bytesLE 4 (2 * 2 ^ 28 + natOf (s.cq f c).phase * 2 ^ 31)) ∈ t.out ∧
      t.qe.sqs = s.qe.sqs ∧ t.qe.cmds = s.qe.cmds ∧ Frame [.hi, .qe, .out] s t

/-- When a completion ring signals its vector. (R61, R91) -/
def Obligations.InterruptsAreModeratedAndMasked : Prop :=
  (∀ (s : State) (f c : Nat), (s.cq f c).enabled = true → 0 < (s.cq f c).since → (s.cq f c).modTime ≠ 0 →
    (s.fctx f).msix = true → s.fld .qeCqCfg f c 12 0 < s.vecCount f → ∃ t, exec (.cqModerationTimer f c) s = .next t ∧
      t.cq f c = { s.cq f c with due := false, since := 0 } ∧
      ((s.fctx f).masked.contains (s.fld .qeCqCfg f c 12 0) = false → t.out = s.out ++ [.msix f (s.fld .qeCqCfg f c 12 0)]) ∧
      ((s.fctx f).masked.contains (s.fld .qeCqCfg f c 12 0) = true → t.out = s.out ∧
        (t.fctx f).pba.contains (s.fld .qeCqCfg f c 12 0) = true)) ∧
  (∀ (s : State) (f : Nat), exec (.msixEnable f false) s = .next (s.modFctx f fun x => { x with msix := false }) ∧
    ∃ t, exec (.msixEnable f true) s = .next t ∧ (t.fctx f).msix = true ∧ Frame [.hi, .qe, .out] s t) ∧
  (∀ (s : State) (f v : Nat), ∃ t, exec (.msixVectorUnmask f v) s = .next t ∧ (t.fctx f).masked.contains v = false ∧
    (t.fctx f).pba.contains v = false ∧ (∀ g, g ≠ f → t.fctx g = s.fctx g) ∧
    t.out = (if (s.fctx f).pba.contains v then s.out ++ [.msix f v] else s.out) ∧ Frame [.hi, .out] s t)

/-- The owner sets allocations that fit, and a range that is set overlaps no other function's. (R59, R65, R66, R67) -/
def Obligations.AllocationsNeverOverlap : Prop :=
  ∀ (s : State) (o part : Nat) (v : Word), s.serves (.fn o) → s.isOwner o = true →
    (∀ (f : Nat) (k : AllocKind), s.selFn part = some f → (allocRange k).isSome = true →
      s.alloc (allocReg k).1 f ≠ v.toNat % 2 ^ (allocReg k).2 → s.allocCond f k (v.toNat % 2 ^ (allocReg k).2) = true →
      (s.allocFits f k (v.toNat % 2 ^ (allocReg k).2) = true → ∃ t, exec (.hiFnAllocWrite (.fn o) part k v) s = .next t ∧
        t.alloc (allocReg k).1 f = v.toNat % 2 ^ (allocReg k).2 ∧
        (∀ g, g ≠ f → t.alloc (allocReg k).1 g = s.alloc (allocReg k).1 g) ∧
        (∀ rb rc total, allocRange k = some (rb, rc, total) → t.alloc rb f + t.alloc rc f ≤ total ∧
          ∀ g, g ∈ s.allocFns → g ≠ f → overlaps (t.alloc rb f) (t.alloc rc f) (t.alloc rb g) (t.alloc rc g) = false) ∧
        State.regsBut [(allocReg k).1] s t ∧ Frame [.regs, .hi, .klt, .qe, .out] s t) ∧
      (s.allocFits f k (v.toNat % 2 ^ (allocReg k).2) = false → ∃ t, exec (.hiFnAllocWrite (.fn o) part k v) s = .next t ∧
        t.alloc (allocReg k).1 f = s.alloc (allocReg k).1 f ∧ t.fld .hiAllocStatus part 0 0 0 = 1 ∧ Frame [.regs, .ms] s t)) ∧
    (∀ f, s.selFn part = some f → s.tenant f ≠ v.toNat % 256 → s.openStreams f = 0 → s.anyKey f = false →
      v.toNat % 256 ≠ 0 → (s.quotaFns.all fun g => g == f || s.tenant g != v.toNat % 256) = true →
      ∃ t, exec (.hiFnTenantWrite (.fn o) part v) s = .next t ∧ t.tenant f = v.toNat % 256 ∧
        State.regsBut [.hiFnTenant] s t ∧ Frame [.regs, .ms] s t) ∧
    (part < s.parts → v.toNat % 256 ≠ s.reg .hiVfQuota part 0 % 256 → s.vfs part = 0 →
      (((List.range s.parts).filter (· != part)).map fun p => s.reg .hiVfQuota p 0 % 256).sum + v.toNat % 256 ≤
        (if s.parts = 4 then 251 else 252) →
      ∃ t, exec (.hiVfQuotaWrite (.fn o) part v) s = .next t ∧ t.reg .hiVfQuota part 0 = v.toNat % 256 ∧
        State.regsBut [.hiVfQuota, .hiFnTenant] s t ∧ Frame [.regs, .ms] s t)

/-- A change of owner by the sideband, and a KLT rebuild. (R28, R42, R62, R64) -/
def Obligations.TheOwnerChangesAndTheTableIsRebuilt : Prop :=
  (∀ (s : State) (v : Word), s.serves .sideband → s.board.ownerSel = 3 → s.reg .msSbOwner 0 0 ≠ v.toNat % 8 →
    v.toNat % 8 / 4 = 1 → v.toNat % 4 < s.parts → (s.qe.cmds.all fun c => !needsOwner c.entry) = true → s.ms.upd = none →
    ∃ t, exec (.msSbOwnerWrite v) s = .next t ∧ t.hi.owner = some (v.toNat % 4) ∧ t.hi.ownerNext = none ∧
      t.reg .msSbOwner 0 0 = v.toNat % 8 ∧ t.qe.cmds = s.qe.cmds ∧ t.qe.sqs = s.qe.sqs ∧
      Frame [.regs, .hi, .klt, .qe, .ms, .out] s t) ∧
  (∀ s : State, s.klt.running ≠ [] → s.klt.waiting = [] → s.ms.phase = 2 → ∃ t, exec .kltRebuild s = .next t ∧
    t.klt.shown = kltNext s.klt.gen ∧ t.klt.gen = kltNext s.klt.gen ∧ kltNext s.klt.gen ≠ 0 ∧ t.klt.running = [] ∧
    (∀ f, s.hasFn f = true → (s.klt.running.any (·.covers f)) = true → t.klt.views.get [] f = s.kltRecords f) ∧
    Frame [.regs, .hi, .klt, .qe, .out] s t) ∧
  (∀ (s : State) (sc : KltScope) (r : Bool), s.klt.running = [] → (s.kltTrigger sc r).klt.shown = 0)

/-- Register accesses: fields by access code, 64-bit pairs, read-to-clear, narrow writes. (R45, R46, R47, R48) -/
def Obligations.RegistersReadAndWrite : Prop :=
  (∀ (s : State) (o off v : Nat) (r : RegName), s.serves (.fn o) → s.isOwner o = true → v < 2 ^ 32 →
    r ∈ [RegName.peHoldMax, RegName.ceKeyLow, RegName.smTension] → r.info.off = off →
    s.reg r 0 0 < 2 ^ 32 → ∃ t, exec (.registerWrite (.fn o) r.info.blk 0 off 4 v) s = .next t ∧
      t.reg r 0 0 = Nat.lor (Nat.land (s.reg r 0 0) (0xFFFFFFFF - r.info.rw)) (Nat.land v r.info.rw) ∧ State.regsBut [r] s t ∧
      Frame [.regs, .ms] s t) ∧
  (∀ (s : State) (b : Blk) (inst off w v : Nat) (f : Nat), s.serves (.fn f) → s.sees (.fn f) b = true → b ≠ .peal → b ≠ .bells →
    w < 4 ∨ off % 4 ≠ 0 → ∃ t, exec (.registerWrite (.fn f) b inst off w v) s = .next t ∧
      t.reg .msNarrowWrite 0 0 = min (s.reg .msNarrowWrite 0 0 + 1) 0xFFFFFFFF ∧ t.ms.seq = s.ms.seq + 1 ∧
      State.regsBut [.msNarrowWrite, .msLogLost] s t ∧ Frame [.regs, .ms] s t) ∧
  (∀ (s : State) (f : Nat), s.portOpen (.fn f) = true → s.isOwner f = true → s.hasFn f = true →
    ∃ t, exec (.lowWordRead (.fn f) .ms 0 RegName.msTimeLo.info.off) s = .next t ∧
      t.out = s.out ++ [.value (.fn f) (s.ms.time % 2 ^ 32)] ∧
      Tab.find t.latch (pairKey .msTimeLo 0 0 (.fn f)) = some (BitVec.ofNat 32 (s.ms.time / 2 ^ 32)) ∧
      Frame [.latch, .out] s t) ∧
  (∀ (s : State) (f : Nat), s.portOpen (.fn f) = true → s.hasFn f = true → s.reg .qeBadDb f 0 < 2 ^ 32 →
    ∃ t, exec (.readClear (.fn f) .qePage 0 RegName.qeBadDb.info.off 4) s = .next t ∧
      t.out = s.out ++ [.value (.fn f) (s.reg .qeBadDb f 0)] ∧ t.reg .qeBadDb f 0 = 0 ∧ State.regsBut [.qeBadDb] s t ∧
      Frame [.regs, .out] s t)

/-- PERST_N, FLR and changes of the VF count reset the functions they name. (R70, R100, R448) -/
def Obligations.FunctionResetsReachOnlyTheirOwn : Prop :=
  (∀ (s : State) (p : Nat), p < s.parts → s.hi.perst.contains p = false → ∃ t, exec (.perstNAssert p) s = .next t ∧
    t.hi.perst.contains p = true ∧ Tab.find t.hi.links p = none ∧
    (s.ms.phase = 2 → s.ms.upd = none → t.vfs p = 0 ∧ t.klt.running ≠ [] ∧
      (∀ r k, regOfPage r = true → t.reg r (fnOf p 0) k = regDefault s.parts r (fnOf p 0) k)) ∧
    (s.vfs p = 0 → s.ms.upd = none → (s.qe.cmds.all fun c => c.fn != fnOf p 0) = true →
      ∀ g j, g ≠ fnOf p 0 → t.sq g j = s.sq g j)) ∧
  (∀ (s : State) (p : Nat), s.hi.perst.contains p = true → s.ms.phase = 2 → ∃ t, exec (.perstNDeassert p) s = .next t ∧
    t.hi.perst.contains p = false ∧ Tab.find t.hi.links p = some linkTraining ∧ t.qe = s.qe ∧ t.ce = s.ce ∧
    Frame [.regs, .hi, .ms] s t) ∧
  (∀ (s : State) (f : Nat), s.ms.phase = 2 → s.hasFn f = true → s.vfs (partOf f) < 256 → s.ms.upd = none →
    s.qe.devrstDue = false → (s.qe.cmds.all fun c => partOf c.fn != partOf f) = true →
    (s.qe.ready.all fun r => partOf r.fn != partOf f) = true →
    ∃ t, exec (.flr f) s = .next t ∧ (∀ j, (t.sq f j).enabled = false ∧ (t.cq f j).enabled = false) ∧
      t.fctx f = fnCtx0 ∧ (∀ r k, regOfPage r = true → t.reg r f k = regDefault s.parts r f k) ∧
      (∀ g j, partOf g ≠ partOf f → t.sq g j = s.sq g j) ∧
      (idxOf f = 0 → t.vfs (partOf f) = 0) ∧
      (idxOf f ≠ 0 → t.vfs (partOf f) = s.vfs (partOf f) ∧ ∀ g j, g ≠ f → t.sq g j = s.sq g j)) ∧
  (∀ (s : State) (p n : Nat), s.ms.phase = 2 → p < s.parts → n ≤ s.reg .hiVfQuota p 0 % 256 → s.vfs p < n →
    ∃ t, exec (.vfCountChange p n) s = .next t ∧ t.vfs p = n ∧ (∀ q, q ≠ p → t.vfs q = s.vfs q) ∧ t.qe = s.qe ∧
      Frame [.hi, .klt] s t)

/-- Buffers are granted from the smallest fitting pool, and only the owner frees or passes one on. (R184, R185, R189,
R190) -/
def Obligations.BuffersHaveOneOwner : Prop :=
  (∀ (s : State) (who : Party) (fn size p i : Nat), 0 < size → size ≤ 16777216 → p < 5 → size ≤ poolSize p →
    (∀ q, q < p → size ≤ poolSize q → s.freeBuf q = none) → s.freeBuf p = some i →
    Tab.find s.bm.bufs (bufKey p i) = none ∧
    ∃ t, exec (.bufferAllocate who fn size) s = .next t ∧ Tab.find t.bm.bufs (bufKey p i) = some ⟨who, fn⟩ ∧
      (∀ k, k ≠ bufKey p i → Tab.find t.bm.bufs k = Tab.find s.bm.bufs k) ∧ t.bm.waits = s.bm.waits ∧
      State.regsBut [.bmPoolFall] s t ∧ Frame [.regs, .pe, .bm] s t) ∧
  (∀ (s : State) (who : Party) (fn size : Nat), 0 < size → size ≤ 16777216 →
    (∀ q, q < 5 → size ≤ poolSize q → s.freeBuf q = none) →
    exec (.bufferAllocate who fn size) s =
      .next (State.releaseAllDue { s with bm := { s.bm with waits := s.bm.waits ++ [⟨who, fn, size⟩] } })) ∧
  (∀ (s : State) (w : BufWait) (rest : List BufWait) (p i : Nat), s.bm.waits = w :: rest → s.belowRes w.fn = true →
    s.servingPool w = some p → s.freeBuf p = some i →
    ∃ t, exec .bufferWaitGrant s = .next t ∧ t.bm.waits = rest ∧ Tab.find t.bm.bufs (bufKey p i) = some ⟨w.who, w.fn⟩ ∧
      (∀ k, k ≠ bufKey p i → Tab.find t.bm.bufs k = Tab.find s.bm.bufs k) ∧
      State.regsBut [.bmPoolFall] s t ∧ Frame [.regs, .pe, .bm] s t) ∧
  (∀ (s : State) (who dest : Party) (p i : Nat) (b : Buf), Tab.find s.bm.bufs (bufKey p i) = some b → b.owner = who →
    (∃ t, exec (.bufferFree who p i) s = .next t ∧ Tab.find t.bm.bufs (bufKey p i) = none ∧
      (∀ k, k ≠ bufKey p i → Tab.find t.bm.bufs k = Tab.find s.bm.bufs k) ∧ t.bm.waits = s.bm.waits ∧ Frame [.bm] s t) ∧
    (∃ t, exec (.bufferTransfer who dest p i) s = .next t ∧ Tab.find t.bm.bufs (bufKey p i) = some ⟨dest, b.fn⟩ ∧
      (∀ k, k ≠ bufKey p i → Tab.find t.bm.bufs k = Tab.find s.bm.bufs k) ∧ t.bm.waits = s.bm.waits ∧ Frame [.bm] s t)) ∧
  (∀ (s : State) (who dest : Party) (p i : Nat), ((Tab.find s.bm.bufs (bufKey p i)).map Buf.owner) ≠ some who →
    ∃ t, exec (.bufferFree who p i) s = .next t ∧ exec (.bufferTransfer who dest p i) s = .next t ∧
      t.reg .bmBadFree 0 0 = min (s.reg .bmBadFree 0 0 + 1) 0xFFFFFFFF ∧ t.ms.seq = s.ms.seq + 1 ∧
      State.regsBut [.bmBadFree, .msLogLost] s t ∧ Frame [.regs, .ms] s t)

/-- Writes of the BM settings: what they accept, and what follows at once. (R187, R193, R197, R198, R205) -/
def Obligations.BufferSettingsTakeEffectAtOnce : Prop :=
  ∀ (s : State) (o : Nat) (v : Word), s.serves (.fn o) → s.isOwner o = true →
    let sh := (List.range 4).map fun i => bitsOf v.toNat (8 * i + 7) (8 * i)
    (s.ct.mounted = false → (s.qe.sqs.any fun e => e.2.enabled && e.1.unpair.2 != windowRing) = false →
      sh.any (· == 0) = false → sh.sum = 256 → ∃ t, exec (.bmPoolSplitWrite (.fn o) v) s = .next t ∧
        t.reg .bmPoolSplit 0 0 = v.toNat ∧ Frame [.regs, .hi, .qe, .pe, .bm, .out] s t) ∧
    (s.ct.mounted = true → s.reg .bmPoolSplit 0 0 ≠ v.toNat → ∃ t, exec (.bmPoolSplitWrite (.fn o) v) s = .next t ∧
      t.reg .bmPoolSplit 0 0 = s.reg .bmPoolSplit 0 0 ∧ t.ms.seq = s.ms.seq + 1 ∧ Frame [.regs, .ms] s t) ∧
    (s.ct.mounted = false → (s.qe.sqs.any fun e => e.2.enabled && e.1.unpair.2 != windowRing) = false →
      sh.any (· == 0) = true ∨ sh.sum ≠ 256 → exec (.bmPoolSplitWrite (.fn o) v) s = .next s) ∧
    (∃ t, exec (.bmStreamWinWrite (.fn o) v) s = .next t ∧ t.reg .bmStreamWin 0 0 = v.toNat % 8192 ∧
      Frame [.regs, .hi, .qe, .pe, .out] s t) ∧
    (bitsOf v.toNat 7 0 < bitsOf v.toNat 15 8 → ∃ t, exec (.bmWmCfgWrite (.fn o) v) s = .next t ∧
      t.reg .bmWmCfg 0 (s.fld .bmWmSel 0 0 3 0) = v.toNat % 65536 ∧
      (∀ w, w < 10 → t.watchState w = (if t.fld .bmWmCfg 0 w 15 8 ≤ t.watchLevel w then true
        else if t.watchLevel w ≤ t.fld .bmWmCfg 0 w 7 0 then false else s.watchState w)) ∧
      (∀ r i k, (r, i, k) ≠ (.bmWmCfg, 0, s.fld .bmWmSel 0 0 3 0) → t.reg r i k = s.reg r i k) ∧ Frame [.regs, .bm] s t) ∧
    (bitsOf v.toNat 15 8 ≤ bitsOf v.toNat 7 0 → exec (.bmWmCfgWrite (.fn o) v) s = .next s) ∧
    (∃ t, exec (.bmFcwCfgWrite (.fn o) v) s = .next t ∧ State.regsBut [.bmFcwCfg] s t ∧ Frame [.regs] s t ∧
      (∀ k, k < 2 → t.fld .bmFcwCfg 0 0 (8 * k + 4) (8 * k) = bitsOf v.toNat (8 * k + 4) (8 * k) ∧
        t.fld .bmFcwCfg 0 0 (8 * k + 6) (8 * k + 5) =
          (if bitsOf v.toNat (8 * k + 6) (8 * k + 5) = 3 then 0 else bitsOf v.toNat (8 * k + 6) (8 * k + 5)) ∧
        t.fld .bmFcwCfg 0 0 (8 * k + 7) (8 * k + 7) = 0))

/-- Uncorrectable blocks, corrected errors, and double-bit errors at crossings. (R18, R202, R203, R204) -/
def Obligations.MemoryAndCrossingErrorsAreHandled : Prop :=
  (∀ (s : State) (n addr : Nat), addr < 2 ^ 37 → (s.pair n).ueSeen.contains (addr / 64 * 64) = false →
    ∃ t, exec (.mcUe n addr .free) s = .next t ∧ t.reg .mcUncorr n 0 = min (s.reg .mcUncorr n 0 + 1) 0xFFFFFFFF ∧
      t.reg .mcUeAddrLo n 0 = addr / 64 * 64 % 2 ^ 32 ∧ t.reg .mcUeAddrHi n 0 = 2 ^ 31 + addr / 64 * 64 / 2 ^ 32 ∧
      t.ms.seq = s.ms.seq + 1 ∧ (t.pair n).ueSeen = addr / 64 * 64 :: (s.pair n).ueSeen ∧
      (t.pair n).pendingRetire = (s.pair n).pendingRetire ∧
      State.regsBut [.mcUncorr, .mcUeAddrLo, .mcUeAddrHi, .msLogLost] s t ∧ Frame [.regs, .mc, .ms] s t) ∧
  (∀ (s : State) (n addr : Nat), addr < 2 ^ 37 → (s.pair n).ueSeen.contains (addr / 64 * 64) = true →
    (s.pair n).retired = false →
    ∃ t, exec (.mcUe n addr .free) s = .next t ∧ (t.pair n).pendingRetire = true ∧
      Frame [.regs, .hi, .klt, .qe, .mc, .ms, .out] s t) ∧
  (∀ (s : State) (n a b : Nat), s.fld .mcScrub n 0 7 0 ≠ 0 → ∃ t, exec (.patrolScrub n a b) s = .next t ∧
    t.reg .mcCorr0 n 0 = min (s.reg .mcCorr0 n 0 + a) 0xFFFFFFFF ∧
    t.reg .mcCorr1 n 0 = min (s.reg .mcCorr1 n 0 + b) 0xFFFFFFFF ∧ State.regsBut [.mcCorr0, .mcCorr1] s t ∧
    Frame [.regs] s t) ∧
  (∀ (s : State) (n k : Nat), s.fld .mcCorrLimit n 0 15 0 ≠ 0 → (s.pair n).retired = false →
    (s.fld .mcCorrLimit n 0 15 0 < k → ∃ t, exec (.mcCorrLimit n k) s = .next t ∧ (t.pair n).pendingRetire = true ∧
      Frame [.regs, .hi, .klt, .qe, .mc, .ms, .out] s t) ∧
    (k ≤ s.fld .mcCorrLimit n 0 15 0 → exec (.mcCorrLimit n k) s = .next s)) ∧
  (∀ (s : State) (a b ds i : Nat) (p : Parcel), s.parcel? ds i = some p → p.verified = false →
    ∃ t, exec (.crossingDbe a b (.parcel ds i)) s = .next t ∧ t.ms.seq = s.ms.seq + 1 ∧
      t.parcel? ds i = some { p with sealedText := none } ∧ State.regsBut [.msLogLost] s t ∧
      Frame [.regs, .pe, .ce, .ms] s t)

/-- Holds expire by releasing runs, and compressors take, finish, save and restore parcels. (R154, R158, R178, R226) -/
def Obligations.RunsAreReleasedAndCompressed : Prop :=
  (∀ (s : State) (k : Nat) (x : Stream), s.stream? k = some x → ∃ t, exec (.holdMaxExpiry k) s = .next t ∧
    (∀ (j : Nat) (y : Stream), s.stream? j = some y → t.stream? j =
      some (if j = k ∨ (x.affinity ≠ 0 ∧ y.tenant = x.tenant ∧ y.affinity = x.affinity) then
        { y with runEnd := max y.runEnd y.seqEnd } else y)) ∧ Frame [.pe] s t) ∧
  (∀ (s : State) (eng k budget : Nat) (x : Stream), s.engineUsable eng = true → eng < 32 → s.ms.slice ≠ some (3, eng) →
    (s.engineCx eng).job = none → s.stream? k = some x → s.mayCompress k x = true →
    ∃ t, exec (.parcelCompress eng k budget false) s = .next t ∧
      (t.engineCx eng).job = some ⟨k, s.compressed k x, decide (1 < x.cxCount)⟩ ∧
      (∀ n, n ≠ eng → t.engineCx n = s.engineCx n) ∧ t.cx.outs = s.cx.outs ∧ Frame [.cx] s t) ∧
  (∀ (s : State) (eng k budget : Nat) (x : Stream) (j : CxJob) (r : CxOut × Nat), s.engineUsable eng = true → eng < 32 →
    s.ms.slice ≠ some (3, eng) → (s.engineCx eng).job = some j → j.stream = k → s.stream? k = some x →
    s.compressFrom k x j.start (some budget) = some r →
    ∃ t, exec (.parcelCompress eng k budget true) s = .next t ∧ t.cx.outs = s.cx.outs ++ [r.1] ∧
      (t.engineCx eng).job = none ∧ (∀ n, n ≠ eng → t.engineCx n = s.engineCx n) ∧
      State.regsBut [.cxEngIn, .cxEngOut, .cxEngStored] s t ∧ Frame [.regs, .cx] s t) ∧
  (∀ (s : State) (eng k budget : Nat) (j : CxJob), s.engineUsable eng = true → eng < 32 → (s.engineCx eng).job = some j →
    j.stream ≠ k → s.endWaits k = true → ∃ t, exec (.compressorWaitSave eng k budget) s = .next t ∧
      Tab.find t.cx.images s.freeImage = some j ∧ t.reg .peCxMoves 0 0 = min (s.reg .peCxMoves 0 0 + 1) 0xFFFFFFFF ∧
      Frame [.regs, .cx, .ms] s t) ∧
  (∀ (s : State) (eng img : Nat) (j : CxJob), s.engineUsable eng = true → eng < 32 → (s.engineCx eng).job = none →
    Tab.find s.cx.images img = some j → ∃ t, exec (.contextRestore eng img) s = .next t ∧
      (t.engineCx eng).job = some j ∧ Tab.find t.cx.images img = none ∧ t.cx.outs = s.cx.outs ∧
      t.reg .cxCtxRestores 0 0 = min (s.reg .cxCtxRestores 0 0 + 1) 0xFFFFFFFF ∧
      State.regsBut [.cxCtxRestores] s t ∧ Frame [.regs, .cx] s t)

/-- The next extent at the frontier: void, book or data. (R157, R161, R162, R168, R271, R275, R332, R337) -/
def Obligations.DatasetsFormAtTheFrontier : Prop :=
  (∀ (s : State) (w i : Nat), s.mayForm = true → s.ct.written = true → 6144 ≤ sumFrames s.vector.2 →
    (s.pe.active.all fun n => !(s.cal n).retired && !s.wc.retired.contains n && !bitOf (s.calCtrl n) 4) = true →
    s.pe.frontier = some (w, i) →
    (0 < s.df.voidDue → ∃ t, exec .datasetForm s = .next t ∧ t.df.voidDue = s.df.voidDue - 1 ∧
      t.df.datasets = s.df.datasets ∧ t.pe.frontier = s.nextExtent w i ∧ t.pe.nextDataset = s.pe.nextDataset ∧
      t.out = s.out ++ [.void w (s.chainOf w i)] ∧ Frame [.pe, .df, .out] s t) ∧
    (s.df.voidDue = 0 → s.df.restartDue = [] → s.parityGroup = none → (s.df.groups.any fun g => g.repair == 2) = false →
      let book := s.pe.bookDue || decide (256 ≤ s.pe.legCount)
      book = true ∨ s.forced = true ∨ s.fld .smBhCfg 0 0 3 0 = 0 →
      ∃ t d, exec .datasetForm s = .next t ∧ t.dataset? s.pe.nextDataset = some d ∧ d.geo.kind = natOf book ∧
        d.geo.restart = 0 ∧ d.geo.wrap = w ∧ d.geo.chainage = s.chainOf w i ∧ d.geo.slots = s.pe.active ∧
        256 * d.tiers + d.geo.leftover = d.geo.sigma ∧ d.started = false ∧
        t.pe.nextDataset = s.pe.nextDataset + 1 ∧ t.pe.frontier = s.nextExtent w i ∧
        t.df.queue = s.df.queue ++ [s.pe.nextDataset] ∧
        t.pe.legCount = (if book then 0 else s.pe.legCount + 1) ∧ (book = true → t.pe.bookDue = false ∧
          t.pe.books = s.pe.books ++ [⟨s.pe.nextDataset, w, s.chainOf w i, 0⟩]) ∧
        Frame [.regs, .hi, .qe, .pe, .bm, .cx, .df, .vc, .ms, .out, .fresh] s t)) ∧
  (∀ (s : State) (ms : Nat), s.df.backhitch = true → 4 ≤ s.df.queue.length ∨ s.forced = true →
    ∃ t, exec (.backhitchResume ms) s = .next t ∧ t.df.backhitch = false ∧
      t.reg .smBhTime 0 0 = min (s.reg .smBhTime 0 0 + ms) 0xFFFFFFFF ∧ State.regsBut [.smBhTime] s t ∧
      t.df.datasets = s.df.datasets ∧ t.df.queue = s.df.queue ∧ Frame [.regs, .df, .wc, .sm] s t)

/-- PARCEL_SEAL: key, IV, ciphertext and tag of a parcel, and the counts that make every IV new. (R242, R244, R249, R250) -/
def Obligations.ParcelsAreSealedOnceUnderTheirKey : Prop :=
  (∀ (s : State) (ds i : Nat) (p : Parcel), s.parcel? ds i = some p → p.sealedText = none → p.dead = false →
    s.noCipher = false → s.cipherWaits = false →
    (((s.stream? p.stream).bind fun x => x.keySlot) = none → s.ce.zeroCount + 1 < 2 ^ 64 →
      ∃ t q, exec (.parcelSeal ds i) s = .next t ∧ t.parcel? ds i = some q ∧
        q.iv = bytesBE 4 Config.deviceNumber.toNat ++ bytesBE 8 s.ce.zeroCount ∧ q.key = 0 ∧
        q.payload = p.payload ∧ q.sealedText = some (gcmCrypt (zeros 32) q.iv p.payload) ∧
        q.tag = gcmTag (zeros 32) q.iv q.header (gcmCrypt (zeros 32) q.iv p.payload) ∧
        t.ce.zeroCount = s.ce.zeroCount + 1 ∧ t.ce.slots = s.ce.slots ∧ Frame [.regs, .pe, .ce, .ms] s t) ∧
    (((s.stream? p.stream).bind fun x => x.keySlot) = none → 2 ^ 64 ≤ s.ce.zeroCount + 1 →
      exec (.parcelSeal ds i) s = .fault .zeroKeyCountSpent) ∧
    (∀ (x : Stream) (n : Nat), s.stream? p.stream = some x → x.keySlot = some n →
      let g := s.keyBase (s.streamFn x) + n
      let k := s.slot g
      k.state = 2 → k.raw = false → k.retiring = false →
      ∃ t q, exec (.parcelSeal ds i) s = .next t ∧ t.parcel? ds i = some q ∧
        q.iv = bytesBE 4 Config.deviceNumber.toNat ++ bytesBE 4 k.epoch ++ bytesBE 4 k.used ∧ q.key = k.label ∧
        q.payload = p.payload ∧ q.sealedText = some (gcmCrypt k.key q.iv p.payload) ∧
        q.tag = gcmTag k.key q.iv q.header (gcmCrypt k.key q.iv p.payload) ∧
        (t.slot g).used = k.used + 1 ∧ (t.slot g).state = (if k.limit ≤ k.used + 1 then 3 else 2) ∧
        t.ce.zeroCount = s.ce.zeroCount ∧ Frame [.regs, .hi, .qe, .pe, .ce, .ms, .out] s t)) ∧
  (∀ (s : State) (ds i : Nat) (p : Parcel), s.parcel? ds i = some p → p.sealedText.isSome = true →
    exec (.parcelSeal ds i) s = .next s)

/-- A sealed parcel as it lies on tape opens to what was sealed. (R249, R251, R279) -/
def Obligations.WhatASealWritesAnOpenReads : Prop :=
  ∀ (p : Parcel) (key iv : Bytes) (label : Nat), key.length = 32 → iv.length = 12 → label < 2 ^ 32 →
    p.payload.length < 2 ^ 32 → p.plainLen < 2 ^ 32 → p.tenant < 256 → p.sid < 2 ^ 64 → p.first < 2 ^ 64 →
    let b := (p.seal key label iv).onTapeBytes
    let h := b.take 64
    let ct := (b.drop 64).take (fieldBE h 48 4)
    fieldBE h 0 2 = 0x50A7 ∧ fieldBE h 48 4 = p.payload.length ∧ fieldBE h 44 4 = p.plainLen ∧ fieldBE h 28 4 = label ∧
    (h.drop 32).take 12 = iv ∧ fieldBE h 4 1 = p.tenant ∧ fieldBE h 8 8 = p.sid ∧ fieldBE h 16 8 = p.first ∧
    gcmTag key iv h ct = (b.drop (64 + ct.length)).take 16 ∧ gcmCrypt key iv ct = p.payload

/-- Encoding a tier, starting and ending a write run. (R300, R305, R315, R319, R341) -/
def Obligations.TiersAreEncodedAndWritten : Prop :=
  (∀ (s : State) (ds t : Nat) (d : Dataset), s.dataset? ds = some d → d.failed = false → d.abandoned = false →
    t < d.tiers → d.encoded.contains t = false → s.mayEncode d = true → d.encoded.length + 1 ≠ d.tiers →
    ∃ u, exec (.tierEncode ds t 0) s = .next u ∧
      (∃ e, u.dataset? ds = some e ∧ e = { d with started := true, encoded := d.encoded ++ [t] }) ∧
      u.out = s.out ++ ((d.geo.tierFrames t).zip (c2Encode (tierBytes (s.payloadOf d) t))).map (fun x =>
        Out.frame ⟨d.geo.num, d.geo.restart, x.1.1, x.1.2⟩ (frameBits s.injectCount x.2).1) ∧
      u.reg .eeTiers 0 0 = min (s.reg .eeTiers 0 0 + 1) 0xFFFFFFFF ∧ State.regsBut [.eeTiers, .eeClips] s u ∧
      Frame [.regs, .bm, .df, .out] s u) ∧
  (∀ (s : State) (d : Dataset), s.df.queue.head?.bind s.dataset? = some d → s.mayRun = true →
    ∃ t, exec .writeRunStart s = .next t ∧ t.df.running = true ∧ t.wc.gates = d.groups ∧
      t.wc.wmod = (if isReverse d.geo.wrap then 2 else 1) ∧ t.wc.inhibited = false ∧ t.sm.state = 2 ∧ t.sm.brake = false ∧
      t.df.datasets = s.df.datasets ∧ t.df.queue = s.df.queue ∧ Frame [.df, .wc, .sm] s t) ∧
  (∀ (s : State) (q : Nat) (rest : List Nat) (d : Dataset), s.df.running = true → s.df.queue = q :: rest →
    s.dataset? q = some d → d.encoded.length = d.tiers → d.written = false →
    ∃ t, exec (.writeRunEnd 1) s = .next t ∧ t.df.running = false ∧ t.wc.gates = [] ∧ t.wc.wmod = 0 ∧
      t.df.queue = rest.filter (· != q) ∧ t.dataset? q = some { d with written := true } ∧
      t.reg .dfRewrites 0 0 = min (s.reg .dfRewrites 0 0 + d.rewrites.length) 0xFFFFFFFF ∧
      Frame [.regs, .bm, .df, .wc] s t)

/-- Grades: a good frame is verified, a failed one needs rewriting; probes; cut frames. (R320, R321, R322, R325, R327,
R329, R340, R380) -/
def Obligations.FramesAreGradedAndRewritten : Prop :=
  (∀ (s : State) (p : FramePos) (d : Dataset) (g : FrameGot) (tier i : Nat), s.dataset? p.dataset = some d →
    (s.ed.verify.find? fun g => decide (g.place = p)) = some g → d.geo.restart = p.restart →
    d.cut.contains (p.slot, p.pos) = false → d.graded.contains (p.slot, p.pos) = false → d.written = true →
    d.failed = false → d.abandoned = false → d.geo.role p.slot p.pos = some (.tier tier i) →
    ({ d with graded := (p.slot, p.pos) :: d.graded } : Dataset).trackDone p.slot = false →
    (g.info.isSome = true → s.fld .vcRwThresh 0 0 7 0 ≤ s.margin g → d.good.length + 1 < 256 * d.tiers →
      d.good.contains (256 * tier + i) = false →
      ∃ t, exec (.frameGrade p) s = .next t ∧
        t.dataset? p.dataset = some { d with graded := (p.slot, p.pos) :: d.graded, good := (256 * tier + i) :: d.good } ∧
        t.reg .vcSlotLast 0 p.slot = min 255 ((g.corrected + 7) / 8) * 2 ^ 24 + min 255 g.missed * 2 ^ 16 +
          min 255 g.iters * 2 ^ 8 + s.margin g ∧ t.df.rewrites = s.df.rewrites ∧
        State.regsBut [.vcSlotVfyLo, .vcSlotVfyHi, .vcSlotLast] s t ∧ Frame [.regs, .bm, .df, .ed, .vc] s t) ∧
    (g.info = none → s.df.rewrites.length < 4096 → s.fld .vcRestart 0 0 11 0 = 0 →
      ∃ t, exec (.frameGrade p) s = .next t ∧ (⟨⟨d.num, tier, i⟩, [p.slot], 0, none⟩ : Rewrite) ∈ t.df.rewrites ∧
        (∀ r, r ∈ s.df.rewrites → r ∈ t.df.rewrites) ∧
        t.dataset? p.dataset = some { d with graded := (p.slot, p.pos) :: d.graded, needed := d.needed + 1 } ∧
        t.reg .vcSlotFails 0 p.slot = min (s.reg .vcSlotFails 0 p.slot + 1) 0xFFFFFFFF ∧
        State.regsBut [.vcSlotFails, .vcSlotLast] s t ∧ Frame [.regs, .pe, .bm, .df, .ed, .vc] s t)) ∧
  (∀ (s : State) (p : FramePos) (d : Dataset) (pass : Bool) (tier i st : Nat), s.dataset? p.dataset = some d →
    s.fld .vcProbe 0 0 31 31 = 1 → d.geo.stepOf p.slot = some st → p.pos = p.dataset % framesAt st →
    d.geo.role p.slot p.pos = some (.tier tier i) → d.good.contains (256 * tier + i) = true → p.restart = d.geo.restart →
    d.graded.contains (p.slot, p.pos) = true → d.trackDone p.slot = false →
    ∃ t, exec (.marginProbe p pass) s = .next t ∧ t.reg .vcProbes 0 0 = min (s.reg .vcProbes 0 0 + 1) 0xFFFFFFFF ∧
      t.reg .vcProbeFail 0 0 = (if pass then s.reg .vcProbeFail 0 0 else min (s.reg .vcProbeFail 0 0 + 1) 0xFFFFFFFF) ∧
      (t.tally d.num d.geo.restart p.slot).probes = (s.tally d.num d.geo.restart p.slot).probes + 1 ∧
      (t.tally d.num d.geo.restart p.slot).probeFails =
        (s.tally d.num d.geo.restart p.slot).probeFails + natOf (!pass) ∧
      State.regsBut [.vcProbes, .vcProbeFail] s t ∧ Frame [.regs, .vc] s t) ∧
  (∀ (s : State), s.wc.inhibited = true → s.wc.triggers = [] → 32 ≤ s.wc.inWindow →
    (∃ t, exec (.gateResume []) s = .next t ∧ t.wc.inhibited = false ∧ t.df = s.df ∧ Frame [.wc] s t ∧
      t.wc.gates = if s.df.running then ((s.df.queue.head?.bind s.dataset?).map Dataset.groups).getD [] else []) ∧
    (∀ p, s.frameStands p = true → ∃ t d, exec (.gateResume [p]) s = .next t ∧ t.wc.inhibited = false ∧
      t.dataset? p.dataset = some d ∧ d.cut.contains (p.slot, p.pos) = true))

/-- Shock, acceleration and write faults lower every gate while they stand. (R320, R321, R323, R341, R403) -/
def Obligations.InhibitTriggersLowerTheGates : Prop :=
  (∀ (s : State) (n : Nat) (c : Instr) (r : RegName), (n, c, r) ∈ [(1, Instr.shockN, RegName.dfInhShock), (3, .wfaultN, .dfInhWfault)] →
    ∃ t, exec c s = .next t ∧ t.wc.gates = [] ∧ t.wc.triggers.contains n = true ∧
      (∀ m, m ≠ n → t.wc.triggers.contains m = s.wc.triggers.contains m) ∧
      t.wc.inhibited = (s.wc.inhibited || s.df.running) ∧
      t.reg r 0 0 = (if s.wc.triggers.contains n then s.reg r 0 0 else min (s.reg r 0 0 + 1) 0xFFFFFFFF) ∧
      State.regsBut [r] s t ∧ Frame [.regs, .wc] s t) ∧
  (∀ (s : State) (n : Nat) (c : Instr), (n, c) ∈ [(1, Instr.shockNDeassert), (3, .wfaultNDeassert)] →
    ∃ t, exec c s = .next t ∧ t.wc.triggers = s.wc.triggers.filter (· != n) ∧ t.wc.gates = s.wc.gates ∧ Frame [.wc] s t) ∧
  (∀ (s : State) (x y z : Int), s.fld .smAccCfg 0 0 31 31 = 1 →
    (s.fld .smAccCfg 0 0 15 0 < x.natAbs → ∃ t, exec (.accRead x y z) s = .next t ∧ t.wc.gates = [] ∧
      t.wc.triggers.contains 2 = true ∧ State.regsBut [.dfInhShock] s t ∧ Frame [.regs, .wc] s t) ∧
    (x.natAbs ≤ s.fld .smAccCfg 0 0 15 0 → y.natAbs ≤ s.fld .smAccCfg 0 0 15 0 →
      z.natAbs ≤ s.fld .smAccCfg 0 0 15 0 → ∃ t, exec (.accRead x y z) s = .next t ∧
        t.wc.triggers = s.wc.triggers.filter (· != 2) ∧ Frame [.wc] s t)) ∧
  (∀ (s : State), s.wc.wfault = false → s.wc.triggers.contains 3 = true → s.sm.state < 3 →
    ∃ t, exec .wfaultPersist s = .next t ∧ t.wc.wfault = true ∧ t.wc.gates = [] ∧ t.sm.state = 3 ∧ t.df.running = false ∧
      t.writeBlock.isSome = true)

/-- What a lane and a channel make of a frame and of a preamble. (R349, R350, R354, R355, R361, R366, R367) -/
def Obligations.FramesAndPreamblesAreDecoded : Prop :=
  (∀ (s : State) (f : FrameRead) (n : Nat), f.place.slot < 136 → f.lane = some n → s.laneOk f = true →
    s.ms.slice ≠ some (2, n) →
    let got : FrameGot := ⟨f.place, if s.c1Good f then some (packMSB (f.code.take 15360)) else none, f.iters, f.corrected,
      f.missed, min 255 f.mse⟩
    ∃ t, exec (.frameDecode f) s = .next t ∧
      (if f.verify then t.ed.verify else t.ed.frames).getLast? = some got ∧
      t.reg .edLaneFrames 0 n = (if s.c1Good f then min (s.reg .edLaneFrames 0 n + 1) 0xFFFFFFFF else s.reg .edLaneFrames 0 n) ∧
      t.reg .edSlotC1fail 0 f.place.slot = (if s.c1Good f || s.isMarked f then s.reg .edSlotC1fail 0 f.place.slot
        else min (s.reg .edSlotC1fail 0 f.place.slot + 1) 0xFFFFFFFF) ∧ t.ed.tiers = s.ed.tiers ∧
      t.rc.chans = s.rc.chans ∧ t.rc.geos = s.rc.geos ∧
      (∀ m l, l < 5 → m ≠ f.place.slot ∨ bitOf (s.reg .rcChFreeze (m / 17) (m % 17)) l = true →
        t.rc.adapted.find (8 * m + l) = s.rc.adapted.find (8 * m + l)) ∧ Frame [.regs, .rc, .ed] s t) ∧
  (∀ (s : State) (f : FrameRead), f.place.slot < 136 → f.lane = none → ∃ t, exec (.frameDecode f) s = .next t ∧
    t.reg .edOverrun 0 0 = min (s.reg .edOverrun 0 0 + 1) 0xFFFFFFFF ∧
    (∃ g, (if f.verify then t.ed.verify else t.ed.frames).getLast? = some g ∧ g.place = f.place ∧ g.info = none) ∧
    t.rc.chans = s.rc.chans ∧ t.rc.geos = s.rc.geos ∧ Frame [.regs, .rc, .ed] s t) ∧
  (∀ (s : State) (slot : Nat) (bits : List Bool) (verify : Bool), slot < 136 → bits.length = 1216 →
    ∃ t, exec (.preambleDecode slot bits verify) s = .next t ∧ Frame [.regs, .pe, .rc, .vc] s t ∧
      (∀ info, preambleInfo bits = some info → natOfBE (info.take 8) = 0xD7 → (t.chan slot).locked = true ∧
        (∀ n, n < 136 → (t.chan n).active = ((readGeometry info).stepOf n).isSome) ∧ t.regs = s.regs ∧
        ((readGeometry info).kind < 3 → s.geometry? (readGeometry info).num = none →
          t.geometry? (readGeometry info).num = some (readGeometry info))) ∧
      (preambleInfo bits = none → Frame [.regs, .rc] s t ∧ t.rc.chans = s.rc.chans ∧ t.rc.geos = s.rc.geos ∧ State.regsBut [.rcChPreFail, .vcPreFail] s t ∧
        t.reg .rcChPreFail (slot / 17) (slot % 17) = min (s.reg .rcChPreFail (slot / 17) (slot % 17) + 1) 0xFFFFFFFF)) ∧
  (∀ (s : State) (slot : Nat) (b : Bool), slot < 136 →
    ∃ t, exec (if b then .timingLockReacquire slot else .lossOfLock slot) s = .next t ∧
      t.chan slot = { s.chan slot with locked := b } ∧ (∀ n, n ≠ slot → t.chan n = s.chan n) ∧ t.rc.geos = s.rc.geos ∧
      Frame [.rc] s t)

/-- The information block of a preamble reads back as the geometry it was made from. (R269) -/
def Obligations.PreamblesCarryTheGeometry : Prop :=
  ∀ (g : Geometry) (slot step frames : Nat), g.num < 2 ^ 48 → g.kind < 16 → g.restart < 4 → g.wrap < 256 →
    g.chainage < 2 ^ 32 → g.tiers < 64 → g.leftover < 4096 → slot < 256 → step < 16 → frames < 256 →
    g.slots.length ≤ 128 → (∀ n, n ∈ g.slots → n < 136) → g.slots.Pairwise (· < ·) →
    g.steps.length = g.slots.length → (∀ x, x ∈ g.steps → x < 8) →
    readGeometry (bitsBE 688 (g.infoValue slot step frames)) = g ∧
    natOfBE ((bitsBE 688 (g.infoValue slot step frames)).take 8) = 0xD7

/-- A benchmark starts the wrap with slots that passed it; calibration overrides are kept. (R163, R164, R371, R372, R384) -/
def Obligations.BenchmarksChooseTheActiveSet : Prop :=
  (∀ (s : State) (res : List BenchRead) (w : Nat), s.pe.frontier = some (w, 0) → s.sm.wrap = some w →
    ∃ t, exec (.benchmarkTrain res) s = .next t ∧ t.pe.wrapNow = some w ∧ t.pe.active.length ≤ s.active 1 ∧
      (∀ n, n ∈ t.pe.active → n < 136 ∧ s.trains (res.getD n ⟨false, 0, 0⟩) = true ∧ s.excluded n = false ∧
        s.wc.retired.contains n = false) ∧
      (t.pe.active.length < 96 → t.pe.refused = true) ∧ t.pe.caused = [] ∧ t.pe.parcels = s.pe.parcels ∧
      t.pe.streams = s.pe.streams ∧ t.rc.chans = s.rc.chans ∧
      t.rc.geos = s.rc.geos ∧ State.regsBut [.rcTap] s t ∧ Frame [.regs, .pe, .rc, .vc] s t) ∧
  (∀ (s : State) (o : Nat) (v : Word), s.serves (.fn o) → s.isOwner o = true →
    (s.fld .vcCalSel 0 0 7 0 < 136 → ∃ t, exec (.vcCalCtrlWrite (.fn o) v) s = .next t ∧
      t.reg .vcCalCtrl 0 (s.fld .vcCalSel 0 0 7 0) = Nat.land v.toNat 0xF3 ∧
      (∀ r i k, (r, i, k) ≠ (.vcCalCtrl, 0, s.fld .vcCalSel 0 0 7 0) → t.reg r i k = s.reg r i k) ∧ Frame [.regs] s t) ∧
    (136 ≤ s.fld .vcCalSel 0 0 7 0 → exec (.vcCalCtrlWrite (.fn o) v) s = .next s))

/-- Which read the tape serves next, and where a locate lands. (R175, R176) -/
def Obligations.TapeReadsAreServedInOrder : Prop :=
  (∀ (s : State), s.pe.reads ≠ [] → s.readsMayRun = true → s.df.running = false →
    ∃ t r, exec .readTargetSelect s = .next t ∧ r ∈ s.pe.reads ∧ t.pe.target = some r.cmd ∧ t.pe.writeStopped = true ∧
      (∀ x ∈ s.pe.reads, x.longWaited = true → r.longWaited = true) ∧ t.pe.reads = s.pe.reads ∧ Frame [.pe] s t) ∧
  (∀ (s : State), s.pe.reads = [] → ∃ t, exec .readTargetSelect s = .next t ∧ t.pe.target = none ∧
    t.pe.writeStopped = false ∧ t.pe.streams = s.pe.streams ∧ t.pe.parcels = s.pe.parcels ∧
    Frame [.pe, .bm, .ce, .ed] s t) ∧
  (∀ (s : State) (id : Nat) (long : Bool), (s.pe.reads.any fun t => t.cmd == id) = true →
    ∃ t, exec (.readWaitExpiry id long) s = .next t ∧ t.pe.writeStopped = true ∧
      t.pe.reads = s.pe.reads.map (fun r => if r.cmd = id then { r with waited := true, longWaited := r.longWaited || long } else r) ∧
      Frame [.pe] s t) ∧
  (∀ (s : State) (r : TapeRead), (s.pe.reads.find? fun t => s.pe.target == some t.cmd) = some r → s.transportDown = false →
    let a := s.readAt r
    ∃ t, exec .locateLanding s = .next t ∧ t.sm.wrap = some a.1 ∧ t.sm.reverse = isReverse a.1 ∧ t.sm.brake = false ∧
      t.sm.chain = 2 * (if isReverse a.1 then min (s.endTick - 64) (a.2 + extentTicks a.1 + max 240 (s.fld .peLocRunup 0 0 15 0))
        else max 2464 (a.2 - max 240 (s.fld .peLocRunup 0 0 15 0))) ∧
      (∀ x ∈ t.pe.reads, x.dataset = r.dataset → x.landed = true) ∧ t.pe.reads.length = s.pe.reads.length ∧
      t.df = { s.df with speed := t.df.speed } ∧ t.fresh = s.fresh + 1 ∧ Frame [.pe, .df, .sm, .fresh] s t)

/-- From frames to tiers, from parcels to records. (R123, R227, R229, R251, R307, R308, R363, R365) -/
def Obligations.TiersParcelsAndRecordsAreRecovered : Prop :=
  (∀ (s : State) (ds tier : Nat) (g : Geometry), s.geometry? ds = some g → tier < g.tiers →
    let r := c2Decode (s.fld .edC2Cfg 0 0 7 0) (s.tierFrames g tier).1
    ∃ t, exec (.tierDecode ds tier) s = .next t ∧ t.tier? ds tier = some ⟨ds, tier, c2Bytes r.2.1⟩ ∧
      t.reg .edC2Tiers 0 0 = (if (c2Bytes r.2.1).isSome then min (s.reg .edC2Tiers 0 0 + 1) 0xFFFFFFFF else s.reg .edC2Tiers 0 0) ∧
      t.reg .edC2Fail 0 0 = (if (c2Bytes r.2.1).isSome then s.reg .edC2Fail 0 0 else min (s.reg .edC2Fail 0 0 + 1) 0xFFFFFFFF) ∧
      t.ed.frames = s.ed.frames ∧ State.regsBut [.edC2Tiers, .edC2Fail, .edC2Eras, .edC2Err] s t ∧ Frame [.regs, .bm, .ed] s t) ∧
  (∀ (s : State) (ds tier g p : Nat) (x : TierData), s.tier? ds tier = some x → x.bytes = none →
    s.groupPlace ds = some (g, p) →
    let b := s.c3Tier g p tier
    ∃ t, exec (.c3Recover ds tier) s = .next t ∧ t.tier? ds tier = some ⟨ds, tier, b⟩ ∧
      t.reg .edC3Runs 0 0 = (if b.isSome then min (s.reg .edC3Runs 0 0 + 1) 0xFFFFFFFF else s.reg .edC3Runs 0 0) ∧
      t.reg .edC3Fail 0 0 = (if b.isSome then s.reg .edC3Fail 0 0 else min (s.reg .edC3Fail 0 0 + 1) 0xFFFFFFFF) ∧
      (b = none → ∀ r ∈ s.pe.reads, r.dataset = ds →
        ⟨r.stream, r.record, none, [], none, some (stReadFault, 0x10)⟩ ∈ t.pe.decoded) ∧
      State.regsBut [.edC3Runs, .edC3Fail] s t ∧ Frame [.regs, .pe, .bm, .ed] s t) ∧
  (∀ (s : State) (id ds i : Nat) (c : Cmd) (r : TapeRead) (at_ : Nat × Nat) (b key : Bytes), s.cmd? id = some c →
    (s.pe.reads.find? fun t => t.cmd == id && t.dataset == ds) = some r → s.cipherWaits = false → s.noCipher = false →
    s.parcelPlace ds i = some at_ → s.payloadPart ds at_.1 at_.2 = some b → fieldBE b 0 2 = 0x50A7 →
    fieldBE b 4 1 = s.tenant c.fn → streamKey (fieldBE b 4 1) (fieldBE b 8 8) = r.stream →
    s.keyFor c.fn (fieldBE (b.take 64) 28 4) = some key →
    let h := b.take 64
    let ct := (b.drop 64).take (fieldBE h 48 4)
    let iv := (h.drop 32).take 12
    ∃ t, exec (.parcelOpen id ds i) s = .next t ∧ Frame [.regs, .pe, .ce, .ms] s t ∧
      (gcmTag key iv h ct = (b.drop (64 + ct.length)).take 16 →
        (⟨ds, i, h, gcmCrypt key iv ct⟩ : OpenParcel) ∈ t.ce.opened ∧ t.pe = s.pe) ∧
      (gcmTag key iv h ct ≠ (b.drop (64 + ct.length)).take 16 →
        ⟨r.stream, r.record, none, [], none, some (stReadFault, 0x13)⟩ ∈ t.pe.decoded ∧ t.ce.opened = s.ce.opened ∧
        t.reg .ceAuthFail 0 0 = min (s.reg .ceAuthFail 0 0 + 1) 0xFFFFFFFF)) ∧
  (∀ (s : State) (unit ds i upto : Nat) (o : OpenParcel), (s.ce.opened.find? fun o => o.dataset == ds && o.index == i) = some o →
    unit < 32 → s.engineUsable (32 + unit) = true → s.below 4 = false →
    let k := streamKey (fieldBE o.head 4 1) (fieldBE o.head 8 8)
    let r := decompress (fieldBE o.head 44 4) (bitOf (fieldBE o.head 3 1) 0) o.payload
    let first := fieldBE o.head 16 8
    (∀ data, r.1 = [⟨data, .recEnd⟩] → bitOf (fieldBE o.head 3 1) 0 = false → upto = first →
      ∃ t, exec (.parcelDecompress unit ds i upto) s = .next t ∧ (⟨k, first, none, data, none, none⟩ : Decoded) ∈ t.pe.decoded ∧
        (∀ x ∈ t.ce.opened, x.dataset = ds → x.index ≠ i) ∧ Frame [.regs, .pe, .cx, .ce, .ms] s t) ∧
    (∀ trip, r.2.2 = some trip → r.1 = [] → first ≤ upto → ∃ t, exec (.parcelDecompress unit ds i upto) s = .next t ∧
      (⟨k, first, none, [], none, some (stExpansionLimit, 0)⟩ : Decoded) ∈ t.pe.decoded ∧
      t.reg .cxDxTrips 0 0 = min (s.reg .cxDxTrips 0 0 + 1) 0xFFFFFFFF ∧ Frame [.regs, .pe, .cx, .ce, .ms] s t)) ∧
  (∀ (s : State) (ms : List MemberRead) (g : Group), (s.df.groups.find? fun g => g.repair == 1) = some g →
    ∃ t h, exec (.c3GroupClose ms) s = .next t ∧ t.group? g.num = some h ∧ h.closed = true ∧ h.repair = 2 ∧
      h.members.length = min 30 ms.length ∧ t.df.datasets = s.df.datasets ∧ Frame [.df] s t)

/-- What a servo channel makes of a frame. (R389, R391) -/
def Obligations.ServoFramesGivePositions : Prop :=
  ∀ (s : State) (k : Nat) (refs bias : List Int), k < 6 →
    (refs.length = 4 → bias.length = 4 → ∀ p : Int, (s.reader k).prevRef = some p →
      let t2 := refs.getD 0 0 + refs.getD 3 0
      let per := t2 - p
      let y := lateral (bias.sum - 2 * t2) per
      let good := 0 < per ∧ (∀ q, (s.reader k).period = some q → 10 * (per - q).natAbs ≤ q.natAbs) ∧ y.natAbs ≤ 80000
      (good → ∃ t, exec (.servoFrame k refs bias) s = .next t ∧ (t.reader k).y = some y ∧ (t.reader k).prevRef = some t2 ∧
        (t.reader k).period = some per ∧ (∀ j, j ≠ k → t.reader j = s.reader j) ∧ Frame [.sm] s t) ∧
      (¬ good → ∃ t, exec (.servoFrame k refs bias) s = .next t ∧ (t.reader k).y = none ∧ (t.reader k).prevRef = some t2 ∧
        t.reg .smRdrFail 0 0 = min (s.reg .smRdrFail 0 0 + 1) 0xFFFFFFFF ∧ (∀ j, j ≠ k → t.reader j = s.reader j) ∧
        State.regsBut [.smRdrFail] s t ∧ Frame [.regs, .sm] s t)) ∧
    (refs.length ≠ 4 ∨ bias.length ≠ 4 → ∃ t, exec (.servoFrame k refs bias) s = .next t ∧
      t.reader k = { s.reader k with prevRef := none, y := none } ∧ (∀ j, j ≠ k → t.reader j = s.reader j) ∧
      t.reg .smRdrFail 0 0 = min (s.reg .smRdrFail 0 0 + 1) 0xFFFFFFFF ∧ State.regsBut [.smRdrFail] s t ∧
      Frame [.regs, .sm] s t)

/-- A loop sample keeps the integrator and the output within the limits of its set; modes and wraps change as planned.
(R394, R395, R397, R404, R405) -/
def Obligations.LoopSamplesStayWithinTheirLimits : Prop :=
  (∀ (s : State) (e : Nat) (meas ext vmot : Int), 2 ≤ e → e < 6 → (s.engine e).closed = true →
    ¬ (s.sm.state = 3 ∧ s.sm.tripEngine = e) → ∃ t, exec (.loopSample e meas ext vmot false) s = .next t ∧
      let g := s.engine e
      let h := t.engine e
      let m := g.next.getD g.mode
      h.mode = m ∧ h.next = none ∧ h.closed = true ∧ h.overruns = 0 ∧ h.integ.natAbs ≤ (max 0 (s.coef e m 53)).natAbs ∧
        (h.limited - g.limited).natAbs ≤ (s.coef e m 56).natAbs ∧ (∀ j, j ≠ e → t.engine j = s.engine j) ∧
        Frame [.regs, .sm, .ms] s t) ∧
  (∀ (s : State) (e : Nat) (meas ext vmot : Int), e < 6 → (s.engine e).closed = true →
    ∃ t, exec (.loopSample e meas ext vmot true) s = .next t ∧
      t.engine e = { s.engine e with overruns := (s.engine e).overruns + 1 } ∧ (∀ j, j ≠ e → t.engine j = s.engine j) ∧
      t.reg .smOverruns 0 0 = min (s.reg .smOverruns 0 0 + 1) 0xFFFFFFFF ∧ State.regsBut [.smOverruns] s t ∧
      Frame [.regs, .sm] s t) ∧
  (∀ (s : State) (e : Nat) (meas ext vmot : Int) (late : Bool), 2 ≤ e → e < 6 → (s.engine e).closed = false →
    exec (.loopSample e meas ext vmot late) s = .next s) ∧
  (∀ (s : State) (e mode : Nat), s.modeDue e mode = true → (s.engine e).closed = true →
    ∃ t, exec (.loopModeSwitch e mode) s = .next t ∧ t.engine e = { s.engine e with next := some mode } ∧
      (∀ j, j ≠ e → t.engine j = s.engine j) ∧ Frame [.sm] s t) ∧
  (∀ (s : State) (w : Nat) (bands : List Nat), s.ct.mounted = true → w < 256 → s.transportDown = false →
    (s.sm.band = some (w / 64) ∨ w / 64 ∈ bands.take 4 → ∃ t, exec (.wrapChange w bands) s = .next t ∧
      t.sm.wrap = some w ∧ t.sm.band = some (w / 64) ∧ t.sm.reverse = decide (w % 2 = 1) ∧ t.wc.gates = [] ∧
      t.wc.inWindow = 0 ∧ t.df.running = false ∧ t.df.datasets = s.df.datasets ∧ Frame [.pe, .df, .wc, .vc, .sm] s t) ∧
    (s.sm.band ≠ some (w / 64) → 4 ≤ bands.length → w / 64 ∉ bands.take 4 → ∃ t, exec (.wrapChange w bands) s = .next t ∧
      t.sm.state = 3 ∧ t.sm.tripEngine = 5 ∧ t.sm.wrap = s.sm.wrap ∧ t.ms.seq = s.ms.seq + 1 ∧ Frame [.regs, .df, .wc, .sm, .ms] s t))

/-- Every cause of a trip, what a trip does at once, and its steps to the safe state. (R397, R406, R407, R408) -/
def Obligations.TripsBringTheTapeToItsSafeState : Prop :=
  (∀ (s : State) (c : Instr) (cause eng : Nat), s.sm.state < 3 →
    ((∃ e, c = .overrunTrip e ∧ e < 6 ∧ 3 ≤ (s.engine e).overruns ∧ cause = 1 ∧ eng = e) ∨
     (c = .missingSampleTrip ∧ 64 ≤ s.sm.missing ∧ 500 < s.sm.speed ∧ cause = 2 ∧ eng = 0) ∨
     (∃ l : List Nat, c = .vmotUndervoltage l ∧ l.length = 3 ∧ (∀ v ∈ l, v < 10 * s.fld .smLimits 0 0 15 0) ∧ cause = 5 ∧ eng = 7) ∨
     (∃ (e : Nat) (l : List Nat), c = .hallCodeFault e l ∧ (e = 3 ∨ e = 4) ∧ l.length = 3 ∧ (∀ v ∈ l, v = 0 ∨ v = 7) ∧
       cause = 6 ∧ eng = e) ∨
     (∃ (e : Nat) (l : List Nat), c = .overcurrent e l ∧ (e = 3 ∨ e = 4) ∧ l.length = 3 ∧
       (∀ v ∈ l, 10 * s.fld .smLimits 0 0 31 16 < v) ∧ cause = 7 ∧ eng = e) ∨
     (∃ (o : Nat) (v : Word), c = .smTransportSafeReq (.fn o) v ∧ s.serves (.fn o) ∧ s.isOwner o = true ∧
       bitOf v.toNat 3 = true ∧ cause = 8 ∧ eng = 7)) →
    ∃ t, exec c s = .next t ∧ t.sm.state = 3 ∧ t.sm.tripEngine = eng ∧ t.sm.tripStep = 1 ∧ t.sm.inject = none ∧
      t.sm.engines = s.sm.engines ∧ t.wc.gates = [] ∧ t.wc.triggers.contains 4 = true ∧ t.df.running = false ∧
      t.df.queue = s.df.queue ∧ t.ms.seq = s.ms.seq + 1 ∧
      t.reg .smTrip 0 0 = (if s.fld .smTrip 0 0 31 31 = 0 then 2 ^ 31 + eng * 2 ^ 28 + cause * 2 ^ 24 else s.reg .smTrip 0 0) ∧
      State.regsBut [.smTrip, .msLogLost] s t ∧ Frame [.regs, .df, .wc, .sm, .ms] s t) ∧
  (∀ (s : State), 3 ≤ s.sm.state → 64 ≤ s.sm.missing → 500 < s.sm.speed →
    ∃ t, exec .missingSampleTrip s = .next t ∧ t.ms.seq = s.ms.seq + 1 ∧ State.regsBut [.msLogLost] s t ∧
      Frame [.regs, .ms] s t) ∧
  (∀ (s : State), s.sm.state = 3 →
    (s.sm.tripStep = 1 → s.sm.speed < 50 → exec .tripTapeStopped s = .next { s with sm := { s.sm with tripStep := 2 } }) ∧
    (s.sm.tripStep = 2 → ∃ t, exec .safeHoldExpiry s = .next t ∧ t.sm = { s.sm with state := 4, tripStep := 0, brake := true, reels := 0 } ∧
      Frame [.regs, .hi, .klt, .qe, .pe, .bm, .cx, .sm, .ms, .out] s t) ∧
    (s.sm.reels = 2 → exec .reelBrakeEngage s = .next { s with sm := { s.sm with brake := true } }))

/-- Closing, opening, rates and coefficients of the engine that SM_LOOP_SEL selects. (R396, R397, R401, R412) -/
def Obligations.LoopEnginesOpenAndClose : Prop :=
  ∀ (s : State) (o : Nat) (v : Word), s.serves (.fn o) → s.isOwner o = true → s.fld .smLoopSel 0 0 2 0 < 6 →
    let e := s.fld .smLoopSel 0 0 2 0
    (bitOf v.toNat 0 = true → (s.engine e).closed = false → ∃ t, exec (.smLoopClose (.fn o) v) s = .next t ∧
      t.engine e = { engine0 with closed := true, next := some 0 } ∧ (∀ j, j ≠ e → t.engine j = s.engine j) ∧
      t.loopSource e = (if bitsOf v.toNat 9 8 = 3 then 0 else bitsOf v.toNat 9 8) ∧ State.regsBut [.smLoopCtrl] s t ∧
      Frame [.regs, .sm] s t) ∧
    (bitOf v.toNat 0 = false → (s.engine e).closed = true →
      (s.mayOpen e = true → ∃ t, exec (.smLoopOpen (.fn o) v) s = .next t ∧ t.engine e = engine0 ∧
        (∀ j, j ≠ e → t.engine j = s.engine j) ∧ State.regsBut [.smLoopCtrl] s t ∧ Frame [.regs, .sm] s t) ∧
      (s.mayOpen e = false → ∃ t, exec (.smLoopOpen (.fn o) v) s = .next t ∧ t.sm = s.sm ∧ t.ms.seq = s.ms.seq + 1 ∧
        State.regsBut [.msLogLost] s t ∧ Frame [.regs, .ms] s t)) ∧
    ((s.engine e).closed = false → e ≠ 0 → v.toNat < 2 ^ 20 →
      (v.toNat ≤ maxRate e → v.toNat * (600 + 2 * s.loopCycles e) ≤ 1000000000 →
        ∃ t, exec (.smLoopRateWrite (.fn o) v) s = .next t ∧ t.reg .smLoopRate 0 e = v.toNat ∧
          (∀ r i k, (r, i, k) ≠ (.smLoopRate, 0, e) → t.reg r i k = s.reg r i k) ∧ Frame [.regs] s t) ∧
      (maxRate e < v.toNat ∨ 1000000000 < v.toNat * (600 + 2 * s.loopCycles e) →
        ∃ t, exec (.smLoopRateWrite (.fn o) v) s = .next t ∧ t.reg .smLoopRate 0 e = s.reg .smLoopRate 0 e ∧
          t.ms.seq = s.ms.seq + 1 ∧ State.regsBut [.msLogLost] s t ∧ Frame [.regs, .ms] s t)) ∧
    ((s.engine e).closed = false → s.fld .smCoefAddr 0 0 5 0 < 60 →
      ∃ t, exec (.smCoefDataWrite (.fn o) v) s = .next t ∧
        t.coefWord e (s.fld .smCoefAddr 0 0 7 6) (s.fld .smCoefAddr 0 0 5 0) = v ∧
        (∀ e' m w, coefPlace e' m w ≠ coefPlace e (s.fld .smCoefAddr 0 0 7 6) (s.fld .smCoefAddr 0 0 5 0) →
          t.coefWord e' m w = s.coefWord e' m w) ∧ t.regs = s.regs ∧ t.sm.engines = s.sm.engines ∧ Frame [.sm] s t)

/-- Injection and capture of loop signals. (R409, R410) -/
def Obligations.InjectionsAndCapturesStartAndEnd : Prop :=
  (∀ (s : State) (o : Nat) (v : Word), s.serves (.fn o) → s.isOwner o = true →
    (bitOf v.toNat 31 = true → s.sm.inject = none → (s.engine (bitsOf v.toNat 30 28)).closed = true → bitsOf v.toNat 23 0 ≠ 0 →
      s.sm.state < 3 → ∃ t j, exec (.smInjStart (.fn o) v) s = .next t ∧ t.sm.inject = some j ∧
        j.engine = bitsOf v.toNat 30 28 ∧ j.left = bitsOf v.toNat 23 0 ∧ j.run = 0 ∧
        j.point = (if bitsOf v.toNat 27 26 = 3 then 0 else bitsOf v.toNat 27 26) ∧ j.kind = min 2 (bitsOf v.toNat 25 24) ∧
        1 ≤ j.lfsr ∧ j.lfsr ≤ 2047 ∧ t.sm.engines = s.sm.engines ∧ State.regsBut [.smInjCfg] s t ∧
        Frame [.regs, .sm, .fresh] s t) ∧
    (bitOf v.toNat 31 = true → ∃ t, exec (.smCapArm (.fn o) v) s = .next t ∧ t.sm.cap.armed = true ∧ t.sm.cap.done = false ∧
      t.sm.cap.recs = [] ∧ t.sm.engines = s.sm.engines ∧ State.regsBut [.smCapCfg] s t ∧ Frame [.regs, .sm] s t)) ∧
  (∀ (s : State) (j : Inject), s.sm.inject = some j → j.left = 0 → exec .injectionEnd s = .next { s with sm := { s.sm with inject := none } }) ∧
  (∀ (s : State), s.sm.cap.armed = true → s.sm.cap.left = some 0 → ∃ t, exec .captureFull s = .next t ∧ t.sm.cap.done = true ∧
    t.sm.cap.armed = false ∧ t.sm.cap.recs = s.sm.cap.recs ∧ t.sm.engines = s.sm.engines ∧ Frame [.sm] s t)

/-- MOUNT, UNMOUNT and the SENSE inputs. (R114, R115, R171, R286, R415, R416, R417, R418, R419, R420, R422) -/
def Obligations.CartridgesAreMountedAndUnmounted : Prop :=
  (∀ (s : State) (id : Nat) (ps l : List BufPiece) (m : MediaRead) (c : Cmd), s.holds id 0x01 c → c.buffer ps = some l →
    s.ct.leaving = false → s.sessionRuns = false →
    (s.ct.mounted = true → s.ct.removed = false → ∃ t, exec (.mount id ps m) s = .next t ∧ State.told s t c stSuccess 0x10 0 ∧
      t.ct = s.ct ∧ t.sm = s.sm ∧ t.df = s.df) ∧
    (s.ct.mounted = false ∨ s.ct.removed = true → s.senses 0 = false ∨ s.senses 1 = false → ∃ t, exec (.mount id ps m) s = .next t ∧
      State.told s t c stNoMedia 1 0 ∧ t.ct = { s.ct with threaded := false, gpio := 0 } ∧ t.sm.brake = true ∧ t.sm.reels = 0 ∧
      t.df = s.df) ∧
    (∀ cm, s.ct.mounted = false ∨ s.ct.removed = true → s.senses 0 = true → s.senses 1 = true → s.senses 4 = true → m.cm = some cm →
      m.tension = true → ((s.progress? m.cm).bind fun b => if fieldBE b 4 1 = 0 then none else some b) = none →
      foreign m = false →
      (labelRead m = none → formatSeen m = false → ∃ t, exec (.mount id ps m) s = .next t ∧ State.told s t c stSuccess 0x11 0 ∧
        t.ct.mounted = true ∧ t.ct.formatted = false ∧ t.ct.threaded = true ∧ t.sm.state = 1 ∧ t.sm.brake = false ∧
        t.pe.streams = [] ∧ t.pe.frontier = none ∧ t.df.datasets = []) ∧
      (∀ lab d b r, labelRead m = some (lab, d) → s.knowsLabel lab = true → summaryOfCm cm = some b → fieldBE b 8 1 = 0 →
        rootOf (part b 16 64) = some r → rootBook r = none →
        (∀ q, newer 4 (d.rootA.bind rootOf) (d.rootB.bind rootOf) = some q → ¬ fieldBE r 8 6 < fieldBE q 8 6) →
        ∃ t, exec (.mount id ps m) s = .next t ∧
          State.told s t c stSuccess (if s.senses 2 || bitOf (entFlags c.entry) 1 then 0x12 else 0) 0 ∧
          t.ct.mounted = true ∧ t.ct.formatted = true ∧ t.ct.threaded = true ∧
          t.ct.readOnly = (s.senses 2 || bitOf (entFlags c.entry) 1) ∧ t.ct.cart.serial = fieldBE cm 0 8 ∧
          t.ct.cart.endTick = fieldBE lab 8 4 ∧ t.pe.frontier.map (·.1) = some (fieldBE r 26 1) ∧
          t.pe.nextDataset = fieldBE r 20 6 ∧ t.pe.streams = [] ∧ t.pe.books = []))) ∧
  (∀ (s : State) (id : Nat) (c : Cmd) (ok : Bool), s.holds id 0x02 c → s.sessionRuns = false → s.ct.mounted = true →
    s.streamsOpen = 0 →
    (s.ct.written = false → ∃ t, exec (.unmount id ok) s = .next t ∧ State.told s t c stSuccess 0 0 ∧ t.ct.mounted = false ∧
      t.pe.streams = [] ∧ t.ct.cart = s.ct.cart ∧
      (bitOf (entFlags c.entry) 1 = false → t.ct.threaded = s.ct.threaded ∧ t.sm = s.sm) ∧
      (bitOf (entFlags c.entry) 1 = true → t.ct.threaded = false ∧ t.sm.state = 0 ∧ t.sm.brake = true ∧ t.sm.engines = [])) ∧
    (s.ct.written = true → s.writeBlock = none → s.bookOwed = false → s.pe.bookDue = false → s.df.datasets = [] →
      s.df.restartDue = [] → s.df.groups = [] → s.df.voidDue = 0 → (∀ x ∈ s.pe.streams.vals, x.seqEnd ≤ x.durable) →
      let q := max s.ct.cart.rootSeq (max s.ct.cart.rootA s.ct.cart.rootB) + 1
      ∃ t, exec (.unmount id true) s = .next t ∧ State.told s t c stSuccess 0 0 ∧ t.ct.mounted = false ∧
        Out.datum (if s.ct.cart.rootA ≤ s.ct.cart.rootB then 4 else 5) (s.rootRecord q) ∈ t.out ∧
        Out.cm (if s.ct.cart.sumA ≤ s.ct.cart.sumB then 0x200 else 0x280)
          (summaryBytes (max s.ct.cart.sumA s.ct.cart.sumB + 1) false (s.rootRecord q)) ∈ t.out ∧
        t.ct.cart.summaryOpen = false)) ∧
  (∀ (s : State) (id : Nat) (c : Cmd) (ok : Bool), s.holds id 0x02 c → s.sessionRuns = false → s.ct.mounted = true →
    0 < s.streamsOpen → ∃ t, exec (.unmount id ok) s = .next t ∧ State.told s t c stMediaBusy 1 s.streamsOpen ∧
      t.ct = s.ct ∧ t.df = s.df) ∧
  (∀ (s : State) (pins : Nat), (∃ t, exec (.senseChange pins) s = .next t ∧ t.ct.pins = pins % 256 ∧
      t.ct.mounted = s.ct.mounted ∧ t.reg .ctSensePol 0 0 = s.reg .ctSensePol 0 0) ∧
    (s.ct.mounted = true → s.ct.removed = false → s.senses 0 = true → s.senses 1 = true → s.senses 4 = true →
      let now := Nat.xor (pins % 256) (s.fld .ctSensePol 0 0 7 0)
      bitOf now 0 = false ∨ bitOf now 1 = false ∨ bitOf now 4 = false → ∃ t, exec (.senseChange pins) s = .next t ∧
        t.ct.removed = true ∧ 3 ≤ t.sm.state ∧ (s.sm.state < 3 → t.wc.gates = [] ∧ t.df.running = false) ∧ s.ms.seq + 2 ≤ t.ms.seq))

/-- FORMAT and SANITIZE start a session, and the session's end. (R144, R146, R254, R423, R424, R425, R426, R427, R428) -/
def Obligations.MediaSessionsRunAndEnd : Prop :=
  (∀ (s : State) (id : Nat) (c : Cmd) (ps l : List BufPiece) (lab : List (BitVec 8)) (m : MediaRead), s.holds id 0x40 c →
    c.buffer ps = some l → (s.ct.session.any fun x => x.cmd == some id) = false →
    (s.sessionBlock = none → formatCheck m = none → ∃ t x, exec (.format id ps lab m) s = .next t ∧ t.ct.session = some x ∧
      x.kind = 1 ∧ x.phase = 1 ∧ x.done = 0 ∧ x.state = 1 ∧ x.cmd = some id ∧ x.fn = some c.fn ∧ x.label = fit 64 lab ∧
      t.ct.mounted = false ∧ t.pe.streams = [] ∧ t.cmd? id = some c ∧ t.qe = s.qe ∧ t.regs = s.regs ∧
      (∃ b, t.ct.nvProgress = s.ct.nvProgress.set x.serial b ∧ Out.cm (0x300 + 0x80 * (1 - x.copy)) b ∈ t.out ∧
        x.serial = fieldBE (m.cm.getD []) 0 8)) ∧
    (∀ st d, s.sessionBlock = some (st, d) ∨ (s.sessionBlock = none ∧ formatCheck m = some (st, d)) →
      ∃ t, exec (.format id ps lab m) s = .next t ∧ State.told s t c st d 0 ∧ t.ct = s.ct)) ∧
  (∀ (s : State) (id : Nat) (c : Cmd) (m : MediaRead), s.holds id 0x41 c → bitOf (entFlags c.entry) 1 = false →
    (s.ct.session.any fun x => x.cmd == some id) = false →
    (s.sessionBlock = none → formatCheck m = none → ∃ t x, exec (.sanitizeOverwrite id m) s = .next t ∧ t.ct.session = some x ∧
      x.kind = 2 ∧ x.phase = 1 ∧ x.state = 1 ∧ x.cmd = some id ∧ x.fn = some c.fn ∧ t.ct.mounted = false ∧ t.pe.streams = [] ∧
      (∀ b e, labelRead m = some (b, e) → x.label = part b 16 64) ∧ t.cmd? id = some c ∧ t.qe = s.qe ∧ t.regs = s.regs) ∧
    (∀ st d, s.sessionBlock = some (st, d) → ∃ t, exec (.sanitizeOverwrite id m) s = .next t ∧ State.told s t c st d 0 ∧
      t.ct = s.ct)) ∧
  (∀ (s : State) (id : Nat) (c : Cmd) (ps l : List BufPiece) (names : List (BitVec 8)) (m : MediaRead), s.holds id 0x41 c →
    bitOf (entFlags c.entry) 1 = true → c.buffer ps = some l → s.isOwner c.fn = true → s.mediaCheck = none →
    s.streamsOpen = 0 → s.ct.readOnly = false → s.writeBlock = none → (s.ct.session.any fun x => x.cmd == some id) = false →
    let tenants := ((fit (entLen c.entry) names).map (·.toNat)).dedup
    ∃ t x, exec (.sanitizeCrypto id ps names m) s = .next t ∧ t.ct.session = some x ∧ x.kind = 3 ∧ x.phase = 2 ∧ x.state = 1 ∧
      x.tenants = tenants ∧ x.cmd = some id ∧ t.ct.mounted = true ∧ (∀ f ∈ s.fnsOf tenants, (t.kek f).key = none) ∧
      (∀ f, f ∉ s.fnsOf tenants → t.kek f = s.kek f)) ∧
  (∀ (s : State) (ok : Bool) (ph n el : Nat) (x : Session) (c : Cmd) (id : Nat), s.ct.session = some x → x.state = 1 →
    x.cmd = some id → s.cmd? id = some c → s.hi.ownerNext = none → isWriteClass (entOpcode c.entry) = false →
    (x.kind = 1 ∨ x.kind = 2 → ok = true → ∃ t, exec (.mediaSessionEnd ok ph n el) s = .next t ∧ t.ct.session = none ∧
      State.told s t c stSuccess 0 0 ∧ t.ct.cart.summaryOpen = false ∧
      Out.datum 3 (x.labelBlock ((s.activeImage.bind fun i => (i.tables.find? fun z => z.1 == 4).map (·.2)).getD 0)) ∈ t.out ∧
      Out.datum 4 (x.emptyRoot 1) ∈ t.out ∧ Out.datum 5 (x.emptyRoot 2) ∈ t.out ∧
      (x.kind = 1 → ∀ w < 256, Out.benchmark w ∈ t.out) ∧ (x.kind = 2 → ∀ w < 256, Out.voidWrap w ∈ t.out)) ∧
    (ok = false → ∃ t y, exec (.mediaSessionEnd ok ph n el) s = .next t ∧ t.ct.session = some y ∧ y.state = 3 ∧ y.cmd = none ∧
      y.kind = x.kind ∧ State.told s t c stWriteFault 0 0))

/-- OPEN_STREAM, CLOSE_STREAM and SYNC complete. (R116, R118, R129, R130, R133, R168) -/
def Obligations.StreamsOpenCloseAndSync : Prop :=
  (∀ (s : State) (id k : Nat) (c : Cmd) (x : Stream), s.holds id 0x03 c → c.stream = some k → s.stream? k = some x →
    ∃ t y, exec (.openStream id) s = .next t ∧ t.stream? k = some y ∧
      State.told s t c stSuccess 0 ((s.setStream k { x with opening := false }).credit { x with opening := false }) ∧
      y.opening = false ∧ y.handle = x.handle ∧ y.write = x.write ∧
      (∀ j, j ≠ k → t.stream? j = s.stream? j) ∧ Frame [.regs, .hi, .qe, .pe, .bm, .out] s t) ∧
  (∀ (s : State) (id k : Nat) (c : Cmd) (x : Stream), s.holds id 0x16 c → c.stream = some k → s.stream? k = some x →
    (x.write = false ∨ x.settled c.first = true → ∃ t y, exec (.sync id) s = .next t ∧ t.stream? k = some y ∧
      State.told s t c (if x.pendingDetail.isSome then stDeferred else stSuccess) (x.pendingDetail.getD 0) 0 ∧
      y.pendingDetail = none ∧ y.recs = x.recs ∧ y.pos = x.pos ∧ (∀ j, j ≠ k → t.stream? j = s.stream? j) ∧
      Frame [.regs, .hi, .qe, .pe, .bm, .out] s t) ∧
    (x.write = true → x.settled c.first = false → exec (.sync id) s = .next s)) ∧
  (∀ (s : State) (id k : Nat) (c : Cmd) (x : Stream), s.holds id 0x04 c → c.stream = some k → s.stream? k = some x →
    (x.write = false ∨ (min c.first x.seqEnd ≤ x.durable ∧ c.count ≠ 0 ∧ s.bookVerified (c.count - 1) = true ∧
      x.truncPending = false) → ∃ t y, exec (.closeStream id) s = .next t ∧ t.stream? k = some y ∧
      State.told s t c (if x.pendingDetail.isSome then stDeferred else stSuccess) (x.pendingDetail.getD 0) 0 ∧
      y.closing = none ∧ y.opening = false ∧ y.write = false ∧ y.pendingDetail = none ∧ y.endNum = x.endNum ∧
      (∀ j, j ≠ k → t.stream? j = s.stream? j) ∧ Frame [.regs, .hi, .qe, .pe, .bm, .out] s t) ∧
    (x.write = true → x.pendingDetail = none → min c.first x.seqEnd ≤ x.durable → c.count = 0 →
      exec (.closeStream id) s = .next { s with pe := { s.pe with bookDue := true } }))

/-- READ_RECORDS, DISCARD_REMAINDER, LOCATE and SPACE. (R107, R109, R123, R124, R126, R127) -/
def Obligations.RecordsAreReadAndPositionsMove : Prop :=
  (∀ (s : State) (id k r : Nat) (ps : List BufPiece) (c : Cmd) (x : Stream), s.holds id 0x11 c → c.stream = some k →
    s.stream? k = some x → bitOf (entFlags c.entry) 0 = false → entCountM1 c.entry = 0 → x.readPlace c = ⟨r, 0⟩ →
    (x.seqEnd = r → ∃ t, exec (.readRecords id ps) s = .next t ∧ State.told s t c stEndOfData 0 0 ∧
      (t.stream? k).map (·.pos) = some x.pos) ∧
    (x.seqEnd < r → ∃ t, exec (.readRecords id ps) s = .next t ∧ State.told s t c stNotFound 2 0 ∧
      (t.stream? k).map (·.pos) = some x.pos) ∧
    (∀ d, r < x.seqEnd → s.look k x r = some d →
      (d.fail = none → d.peg = none → d.data ≠ [] → d.data.length ≤ entLen c.entry → ∃ t, exec (.readRecords id ps) s = .next t ∧
        State.told s t c stSuccess (if x.seqEnd ≤ r + 1 then 4 else 0) 1 ∧ (t.stream? k).map (·.pos) = some ⟨r + 1, 0⟩ ∧
        (c.ring ≠ goneRing → Out.dma c.fn (entData c.entry) d.data ∈ t.out ∧
          Out.dma c.fn (entList c.entry) (listEntry d.data.length d.crc false false false 0) ∈ t.out)) ∧
      (∀ cls, d.fail = none → d.peg = some cls → ∃ t, exec (.readRecords id ps) s = .next t ∧
        State.told s t c stSuccess (if x.seqEnd ≤ r + 1 then 4 else 3) 1 ∧ (t.stream? k).map (·.pos) = some ⟨r + 1, 0⟩ ∧
        (c.ring ≠ goneRing → Out.dma c.fn (entList c.entry) (listEntry 0 none false true false cls) ∈ t.out)) ∧
      (∀ e, d.fail = some e → ∃ t, exec (.readRecords id ps) s = .next t ∧ State.told s t c e.1 e.2 0 ∧
        (t.stream? k).map (·.pos) = some ⟨r, 0⟩ ∧ (c.ring < windowRing → t.out = s.out))) ∧
    (∀ ds, r < x.seqEnd → s.look k x r = none → s.tapeTarget k r = .inr ds → (∀ q ∈ s.pe.reads, q.cmd ≠ c.id) →
      ∃ t, exec (.readRecords id ps) s = .next t ∧ (⟨c.id, k, r, ds, false, false, false⟩ : TapeRead) ∈ t.pe.reads ∧
        t.cmd? id = some c ∧ t.stream? k = some x ∧ t.out = s.out)) ∧
  (∀ (s : State) (id k : Nat) (c : Cmd) (x : Stream), s.holds id 0x12 c → c.stream = some k → s.stream? k = some x →
    (x.partialRead = false → ∃ t, exec (.discardRemainder id) s = .next t ∧ State.told s t c stSuccess 0 0 ∧
      (t.stream? k).map (·.pos) = some x.pos) ∧
    (∀ d, x.partialRead = true → s.look k x x.pos.record = some d → d.fail = none →
      ∃ t, exec (.discardRemainder id) s = .next t ∧ State.told s t c stSuccess 0 (d.data.length - x.pos.off) ∧
        (t.stream? k).map (·.pos) = some ⟨x.pos.record + 1, 0⟩ ∧ (t.stream? k).map (·.partialRead) = some false)) ∧
  (∀ (s : State) (id k : Nat) (c : Cmd) (x : Stream), s.holds id 0x14 c → c.stream = some k → s.stream? k = some x →
    (x.endNum < c.first → ∃ t, exec (.locate id) s = .next t ∧ State.told s t c stNotFound 2 0 ∧
      (t.stream? k).map (·.pos) = some x.pos) ∧
    (c.first ≤ x.endNum → (s.look k x c.first).isSome = true ∨ c.first = x.endNum → ∃ t, exec (.locate id) s = .next t ∧
      State.told s t c stSuccess 0 0 ∧ (t.stream? k).map (·.pos) = some ⟨c.first, 0⟩ ∧
      (t.stream? k).map (·.partialRead) = some false)) ∧
  (∀ (s : State) (id k : Nat) (c : Cmd) (x : Stream), s.holds id 0x15 c → c.stream = some k → s.stream? k = some x →
    (entRecord c.entry = 0 → ∃ t, exec (.space id) s = .next t ∧ State.told s t c stSuccess 0 0 ∧
      (t.stream? k).map (·.pos) = some x.pos) ∧
    (∀ r m d, entRecord c.entry ≠ 0 → s.spaceWalk c k x = .stop r m d → ∃ t, exec (.space id) s = .next t ∧
      State.told s t c stSuccess d m ∧ (t.stream? k).map (·.pos) = some ⟨r, 0⟩ ∧
      (entData c.entry ≠ 0 → c.ring ≠ goneRing → Out.dma c.fn (entData c.entry) (bytesLE 8 r) ∈ t.out)) ∧
    (bitOf (entFlags c.entry) 1 = false →
      (0 < signed 64 (entRecord c.entry) → x.pos.record + (signed 64 (entRecord c.entry)).toNat ≤ x.endNum →
        s.spaceWalk c k x = .stop (x.pos.record + (signed 64 (entRecord c.entry)).toNat) (signed 64 (entRecord c.entry)).toNat 0) ∧
      (0 < signed 64 (entRecord c.entry) → x.endNum < x.pos.record + (signed 64 (entRecord c.entry)).toNat →
        s.spaceWalk c k x = .stop x.endNum (x.endNum - x.pos.record) 4) ∧
      (signed 64 (entRecord c.entry) < 0 → (-signed 64 (entRecord c.entry)).toNat ≤ x.pos.record →
        s.spaceWalk c k x = .stop (x.pos.record - (-signed 64 (entRecord c.entry)).toNat) (-signed 64 (entRecord c.entry)).toNat 0) ∧
      (signed 64 (entRecord c.entry) < 0 → x.pos.record < (-signed 64 (entRecord c.entry)).toNat →
        s.spaceWalk c k x = .stop 0 x.pos.record 5)))

/-- The commands that report: streams, field book, log pages, key slots, identity. (R137, R138, R139, R140, R241, R285,
R492, R496) -/
def Obligations.QueriesAnswer : Prop :=
  ∀ (s : State) (id : Nat) (ps : List BufPiece) (c : Cmd), bitOf (entFlags c.entry) 0 = false →
    (∀ k x, s.holds id 0x20 c → c.stream = some k → s.stream? k = some x → x.pendingDetail = none → 64 ≤ entLen c.entry →
      ∃ t, exec (.queryStream id ps) s = .next t ∧ State.told s t c stSuccess 0 (satCredit (s.creditOf k)) ∧
        (c.ring ≠ goneRing → Out.dma c.fn (entData c.entry) (s.queryBytes k x) ∈ t.out) ∧
        (t.stream? k).map (·.pos) = some x.pos ∧ Frame [.regs, .hi, .qe, .pe, .bm, .out] s t) ∧
    (∀ k x, s.holds id 0x22 c → c.stream = some k → s.stream? k = some x →
      let l := s.extentList k c.first
      let n := min (entCountM1 c.entry + 1) (entLen c.entry / 40)
      ∃ t, exec (.getFieldBookExtent id ps) s = .next t ∧
        State.told s t c stSuccess (if l.length ≤ n then 4 else 0) (min n l.length) ∧
        (c.ring ≠ goneRing → l ≠ [] → 0 < n →
          Out.dma c.fn (entData c.entry) ((l.take n).map Parcel.bookRecord).flatten ∈ t.out) ∧
        Frame [.regs, .hi, .qe, .pe, .bm, .out] s t) ∧
    (s.holds id 0x21 c → ∃ t, exec (.getLog id ps) s = .next t ∧ State.told s t c stSuccess 0 (s.logBytes c).length ∧
      (s.logBytes c).length ≤ entLen c.entry ∧
      (c.ring ≠ goneRing → s.logBytes c ≠ [] → Out.dma c.fn (entData c.entry) (s.logBytes c) ∈ t.out) ∧
      (c.ring < windowRing → t.regs = s.regs) ∧ Frame [.regs, .hi, .qe, .pe, .bm, .out, .fresh] s t) ∧
    (s.holds id 0x32 c → bitOf (entFlags c.entry) 1 = false → 32 ≤ entLen c.entry → ∃ t, exec (.keyQuery id ps) s = .next t ∧
      State.told s t c stSuccess 0 (s.slot (s.slotOf c)).shown ∧
      (c.ring ≠ goneRing → Out.dma c.fn (entData c.entry) (s.slotStatus c) ∈ t.out) ∧ Frame [.regs, .hi, .qe, .pe, .bm, .out] s t) ∧
    (s.holds id 0x32 c → bitOf (entFlags c.entry) 1 = true → ∃ t, exec (.keyQueryIdentity id ps) s = .next t ∧
      State.told s t c stSuccess 0 (Config.certificate.take 2048).length ∧ Frame [.regs, .hi, .qe, .pe, .bm, .out] s t)

/-- KEY_INSTALL, KEY_ERASE and an uncorrectable error of the key store. (R140, R235, R237, R238, R239, R240, R242, R243,
R252, R253) -/
def Obligations.KeysAreInstalledAndErased : Prop :=
  (∀ (s : State) (id : Nat) (ps l : List BufPiece) (blob : Bytes) (c : Cmd), s.holds id 0x30 c → c.buffer ps = some l →
    bitOf (entFlags c.entry) 1 = false →
    let g := s.slotOf c
    let b := fit 56 blob
    let raw := bitOf (entFlags c.entry) 2
    let pad := bitOf (entFlags c.entry) 3
    ((s.slot g).retiring = true → exec (.keyInstall id ps blob) s = .next s) ∧
    ((s.slot g).retiring = false → (s.kek c.fn).key = none → ∃ t, exec (.keyInstall id ps blob) s = .next t ∧
      State.told s t c stNoKey 0 0 ∧ t.ce = s.ce) ∧
    (∀ kk, (s.slot g).retiring = false → (s.kek c.fn).key = some kk → s.blobBad c g b = false →
      (raw && s.slotNamed c.fn (entHandle c.entry)) = false →
      ∃ t, exec (.keyInstall id ps blob) s = .next t ∧
      (unwrapKey pad kk ((b.drop 16).take 40) = none → State.told s t c stAuthFailed 0 0 ∧ t.ce = s.ce ∧
        t.reg .ceUnwrapFail 0 0 = min (s.reg .ceUnwrapFail 0 0 + 1) 0xFFFFFFFF) ∧
      (∀ key, unwrapKey pad kk ((b.drop 16).take 40) = some key → key.length = 32 →
        ((s.slot g).gen = 0xFFFFFFFF → State.told s t c stExhausted 0 0 ∧ t.ce = s.ce) ∧
        ((s.slot g).gen ≠ 0xFFFFFFFF → s.ce.epoch ≤ 0xFFFFFFFF → State.told s t c stSuccess 0 ((s.slot g).gen + 1) ∧
          (t.slot g).key = key ∧ (t.slot g).raw = raw ∧ (t.slot g).state = (if raw then 1 else 2) ∧ (t.slot g).used = 0 ∧
          (t.slot g).label = natLE (b.take 4) ∧ (t.slot g).limit = blobLimit b ∧ (t.slot g).gen = (s.slot g).gen + 1 ∧
          (raw = false → (t.slot g).epoch = s.ce.epoch ∧ t.ce.epoch = s.ce.epoch + 1 ∧ s.ce.epoch < t.ce.epochBound) ∧
          (raw = true → t.ce.epoch = s.ce.epoch) ∧ (∀ j, j ≠ g → t.slot j = s.slot j) ∧ t.ce.keks = s.ce.keks)))) ∧
  (∀ (s : State) (id : Nat) (ps l : List BufPiece) (blob : Bytes) (c : Cmd), s.holds id 0x30 c → c.buffer ps = some l →
    bitOf (entFlags c.entry) 1 = true →
    let b := fit 144 blob
    (((b.drop 97).take 7).any (· != 0) = true → ∃ t, exec (.keyInstallKek id ps blob) s = .next t ∧
      State.told s t c stInvalidField 0x42 0 ∧ t.ce = s.ce) ∧
    (((b.drop 97).take 7).any (· != 0) = false → ∃ t, exec (.keyInstallKek id ps blob) s = .next t ∧
      (unwrapKek (bitOf (entFlags c.entry) 3) (s.tenant c.fn) b = none → State.told s t c stAuthFailed 0 0 ∧ t.ce = s.ce) ∧
      (∀ key, unwrapKek (bitOf (entFlags c.entry) 3) (s.tenant c.fn) b = some key → (s.kek c.fn).gen ≠ 0xFFFFFFFF →
        State.told s t c stSuccess 0 ((s.kek c.fn).gen + 1) ∧
          t.kek c.fn = ⟨some key, (s.kek c.fn).gen + 1⟩ ∧ (∀ f, f ≠ c.fn → t.kek f = s.kek f) ∧ t.ce.slots = s.ce.slots))) ∧
  (∀ (s : State) (id : Nat) (c : Cmd), s.holds id 0x31 c →
    (bitOf (entFlags c.entry) 1 = true → ∃ t, exec (.keyErase id) s = .next t ∧ t.kek c.fn = ⟨none, nextGen (s.kek c.fn).gen⟩ ∧
      State.told s t c stSuccess 0 (nextGen (s.kek c.fn).gen) ∧ (∀ f, f ≠ c.fn → t.kek f = s.kek f) ∧ t.ce.slots = s.ce.slots) ∧
    (bitOf (entFlags c.entry) 1 = false → ∃ t, exec (.keyErase id) s = .next t ∧
      t.slot (s.slotOf c) = { keySlot0 with gen := nextGen (s.slot (s.slotOf c)).gen } ∧
      State.told s t c stSuccess 0 (nextGen (s.slot (s.slotOf c)).gen) ∧ (∀ j, j ≠ s.slotOf c → t.slot j = s.slot j) ∧
      t.ce.keks = s.ce.keks)) ∧
  (∀ (s : State) (g : Nat), g < 4096 → ∃ t, exec (.keyStoreUe g) s = .next t ∧
    t.slot g = { keySlot0 with gen := nextGen (s.slot g).gen } ∧ (∀ j, j ≠ g → t.slot j = s.slot j) ∧
    t.ce.keks = s.ce.keks ∧ s.ms.seq + 1 ≤ t.ms.seq)

/-- CIPHER_RAW and CIPHER_AEAD: what they write, the invocation they take, and what refuses them. (R141, R142, R241, R242,
R244, R245, R247, R248) -/
def Obligations.CiphersSealAndOpen : Prop :=
  (∀ (s : State) (id : Nat) (ps l : List BufPiece) (data : Bytes) (c : Cmd), s.holds id 0x38 c → c.buffer ps = some l →
    s.cipherWaits = false →
    let g := s.slotOf c
    let k := s.slot g
    let n := entLen c.entry
    (n = 0 ∨ n % 16 ≠ 0 → ∃ t, exec (.cipherRaw id ps data) s = .next t ∧ State.told s t c stLength 1 0 ∧ t.ce = s.ce) ∧
    (n ≠ 0 → n % 16 = 0 →
      (k.shown = 0 → ∃ t, exec (.cipherRaw id ps data) s = .next t ∧ State.told s t c stNoKey 0 0 ∧ t.ce = s.ce) ∧
      (k.shown ≠ 0 → k.raw = false → ∃ t, exec (.cipherRaw id ps data) s = .next t ∧ State.told s t c stKeyClass 0 0 ∧
        t.ce = s.ce) ∧
      (k.shown = 3 → k.raw = true → ∃ t, exec (.cipherRaw id ps data) s = .next t ∧ State.told s t c stExhausted 0 0 ∧
        t.ce = s.ce) ∧
      (k.shown ≠ 0 → k.raw = true → k.state ≠ 3 → s.cipherFault = none → ∃ t, exec (.cipherRaw id ps data) s = .next t ∧
        State.told s t c stSuccess 0 n ∧ (t.slot g).key = k.key ∧ (t.slot g).used = k.used + 1 ∧
        (t.slot g).state = (if k.limit ≤ k.used + 1 then 3 else k.state) ∧ (∀ j, j ≠ g → t.slot j = s.slot j) ∧
        (c.ring ≠ goneRing → Out.dma c.fn (entList c.entry)
          (ecb (if bitOf (entFlags c.entry) 1 then aesDecrypt k.key else aesEncrypt k.key) (n / 16) (fit n data)) ∈ t.out)))) ∧
  (∀ (s : State) (id : Nat) (ps l : List BufPiece) (data aad area : Bytes) (c : Cmd), s.holds id 0x39 c → c.buffer ps = some l →
    s.cipherWaits = false → entLen c.entry ≤ 67108864 → entryField c.entry 48 4 ≤ 65536 →
    let g := s.slotOf c
    let k := s.slot g
    let b := fit (entLen c.entry) data
    let a := fit (entryField c.entry 48 4) aad
    let ar := fit 32 area
    (k.shown = 0 → ∃ t, exec (.cipherAead id ps data aad area) s = .next t ∧ State.told s t c stNoKey 0 0 ∧ t.ce = s.ce) ∧
    (k.shown ≠ 0 → k.raw = true → ∃ t, exec (.cipherAead id ps data aad area) s = .next t ∧ State.told s t c stKeyClass 0 0 ∧
      t.ce = s.ce) ∧
    (k.shown ≠ 0 → k.raw = false → s.cipherFault = none →
      (bitOf (entFlags c.entry) 1 = false → k.state = 3 → ∃ t, exec (.cipherAead id ps data aad area) s = .next t ∧
        State.told s t c stExhausted 0 0 ∧ t.ce = s.ce) ∧
      (bitOf (entFlags c.entry) 1 = false → k.state ≠ 3 → ∃ t iv, exec (.cipherAead id ps data aad area) s = .next t ∧
        State.told s t c stSuccess 0 (entLen c.entry) ∧ iv.length = 12 ∧
        (bitOf (entFlags c.entry) 2 = false → iv = slotIv k) ∧ (t.slot g).used = k.used + 1 ∧
        (t.slot g).state = (if k.limit ≤ k.used + 1 then 3 else k.state) ∧ (∀ j, j ≠ g → t.slot j = s.slot j) ∧
        (c.ring ≠ goneRing → Out.dma c.fn (entryField c.entry 56 8) iv ∈ t.out ∧
          Out.dma c.fn (entryField c.entry 56 8 + 16) (gcmTag k.key iv a (gcmCrypt k.key iv b)) ∈ t.out ∧
          (b ≠ [] → Out.dma c.fn (entList c.entry) (gcmCrypt k.key iv b) ∈ t.out))) ∧
      (bitOf (entFlags c.entry) 1 = true → ∃ t, exec (.cipherAead id ps data aad area) s = .next t ∧
        t.ce.slots = s.ce.slots ∧
        (gcmTag k.key (ar.take 12) a b = (ar.drop 16).take 16 → State.told s t c stSuccess 0 (entLen c.entry) ∧
          (c.ring ≠ goneRing → b ≠ [] → Out.dma c.fn (entList c.entry) (gcmCrypt k.key (ar.take 12) b) ∈ t.out)) ∧
        (gcmTag k.key (ar.take 12) a b ≠ (ar.drop 16).take 16 → State.told s t c stAuthFailed 0 0 ∧
          t.reg .ceAuthFail 0 0 = min (s.reg .ceAuthFail 0 0 + 1) 0xFFFFFFFF ∧ (c.ring < windowRing → t.out = s.out)))))

/-- SELF_TEST, UNIT_CTRL and slice tests: which units leave service and which return. (R22, R23, R481, R483, R484, R485,
R486) -/
def Obligations.UnitsAreTestedRetiredAndReturned : Prop :=
  (∀ (s : State) (id : Nat) (c : Cmd) (r : TestRead), s.holds id 0x50 c → s.testBlocked (entUnitType c.entry) = false →
    let failed := r.failed.filter (testNamed (entUnitType c.entry) (if entAux c.entry = 1 then some (entUnitNum c.entry) else none))
    ∃ t, exec (.selfTest id r) s = .next t ∧
      State.told s t c (if failed = [] then stSuccess else stTestFailed) 0 failed.length ∧
      t.ms.test.run = 3 ∧ t.ms.test.islands = r.islands ∧ t.ms.test.seq = s.ms.test.seq + 1 ∧
      (∀ u ∈ failed, u.1 ∈ [1, 2, 3, 4, 5, 7] → u.2 < s.present u.1 → t.isRetired u.1 u.2 = true)) ∧
  (∀ (s : State) (id : Nat) (c : Cmd) (r : TestRead), (s.holds id 0x50 c ∨ (s.holds id 0x52 c ∧ entAux c.entry = 2)) →
    s.testBlocked (entUnitType c.entry) = true →
    ∃ t, exec (if entOpcode c.entry = 0x50 then .selfTest id r else .unitCtrlReturn id r) s = .next t ∧
      State.told s t c stMediaBusy 3 0 ∧ t.ms = s.ms) ∧
  (∀ (s : State) (id : Nat) (c : Cmd), s.holds id 0x52 c →
    let n := entUnitNum c.entry
    let k := entUnitType c.entry
    (entAux c.entry = 1 → k ∈ [1, 2, 3, 4, 5, 7] → n < s.present k → s.isRetired k n = false →
      ∃ t, exec (.unitCtrlRetire id) s = .next t ∧ State.told s t c stSuccess 0 0 ∧ t.isRetired k n = true ∧
        s.ms.seq + 1 ≤ t.ms.seq ∧ t.klt.running ≠ []) ∧
    (entAux c.entry = 1 → k = 6 → (s.pair (n / 2)).pendingRetire = false → (s.pair (n / 2)).retired = false →
      ∃ t, exec (.unitCtrlRetire id) s = .next t ∧ State.told s t c stSuccess 0 0 ∧ (t.pair (n / 2)).pendingRetire = true ∧
        (t.pair (n / 2)).active = (s.pair (n / 2)).active ∧ (∀ j, j ≠ n / 2 → t.pair j = s.pair j) ∧ s.ms.seq + 1 ≤ t.ms.seq) ∧
    (∀ r : TestRead, entAux c.entry = 2 → s.testBlocked k = false → r.failed.filter (testNamed k (some n)) = [] →
      ∃ t, exec (.unitCtrlReturn id r) s = .next t ∧ State.told s t c stSuccess 0 0 ∧ t.isRetired k n = false ∧
        s.ms.seq + 1 ≤ t.ms.seq ∧ t.klt.running ≠ [] ∧ t.ms.test.run = 3) ∧
    (entAux c.entry = 3 →
      let m := s.ms.soft.get 0 (entHandle c.entry)
      (m ≤ s.ms.fuseLeft → ∀ b, (∃ t, exec (.unitCtrlBurn id true b) s = .next t ∧ State.told s t c stSuccess 0 0 ∧
        t.ms.fuseLeft = s.ms.fuseLeft - m ∧ t.ms.soft.get 0 (entHandle c.entry) = 0) ∧
        ∃ t, exec (.unitCtrlBurn id false b) s = .next t ∧ State.told s t c stTestFailed 0 0 ∧
          t.ms.fuseLeft = s.ms.fuseLeft - min m b ∧ t.ms.soft = s.ms.soft) ∧
      (s.ms.fuseLeft < m → ∀ g b, ∃ t, exec (.unitCtrlBurn id g b) s = .next t ∧ State.told s t c stTestFailed 0 0 ∧
        t.ms = s.ms))) ∧
  (∀ (s : State) (u : Nat × Nat), s.ms.phase = 2 → s.ms.quiescent = false → s.qe.leaving = false →
    s.fld .msBistCfg 0 0 1 1 = 1 → s.ms.slice = none → s.ms.power < 2 → s.sliceNext = some u → s.unitIdle u = true →
    exec .sliceTestStart s = .next { s with ms := { s.ms with slice := some u, sliceLast := u } }) ∧
  (∀ (s : State) (u : Nat × Nat) (r : TestRead), s.ms.slice = some u → u.1 ∈ [2, 3, 4, 5] → u.2 < s.present u.1 →
    ∃ t, exec (.sliceTestEnd r) s = .next t ∧ t.ms.slice = none ∧ t.ms.sliceLast = s.ms.sliceLast ∧
      t.reg .msSliceRuns 0 0 = min (s.reg .msSliceRuns 0 0 + 1) 0xFFFFFFFF ∧
      (u ∈ r.failed → t.isRetired u.1 u.2 = true ∧ t.reg .msSliceFails 0 0 = min (s.reg .msSliceFails 0 0 + 1) 0xFFFFFFFF ∧
        s.ms.seq + 1 ≤ t.ms.seq) ∧
      (u ∉ r.failed → t.isRetired u.1 u.2 = s.isRetired u.1 u.2 ∧ t.reg .msSliceFails 0 0 = s.reg .msSliceFails 0 0 ∧
        t.ms.seq = s.ms.seq))

/-- SHUTDOWN_PREP, PWR_WARN_N, the shutdown self-test, the thermal limit and the scan unlock. (R145, R444, R449, R450,
R476, R477, R498, R520) -/
def Obligations.ThePartLeavesService : Prop :=
  (∀ (s : State) (id : Nat) (c : Cmd) (ok : Bool), s.holds id 0x51 c → s.sessionRuns = false →
    (s.streamsOpen = 0 ∨ bitOf (entFlags c.entry) 1 = true → s.ct.mounted = false ∨ s.ct.written = false →
      ∃ t, exec (.shutdownPrep id ok) s = .next t ∧ State.told s t c stSuccess 0 0 ∧ t.qe.leaving = true ∧
        t.ct.mounted = false ∧ t.ms.shutDue = 2 ∧ t.sm.brake = true ∧ t.wc.gates = [] ∧ t.ms.nvSummary = summaryOf t.ms.log) ∧
    (0 < s.streamsOpen → bitOf (entFlags c.entry) 1 = false → ∃ t, exec (.shutdownPrep id ok) s = .next t ∧
      State.told s t c stMediaBusy 1 0 ∧ t.qe.leaving = s.qe.leaving ∧ t.ct = s.ct ∧ t.sm = s.sm)) ∧
  (∀ (s : State) (h : Bool), s.ms.phase = 2 → s.ms.quiescent = false → s.ms.wakeBuf = [] →
    ∃ t, exec (.pwrWarnN h) s = .next t ∧ t.qe.leaving = true ∧ t.wc.gates = [] ∧ 3 ≤ t.sm.state ∧ t.ms.power = 0 ∧
      s.ms.seq + 2 ≤ t.ms.seq ∧ t.ms.nvSummary = summaryOf t.ms.log ∧ t.ms.nvSeq = t.ms.seq ∧
      t.ms.shutDue = (if h then 1 else 0) ∧ t.qe.cmds = s.qe.cmds ∧ t.ce.slots = s.ce.slots) ∧
  (∀ (s : State) (r : TestRead), s.ms.shutDue ≠ 0 → s.ms.phase = 2 → s.ms.quiescent = false → s.sm.state = 0 ∨ s.sm.state = 4 →
    (∃ t, exec (.shutdownSelfTest true r) s = .next t ∧ t.keyless ∧ t.ce.identity = false ∧ t.ms.quiescent = true ∧
      t.ms.clean = true ∧ t.ms.test.run = 1 ∧ t.ms.test.islands = r.islands ∧ t.ms.shutDue = 0 ∧ t.sm.brake = true) ∧
    ∃ t, exec (.shutdownSelfTest false r) s = .next t ∧ t.keyless ∧ t.ce.identity = false ∧ t.ms.quiescent = true ∧
      t.ms.clean = s.ms.clean ∧ t.ms.test = s.ms.test ∧ t.ms.seq = s.ms.seq + 1) ∧
  (∀ (s : State) (i : Nat) (x : Int), i < 25 → s.ms.phase = 2 → s.ms.quiescent = false →
    (x ≤ 1840 → exec (.thermalLimit i x) s = .next { s with ms := { s.ms with tempMax := max s.ms.tempMax x } }) ∧
    (1840 < x → s.ms.wakeBuf = [] → ∃ t, exec (.thermalLimit i x) s = .next t ∧ t.ms.quiescent = true ∧ t.qe.leaving = true ∧
      t.wc.gates = [] ∧ t.sm.brake = true ∧ t.ms.tempMax = max s.ms.tempMax x ∧ t.ms.clean = s.ms.clean)) ∧
  (∀ (s : State) (p : Port) (v : Word), s.serves p → s.sees p .ms = true →
    (v.toNat % 256 = 0x5C → s.ct.mounted = false → s.sm.state = 0 ∨ s.sm.state = 4 →
      ∃ t, exec (.msDbgCtrlUnlock p v) s = .next t ∧ t.ms.unlocked = true ∧ t.qe.leaving = true ∧ t.keyless ∧
        t.ms.seq = s.ms.seq + 1 ∧ t.ct = s.ct ∧ t.sm = s.sm) ∧
    (v.toNat % 256 = 0x5C → s.ct.mounted = true ∨ (s.sm.state ≠ 0 ∧ s.sm.state ≠ 4) →
      ∃ t, exec (.msDbgCtrlUnlock p v) s = .next t ∧ t.ms.unlocked = s.ms.unlocked ∧ t.qe = s.qe ∧ t.ce = s.ce ∧
        s.ms.seq + 1 ≤ t.ms.seq) ∧
    (v.toNat % 256 ≠ 0x5C → s.ct.mounted = false → s.sm.state = 0 → exec (.msDbgCtrlUnlock p v) s = .next s))

/-- The personality image: session, blocks, verification, activation, confirmation, rollback. (R143, R456, R459, R461,
R462, R463, R464, R465, R466, R468, R469) -/
def Obligations.ImagesAreUpdated : Prop :=
  ∀ (s : State) (id : Nat) (c : Cmd),
    (s.holds id 0x60 c →
      (s.updLocked = false → s.ms.upd = none → s.ms.pointer.trial = false → ∃ t, exec (.updateOpen id) s = .next t ∧
        State.told s t c stSuccess 0 0 ∧ t.ms.upd = some ⟨s.tenant c.fn, none⟩ ∧ t.ms.pages = [] ∧ t.ms.pointer = s.ms.pointer) ∧
      (s.updLocked = true → ∃ t, exec (.updateOpen id) s = .next t ∧ State.told s t c stUpdateRefused 4 0 ∧ t.ms = s.ms) ∧
      (s.updLocked = false → s.ms.upd.isSome = true ∨ s.ms.pointer.trial = true → ∃ t, exec (.updateOpen id) s = .next t ∧
        State.told s t c stUpdateBusy 0 0 ∧ t.ms = s.ms)) ∧
    (∀ ps l data, s.holds id 0x61 c → c.buffer ps = some l →
      let off := entRecord c.entry
      let len := entLen c.entry
      (s.updOpen = false → ∃ t, exec (.updateBlock id ps data) s = .next t ∧ State.told s t c stUpdateRefused 1 0 ∧ t.ms = s.ms) ∧
      (s.updOpen = true → off % 4096 ≠ 0 ∨ len % 4096 ≠ 0 ∨ len < 4096 ∨ 1048576 < len ∨ 8388608 < off + len →
        ∃ t, exec (.updateBlock id ps data) s = .next t ∧ State.told s t c stLength 4 0 ∧
          t.ms.upd = s.ms.upd ∧ t.ms.pages = s.ms.pages ∧ t.ms.pointer = s.ms.pointer) ∧
      (s.updOpen = true → off % 4096 = 0 → len % 4096 = 0 → 4096 ≤ len → len ≤ 1048576 → off + len ≤ 8388608 →
        ∃ t, exec (.updateBlock id ps data) s = .next t ∧ State.told s t c stSuccess 0 0 ∧
          (∀ n < len / 4096, t.ms.pages.find (off / 4096 + n) = some (((fit len data).drop (4096 * n)).take 4096)) ∧
          (∀ n, n < off / 4096 ∨ off / 4096 + len / 4096 ≤ n → t.ms.pages.find n = s.ms.pages.find n) ∧
          t.ms.upd.map (·.verified) = some none ∧ t.ms.pointer = s.ms.pointer)) ∧
    (s.holds id 0x62 c → s.updOpen = true → ∃ t, exec (.updateVerify id) s = .next t ∧ t.ms.pointer = s.ms.pointer ∧
      (∀ i, s.verifyStaged = .inr i → State.told s t c stSuccess 0 0 ∧ t.ms.upd.map (·.verified) = some (some i) ∧
        s.ms.fused ≤ i.sv ∧ t.ms.pages = s.ms.pages) ∧
      (∀ d, s.verifyStaged = .inl d → State.told s t c stUpdateRefused d 0 ∧ t.ms.upd.map (·.verified) = some none ∧
        5 ≤ d ∧ d ≤ 7)) ∧
    (∀ i : Image, s.holds id 0x63 c → s.updOpen = true → s.updLocked = false → s.ms.upd.bind (·.verified) = some i →
      (s.sm.state ≠ 2 → s.sm.state ≠ 3 → ∃ t, exec (.updateActivate id true) s = .next t ∧ State.told s t c stSuccess 0 0 ∧
        t.ms.pointer.slot = 1 - s.ms.pointer.slot ∧ t.ms.pointer.trial = true ∧ t.ms.pointer.starts = 0 ∧
        t.ms.pointer.seq = s.ms.pointer.seq + 1 ∧ t.activeImage = some i ∧ t.ms.version = i.version ∧
        t.ms.oldSettings = some s.nCells ∧ t.ms.fused = s.ms.fused) ∧
      (s.sm.state = 2 ∨ s.sm.state = 3 → ∀ h, ∃ t, exec (.updateActivate id h) s = .next t ∧
        State.told s t c stUpdateRefused 2 0 ∧ t.ms.pointer = s.ms.pointer ∧ t.ms.version = s.ms.version) ∧
      (s.sm.state ≠ 2 → s.sm.state ≠ 3 → ∃ t, exec (.updateActivate id false) s = .next t ∧
        State.told s t c stUpdateRefused 3 0 ∧ t.ms.pointer = s.ms.pointer ∧ t.ms.version = s.ms.version)) ∧
    (s.holds id 0x64 c →
      (s.ms.pointer.trial = true → ∃ t, exec (.updateConfirm id) s = .next t ∧ State.told s t c stSuccess 0 0 ∧
        t.ms.pointer.trial = false ∧ t.ms.pointer.slot = s.ms.pointer.slot ∧ t.ms.upd = none ∧
        t.ms.fused = min 64 (max s.ms.fused ((s.activeImage.map (·.floor)).getD 0))) ∧
      (s.ms.pointer.trial = false → ∃ t, exec (.updateConfirm id) s = .next t ∧ State.told s t c stUpdateRefused 9 0 ∧
        t.ms.upd = s.ms.upd ∧ t.ms.pages = s.ms.pages ∧ t.ms.pointer = s.ms.pointer ∧ t.ms.fused = s.ms.fused)) ∧
    (s.holds id 0x65 c →
      (s.ms.pointer.trial = true → s.updLocked = false → s.sm.state ≠ 2 → s.sm.state ≠ 3 →
        ∃ t, exec (.updateRevert id true) s = .next t ∧ State.told s t c stSuccess 0 0 ∧
          t.ms.pointer.slot = 1 - s.ms.pointer.slot ∧ t.ms.pointer.trial = false ∧ t.ms.upd = none ∧ t.ms.lastRollback = 1 ∧
          t.ms.fused = s.ms.fused) ∧
      (s.ms.pointer.trial = false → s.ms.upd.isSome = true → ∀ h, ∃ t, exec (.updateRevert id h) s = .next t ∧
        State.told s t c stSuccess 0 0 ∧ t.ms.upd = none ∧ t.ms.pages = [] ∧ t.ms.pointer = s.ms.pointer) ∧
      (s.ms.pointer.trial = false → s.ms.upd = none → ∀ h, ∃ t, exec (.updateRevert id h) s = .next t ∧
        State.told s t c stUpdateRefused 9 0 ∧ t.ms = s.ms)) ∧
    (s.updOpen = true → ∃ t, exec .updateSessionTimeout s = .next t ∧ t.ms.upd = none ∧ t.ms.pages = [] ∧
      t.ms.lastAbandon = 1 ∧ t.ms.pointer = s.ms.pointer) ∧
    (s.updOpen = false → exec .updateSessionTimeout s = .next s)

/-- LOOP_TEST at each depth starts, is refused, and reports. (R71, R144, R487, R488, R489, R490, R491) -/
def Obligations.LoopTestsStartAndEnd : Prop :=
  (∀ (s : State) (id : Nat) (c : Cmd) (i : Instr), s.holds id 0x70 c → (s.ms.loops.any fun l => l.cmd == c.id) = false →
    let aux := entAux c.entry
    let h := entHandle c.entry
    (i, true) ∈ [(.loopTestHost id, decide (aux ≤ 3)), (.loopTestDescriptorEcho id, aux == 0x10),
      (.loopTestLpddr5x id, decide (0x20 ≤ aux ∧ aux ≤ 0x22)), (.loopTestDecoder id, decide (0x30 ≤ aux ∧ aux ≤ 0x32)),
      (.loopTestServo id, aux == 0x40), (.loopTestMotion id, aux == 0x50), (.loopTestCartridgeSpi id, aux == 0x60),
      (.loopTestNvFlash id, aux == 0x61)] →
    (s.loopBlock c = none → (s.ms.loops.any fun l => l.samePath aux h) = false → ∃ t, exec i s = .next t ∧
      t.ms.loops = s.ms.loops ++ [⟨c.id, aux, h, entRecord c.entry⟩] ∧ t.cmd? id = some c ∧ t.out = s.out ∧
      (aux ≤ 3 → (Tab.find t.hi.links h).map (·.state) = some 5) ∧
      (aux = 0x10 → (t.sq c.fn h).echo = true ∧ (t.sq c.fn h).echoed = 0 ∧ (t.sq c.fn h).head = (s.sq c.fn h).head) ∧
      (0x10 < aux → t.regs = s.regs ∧ t.hi = s.hi ∧ t.qe = s.qe)) ∧
    (∀ st d, s.loopBlock c = some (st, d) → ∃ t, exec i s = .next t ∧ State.told s t c st d 0 ∧ t.ms.loops = s.ms.loops)) ∧
  (∀ (s : State) (id : Nat) (c : Cmd) (f : Bool), s.holds id 0x70 c → (s.ms.loops.any fun l => l.cmd == c.id) = false →
    entAux c.entry = 0x33 →
    (s.loopBlock c = none → (s.ms.loops.any fun l => l.samePath 0x33 (entHandle c.entry)) = false →
      (∃ t, exec (.loopTestHeadTape id true true f) s = .next t ∧ t.ct.threaded = true ∧ t.ct.mounted = s.ct.mounted ∧
        t.sm.state = 1 ∧ t.sm.brake = false ∧ t.ms.loops = s.ms.loops ++ [⟨c.id, 0x33, entHandle c.entry, entRecord c.entry⟩] ∧
        t.cmd? id = some c ∧ (f = false → Out.benchmark (entHandle c.entry) ∈ t.out)) ∧
      ∃ t, exec (.loopTestHeadTape id true false f) s = .next t ∧ State.told s t c stReadFault 6 0 ∧ t.ms.loops = s.ms.loops ∧
        t.ct = s.ct) ∧
    (∀ st d, s.loopBlock c = some (st, d) → ∃ t, exec (.loopTestHeadTape id true true f) s = .next t ∧
      State.told s t c st d 0 ∧ t.ms.loops = s.ms.loops ∧ t.ct = s.ct)) ∧
  (∀ (s : State) (id : Nat) (c : Cmd) (l : LoopRun) (r : LoopReport) (ps : List BufPiece), s.holds id 0x70 c →
    (s.ms.loops.find? fun l => l.cmd == id) = some l → bitOf (entFlags c.entry) 0 = false →
    (0x10 < l.aux → l.aux ≠ 0x30 ∨ s.injectCount = 0 → ∃ t, exec (.loopTestDurationEnd id ps r) s = .next t ∧
      State.told s t c (if r.errors = 0 then stSuccess else stTestFailed) 0 r.errors ∧
      t.ms.loops = s.ms.loops.filter (fun x => x.cmd != id) ∧
      (c.ring ≠ goneRing → 64 ≤ entLen c.entry → r.lanes = [] →
        Out.dma c.fn (entData c.entry) (loopBytes l r (entLen c.entry)) ∈ t.out)) ∧
    (l.aux = 0x10 → ∃ t, exec (.loopTestDurationEnd id ps r) s = .next t ∧ State.told s t c stSuccess 0 0 ∧
      (t.sq c.fn l.handle).echo = false ∧ t.ms.loops = s.ms.loops.filter (fun x => x.cmd != id) ∧
      (c.ring ≠ goneRing → 64 ≤ entLen c.entry → Out.dma c.fn (entData c.entry)
        (loopBytes l ⟨0, 0, (s.sq c.fn l.handle).echoed, 0, []⟩ (entLen c.entry)) ∈ t.out)) ∧
    (l.aux < 0x10 → s.hi.perst.contains l.handle = false → ∃ t, exec (.loopTestDurationEnd id ps r) s = .next t ∧
      State.told s t c (if r.errors = 0 then stSuccess else stTestFailed) 0 r.errors ∧
      Tab.find t.hi.links l.handle = some linkTraining ∧ t.fld .hiLoopCtrl l.handle 0 1 0 = 0))

/-- TRNG health, reseeding, and what is reserved in the NV store before it is used. (R243, R255, R256, R460, R492, R495) -/
def Obligations.RandomNumbersEpochsAndBlocksAreReserved : Prop :=
  ∀ s : State,
    (s.ce.failed = false → s.ce.retesting = false → exec .trngHealthFail s =
      .next { s with ce := { s.ce with healthy := false, retesting := true, retests := 0 } }) ∧
    (s.ce.retesting = true →
      exec (.trngRetestEnd true) s = .next { s with ce := { s.ce with healthy := true, retesting := false, retests := 0 } } ∧
      (s.ce.retests < 2 → exec (.trngRetestEnd false) s = .next { s with ce := { s.ce with retests := s.ce.retests + 1 } }) ∧
      (2 ≤ s.ce.retests → ∃ t, exec (.trngRetestEnd false) s = .next t ∧ t.ce.failed = true ∧ t.ce.retesting = false ∧
        t.ce.healthy = s.ce.healthy ∧ t.ce.slots = s.ce.slots ∧ s.ms.seq + 1 ≤ t.ms.seq ∧
        t.reg .ceTrngFail 0 0 = min (s.reg .ceTrngFail 0 0 + 1) 0xFFFFFFFF)) ∧
    (65536 ≤ s.ce.drbgUses → ∃ t, exec .drbgReseed s = .next t ∧ t.ce = { s.ce with drbgUses := 0, seeds := s.ce.seeds + 1 } ∧
      Frame [.ce, .fresh] s t) ∧
    (s.ce.drbgUses < 65536 → exec .drbgReseed s = .next s) ∧
    (s.ce.epochBound ≤ s.ce.epoch → exec .epochBatchReserve s =
      .next { s with ce := { s.ce with epochBound := s.ce.epoch + 1024 } }) ∧
    (s.ce.epoch < s.ce.epochBound → exec .epochBatchReserve s = .next s) ∧
    (s.ms.seqBound ≤ s.ms.seq → ∃ t, exec .eventLogBlockReserve s = .next t ∧ t.ms.seqBound = s.ms.seq + 4096 ∧
      t.ms.seq = s.ms.seq ∧ t.ms.log = s.ms.log ∧ t.ms.nvSummary = summaryOf s.ms.log ∧ Frame [.ms] s t) ∧
    (s.ms.seq < s.ms.seqBound → exec .eventLogBlockReserve s = .next s) ∧
    (3 * journalArea ≤ 4 * s.ms.journal → ∃ t, exec .journalCompact s = .next t ∧
      t.ms.journal = snapshotSize s.nCells.length + (s.ms.oldSettings.map fun q => snapshotSize q.length).getD 0 ∧
      t.ms.oldSettings = s.ms.oldSettings ∧ State.regsBut [.msXsErases] s t ∧ Frame [.regs, .ms, .fresh] s t) ∧
    (4 * s.ms.journal < 3 * journalArea → exec .journalCompact s = .next s)

/-- SMBus block writes and reads, and the alert response. (R45, R434, R505) -/
def Obligations.TheSidebandAnswers : Prop :=
  (∀ (s : State) (off : Nat) (v : Word) (ok : Bool), s.serves .sideband →
    (ok = true → off % 4 = 0 → off < 65536 →
      exec (.smbBlockWrite off v true) s = .next ((s.writeWord .sideband .ms 0 off v.toNat).emit (.smbus true 0)) ∧
      exec (.smbBlockRead off true) s = .next ((s.readWord .sideband .ms 0 off 0xFFFFFFFF).2.emit
        (.smbus true (s.readWord .sideband .ms 0 off 0xFFFFFFFF).1))) ∧
    (ok = false ∨ off % 4 ≠ 0 → exec (.smbBlockWrite off v ok) s = .next (s.emit (.smbus false 0)) ∧
      exec (.smbBlockRead off ok) s = .next (s.emit (.smbus false 0)))) ∧
  (∀ (s : State) (v : Word), s.serves .sideband →
    (∃ t, exec (.smbBlockWrite RegName.msGpioOut.info.off v true) s = .next t ∧ t.reg .msGpioOut 0 0 % 65536 = v.toNat % 65536 ∧
      State.regsBut [.msGpioOut] s t ∧ t.out = s.out ++ [.smbus true 0] ∧ Frame [.regs, .out] s t) ∧
    ∃ t, exec (.smbBlockRead RegName.msTimeLo.info.off true) s = .next t ∧
      t.out = s.out ++ [.smbus true (s.ms.time % 2 ^ 32)] ∧ Frame [.latch, .out] s t) ∧
  (∀ s : State, (s.ms.alert = true → exec .alertResponse s =
      .next { s with ms := { s.ms with alert := false }, out := s.out ++ [.smbus true 0x2C] }) ∧
    (s.ms.alert = false → exec .alertResponse s = .next s))

/-- Power, RESET_N, DEVRST and the sideband's reset: what is lost, what stays, and the start. (R49, R56, R146, R254, R442,
R443, R444, R447, R448, R492, R495) -/
def Obligations.WhatPowerAndResetsLeave : Prop :=
  (∀ (s : State) (io : Bool), s.ms.phase ≠ 0 →
    (∃ t, exec (.powerLoss io) s = .next t ∧ t.ms.phase = 0 ∧ t.ms.ioUp = io ∧ t.qe.cmds = [] ∧ t.qe.sqs = [] ∧ t.keyless ∧
      t.pe.streams = [] ∧ t.ms.log = [] ∧ t.sm.brake = true ∧ t.ms.time = 0 ∧
      (∀ r i k, r.info.cls = .n → t.reg r i k = s.reg r i k) ∧
      (∀ r i k, r.info.cls ≠ .n → t.reg r i k = regDefault s.parts r i k) ∧
      t.ms.slotA = s.ms.slotA ∧ t.ms.slotB = s.ms.slotB ∧ t.ms.pointer = s.ms.pointer ∧ t.ms.fused = s.ms.fused ∧
      t.ms.seqBound = s.ms.seqBound ∧ t.ce.epochBound = s.ce.epochBound ∧ t.ms.nvSummary = s.ms.nvSummary) ∧
    ∃ t, exec .resetNAssert s = .next t ∧ t.ms.phase = 1 ∧ t.qe.cmds = [] ∧ t.qe.sqs = [] ∧ t.keyless ∧ t.pe.streams = [] ∧
      t.sm.brake = true ∧ t.ms.log = s.ms.log ∧ t.ms.time = s.ms.time ∧ t.fld .msResetCause 0 0 1 1 = 1 ∧
      (∀ r i k, r.info.cls = .n ∨ r.info.cls = .a → r ≠ .msResetCause → t.reg r i k = s.reg r i k) ∧
      t.ms.slotA = s.ms.slotA ∧ t.ms.slotB = s.ms.slotB ∧ t.ms.pointer = s.ms.pointer ∧ t.ms.fused = s.ms.fused ∧
      t.ms.seqBound = s.ms.seqBound ∧ t.ce.epochBound = s.ce.epochBound) ∧
  (∀ (s : State), s.canStart →
    (∀ id c, s.holds id 0x53 c → c.ring = windowRing → ∃ t, exec (.devrst id) s = .next t ∧ t.restarted ∧
      t.fld .msResetCause 0 0 2 2 = 1) ∧
    (∀ id c, s.holds id 0x53 c → c.ring < windowRing → s.qe.ready = [] → s.cqRoom c.fn (s.boundCq c.fn c.ring) = true →
      ∃ t, exec (.devrst id) s = .next t ∧ t.restarted ∧ t.fld .msResetCause 0 0 2 2 = 1) ∧
    (∀ v : Word, s.serves .sideband →
      (v.toNat % 256 = 0xD5 → ∃ t, exec (.msSbDevrstWrite v) s = .next t ∧ t.restarted ∧ t.fld .msResetCause 0 0 3 3 = 1) ∧
      (v.toNat % 256 ≠ 0xD5 → exec (.msSbDevrstWrite v) s = .next s))) ∧
  (∀ (s : State) (b : Board),
    (s.ms.phase = 1 → { s with board := { b with partSel := s.board.partSel, ownerSel := s.board.ownerSel, lite := s.board.lite } }.canStart →
      ∃ t, exec (.resetNDeassert b) s = .next t ∧ t.ms.phase = 2 ∧ t.board.partSel = s.board.partSel ∧
        t.board.ownerSel = s.board.ownerSel ∧ t.board.lite = s.board.lite ∧ t.klt.shown = 0 ∧
        t.klt.running = [⟨.all, true⟩] ∧ t.ce.identity = true ∧ t.ce.healthy = b.trngOk ∧ s.ms.seq ≤ t.ms.seq) ∧
    (∀ m : TestRead, s.ms.phase = 0 → { s with board := b }.canStart → s.ms.clean = true →
      ∃ t, exec (.powerOn b m) s = .next t ∧ t.ms.phase = 2 ∧ t.board = b ∧ t.klt.shown = 0 ∧ t.klt.gen = 0 ∧
        t.klt.running = [⟨.all, true⟩] ∧ t.ce.identity = true ∧ t.ce.healthy = b.trngOk ∧ t.ms.clean = false ∧
        (s.ms.nvSummary.length ≤ 256 → ∀ e ∈ s.ms.nvSummary, { e with sev := e.sev % 128 + 128 } ∈ t.ms.log) ∧
        s.ms.seqBound ≤ t.ms.seq)) ∧
  (∀ s : State, s.ms.phase = 0 → exec .vddIoUp s = .next { s with ms := { s.ms with ioUp := true } })

/-- Idle timers, requested states, wake triggers and exits; links and failed reads of host memory. (R148, R437, R438,
R439, R440, R441) -/
def Obligations.PowerStatesMove : Prop :=
  (∀ (s : State) (n : Nat) (c : Instr), (n, c) ∈ [(1, Instr.idleT1Expiry), (2, .idleT2Expiry), (3, .idleT3Expiry)] →
    (s.ms.power + 1 = n → s.mayEnter n = true → s.reg .msIdleT1 0 0 ≠ 0 → (2 ≤ n → s.reg .msIdleT2 0 0 ≠ 0) →
      (3 ≤ n → s.reg .msIdleT3 0 0 ≠ 0) → ∃ t, exec c s = .next t ∧ t.ms.power = n ∧ t.ms.since = s.ms.time ∧
        (n < 3 → t.sm = s.sm) ∧ (n = 3 → t.sm.state = 0 ∧ t.sm.brake = true ∧ t.sm.engines = [] ∧ t.sm.inject = none) ∧
        Frame [.regs, .sm, .ms] s t) ∧
    (s.mayEnter n = false → exec c s = .next s)) ∧
  (∀ (s : State) (p : Port) (v : Word), s.serves p → s.sees p .ms = true → bitOf v.toNat 8 = false →
    (s.mayEnter (v.toNat % 4) = true → ∃ t, exec (.msPwrReqEnter p v) s = .next t ∧ t.ms.power = v.toNat % 4 ∧
      t.fld .msPwrReq 0 0 1 0 = 0 ∧ Frame [.regs, .sm, .ms] s t) ∧
    (s.mayEnter (v.toNat % 4) = false → ∃ t, exec (.msPwrReqEnter p v) s = .next t ∧ t.ms.power = 0 ∧
      t.fld .msPwrReq 0 0 1 0 = v.toNat % 4 ∧ State.regsBut [.msPwrReq] s t ∧ Frame [.regs] s t)) ∧
  (∀ (s : State) (v : Word), s.ms.phase = 2 → s.ms.quiescent = false → s.ms.moving = false → s.ms.power ≠ 0 →
    (v.toNat % 4 = 0 → bitOf v.toNat 8 = true → ∃ t, exec (.msPwrReqWake .sideband v) s = .next t ∧ t.ms.moving = true ∧
      t.ms.cause = 5 ∧ t.ms.power = s.ms.power ∧ t.reg .msWakes 0 0 = min (s.reg .msWakes 0 0 + 1) 0xFFFFFFFF ∧
      Frame [.regs, .ms] s t) ∧
    (∀ k, 1 ≤ k → k ≤ 6 → ∃ t, exec (.wake k) s = .next t ∧ t.ms.moving = true ∧ t.ms.cause = k ∧ t.ms.power = s.ms.power ∧
      t.reg .msWakes 0 0 = min (s.reg .msWakes 0 0 + 1) 0xFFFFFFFF ∧ t.fld .msPwrReq 0 0 1 0 = 0 ∧ Frame [.regs, .ms] s t)) ∧
  (∀ s : State, s.ms.moving = true →
    (s.ms.power = 1 ∨ s.ms.power = 2 → exec .exitLatencyEnd s =
      .next { s with ms := { s.ms with power := 0, moving := false, since := s.ms.time } }) ∧
    (s.ms.power = 3 → s.ms.wakeBuf = [] → ∃ t, exec .a3ExitComplete s = .next t ∧ t.ms.power = 0 ∧ t.ms.moving = false ∧
      t.ms.since = s.ms.time ∧ t.sm.engines = [] ∧ t.vc.slots = [] ∧ t.pe.streams = s.pe.streams ∧ t.qe = s.qe ∧
      t.ce.slots = s.ce.slots ∧ t.ce.seeds = s.ce.seeds + 1 ∧ State.regsBut [.rcChAfe, .rcChLoops, .rcTap] s t)) ∧
  (∀ (s : State) (p st rt w : Nat) (fl ck : Bool), s.ms.phase = 2 → p < s.parts → s.hi.perst.contains p = false →
    (s.ms.loops.any fun x => decide (x.aux < 16) && x.handle == p) = false →
    ∃ t, exec (.linkStateChange p st rt w fl ck) s = .next t ∧ Tab.find t.hi.links p = some ⟨st % 8, rt % 8, w % 32, fl, ck⟩ ∧
      (∀ q, q ≠ p → Tab.find t.hi.links q = Tab.find s.hi.links q) ∧
      (∀ f, s.hasFn f = true → partOf f = p → (t.fctx f).d3cold = decide (st % 8 = 4)) ∧
      (∀ f, partOf f ≠ p → t.fctx f = s.fctx f) ∧ Frame [.hi] s t) ∧
  (∀ (s : State) (id d : Nat) (c : Cmd), s.cmd? id = some c → c.phase ≠ .staged → s.hi.ownerNext = none → 1 ≤ d → d ≤ 4 →
    ∃ t, exec (.dmaCompletionError id d) s = .next t ∧ t.cmd? id = none ∧
      (isWriteClass (entOpcode c.entry) = false → State.told s t c stDmaError d 0) ∧ t.ct = s.ct ∧ t.ce = s.ce)

/-- A tag that an uncompleted command of the ring holds is refused; RESET_DONE frees every tag. (R95) -/
def Obligations.TagsAreUniquePerRing : Prop :=
  (∀ (s u : State) (f r : Nat) (e : Entry), s.pickFn = (u, some f) → u.pickRing f = some r → r < windowRing →
    u.fetchLen f r 1 = 1 → s.qe.leaving = false → (s.sq f r).echo = false → entTag e < 65536 ∧
    let held := (∃ c ∈ s.qe.cmds, c.fn = f ∧ c.ring = r ∧ entTag c.entry = entTag e) ∨
      ∃ q ∈ s.qe.ready, q.fn = f ∧ q.ring = r ∧ q.kind = 0 ∧ q.tag = entTag e
    (held → ∃ t, exec (.entryFetch [e]) s = .next t ∧ t.qe.cmds = s.qe.cmds ∧
      t.qe.ready = s.qe.ready ++ [⟨f, s.boundCq f r, r, 0, 0, stTagInUse, 0, entTag e, false⟩]) ∧
    (¬ held → ∃ t, exec (.entryFetch [e]) s = .next t ∧ ∀ q ∈ t.qe.ready, q ∈ s.qe.ready ∨ q.status ≠ stTagInUse)) ∧
  (∀ (s : State) (f r : Nat), (s.sq f r).resetting = true → s.resetQuiet f r = true → s.cqRoom f (s.boundCq f r) = true →
    (s.qe.ready.all fun x => x.fn != f || x.cq != s.boundCq f r) = true → ∃ t, exec (.resetDone f r) s = .next t ∧
      (t.sq f r).resetting = false ∧ ∀ e, fetchCheck t f r e ≠ some (stTagInUse, 0))

/-- A trip that meets a trip in progress is logged, and nothing else changes. (R407) -/
def Obligations.LaterTripsAreOnlyLogged : Prop :=
  (∀ (s : State) (c : Instr) (cause eng : Nat), s.sm.state = 3 →
    ((∃ e, c = .overrunTrip e ∧ e < 6 ∧ 3 ≤ (s.engine e).overruns ∧ cause = 1 ∧ eng = e) ∨
     (c = .missingSampleTrip ∧ 64 ≤ s.sm.missing ∧ 500 < s.sm.speed ∧ cause = 2 ∧ eng = 0) ∨
     (∃ l : List Nat, c = .vmotUndervoltage l ∧ l.length = 3 ∧ (∀ v ∈ l, v < 10 * s.fld .smLimits 0 0 15 0) ∧ cause = 5 ∧ eng = 7) ∨
     (∃ (e : Nat) (l : List Nat), c = .hallCodeFault e l ∧ (e = 3 ∨ e = 4) ∧ l.length = 3 ∧ (∀ v ∈ l, v = 0 ∨ v = 7) ∧
       cause = 6 ∧ eng = e) ∨
     (∃ (e : Nat) (l : List Nat), c = .overcurrent e l ∧ (e = 3 ∨ e = 4) ∧ l.length = 3 ∧
       (∀ v ∈ l, 10 * s.fld .smLimits 0 0 31 16 < v) ∧ cause = 7 ∧ eng = e) ∨
     (∃ (o : Nat) (v : Word), c = .smTransportSafeReq (.fn o) v ∧ s.serves (.fn o) ∧ s.isOwner o = true ∧
       bitOf v.toNat 3 = true ∧ cause = 8 ∧ eng = 7)) →
    ∃ t, exec c s = .next t ∧ t.sm = s.sm ∧ t.reg .smTrip 0 0 = s.reg .smTrip 0 0 ∧ t.ms.seq = s.ms.seq + 1 ∧
      (s.fld .msLogCfg 0 0 1 0 ≤ 2 → ∃ e ∈ t.ms.log, e.seq = s.ms.seq ∧ e.code = 0xD04 ∧ e.unit = eng ∧ e.value = cause) ∧
      State.regsBut [.msLogLost] s t ∧ Frame [.regs, .ms] s t) ∧
  (∀ s : State, s.sm.state = 3 → s.wc.triggers.contains 3 = true → s.wc.wfault = false →
    ∃ t, exec .wfaultPersist s = .next t ∧ t.sm = s.sm ∧ t.reg .smTrip 0 0 = s.reg .smTrip 0 0 ∧ s.ms.seq + 2 ≤ t.ms.seq) ∧
  (∀ (s : State) (cause eng : Nat), s.sm.state = 3 → (s.trip cause eng).sm = s.sm ∧
    (s.trip cause eng).reg .smTrip 0 0 = s.reg .smTrip 0 0 ∧ (s.trip cause eng).ms.seq = s.ms.seq + 1)

/-- An RC field clears only on a read that covers all of its bytes. (R47) -/
def Obligations.PartialReadsClearNothing : Prop :=
  ∀ (s : State) (o inst off w : Nat) (r : RegName) (p : Nat × Nat), s.portOpen (.fn o) = true →
    s.sees (.fn o) r.info.blk = true → s.instOk r.info.blk inst = true → r.info.blk ∉ [.klt, .msix] →
    regAt r.info.blk r.info.off = some (r, 0) → s.regPlace (.fn o) r inst 0 = some p → r ≠ .blockId →
    highWord r = none → lowWord r = none → r.info.rc ≠ 0 →
    r.info.off % 4 = 0 → r.info.off ≤ off → off + w ≤ r.info.off + 4 → 0 < w →
    let lo := off - r.info.off
    let v := s.peek r p.1 p.2 / 2 ^ (8 * lo) % 2 ^ (8 * w)
    (Nat.land r.info.rc (0xFFFFFFFF - byteMask lo (lo + w)) ≠ 0 →
      exec (.readClear (.fn o) r.info.blk inst off w) s = .next (s.emit (.value (.fn o) v))) ∧
    (Nat.land r.info.rc (0xFFFFFFFF - byteMask lo (lo + w)) = 0 →
      ∃ t, exec (.readClear (.fn o) r.info.blk inst off w) s = .next t ∧ t.out = s.out ++ [.value (.fn o) v] ∧
        (r ∉ [.bmPoolLow, .dfRwlMax, .msTempMax] → Nat.land (t.reg r p.1 p.2) r.info.rc = 0 ∧ Frame [.regs, .out] s t) ∧
        (r = .bmPoolLow → t.bm.poolLow.get (s.poolTotal p.2) p.2 = s.poolFree p.2) ∧
        (r = .dfRwlMax → t.df.rwlMax = s.df.rewrites.length) ∧
        State.regsBut [r] s t)
end

