-- ==== Sys2Proof/Laws/Frame.lean ====
section
/-! SUPPORT. Frames compose: the rules by which the frame of an operation follows from the frames of what it calls. -/

namespace Sys2Proof.Machine

/-- A pair of a state and a result whose state keeps a frame. -/
abbrev FrameP {α : Type} (l : List Part) (s : State) (p : State × α) : Prop := Frame l s p.1

theorem Part.sub_trans {a b c : List Part} (h1 : a.all (b.contains ·) = true) (h2 : b.all (c.contains ·) = true) :
    a.all (c.contains ·) = true := by
  rw [List.all_eq_true] at *
  intro p hp
  exact h2 p (by simpa using h1 p hp)

theorem Part.mem_trans {p : Part} {a b : List Part} (h1 : a.contains p = true) (h2 : a.all (b.contains ·) = true) :
    b.contains p = true := List.all_eq_true.mp h2 p (by simpa using h1)

theorem Frame.refl {l : List Part} {s : State} : Frame l s s := by
  intro p _; cases p <;> rfl

/-- A frame that names more says less. -/
theorem Frame.mono {l l' : List Part} {s t : State} (h : Frame l' s t) (hl : l'.all (l.contains ·) = true) :
    Frame l s t := by
  intro p hp
  refine h p (Bool.eq_false_iff.mpr fun hc => ?_)
  have hm := List.all_eq_true.mp hl p (by simpa using hc)
  simp_all

theorem Frame.trans {l : List Part} {s t u : State} (h1 : Frame l s t) (h2 : Frame l t u) : Frame l s u := by
  intro p hp
  have a := h1 p hp
  have b := h2 p hp
  cases p <;> exact Eq.trans b a

theorem Frame.step {l l' : List Part} {s t u : State} (h1 : Frame l s t) (h2 : Frame l' t u)
    (hl : l'.all (l.contains ·) = true) : Frame l s u := h1.trans (h2.mono hl)

theorem Frame.fold {α : Type} {l : List Part} {s t : State} {f : State → α → State} (h1 : Frame l s t)
    (h2 : ∀ u a, Frame l u (f u a)) (xs : List α) : Frame l s (xs.foldl f t) := by
  induction xs generalizing t with
  | nil => exact h1
  | cons a xs ih => exact ih (h1.trans (h2 t a))

theorem Frame.ite {c : Prop} [Decidable c] {l : List Part} {s t u : State} (h1 : Frame l s t) (h2 : Frame l s u) :
    Frame l s (if c then t else u) := by split <;> assumption

theorem FrameP.ite {α : Type} {c : Prop} [Decidable c] {l : List Part} {s : State} {t u : State × α}
    (h1 : FrameP l s t) (h2 : FrameP l s u) : FrameP l s (if c then t else u) := by split <;> assumption

theorem FrameP.step {α : Type} {l l' : List Part} {s t : State} {u : State × α} (h1 : Frame l s t) (h2 : FrameP l' t u)
    (hl : l'.all (l.contains ·) = true) : FrameP l s u := Frame.step h1 h2 hl

theorem FrameP.mk {α : Type} {l : List Part} {s t : State} {a : α} (h : Frame l s t) : FrameP l s (t, a) := h

theorem FrameP.out {α : Type} {l : List Part} {s : State} {p : State × α} (h : FrameP l s p) : Frame l s p.1 := h

/-- The state of a pair that an operation answered. -/
theorem Frame.ofPair {α : Type} {l l' : List Part} {s t : State} {a : α} {p : State × α} (he : p = (t, a))
    (h : FrameP l' s p) (hl : l'.all (l.contains ·) = true) : Frame l s t := by
  subst he; exact Frame.mono h hl

/-- The state that an operation answered, if any. -/
theorem Frame.ofSome {l l' : List Part} {s t : State} {o : Option State} (he : o = some t)
    (h : ∀ u, o = some u → Frame l' s u) (hl : l'.all (l.contains ·) = true) : Frame l s t := (h t he).mono hl

theorem FrameP.fold {α β : Type} {l : List Part} {s : State} {p : State × β} {f : State × β → α → State × β}
    (h1 : FrameP l s p) (h2 : ∀ u a, FrameP l u.1 (f u a)) (xs : List α) : FrameP l s (xs.foldl f p) := by
  induction xs generalizing p with
  | nil => exact h1
  | cons a xs ih => exact ih (Frame.trans h1 (h2 p a))

/-- A record update of several fields, by way of the state whose board it keeps. -/
theorem Frame.anchor {l : List Part} {s t : State} {x1 : Tab Word} {x2 : Tab Word} {x3 : Tab Word} {x4 : HiState} {x5
    : KltState} {x6 : QeState} {x7 : PeState} {x8 : BmState} {x9 : McState} {x10 : CxState} {x11 : CeState} {x12 :
    DfState} {x13 : WcState} {x14 : RcState} {x15 : EdState} {x16 : VcState} {x17 : SmState} {x18 : CtState} {x19 :
    MsState} {x20 : List Out} {x21 : Nat} {x22 : List Instr}
    (h : Frame l s t) (hu : Frame l t (State.mk t.board x1 x2 x3 x4 x5 x6 x7 x8 x9 x10 x11 x12 x13 x14 x15 x16 x17 x18
    x19 x20 x21 x22)) :
    Frame l s (State.mk t.board x1 x2 x3 x4 x5 x6 x7 x8 x9 x10 x11 x12 x13 x14 x15 x16 x17 x18 x19 x20 x21 x22) :=
    h.trans hu

/-- The same, by way of the state whose registers it keeps. -/
theorem Frame.anchorRegs {l : List Part} {s t : State} {x0 : Board} {x2 : Tab Word} {x3 : Tab Word} {x4 : HiState} {x5 :
    KltState} {x6 : QeState} {x7 : PeState} {x8 : BmState} {x9 : McState} {x10 : CxState} {x11 : CeState} {x12 :
    DfState} {x13 : WcState} {x14 : RcState} {x15 : EdState} {x16 : VcState} {x17 : SmState} {x18 : CtState} {x19 :
    MsState} {x20 : List Out} {x21 : Nat} {x22 : List Instr}
    (h : Frame l s t) (hu : Frame l t (State.mk x0 t.regs x2 x3 x4 x5 x6 x7 x8 x9 x10 x11 x12 x13 x14 x15 x16 x17 x18
    x19 x20 x21 x22)) :
    Frame l s (State.mk x0 t.regs x2 x3 x4 x5 x6 x7 x8 x9 x10 x11 x12 x13 x14 x15 x16 x17 x18 x19 x20 x21 x22) :=
    h.trans hu

theorem Frame.board {l : List Part} {s t : State} {x : Board} (h : Frame l s t) (hl : l.contains .board = true) :
    Frame l s { t with board := x } := by
  refine h.trans fun p hp => ?_
  cases p <;> first | rfl | exact absurd hp (by rw [hl]; decide)

theorem Frame.regs {l : List Part} {s t : State} {x : Tab Word} (h : Frame l s t) (hl : l.contains .regs = true) :
    Frame l s { t with regs := x } := by
  refine h.trans fun p hp => ?_
  cases p <;> first | rfl | exact absurd hp (by rw [hl]; decide)

theorem Frame.latch {l : List Part} {s t : State} {x : Tab Word} (h : Frame l s t) (hl : l.contains .latch = true) :
    Frame l s { t with latch := x } := by
  refine h.trans fun p hp => ?_
  cases p <;> first | rfl | exact absurd hp (by rw [hl]; decide)

theorem Frame.pendWord {l : List Part} {s t : State} {x : Tab Word} (h : Frame l s t) (hl : l.contains .pendWord = true) :
    Frame l s { t with pendWord := x } := by
  refine h.trans fun p hp => ?_
  cases p <;> first | rfl | exact absurd hp (by rw [hl]; decide)

theorem Frame.hi {l : List Part} {s t : State} {x : HiState} (h : Frame l s t) (hl : l.contains .hi = true) :
    Frame l s { t with hi := x } := by
  refine h.trans fun p hp => ?_
  cases p <;> first | rfl | exact absurd hp (by rw [hl]; decide)

theorem Frame.klt {l : List Part} {s t : State} {x : KltState} (h : Frame l s t) (hl : l.contains .klt = true) :
    Frame l s { t with klt := x } := by
  refine h.trans fun p hp => ?_
  cases p <;> first | rfl | exact absurd hp (by rw [hl]; decide)

theorem Frame.qe {l : List Part} {s t : State} {x : QeState} (h : Frame l s t) (hl : l.contains .qe = true) :
    Frame l s { t with qe := x } := by
  refine h.trans fun p hp => ?_
  cases p <;> first | rfl | exact absurd hp (by rw [hl]; decide)

theorem Frame.pe {l : List Part} {s t : State} {x : PeState} (h : Frame l s t) (hl : l.contains .pe = true) :
    Frame l s { t with pe := x } := by
  refine h.trans fun p hp => ?_
  cases p <;> first | rfl | exact absurd hp (by rw [hl]; decide)

theorem Frame.bm {l : List Part} {s t : State} {x : BmState} (h : Frame l s t) (hl : l.contains .bm = true) :
    Frame l s { t with bm := x } := by
  refine h.trans fun p hp => ?_
  cases p <;> first | rfl | exact absurd hp (by rw [hl]; decide)

theorem Frame.mc {l : List Part} {s t : State} {x : McState} (h : Frame l s t) (hl : l.contains .mc = true) :
    Frame l s { t with mc := x } := by
  refine h.trans fun p hp => ?_
  cases p <;> first | rfl | exact absurd hp (by rw [hl]; decide)

theorem Frame.cx {l : List Part} {s t : State} {x : CxState} (h : Frame l s t) (hl : l.contains .cx = true) :
    Frame l s { t with cx := x } := by
  refine h.trans fun p hp => ?_
  cases p <;> first | rfl | exact absurd hp (by rw [hl]; decide)

theorem Frame.ce {l : List Part} {s t : State} {x : CeState} (h : Frame l s t) (hl : l.contains .ce = true) :
    Frame l s { t with ce := x } := by
  refine h.trans fun p hp => ?_
  cases p <;> first | rfl | exact absurd hp (by rw [hl]; decide)

theorem Frame.df {l : List Part} {s t : State} {x : DfState} (h : Frame l s t) (hl : l.contains .df = true) :
    Frame l s { t with df := x } := by
  refine h.trans fun p hp => ?_
  cases p <;> first | rfl | exact absurd hp (by rw [hl]; decide)

theorem Frame.wc {l : List Part} {s t : State} {x : WcState} (h : Frame l s t) (hl : l.contains .wc = true) :
    Frame l s { t with wc := x } := by
  refine h.trans fun p hp => ?_
  cases p <;> first | rfl | exact absurd hp (by rw [hl]; decide)

theorem Frame.rc {l : List Part} {s t : State} {x : RcState} (h : Frame l s t) (hl : l.contains .rc = true) :
    Frame l s { t with rc := x } := by
  refine h.trans fun p hp => ?_
  cases p <;> first | rfl | exact absurd hp (by rw [hl]; decide)

theorem Frame.ed {l : List Part} {s t : State} {x : EdState} (h : Frame l s t) (hl : l.contains .ed = true) :
    Frame l s { t with ed := x } := by
  refine h.trans fun p hp => ?_
  cases p <;> first | rfl | exact absurd hp (by rw [hl]; decide)

theorem Frame.vc {l : List Part} {s t : State} {x : VcState} (h : Frame l s t) (hl : l.contains .vc = true) :
    Frame l s { t with vc := x } := by
  refine h.trans fun p hp => ?_
  cases p <;> first | rfl | exact absurd hp (by rw [hl]; decide)

theorem Frame.sm {l : List Part} {s t : State} {x : SmState} (h : Frame l s t) (hl : l.contains .sm = true) :
    Frame l s { t with sm := x } := by
  refine h.trans fun p hp => ?_
  cases p <;> first | rfl | exact absurd hp (by rw [hl]; decide)

theorem Frame.ct {l : List Part} {s t : State} {x : CtState} (h : Frame l s t) (hl : l.contains .ct = true) :
    Frame l s { t with ct := x } := by
  refine h.trans fun p hp => ?_
  cases p <;> first | rfl | exact absurd hp (by rw [hl]; decide)

theorem Frame.ms {l : List Part} {s t : State} {x : MsState} (h : Frame l s t) (hl : l.contains .ms = true) :
    Frame l s { t with ms := x } := by
  refine h.trans fun p hp => ?_
  cases p <;> first | rfl | exact absurd hp (by rw [hl]; decide)

theorem Frame.out {l : List Part} {s t : State} {x : List Out} (h : Frame l s t) (hl : l.contains .out = true) :
    Frame l s { t with out := x } := by
  refine h.trans fun p hp => ?_
  cases p <;> first | rfl | exact absurd hp (by rw [hl]; decide)

theorem Frame.fresh {l : List Part} {s t : State} {x : Nat} (h : Frame l s t) (hl : l.contains .fresh = true) :
    Frame l s { t with fresh := x } := by
  refine h.trans fun p hp => ?_
  cases p <;> first | rfl | exact absurd hp (by rw [hl]; decide)

theorem Frame.pending {l : List Part} {s t : State} {x : List Instr} (h : Frame l s t) (hl : l.contains .pending = true) :
    Frame l s { t with pending := x } := by
  refine h.trans fun p hp => ?_
  cases p <;> first | rfl | exact absurd hp (by rw [hl]; decide)

end Sys2Proof.Machine
end

