-- ==== Sys2Proof/Laws/FramesHost.lean ====
section
/-! SUPPORT. Which parts of the state each operation of the shared operations, waking, functions, streams and rings can change: one lemma for each. -/

namespace Sys2Proof.Machine

theorem State.modFctx_frame {s : State} {f} {g} :
    Frame [.hi] s (State.modFctx s f g) := by
  unfold State.modFctx
  extract_lets -merge -lift +onlyGivenNames x0
  refine Frame.hi ?_ rfl
  exact Frame.refl

theorem State.setReg_frame {s : State} {r} {inst} {sel} {v} :
    Frame [.regs] s (State.setReg s r inst sel v) := by
  unfold State.setReg
  refine Frame.regs ?_ rfl
  exact Frame.refl

theorem State.setFld_frame {s : State} {r} {inst} {sel} {hi} {lo} {v} :
    Frame [.regs] s (State.setFld s r inst sel hi lo v) := by
  unfold State.setFld
  extract_lets -merge -lift +onlyGivenNames x0 x1
  refine Frame.step ?_ (State.setReg_frame) rfl
  exact Frame.refl

theorem State.bumpBy_frame {s : State} {r} {inst} {sel} {n} :
    Frame [.regs] s (State.bumpBy s r inst sel n) := by
  unfold State.bumpBy
  refine Frame.step ?_ (State.setReg_frame) rfl
  exact Frame.refl

theorem State.bump_frame {s : State} {r} {inst} {sel} :
    Frame [.regs] s (State.bump s r inst sel) := by
  unfold State.bump
  refine Frame.step ?_ (State.bumpBy_frame) rfl
  exact Frame.refl

theorem State.clearRegs_frame {s : State} {f} :
    Frame [.regs, .latch, .pendWord] s (State.clearRegs s f) := by
  unfold State.clearRegs
  refine Frame.anchor ?_ ?_
  next =>
    exact Frame.refl
  next =>
    intro p hp; cases p <;> first | exact absurd hp (by decide) | rfl

theorem State.adapt_frame {s : State} {n} :
    Frame [.rc] s (State.adapt s n) := by
  unfold State.adapt
  extract_lets -merge -lift +onlyGivenNames x0
  refine Frame.ite ?_ ?_
  next =>
    exact Frame.refl
  next =>
    refine Frame.rc ?_ rfl
    exact Frame.refl

theorem State.keepLoops_frame {s : State} {r} {inst} {sel} :
    Frame [.rc] s (State.keepLoops s r inst sel) := by
  unfold State.keepLoops
  refine Frame.rc ?_ rfl
  exact Frame.refl

theorem State.restartKernels_frame {s : State} :
    Frame [.regs, .rc] s (State.restartKernels s) := by
  unfold State.restartKernels
  refine Frame.anchor ?_ ?_
  next =>
    exact Frame.refl
  next =>
    intro p hp; cases p <;> first | exact absurd hp (by decide) | rfl

theorem State.draw_frame {s : State} :
    Frame [.fresh] s (State.draw s) := by
  unfold State.draw
  refine Frame.fresh ?_ rfl
  exact Frame.refl

theorem State.emit_frame {s : State} {o} :
    Frame [.out] s (State.emit s o) := by
  unfold State.emit
  refine Frame.out ?_ rfl
  exact Frame.refl

theorem State.saveSummary_frame {s : State} :
    Frame [.ms] s (State.saveSummary s) := by
  unfold State.saveSummary
  extract_lets -merge -lift +onlyGivenNames x0
  refine Frame.ms ?_ rfl
  exact Frame.refl

theorem State.reserveLog_frame {s : State} :
    Frame [.ms] s (State.reserveLog s) := by
  unfold State.reserveLog
  extract_lets -merge -lift +onlyGivenNames x0 x1
  refine Frame.ite ?_ ?_
  next =>
    exact Frame.refl
  next =>
    refine Frame.step ?_ (State.saveSummary_frame) rfl
    unfold x1
    refine Frame.ms ?_ rfl
    exact Frame.refl

theorem State.storeLog_frame {s : State} {e} :
    Frame [.regs, .ms] s (State.storeLog s e) := by
  unfold State.storeLog
  extract_lets -merge -lift +onlyGivenNames x0 x1 x2
  refine Frame.ite ?_ ?_
  next =>
    refine Frame.step ?_ (State.bump_frame) rfl
    unfold x2
    refine Frame.ms ?_ rfl
    exact Frame.refl
  next =>
    unfold x2
    refine Frame.ms ?_ rfl
    exact Frame.refl

theorem State.logEv_frame {s : State} {ev} {tenant} {unit} {value} :
    Frame [.regs, .ms] s (State.logEv s ev tenant unit value) := by
  unfold State.logEv
  extract_lets -merge -lift +onlyGivenNames x0 x1 x2 x3
  refine Frame.ite ?_ ?_
  next =>
    unfold x3
    refine Frame.ms ?_ rfl
    unfold x0
    refine Frame.step ?_ (State.reserveLog_frame) rfl
    exact Frame.refl
  next =>
    refine Frame.step ?_ (State.storeLog_frame) rfl
    unfold x3
    refine Frame.ms ?_ rfl
    unfold x0
    refine Frame.step ?_ (State.reserveLog_frame) rfl
    exact Frame.refl

theorem State.writeN_frame {s : State} {r} {inst} {sel} {v} :
    Frame [.regs, .ms] s (State.writeN s r inst sel v) := by
  unfold State.writeN
  extract_lets -merge -lift +onlyGivenNames x0 x1 x2 x3 x4
  refine Frame.ms ?_ rfl
  unfold x3
  refine Frame.step ?_ (State.setReg_frame) rfl
  exact Frame.refl

theorem State.setSq_frame {s : State} {f} {ring} {c} :
    Frame [.qe] s (State.setSq s f ring c) := by
  unfold State.setSq
  extract_lets -merge -lift +onlyGivenNames x0
  refine Frame.qe ?_ rfl
  exact Frame.refl

theorem State.setCq_frame {s : State} {f} {ring} {c} :
    Frame [.qe] s (State.setCq s f ring c) := by
  unfold State.setCq
  extract_lets -merge -lift +onlyGivenNames x0
  refine Frame.qe ?_ rfl
  exact Frame.refl

theorem State.signal_frame {s : State} {f} {c} :
    Frame [.hi, .qe, .out] s (State.signal s f c) := by
  unfold State.signal
  extract_lets -merge -lift +onlyGivenNames x0 x1 x2
  refine Frame.ite ?_ ?_
  next =>
    refine Frame.ite ?_ ?_
    next =>
      refine Frame.step ?_ (State.modFctx_frame) rfl
      unfold x2
      refine Frame.step ?_ (State.setCq_frame) rfl
      exact Frame.refl
    next =>
      refine Frame.step ?_ (State.emit_frame) rfl
      unfold x2
      refine Frame.step ?_ (State.setCq_frame) rfl
      exact Frame.refl
  next =>
    exact Frame.refl

theorem State.moderate_frame {s : State} {f} {c} :
    Frame [.hi, .qe, .out] s (State.moderate s f c) := by
  unfold State.moderate
  extract_lets -merge -lift +onlyGivenNames x0 x1 x2 x3
  refine Frame.ite ?_ ?_
  next =>
    exact Frame.refl
  next =>
    refine Frame.step ?_ (State.signal_frame) rfl
    unfold x3
    refine Frame.step ?_ (State.setCq_frame) rfl
    exact Frame.refl

theorem State.postEntry_frame {s : State} {f} {c} {w0} {w1} {w2} {w3} :
    Frame [.hi, .qe, .out] s (State.postEntry s f c w0 w1 w2 w3) := by
  unfold State.postEntry
  extract_lets -merge -lift +onlyGivenNames x0 x1 x2 x3 x4
  refine Frame.step ?_ (State.moderate_frame) rfl
  unfold x4
  refine Frame.step ?_ (State.setCq_frame) rfl
  unfold x2
  refine Frame.step ?_ (State.emit_frame) rfl
  exact Frame.refl

theorem State.postChime_frame {s : State} {f} {c} {m} :
    Frame [.hi, .qe, .out] s (State.postChime s f c m) := by
  unfold State.postChime
  refine Frame.step ?_ (State.postEntry_frame) rfl
  exact Frame.refl

theorem State.loseChime_frame {s : State} {f} :
    Frame [.regs, .hi] s (State.loseChime s f) := by
  unfold State.loseChime
  refine Frame.step ?_ (State.bump_frame) rfl
  refine Frame.step ?_ (State.modFctx_frame) rfl
  exact Frame.refl

theorem State.chime_frame {s : State} {f} {code} {arg} {arg2} {seq} :
    Frame [.regs, .hi, .qe, .out] s (State.chime s f code arg arg2 seq) := by
  unfold State.chime
  extract_lets -merge -lift +onlyGivenNames x0 x1
  refine Frame.ite ?_ ?_
  next =>
    exact Frame.refl
  next =>
    refine Frame.ite ?_ ?_
    next =>
      exact Frame.refl
    next =>
      refine Frame.ite ?_ ?_
      next =>
        refine Frame.step ?_ (State.loseChime_frame) rfl
        exact Frame.refl
      next =>
        split
        next =>
          refine Frame.ite ?_ ?_
          next =>
            refine Frame.step ?_ (State.postChime_frame) rfl
            exact Frame.refl
          next =>
            refine Frame.step ?_ (State.modFctx_frame) rfl
            unfold x1
            refine Frame.ite ?_ ?_
            next =>
              refine Frame.step ?_ (State.loseChime_frame) rfl
              exact Frame.refl
            next =>
              exact Frame.refl
        next =>
          refine Frame.step ?_ (State.modFctx_frame) rfl
          unfold x1
          refine Frame.ite ?_ ?_
          next =>
            refine Frame.step ?_ (State.loseChime_frame) rfl
            exact Frame.refl
          next =>
            exact Frame.refl

theorem State.chimeOwner_frame {s : State} {code} {arg} {arg2} {seq} :
    Frame [.regs, .hi, .qe, .out] s (State.chimeOwner s code arg arg2 seq) := by
  unfold State.chimeOwner
  split
  next =>
    refine Frame.step ?_ (State.chime_frame) rfl
    exact Frame.refl
  next =>
    exact Frame.refl

theorem State.chimeAll_frame {s : State} {code} {arg} {arg2} :
    Frame [.regs, .hi, .qe, .out] s (State.chimeAll s code arg arg2) := by
  unfold State.chimeAll
  refine Frame.fold ?_ (fun u a => ?_) _
  next =>
    exact Frame.refl
  next =>
    refine Frame.step ?_ (State.chime_frame) rfl
    exact Frame.refl

theorem State.kltTrigger_frame {s : State} {scope} {reset} :
    Frame [.klt] s (State.kltTrigger s scope reset) := by
  unfold State.kltTrigger
  extract_lets -merge -lift +onlyGivenNames x0
  refine Frame.ite ?_ ?_
  next =>
    refine Frame.klt ?_ rfl
    exact Frame.refl
  next =>
    refine Frame.klt ?_ rfl
    exact Frame.refl

theorem State.windowDone_frame {s : State} {f} {status} {detail} {result} :
    Frame [.regs, .hi, .qe, .out] s (State.windowDone s f status detail result) := by
  unfold State.windowDone
  extract_lets -merge -lift +onlyGivenNames x0 x1 x2
  refine Frame.step ?_ (State.chime_frame) rfl
  unfold x2
  refine Frame.step ?_ (State.setReg_frame) rfl
  unfold x1
  refine Frame.step ?_ (State.setReg_frame) rfl
  unfold x0
  refine Frame.step ?_ (State.setReg_frame) rfl
  exact Frame.refl

theorem State.makeReady_frame {s : State} {f} {ring} {tag} {status} {detail} {result} {devrst} :
    Frame [.regs, .hi, .qe, .out] s (State.makeReady s f ring tag status detail result devrst) := by
  unfold State.makeReady
  extract_lets -merge -lift +onlyGivenNames x0 x1 x2 x3
  refine Frame.ite ?_ ?_
  next =>
    refine Frame.ite ?_ ?_
    next =>
      refine Frame.qe ?_ rfl
      exact Frame.refl
    next =>
      exact Frame.refl
  next =>
    refine Frame.ite ?_ ?_
    next =>
      refine Frame.step ?_ (State.setSq_frame) rfl
      unfold x1
      refine Frame.step ?_ (State.windowDone_frame) rfl
      exact Frame.refl
    next =>
      refine Frame.qe ?_ rfl
      exact Frame.refl

theorem State.countResidency_frame {s : State} :
    Frame [.regs] s (State.countResidency s) := by
  unfold State.countResidency
  extract_lets -merge -lift +onlyGivenNames x0
  split
  next =>
    refine Frame.step ?_ (State.bumpBy_frame) rfl
    exact Frame.refl
  next =>
    refine Frame.step ?_ (State.bumpBy_frame) rfl
    exact Frame.refl
  next =>
    refine Frame.step ?_ (State.bumpBy_frame) rfl
    exact Frame.refl
  next =>
    exact Frame.refl

theorem State.wake_frame {s : State} {cause} :
    Frame [.regs, .ms] s (State.wake s cause) := by
  unfold State.wake
  extract_lets -merge -lift +onlyGivenNames x0 x1
  refine Frame.ite ?_ ?_
  next =>
    exact Frame.refl
  next =>
    refine Frame.ms ?_ rfl
    unfold x0
    refine Frame.step ?_ (State.setFld_frame) rfl
    refine Frame.step ?_ (State.bump_frame) rfl
    refine Frame.step ?_ (State.countResidency_frame) rfl
    exact Frame.refl

theorem State.hostWrite_frame {s : State} {w} {run : State → State} {L : List Part} (hL : [.regs, .ms].all (L.contains
    ·) = true) (hr : ∀ u, Frame L u (run u)) :
    Frame L s (State.hostWrite s w run) := by
  unfold State.hostWrite
  extract_lets -merge -lift +onlyGivenNames x0 x1
  refine Frame.ite ?_ ?_
  next =>
    exact Frame.refl
  next =>
    refine Frame.ite ?_ ?_
    next =>
      refine Frame.trans ?_ (hr _)
      exact Frame.refl
    next =>
      refine Frame.ite ?_ ?_
      next =>
        refine Frame.ms ?_ (Part.mem_trans rfl hL)
        unfold x0
        refine Frame.step ?_ (State.wake_frame) (Part.sub_trans rfl hL)
        exact Frame.refl
      next =>
        refine Frame.trans ?_ (hr _)
        refine Frame.step ?_ (State.wake_frame) (Part.sub_trans rfl hL)
        exact Frame.refl

theorem State.regWrite_frame {s : State} {src} {r} {inst} {v} {run : State → Nat → State} {L : List Part} (hL : [.regs,
    .ms].all (L.contains ·) = true) (hr : ∀ u v, Frame L u (run u v)) :
    Frame L s (State.regWrite s src r inst v run) := by
  unfold State.regWrite
  refine Frame.trans ?_ (State.hostWrite_frame (hL := Part.sub_trans rfl hL) (hr := ?hr))
  case hr =>
    intros
    try beta_reduce
    refine Frame.trans ?_ (hr _ _)
    exact Frame.refl
  exact Frame.refl

theorem State.setSlot_frame {s : State} {g} {k} :
    Frame [.ce] s (State.setSlot s g k) := by
  unfold State.setSlot
  extract_lets -merge -lift +onlyGivenNames x0
  refine Frame.ce ?_ rfl
  exact Frame.refl

theorem State.rwlReject_frame {s : State} {r} {inst} :
    Frame [.regs, .ms] s (State.rwlReject s r inst) := by
  unfold State.rwlReject
  refine Frame.step ?_ (State.logEv_frame) rfl
  exact Frame.refl

theorem State.allocReject_frame {s : State} {r} {part} :
    Frame [.regs, .ms] s (State.allocReject s r part) := by
  unfold State.allocReject
  refine Frame.step ?_ (State.logEv_frame) rfl
  refine Frame.step ?_ (State.setFld_frame) rfl
  exact Frame.refl

theorem State.signalAll_frame {s : State} {f} :
    Frame [.hi, .qe, .out] s (State.signalAll s f) := by
  unfold State.signalAll
  refine Frame.fold ?_ (fun u a => ?_) _
  next =>
    exact Frame.refl
  next =>
    refine Frame.step ?_ (State.signal_frame) rfl
    exact Frame.refl

theorem State.writeTenant_frame {s : State} {src} {part} {value} :
    Frame [.regs, .ms] s (State.writeTenant s src part value) := by
  unfold State.writeTenant
  refine Frame.ite ?_ ?_
  next =>
    exact Frame.refl
  next =>
    split
    next =>
      exact Frame.refl
    next =>
      extract_lets -merge -lift +onlyGivenNames x0
      refine Frame.ite ?_ ?_
      next =>
        exact Frame.refl
      next =>
        refine Frame.ite ?_ ?_
        next =>
          refine Frame.step ?_ (State.rwlReject_frame) rfl
          exact Frame.refl
        next =>
          refine Frame.ite ?_ ?_
          next =>
            refine Frame.step ?_ (State.allocReject_frame) rfl
            exact Frame.refl
          next =>
            refine Frame.step ?_ (State.writeN_frame) rfl
            exact Frame.refl

theorem State.numberVf_frame {s : State} {f} :
    Frame [.regs, .ms] s (State.numberVf s f) := by
  unfold State.numberVf
  refine Frame.ite ?_ ?_
  next =>
    refine Frame.step ?_ (State.writeN_frame) rfl
    exact Frame.refl
  next =>
    exact Frame.refl

theorem State.writeQuota_frame {s : State} {src} {part} {value} :
    Frame [.regs, .ms] s (State.writeQuota s src part value) := by
  unfold State.writeQuota
  extract_lets -merge -lift +onlyGivenNames x0 x1 x2 x3
  refine Frame.ite ?_ ?_
  next =>
    exact Frame.refl
  next =>
    refine Frame.ite ?_ ?_
    next =>
      exact Frame.refl
    next =>
      refine Frame.ite ?_ ?_
      next =>
        refine Frame.step ?_ (State.rwlReject_frame) rfl
        exact Frame.refl
      next =>
        refine Frame.ite ?_ ?_
        next =>
          refine Frame.step ?_ (State.allocReject_frame) rfl
          exact Frame.refl
        next =>
          refine Frame.ite ?_ ?_
          next =>
            refine Frame.fold ?_ (fun u a => ?_) _
            next =>
              unfold x3
              refine Frame.step ?_ (State.setReg_frame) rfl
              exact Frame.refl
            next =>
              refine Frame.step ?_ (State.numberVf_frame) rfl
              exact Frame.refl
          next =>
            refine Frame.fold ?_ (fun u a => ?_) _
            next =>
              unfold x3
              refine Frame.step ?_ (State.setReg_frame) rfl
              exact Frame.refl
            next =>
              refine Frame.step ?_ (State.writeN_frame) rfl
              exact Frame.refl

theorem State.setStream_frame {s : State} {k} {x} :
    Frame [.pe] s (State.setStream s k x) := by
  unfold State.setStream
  extract_lets -merge -lift +onlyGivenNames x0
  refine Frame.pe ?_ rfl
  exact Frame.refl

theorem State.modStream_frame {s : State} {k} {g} :
    Frame [.pe] s (State.modStream s k g) := by
  unfold State.modStream
  split
  next =>
    refine Frame.step ?_ (State.setStream_frame) rfl
    exact Frame.refl
  next =>
    exact Frame.refl

theorem State.creditChime_frame {s : State} {k} :
    Frame [.regs, .hi, .qe, .pe, .out] s (State.creditChime s k) := by
  unfold State.creditChime
  split
  next =>
    extract_lets -merge -lift +onlyGivenNames x0
    refine Frame.ite ?_ ?_
    next =>
      split
      next =>
        refine Frame.step ?_ (State.chime_frame) rfl
        unfold x0
        refine Frame.step ?_ (State.setStream_frame) rfl
        exact Frame.refl
      next =>
        unfold x0
        refine Frame.step ?_ (State.setStream_frame) rfl
        exact Frame.refl
    next =>
      exact Frame.refl
  next =>
    exact Frame.refl

theorem State.recredit_frame {s : State} :
    Frame [.regs, .hi, .qe, .pe, .out] s (State.recredit s) := by
  unfold State.recredit
  refine Frame.fold ?_ (fun u a => ?_) _
  next =>
    exact Frame.refl
  next =>
    refine Frame.step ?_ (State.creditChime_frame) rfl
    exact Frame.refl

theorem State.allocApplied_frame {s : State} {f} {k} :
    Frame [.regs, .hi, .klt, .qe, .pe, .out] s (State.allocApplied s f k) := by
  unfold State.allocApplied
  split
  next =>
    exact Frame.refl
  next =>
    exact Frame.step Frame.refl State.recredit_frame rfl
  next =>
    exact Frame.step Frame.refl State.recredit_frame rfl
  next =>
    refine Frame.step ?_ (State.signalAll_frame) rfl
    refine Frame.step ?_ (State.kltTrigger_frame) rfl
    exact Frame.refl
  next =>
    refine Frame.step ?_ (State.signalAll_frame) rfl
    refine Frame.step ?_ (State.kltTrigger_frame) rfl
    exact Frame.refl
  next =>
    refine Frame.step ?_ (State.kltTrigger_frame) rfl
    exact Frame.refl

theorem State.writeAlloc_frame {s : State} {src} {part} {k} {value} :
    Frame [.regs, .hi, .klt, .qe, .pe, .ms, .out] s (State.writeAlloc s src part k value) := by
  unfold State.writeAlloc
  refine Frame.ite ?_ ?_
  next =>
    exact Frame.refl
  next =>
    split
    next =>
      exact Frame.refl
    next =>
      extract_lets -merge -lift +onlyGivenNames x0 x1
      refine Frame.ite ?_ ?_
      next =>
        exact Frame.refl
      next =>
        refine Frame.ite ?_ ?_
        next =>
          refine Frame.step ?_ (State.rwlReject_frame) rfl
          exact Frame.refl
        next =>
          refine Frame.ite ?_ ?_
          next =>
            refine Frame.step ?_ (State.allocReject_frame) rfl
            exact Frame.refl
          next =>
            refine Frame.step ?_ (State.allocApplied_frame) rfl
            refine Frame.step ?_ (State.setReg_frame) rfl
            exact Frame.refl

theorem State.tellCredit_frame {s : State} {k} :
    Frame [.pe] s (State.tellCredit s k) := by
  unfold State.tellCredit
  refine Frame.ite ?_ ?_
  next =>
    refine Frame.step ?_ (State.modStream_frame) rfl
    exact Frame.refl
  next =>
    exact Frame.refl

theorem State.giveBack_frame {s : State} {k} {n} :
    Frame [.pe, .bm] s (State.giveBack s k n) := by
  unfold State.giveBack
  split
  next =>
    extract_lets -merge -lift +onlyGivenNames x0 x1 x2 x3
    refine Frame.bm ?_ rfl
    unfold x2
    refine Frame.step ?_ (State.setStream_frame) rfl
    exact Frame.refl
  next =>
    exact Frame.refl

theorem State.truncate_frame {s : State} {k} {r} :
    Frame [.pe, .bm, .cx] s (State.truncate s k r) := by
  unfold State.truncate
  split
  next =>
    exact Frame.refl
  next =>
    extract_lets -merge -lift +onlyGivenNames x0 x1 x2 x3 x4 x5 x6 x7 x8 x9 x10
    refine Frame.step ?_ (State.giveBack_frame) rfl
    unfold x10
    refine Frame.step ?_ (State.setStream_frame) rfl
    unfold x9
    refine Frame.pe ?_ rfl
    unfold x7
    refine Frame.cx ?_ rfl
    exact Frame.refl

theorem State.abandonUpdate_frame {s : State} {reason} :
    Frame [.regs, .hi, .qe, .ms, .out] s (State.abandonUpdate s reason) := by
  unfold State.abandonUpdate
  extract_lets -merge -lift +onlyGivenNames x0 x1
  refine Frame.ite ?_ ?_
  next =>
    exact Frame.refl
  next =>
    refine Frame.step ?_ (State.chimeOwner_frame) rfl
    unfold x1
    refine Frame.ms ?_ rfl
    exact Frame.refl

theorem State.changeOwner_frame {s : State} {next} :
    Frame [.regs, .hi, .klt, .qe, .ms, .out] s (State.changeOwner s next) := by
  unfold State.changeOwner
  extract_lets -merge -lift +onlyGivenNames x0 x1 x2 x3 x4 x5 x6 x7 x8 x9 x10
  refine Frame.ite ?_ ?_
  next =>
    refine Frame.hi ?_ rfl
    exact Frame.refl
  next =>
    refine Frame.ms ?_ rfl
    unfold x9
    split
    next =>
      refine Frame.step ?_ (State.chimeOwner_frame) rfl
      refine Frame.ms ?_ rfl
      unfold x7
      refine Frame.fold ?_ (fun u a => ?_) _
      next =>
        unfold x6
        refine Frame.step ?_ (State.kltTrigger_frame) rfl
        unfold x4
        refine Frame.step ?_ (State.abandonUpdate_frame) rfl
        unfold x3
        refine Frame.hi ?_ rfl
        exact Frame.refl
      next =>
        refine Frame.step ?_ (State.chime_frame) rfl
        exact Frame.refl
    next =>
      unfold x7
      refine Frame.fold ?_ (fun u a => ?_) _
      next =>
        unfold x6
        refine Frame.step ?_ (State.kltTrigger_frame) rfl
        unfold x4
        refine Frame.step ?_ (State.abandonUpdate_frame) rfl
        unfold x3
        refine Frame.hi ?_ rfl
        exact Frame.refl
      next =>
        refine Frame.step ?_ (State.chime_frame) rfl
        exact Frame.refl

theorem State.settleOwner_frame {s : State} :
    Frame [.regs, .hi, .klt, .qe, .ms, .out] s (State.settleOwner s) := by
  unfold State.settleOwner
  split
  next =>
    exact Frame.refl
  next =>
    refine Frame.ite ?_ ?_
    next =>
      exact Frame.refl
    next =>
      refine Frame.step ?_ (State.changeOwner_frame) rfl
      exact Frame.refl

theorem State.dropCmd_frame {s : State} {id} :
    Frame [.qe, .pe] s (State.dropCmd s id) := by
  unfold State.dropCmd
  extract_lets -merge -lift +onlyGivenNames x0 x1
  refine Frame.anchor ?_ ?_
  next =>
    exact Frame.refl
  next =>
    intro p hp; cases p <;> first | exact absurd hp (by decide) | rfl

theorem State.setCmd_frame {s : State} {c} :
    Frame [.qe] s (State.setCmd s c) := by
  unfold State.setCmd
  extract_lets -merge -lift +onlyGivenNames x0
  refine Frame.qe ?_ rfl
  exact Frame.refl

theorem State.countReset_frame {s : State} {f} {ring} {tag} :
    Frame [.qe] s (State.countReset s f ring tag) := by
  unfold State.countReset
  extract_lets -merge -lift +onlyGivenNames x0
  refine Frame.ite ?_ ?_
  next =>
    refine Frame.step ?_ (State.setSq_frame) rfl
    exact Frame.refl
  next =>
    exact Frame.refl

theorem State.finishCmd_frame {s : State} {c} {status} {detail} {result} :
    Frame [.regs, .hi, .klt, .qe, .pe, .bm, .ms, .out] s (State.finishCmd s c status detail result) := by
  unfold State.finishCmd
  extract_lets -merge -lift +onlyGivenNames x0 x1 x2 x3 x4 x5
  refine Frame.step ?_ (State.settleOwner_frame) rfl
  refine Frame.step ?_ (State.makeReady_frame) rfl
  unfold x5
  refine Frame.step ?_ (State.countReset_frame) rfl
  unfold x4
  refine Frame.step ?_ (State.dropCmd_frame) rfl
  unfold x3
  split
  next =>
    refine Frame.ite ?_ ?_
    next =>
      refine Frame.step ?_ (State.tellCredit_frame) rfl
      unfold x1
      split
      next =>
        refine Frame.ite ?_ ?_
        next =>
          exact Frame.refl
        next =>
          refine Frame.step ?_ (State.giveBack_frame) rfl
          exact Frame.refl
      next =>
        exact Frame.refl
    next =>
      unfold x1
      split
      next =>
        refine Frame.ite ?_ ?_
        next =>
          exact Frame.refl
        next =>
          refine Frame.step ?_ (State.giveBack_frame) rfl
          exact Frame.refl
      next =>
        exact Frame.refl
  next =>
    unfold x1
    split
    next =>
      refine Frame.ite ?_ ?_
      next =>
        exact Frame.refl
      next =>
        refine Frame.step ?_ (State.giveBack_frame) rfl
        exact Frame.refl
    next =>
      exact Frame.refl

theorem State.renumber_frame {s : State} {k} {first} {order} :
    Frame [.regs, .hi, .klt, .qe, .pe, .bm, .ms, .out] s (State.renumber s k first order) := by
  unfold State.renumber
  extract_lets -merge -lift +onlyGivenNames x0 x1
  refine Frame.fold ?_ (fun u a => ?_) _
  next =>
    unfold x1
    refine Frame.step ?_ (State.modStream_frame) rfl
    exact Frame.refl
  next =>
    split
    next =>
      refine Frame.ite ?_ ?_
      next =>
        refine Frame.step ?_ (State.setStream_frame) rfl
        exact Frame.refl
      next =>
        refine Frame.step ?_ (State.finishCmd_frame) rfl
        exact Frame.refl
    next =>
      exact Frame.refl

theorem State.endCmd_frame {s : State} {c} {status} {detail} {result} :
    Frame [.regs, .hi, .klt, .qe, .pe, .bm, .ms, .out] s (State.endCmd s c status detail result) := by
  unfold State.endCmd
  extract_lets -merge -lift +onlyGivenNames x0
  refine Frame.ite ?_ ?_
  next =>
    split
    next =>
      refine Frame.step ?_ (State.recredit_frame) rfl
      refine Frame.step ?_ (State.renumber_frame) rfl
      unfold x0
      refine Frame.step ?_ (State.finishCmd_frame) rfl
      exact Frame.refl
    next =>
      unfold x0
      refine Frame.step ?_ (State.finishCmd_frame) rfl
      exact Frame.refl
  next =>
    unfold x0
    refine Frame.step ?_ (State.finishCmd_frame) rfl
    exact Frame.refl

theorem State.abandonCmd_frame {s : State} {c} :
    Frame [.regs, .hi, .klt, .qe, .pe, .bm, .ms, .out] s (State.abandonCmd s c) := by
  unfold State.abandonCmd
  extract_lets -merge -lift +onlyGivenNames x0 x1
  refine Frame.ite ?_ ?_
  next =>
    split
    next =>
      refine Frame.step ?_ (State.settleOwner_frame) rfl
      refine Frame.step ?_ (State.recredit_frame) rfl
      refine Frame.step ?_ (State.renumber_frame) rfl
      unfold x1
      refine Frame.step ?_ (State.dropCmd_frame) rfl
      unfold x0
      split
      next =>
        refine Frame.step ?_ (State.giveBack_frame) rfl
        exact Frame.refl
      next =>
        exact Frame.refl
    next =>
      unfold x1
      refine Frame.step ?_ (State.dropCmd_frame) rfl
      unfold x0
      split
      next =>
        refine Frame.step ?_ (State.giveBack_frame) rfl
        exact Frame.refl
      next =>
        exact Frame.refl
  next =>
    refine Frame.step ?_ (State.settleOwner_frame) rfl
    unfold x1
    refine Frame.step ?_ (State.dropCmd_frame) rfl
    unfold x0
    split
    next =>
      refine Frame.step ?_ (State.giveBack_frame) rfl
      exact Frame.refl
    next =>
      exact Frame.refl

theorem State.logDeferred_frame {s : State} {k} :
    Frame [.regs, .pe, .ms] s (State.logDeferred s k) := by
  unfold State.logDeferred
  split
  next =>
    split
    next =>
      extract_lets -merge -lift +onlyGivenNames x0
      refine Frame.ite ?_ ?_
      next =>
        refine Frame.step ?_ (State.logEv_frame) rfl
        unfold x0
        refine Frame.step ?_ (State.setStream_frame) rfl
        exact Frame.refl
      next =>
        exact Frame.refl
    next =>
      exact Frame.refl
  next =>
    exact Frame.refl

theorem State.deferError_frame {s : State} {k} {l} {detail} :
    Frame [.regs, .hi, .klt, .qe, .pe, .bm, .cx, .ms, .out] s (State.deferError s k l detail) := by
  unfold State.deferError
  split
  next =>
    exact Frame.refl
  next =>
    extract_lets -merge -lift +onlyGivenNames x0 x1 x2 x3 x4 x5 x6 x7
    refine Frame.step ?_ (State.recredit_frame) rfl
    unfold x7
    refine Frame.ite ?_ ?_
    next =>
      refine Frame.step ?_ (State.logDeferred_frame) rfl
      unfold x6
      refine Frame.ite ?_ ?_
      next =>
        unfold x5
        refine Frame.fold ?_ (fun u a => ?_) _
        next =>
          unfold x4
          refine Frame.step ?_ (State.modStream_frame) rfl
          unfold x3
          refine Frame.step ?_ (State.truncate_frame) rfl
          unfold x1
          refine Frame.step ?_ (State.setStream_frame) rfl
          exact Frame.refl
        next =>
          refine Frame.step ?_ (State.finishCmd_frame) rfl
          exact Frame.refl
      next =>
        refine Frame.step ?_ (State.modStream_frame) rfl
        unfold x5
        refine Frame.fold ?_ (fun u a => ?_) _
        next =>
          unfold x4
          refine Frame.step ?_ (State.modStream_frame) rfl
          unfold x3
          refine Frame.step ?_ (State.truncate_frame) rfl
          unfold x1
          refine Frame.step ?_ (State.setStream_frame) rfl
          exact Frame.refl
        next =>
          refine Frame.step ?_ (State.finishCmd_frame) rfl
          exact Frame.refl
    next =>
      unfold x6
      refine Frame.ite ?_ ?_
      next =>
        unfold x5
        refine Frame.fold ?_ (fun u a => ?_) _
        next =>
          unfold x4
          refine Frame.step ?_ (State.modStream_frame) rfl
          unfold x3
          refine Frame.step ?_ (State.truncate_frame) rfl
          unfold x1
          refine Frame.step ?_ (State.setStream_frame) rfl
          exact Frame.refl
        next =>
          refine Frame.step ?_ (State.finishCmd_frame) rfl
          exact Frame.refl
      next =>
        refine Frame.step ?_ (State.modStream_frame) rfl
        unfold x5
        refine Frame.fold ?_ (fun u a => ?_) _
        next =>
          unfold x4
          refine Frame.step ?_ (State.modStream_frame) rfl
          unfold x3
          refine Frame.step ?_ (State.truncate_frame) rfl
          unfold x1
          refine Frame.step ?_ (State.setStream_frame) rfl
          exact Frame.refl
        next =>
          refine Frame.step ?_ (State.finishCmd_frame) rfl
          exact Frame.refl

theorem State.dropDoorbell_frame {s : State} {f} {bit} :
    Frame [.regs] s (State.dropDoorbell s f bit) := by
  unfold State.dropDoorbell
  refine Frame.step ?_ (State.setFld_frame) rfl
  refine Frame.step ?_ (State.bump_frame) rfl
  exact Frame.refl

theorem State.publish_frame {s : State} {f} {ring} {v} :
    Frame [.qe] s (State.publish s f ring v) := by
  unfold State.publish
  extract_lets -merge -lift +onlyGivenNames x0 x1 x2
  refine Frame.ite ?_ ?_
  next =>
    exact Frame.refl
  next =>
    refine Frame.qe ?_ rfl
    unfold x1
    refine Frame.step ?_ (State.setSq_frame) rfl
    exact Frame.refl

theorem State.release_frame {s : State} {f} {c} {v} :
    Frame [.qe] s (State.release s f c v) := by
  unfold State.release
  extract_lets -merge -lift +onlyGivenNames x0
  refine Frame.step ?_ (State.setCq_frame) rfl
  exact Frame.refl

theorem State.bell_frame {s : State} {f} {cq} {ring} {v} {bit} :
    Frame [.regs, .qe] s (State.bell s f cq ring v bit) := by
  unfold State.bell
  refine Frame.ite ?_ ?_
  next =>
    refine Frame.ite ?_ ?_
    next =>
      refine Frame.step ?_ (State.release_frame) rfl
      exact Frame.refl
    next =>
      refine Frame.step ?_ (State.dropDoorbell_frame) rfl
      exact Frame.refl
  next =>
    refine Frame.ite ?_ ?_
    next =>
      refine Frame.step ?_ (State.publish_frame) rfl
      exact Frame.refl
    next =>
      refine Frame.step ?_ (State.dropDoorbell_frame) rfl
      exact Frame.refl

theorem State.bellWord_frame {s : State} {f} {off} {v} :
    Frame [.regs, .qe] s (State.bellWord s f off v) := by
  unfold State.bellWord
  refine Frame.ite ?_ ?_
  next =>
    refine Frame.step ?_ (State.bell_frame) rfl
    exact Frame.refl
  next =>
    refine Frame.ite ?_ ?_
    next =>
      refine Frame.step ?_ (State.bell_frame) rfl
      exact Frame.refl
    next =>
      exact Frame.refl

theorem State.bellWords_frame {s : State} {f off value n : Nat} :
    Frame [.regs, .qe] s (State.bellWords s f off value n) := by
  induction n generalizing s off value with
  | zero => exact Frame.refl
  | succ n ih => exact (Frame.step Frame.refl State.bellWord_frame rfl).trans ih

theorem State.bellWrite_frame {s : State} {f} {off} {width} {value} :
    Frame [.regs, .qe] s (State.bellWrite s f off width value) := by
  unfold State.bellWrite
  refine Frame.ite ?_ ?_
  next =>
    exact Frame.refl
  next =>
    refine Frame.ite ?_ ?_
    next =>
      refine Frame.step ?_ (State.dropDoorbell_frame) rfl
      exact Frame.refl
    next =>
      refine Frame.step ?_ (State.bellWords_frame) rfl
      exact Frame.refl

theorem State.applyPair_frame {s : State} {f} {page} {k} {rejected} :
    FrameP [.regs, .qe] s (State.applyPair s f page k rejected) := by
  unfold State.applyPair
  extract_lets -merge -lift +onlyGivenNames x0 x1
  refine FrameP.mk ?_
  refine Frame.step ?_ (State.bell_frame) rfl
  exact Frame.refl

theorem State.applyPairs_frame {s : State} {f} {page} {ks} :
    FrameP [.regs, .qe] s (State.applyPairs s f page ks) := by
  unfold State.applyPairs
  refine FrameP.fold ?_ (fun u a => ?_) _
  next =>
    refine FrameP.mk ?_
    exact Frame.refl
  next =>
    refine FrameP.step ?_ (State.applyPair_frame) rfl
    refine FrameP.out ?_
    exact Frame.refl

theorem State.pealCommit_frame {s : State} {f} {page} {seq} :
    Frame [.regs, .qe] s (State.pealCommit s f page seq) := by
  unfold State.pealCommit
  extract_lets -merge -lift +onlyGivenNames x0 x1
  refine Frame.ite ?_ ?_
  next =>
    exact Frame.refl
  next =>
    refine Frame.ite ?_ ?_
    next =>
      refine Frame.step ?_ (State.setReg_frame) rfl
      refine Frame.step ?_ (State.setFld_frame) rfl
      exact Frame.refl
    next =>
      refine Frame.step ?_ (State.setReg_frame) rfl
      refine FrameP.out ?_
      unfold x1
      refine FrameP.step ?_ (State.applyPairs_frame) rfl
      exact Frame.refl

theorem State.refuseEnable_frame {s : State} {f} :
    Frame [.regs] s (State.refuseEnable s f) := by
  unfold State.refuseEnable
  refine Frame.step ?_ (State.setFld_frame) rfl
  exact Frame.refl

theorem State.freeParty_frame {s : State} {who} :
    Frame [.bm] s (State.freeParty s who) := by
  unfold State.freeParty
  extract_lets -merge -lift +onlyGivenNames x0
  refine Frame.bm ?_ rfl
  exact Frame.refl

theorem State.resetRing_frame {s : State} {f} {ring} {disable} :
    Frame [.regs, .hi, .klt, .qe, .pe, .bm, .ms, .out] s (State.resetRing s f ring disable) := by
  unfold State.resetRing
  extract_lets -merge -lift +onlyGivenNames x0 x1 x2 x3
  refine Frame.ite ?_ ?_
  next =>
    exact Frame.refl
  next =>
    refine Frame.step ?_ (State.freeParty_frame) rfl
    refine Frame.fold ?_ (fun u a => ?_) _
    next =>
      unfold x3
      refine Frame.step ?_ (State.setSq_frame) rfl
      exact Frame.refl
    next =>
      refine Frame.step ?_ (State.abandonCmd_frame) rfl
      exact Frame.refl

theorem State.resetDone_frame {s : State} {f} {ring} :
    Frame [.hi, .qe, .out] s (State.resetDone s f ring) := by
  unfold State.resetDone
  extract_lets -merge -lift +onlyGivenNames x0 x1 x2 x3 x4
  refine Frame.ite ?_ ?_
  next =>
    exact Frame.refl
  next =>
    refine Frame.ite ?_ ?_
    next =>
      exact Frame.refl
    next =>
      refine Frame.ite ?_ ?_
      next =>
        unfold x4
        refine Frame.step ?_ (State.setSq_frame) rfl
        exact Frame.refl
      next =>
        refine Frame.step ?_ (State.postEntry_frame) rfl
        unfold x4
        refine Frame.step ?_ (State.setSq_frame) rfl
        exact Frame.refl

theorem State.writeSqCtrl_frame {s : State} {f} {v} :
    Frame [.regs, .hi, .klt, .qe, .pe, .bm, .ms, .out] s (State.writeSqCtrl s f v) := by
  unfold State.writeSqCtrl
  extract_lets -merge -lift +onlyGivenNames x0 x1 x2 x3
  refine Frame.ite ?_ ?_
  next =>
    exact Frame.refl
  next =>
    refine Frame.ite ?_ ?_
    next =>
      refine Frame.ite ?_ ?_
      next =>
        unfold x1
        refine Frame.step ?_ (State.setFld_frame) rfl
        exact Frame.refl
      next =>
        refine Frame.ite ?_ ?_
        next =>
          refine Frame.step ?_ (State.setSq_frame) rfl
          refine Frame.step ?_ (State.setFld_frame) rfl
          unfold x1
          refine Frame.step ?_ (State.setFld_frame) rfl
          exact Frame.refl
        next =>
          refine Frame.step ?_ (State.refuseEnable_frame) rfl
          unfold x1
          refine Frame.step ?_ (State.setFld_frame) rfl
          exact Frame.refl
    next =>
      refine Frame.ite ?_ ?_
      next =>
        refine Frame.step ?_ (State.resetRing_frame) rfl
        refine Frame.step ?_ (State.setFld_frame) rfl
        unfold x1
        refine Frame.step ?_ (State.setFld_frame) rfl
        exact Frame.refl
      next =>
        unfold x1
        refine Frame.step ?_ (State.setFld_frame) rfl
        exact Frame.refl

theorem State.writeCqCtrl_frame {s : State} {f} {v} :
    Frame [.regs, .qe] s (State.writeCqCtrl s f v) := by
  unfold State.writeCqCtrl
  extract_lets -merge -lift +onlyGivenNames x0 x1 x2 x3
  refine Frame.ite ?_ ?_
  next =>
    exact Frame.refl
  next =>
    refine Frame.ite ?_ ?_
    next =>
      refine Frame.ite ?_ ?_
      next =>
        exact Frame.refl
      next =>
        refine Frame.ite ?_ ?_
        next =>
          refine Frame.step ?_ (State.setCq_frame) rfl
          refine Frame.step ?_ (State.setFld_frame) rfl
          exact Frame.refl
        next =>
          refine Frame.step ?_ (State.refuseEnable_frame) rfl
          exact Frame.refl
    next =>
      refine Frame.ite ?_ ?_
      next =>
        refine Frame.ite ?_ ?_
        next =>
          refine Frame.step ?_ (State.refuseEnable_frame) rfl
          exact Frame.refl
        next =>
          refine Frame.step ?_ (State.setCq_frame) rfl
          refine Frame.step ?_ (State.setFld_frame) rfl
          exact Frame.refl
      next =>
        exact Frame.refl

theorem State.writeSqReset_frame {s : State} {f} {v} :
    Frame [.regs, .hi, .klt, .qe, .pe, .bm, .ms, .out] s (State.writeSqReset s f v) := by
  unfold State.writeSqReset
  extract_lets -merge -lift +onlyGivenNames x0
  refine Frame.ite ?_ ?_
  next =>
    refine Frame.step ?_ (State.resetRing_frame) rfl
    exact Frame.refl
  next =>
    exact Frame.refl

theorem State.postReady_frame {s : State} {r} :
    Frame [.hi, .qe, .out] s (State.postReady s r) := by
  unfold State.postReady
  extract_lets -merge -lift +onlyGivenNames x0 x1 x2 x3 x4
  refine Frame.ite ?_ ?_
  next =>
    unfold x2
    refine Frame.ite ?_ ?_
    next =>
      refine Frame.qe ?_ rfl
      exact Frame.refl
    next =>
      exact Frame.refl
  next =>
    refine Frame.step ?_ (State.setSq_frame) rfl
    unfold x4
    refine Frame.step ?_ (State.postEntry_frame) rfl
    unfold x2
    refine Frame.ite ?_ ?_
    next =>
      refine Frame.qe ?_ rfl
      exact Frame.refl
    next =>
      exact Frame.refl

theorem State.postOne_frame {s : State} :
    Frame [.hi, .qe, .out] s (State.postOne s) := by
  unfold State.postOne
  split
  next =>
    extract_lets -merge -lift +onlyGivenNames x0
    refine Frame.step ?_ (State.postReady_frame) rfl
    refine Frame.qe ?_ rfl
    exact Frame.refl
  next =>
    exact Frame.refl

theorem State.postRing_frame {s : State} {f c n : Nat} :
    Frame [.hi, .qe, .out] s (State.postRing s f c n) := by
  induction n generalizing s with
  | zero => exact Frame.refl
  | succ n ih =>
    unfold State.postRing
    split
    next =>
      refine Frame.trans ?_ ih
      refine Frame.step ?_ State.postReady_frame rfl
      exact Frame.qe Frame.refl rfl
    next => exact Frame.refl

theorem State.postChimes_frame {s : State} {f c : Nat} {l : List Chime} :
    Frame [.hi, .qe, .out] s (State.postChimes s f c l) := by
  induction l generalizing s with
  | nil => exact Frame.step Frame.refl State.modFctx_frame rfl
  | cons m t ih =>
    unfold State.postChimes
    refine Frame.ite ?_ ?_
    · exact (Frame.step Frame.refl State.postChime_frame rfl).trans ih
    · exact Frame.step Frame.refl State.modFctx_frame rfl

theorem State.chimePost_frame {s : State} {f} :
    Frame [.hi, .qe, .out] s (State.chimePost s f) := by
  unfold State.chimePost
  refine Frame.ite ?_ ?_
  next =>
    exact Frame.refl
  next =>
    split
    next =>
      exact Frame.refl
    next =>
      extract_lets -merge -lift +onlyGivenNames x0 x1 x2
      refine Frame.ite ?_ ?_
      next =>
        unfold x0
        refine Frame.step ?_ (State.postRing_frame) rfl
        exact Frame.refl
      next =>
        refine Frame.ite ?_ ?_
        next =>
          unfold x0
          refine Frame.step ?_ (State.postRing_frame) rfl
          exact Frame.refl
        next =>
          refine Frame.step ?_ (State.postChimes_frame) rfl
          unfold x2
          refine Frame.ite ?_ ?_
          next =>
            refine Frame.step ?_ (State.postChime_frame) rfl
            refine Frame.step ?_ (State.modFctx_frame) rfl
            unfold x0
            refine Frame.step ?_ (State.postRing_frame) rfl
            exact Frame.refl
          next =>
            unfold x0
            refine Frame.step ?_ (State.postRing_frame) rfl
            exact Frame.refl

theorem State.failRing_frame {s : State} {cq} {f} {ring} :
    Frame [.regs, .hi, .qe, .ms, .out] s (State.failRing s cq f ring) := by
  unfold State.failRing
  extract_lets -merge -lift +onlyGivenNames x0 x1 x2 x3 x4 x5 x6 x7 x8 x9
  refine Frame.ite ?_ ?_
  next =>
    refine Frame.ite ?_ ?_
    next =>
      exact Frame.refl
    next =>
      refine Frame.step ?_ (State.chime_frame) rfl
      refine Frame.step ?_ (State.logEv_frame) rfl
      unfold x4
      refine Frame.step ?_ (State.setFld_frame) rfl
      unfold x3
      refine Frame.qe ?_ rfl
      unfold x1
      refine Frame.step ?_ (State.setCq_frame) rfl
      exact Frame.refl
  next =>
    refine Frame.ite ?_ ?_
    next =>
      exact Frame.refl
    next =>
      refine Frame.step ?_ (State.chime_frame) rfl
      refine Frame.step ?_ (State.logEv_frame) rfl
      unfold x8
      refine Frame.step ?_ (State.setFld_frame) rfl
      unfold x7
      refine Frame.step ?_ (State.setSq_frame) rfl
      exact Frame.refl

theorem State.taskGo_frame {s : State} {f} {v} :
    Frame [.regs, .hi, .klt, .qe, .pe, .bm, .ms, .out] s (State.taskGo s f v) := by
  unfold State.taskGo
  extract_lets -merge -lift +onlyGivenNames x0 x1 x2 x3 x4 x5
  refine Frame.ite ?_ ?_
  next =>
    exact Frame.refl
  next =>
    refine Frame.ite ?_ ?_
    next =>
      refine Frame.ite ?_ ?_
      next =>
        refine Frame.step ?_ (State.bump_frame) rfl
        exact Frame.refl
      next =>
        refine Frame.step ?_ (State.publish_frame) rfl
        refine Frame.step ?_ (State.setSq_frame) rfl
        unfold x0
        refine Frame.step ?_ (State.setReg_frame) rfl
        exact Frame.refl
    next =>
      refine Frame.ite ?_ ?_
      next =>
        refine Frame.ite ?_ ?_
        next =>
          exact Frame.refl
        next =>
          refine Frame.ite ?_ ?_
          next =>
            exact Frame.refl
          next =>
            refine Frame.step ?_ (State.chime_frame) rfl
            refine Frame.step ?_ (State.setReg_frame) rfl
            unfold x4
            refine Frame.step ?_ (State.setSq_frame) rfl
            unfold x2
            refine Frame.step ?_ (State.freeParty_frame) rfl
            refine Frame.fold ?_ (fun u a => ?_) _
            next =>
              exact Frame.refl
            next =>
              refine Frame.step ?_ (State.abandonCmd_frame) rfl
              exact Frame.refl
      next =>
        exact Frame.refl

end Sys2Proof.Machine
end

