-- ==== Sys2Proof/Laws/FramesQueue.lean ====
section
/-! SUPPORT. Which parts of the state each operation of fetch, resolution, reads and buffers can change: one lemma for each. -/

namespace Sys2Proof.Machine

theorem State.tellRetired_frame {s : State} {t} {n} :
    Frame [.regs, .hi, .klt, .qe, .ms, .out] s (State.tellRetired s t n) := by
  unfold State.tellRetired
  refine Frame.step ?_ (State.kltTrigger_frame) rfl
  refine Frame.step ?_ (State.chimeOwner_frame) rfl
  refine Frame.step ?_ (State.logEv_frame) rfl
  exact Frame.refl

theorem State.yieldUnit_frame {s : State} {t} {n} :
    Frame [.regs, .ms] s (State.yieldUnit s t n) := by
  unfold State.yieldUnit
  extract_lets -merge -lift +onlyGivenNames x0
  refine Frame.ite ?_ ?_
  next =>
    refine Frame.step ?_ (State.bump_frame) rfl
    refine Frame.ms ?_ rfl
    exact Frame.refl
  next =>
    exact Frame.refl

theorem State.drr_frame {s : State} {n : Nat} : FrameP [.hi, .qe] s (s.drr n) := by
  induction n generalizing s with
  | zero => exact Frame.refl
  | succ n ih =>
    unfold State.drr
    split
    next =>
      extract_lets x0
      refine FrameP.ite ?_ ?_
      next =>
        extract_lets x1 x2
        refine FrameP.ite ?_ ?_
        next => exact Frame.qe (Frame.step (Frame.qe Frame.refl rfl) State.modFctx_frame rfl) rfl
        next => exact (Frame.step (Frame.qe Frame.refl rfl) State.modFctx_frame rfl).trans ih
      next => exact (Frame.step (Frame.qe Frame.refl rfl) State.modFctx_frame rfl).trans ih
    next =>
      extract_lets x0
      clear_value x0
      split
      next => exact Frame.refl
      next => exact (Frame.qe Frame.refl rfl).trans ih

theorem State.pickFn_frame {s : State} :
    FrameP [.hi, .qe] s (State.pickFn s) := by
  unfold State.pickFn
  refine FrameP.ite ?_ ?_
  next =>
    refine FrameP.mk ?_
    exact Frame.refl
  next =>
    split
    next =>
      extract_lets -merge -lift +onlyGivenNames x0 x1
      refine FrameP.ite ?_ ?_
      next =>
        refine FrameP.mk ?_
        exact Frame.refl
      next =>
        refine FrameP.step ?_ (State.drr_frame) rfl
        refine Frame.qe ?_ rfl
        unfold x0
        refine Frame.ite ?_ ?_
        next =>
          exact Frame.refl
        next =>
          refine Frame.step ?_ (State.modFctx_frame) rfl
          exact Frame.refl
    next =>
      refine FrameP.step ?_ (State.drr_frame) rfl
      exact Frame.refl

theorem State.advance_frame {s : State} {f} {ring} :
    Frame [.qe] s (State.advance s f ring) := by
  unfold State.advance
  extract_lets -merge -lift +onlyGivenNames x0 x1
  refine Frame.step ?_ (State.setSq_frame) rfl
  exact Frame.refl

theorem State.takeEntry_frame {s : State} {f} {ring} {e} :
    Frame [.regs, .hi, .qe, .out] s (State.takeEntry s f ring e) := by
  unfold State.takeEntry
  extract_lets -merge -lift +onlyGivenNames x0 x1 x2 x3
  refine Frame.ite ?_ ?_
  next =>
    refine Frame.step ?_ (State.makeReady_frame) rfl
    refine Frame.step ?_ (State.setSq_frame) rfl
    unfold x1
    refine Frame.step ?_ (State.advance_frame) rfl
    exact Frame.refl
  next =>
    split
    next =>
      refine Frame.step ?_ (State.makeReady_frame) rfl
      unfold x1
      refine Frame.step ?_ (State.advance_frame) rfl
      exact Frame.refl
    next =>
      refine Frame.qe ?_ rfl
      unfold x1
      refine Frame.step ?_ (State.advance_frame) rfl
      exact Frame.refl

theorem State.takeEntries_frame {s : State} {f} {ring} {es} :
    Frame [.regs, .hi, .qe, .out] s (State.takeEntries s f ring es) := by
  unfold State.takeEntries
  refine Frame.fold ?_ (fun u a => ?_) _
  next =>
    exact Frame.refl
  next =>
    refine Frame.step ?_ (State.takeEntry_frame) rfl
    exact Frame.refl

theorem State.fetch_frame {s : State} {entries} :
    Frame [.regs, .hi, .qe, .out] s (State.fetch s entries) := by
  unfold State.fetch
  split
  next =>
    first | exact Frame.refl | exact Frame.ofPair (by assumption) State.pickFn_frame rfl
  next =>
    split
    next =>
      first | exact Frame.refl | exact Frame.ofPair (by assumption) State.pickFn_frame rfl
    next =>
      extract_lets -merge -lift +onlyGivenNames x0 x1 x2
      refine Frame.step ?_ (State.takeEntries_frame) rfl
      unfold x2
      refine Frame.step ?_ (State.modFctx_frame) rfl
      first | exact Frame.refl | exact Frame.ofPair (by assumption) State.pickFn_frame rfl

theorem State.dmaFor_frame {s : State} {c} {addr} {data} :
    Frame [.out] s (State.dmaFor s c addr data) := by
  unfold State.dmaFor
  refine Frame.ite ?_ ?_
  next =>
    exact Frame.refl
  next =>
    refine Frame.step ?_ (State.emit_frame) rfl
    exact Frame.refl

theorem State.scatter_frame {s : State} {c : Cmd} {data : Bytes} {l : List BufPiece} :
    Frame [.out] s (s.scatter c data l) := by
  induction l generalizing s data with
  | nil => exact Frame.refl
  | cons p t ih =>
    unfold State.scatter
    exact Frame.ite Frame.refl ((Frame.step Frame.refl State.dmaFor_frame rfl).trans ih)

theorem State.placeResolved_frame {s : State} {c} {k} {lock} {first} {count} {truncates} :
    Frame [.qe] s (State.placeResolved s c k lock first count truncates) := by
  unfold State.placeResolved
  extract_lets -merge -lift +onlyGivenNames x0 x1
  refine Frame.qe ?_ rfl
  unfold x0
  refine Frame.step ?_ (State.setCmd_frame) rfl
  exact Frame.refl

theorem State.bindStream_frame {s : State} {c} :
    Frame [.pe] s (State.bindStream s c) := by
  unfold State.bindStream
  extract_lets -merge -lift +onlyGivenNames x0 x1 x2 x3 x4 x5
  refine Frame.step ?_ (State.setStream_frame) rfl
  unfold x5
  refine Frame.ite ?_ ?_
  next =>
    refine Frame.pe ?_ rfl
    exact Frame.refl
  next =>
    exact Frame.refl

theorem State.resolveOpen_frame {s : State} {c} :
    Frame [.regs, .hi, .klt, .qe, .pe, .bm, .ms, .out] s (State.resolveOpen s c) := by
  unfold State.resolveOpen
  split
  next =>
    refine Frame.step ?_ (State.endCmd_frame) rfl
    exact Frame.refl
  next =>
    extract_lets -merge -lift +onlyGivenNames x0
    refine Frame.step ?_ (State.placeResolved_frame) rfl
    refine Frame.step ?_ (State.bindStream_frame) rfl
    exact Frame.refl

theorem State.releaseMates_frame {s : State} {x} : Frame [.pe] s (State.releaseMates s x) := by
  unfold State.releaseMates
  exact Frame.ite Frame.refl (Frame.pe Frame.refl rfl)

theorem State.resolveOn_frame {s : State} {c} {k} {x} :
    Frame [.qe, .pe] s (State.resolveOn s c k x) := by
  unfold State.resolveOn
  extract_lets -merge -lift +onlyGivenNames x0 x1 x2 x3 x4 x5 x6
  have h5 : Frame [.qe, .pe] s x5 :=
    Frame.step (Frame.step Frame.refl State.setStream_frame rfl) State.placeResolved_frame rfl
  have h6 : Frame [.qe, .pe] s x6 := by
    unfold x6
    exact Frame.ite (Frame.step h5 State.releaseMates_frame rfl) h5
  exact Frame.ite (Frame.pe h6 rfl) h6

theorem State.resolveHandle_frame {s : State} {c} :
    Frame [.regs, .hi, .klt, .qe, .pe, .bm, .ms, .out] s (State.resolveHandle s c) := by
  unfold State.resolveHandle
  extract_lets -merge -lift +onlyGivenNames x0 x1
  split
  next =>
    refine Frame.step ?_ (State.endCmd_frame) rfl
    exact Frame.refl
  next =>
    extract_lets -merge -lift +onlyGivenNames x2
    split
    next =>
      refine Frame.step ?_ (State.setStream_frame) rfl
      refine Frame.step ?_ (State.endCmd_frame) rfl
      exact Frame.refl
    next =>
      split
      next =>
        refine Frame.step ?_ (State.endCmd_frame) rfl
        exact Frame.refl
      next =>
        split
        next =>
          refine Frame.step ?_ (State.endCmd_frame) rfl
          exact Frame.refl
        next =>
          refine Frame.step ?_ (State.resolveOn_frame) rfl
          exact Frame.refl

theorem State.resolveCmd_frame {s : State} {c} :
    Frame [.regs, .hi, .klt, .qe, .pe, .bm, .ms, .out] s (State.resolveCmd s c) := by
  unfold State.resolveCmd
  extract_lets -merge -lift +onlyGivenNames x0
  refine Frame.ite ?_ ?_
  next =>
    refine Frame.step ?_ (State.resolveOpen_frame) rfl
    exact Frame.refl
  next =>
    refine Frame.ite ?_ ?_
    next =>
      refine Frame.step ?_ (State.resolveHandle_frame) rfl
      exact Frame.refl
    next =>
      refine Frame.step ?_ (State.placeResolved_frame) rfl
      exact Frame.refl

theorem State.grantCmd_frame {s : State} {c} :
    Frame [.qe] s (State.grantCmd s c) := by
  unfold State.grantCmd
  refine Frame.ite ?_ ?_
  next =>
    refine Frame.step ?_ (State.setCmd_frame) rfl
    exact Frame.refl
  next =>
    exact Frame.refl

theorem State.resolveId_frame {s : State} {id} :
    Frame [.regs, .hi, .klt, .qe, .pe, .bm, .ms, .out] s (State.resolveId s id) := by
  unfold State.resolveId
  split
  next =>
    extract_lets -merge -lift +onlyGivenNames x0
    refine Frame.ite ?_ ?_
    next =>
      split
      next =>
        refine Frame.step ?_ (State.grantCmd_frame) rfl
        unfold x0
        refine Frame.step ?_ (State.resolveCmd_frame) rfl
        exact Frame.refl
      next =>
        unfold x0
        refine Frame.step ?_ (State.resolveCmd_frame) rfl
        exact Frame.refl
    next =>
      exact Frame.refl
  next =>
    exact Frame.refl

theorem State.grantId_frame {s : State} {id} :
    Frame [.qe] s (State.grantId s id) := by
  unfold State.grantId
  split
  next =>
    refine Frame.step ?_ (State.grantCmd_frame) rfl
    exact Frame.refl
  next =>
    exact Frame.refl

theorem State.bringIn_frame {s : State} {id} :
    Frame [.regs, .hi, .klt, .qe, .pe, .bm, .ms, .out] s (State.bringIn s id) := by
  unfold State.bringIn
  refine Frame.step ?_ (State.grantId_frame) rfl
  refine Frame.step ?_ (State.resolveId_frame) rfl
  exact Frame.refl

theorem State.startTransfer_frame {s : State} {id} {pieces} {recs} :
    Frame [.regs, .hi, .klt, .qe, .pe, .bm, .ms, .out] s (State.startTransfer s id pieces recs) := by
  unfold State.startTransfer
  split
  next =>
    exact Frame.refl
  next =>
    split
    next =>
      exact Frame.refl
    next =>
      refine Frame.ite ?_ ?_
      next =>
        exact Frame.refl
      next =>
        split
        next =>
          refine Frame.step ?_ (State.endCmd_frame) rfl
          exact Frame.refl
        next =>
          extract_lets -merge -lift +onlyGivenNames x0 x1 x2 x3 x4 x5
          refine Frame.ite ?_ ?_
          next =>
            exact Frame.refl
          next =>
            refine Frame.step ?_ (State.setCmd_frame) rfl
            unfold x5
            refine Frame.bm ?_ rfl
            unfold x3
            refine Frame.step ?_ (State.setStream_frame) rfl
            exact Frame.refl

theorem State.appendRecs_frame {s : State} {k} {l} :
    Frame [.pe] s (State.appendRecs s k l) := by
  unfold State.appendRecs
  split
  next =>
    exact Frame.refl
  next =>
    extract_lets -merge -lift +onlyGivenNames x0 x1 x2
    refine Frame.pe ?_ rfl
    unfold x1
    refine Frame.step ?_ (State.setStream_frame) rfl
    exact Frame.refl

theorem State.sequence_frame {s : State} {id} {data} :
    Frame [.regs, .hi, .klt, .qe, .pe, .bm, .cx, .ms, .out] s (State.sequence s id data) := by
  unfold State.sequence
  split
  next =>
    exact Frame.refl
  next =>
    extract_lets -merge -lift +onlyGivenNames x0 x1 x2 x3
    refine Frame.ite ?_ ?_
    next =>
      exact Frame.refl
    next =>
      refine Frame.ite ?_ ?_
      next =>
        refine Frame.step ?_ (State.endCmd_frame) rfl
        exact Frame.refl
      next =>
        refine Frame.ite ?_ ?_
        next =>
          refine Frame.step ?_ (State.endCmd_frame) rfl
          exact Frame.refl
        next =>
          refine Frame.step ?_ (State.recredit_frame) rfl
          refine Frame.step ?_ (State.finishCmd_frame) rfl
          unfold x3
          refine Frame.step ?_ (State.appendRecs_frame) rfl
          unfold x2
          refine Frame.ite ?_ ?_
          next =>
            refine Frame.step ?_ (State.truncate_frame) rfl
            exact Frame.refl
          next =>
            exact Frame.refl

theorem State.touchLeg_frame {s : State} {ds} :
    Frame [.regs, .pe] s (State.touchLeg s ds) := by
  unfold State.touchLeg
  split
  next =>
    exact Frame.refl
  next =>
    extract_lets -merge -lift +onlyGivenNames x0 x1 x2
    refine Frame.pe ?_ rfl
    unfold x0
    refine Frame.ite ?_ ?_
    next =>
      exact Frame.refl
    next =>
      refine Frame.step ?_ (State.bump_frame) rfl
      exact Frame.refl

theorem State.awaitTape_frame {s : State} {c} {k} {r} {ds} :
    Frame [.regs, .pe] s (State.awaitTape s c k r ds) := by
  unfold State.awaitTape
  extract_lets -merge -lift +onlyGivenNames x0 x1
  refine Frame.ite ?_ ?_
  next =>
    exact Frame.refl
  next =>
    refine Frame.pe ?_ rfl
    unfold x0
    refine Frame.step ?_ (State.touchLeg_frame) rfl
    exact Frame.refl

theorem State.endTape_frame {s : State} {id} :
    Frame [.pe] s (State.endTape s id) := by
  unfold State.endTape
  extract_lets -merge -lift +onlyGivenNames x0 x1
  refine Frame.pe ?_ rfl
  exact Frame.refl

theorem State.movePos_frame {s : State} {k} {p} :
    Frame [.pe] s (State.movePos s k p) := by
  unfold State.movePos
  extract_lets -merge -lift +onlyGivenNames x0 x1
  refine Frame.pe ?_ rfl
  unfold x0
  refine Frame.step ?_ (State.modStream_frame) rfl
  exact Frame.refl

theorem State.endRead_frame {s : State} {c} {k} {ps} {d} {e} :
    Frame [.regs, .hi, .klt, .qe, .pe, .bm, .ms, .out] s (State.endRead s c k ps d e) := by
  unfold State.endRead
  extract_lets -merge -lift +onlyGivenNames x0 x1 x2
  refine Frame.step ?_ (State.finishCmd_frame) rfl
  unfold x2
  refine Frame.step ?_ (State.endTape_frame) rfl
  refine Frame.step ?_ (State.movePos_frame) rfl
  unfold x1
  refine Frame.ite ?_ ?_
  next =>
    unfold x0
    refine Frame.step ?_ (State.scatter_frame) rfl
    exact Frame.refl
  next =>
    refine Frame.step ?_ (State.dmaFor_frame) rfl
    unfold x0
    refine Frame.step ?_ (State.scatter_frame) rfl
    exact Frame.refl

theorem State.readRecords_frame {s : State} {c} {k} {x} {listed} :
    Frame [.regs, .hi, .klt, .qe, .pe, .bm, .ms, .out] s (State.readRecords s c k x listed) := by
  unfold State.readRecords
  split
  next =>
    refine Frame.step ?_ (State.finishCmd_frame) rfl
    exact Frame.refl
  next =>
    extract_lets -merge -lift +onlyGivenNames x0 x1
    refine Frame.ite ?_ ?_
    next =>
      refine Frame.step ?_ (State.finishCmd_frame) rfl
      exact Frame.refl
    next =>
      refine Frame.ite ?_ ?_
      next =>
        refine Frame.step ?_ (State.finishCmd_frame) rfl
        exact Frame.refl
      next =>
        split
        next =>
          refine Frame.step ?_ (State.endRead_frame) rfl
          exact Frame.refl
        next =>
          split
          next =>
            refine Frame.step ?_ (State.endRead_frame) rfl
            exact Frame.refl
          next =>
            refine Frame.step ?_ (State.awaitTape_frame) rfl
            exact Frame.refl

theorem State.discardRest_frame {s : State} {c} {k} {x} :
    Frame [.regs, .hi, .klt, .qe, .pe, .bm, .ms, .out] s (State.discardRest s c k x) := by
  unfold State.discardRest
  refine Frame.ite ?_ ?_
  next =>
    refine Frame.step ?_ (State.finishCmd_frame) rfl
    exact Frame.refl
  next =>
    split
    next =>
      split
      next =>
        refine Frame.step ?_ (State.finishCmd_frame) rfl
        refine Frame.step ?_ (State.endTape_frame) rfl
        exact Frame.refl
      next =>
        refine Frame.step ?_ (State.awaitTape_frame) rfl
        exact Frame.refl
    next =>
      split
      next =>
        refine Frame.step ?_ (State.finishCmd_frame) rfl
        refine Frame.step ?_ (State.endTape_frame) rfl
        exact Frame.refl
      next =>
        refine Frame.step ?_ (State.finishCmd_frame) rfl
        refine Frame.step ?_ (State.endTape_frame) rfl
        refine Frame.step ?_ (State.movePos_frame) rfl
        exact Frame.refl

theorem State.locate_frame {s : State} {c} {k} {x} :
    Frame [.regs, .hi, .klt, .qe, .pe, .bm, .ms, .out] s (State.locate s c k x) := by
  unfold State.locate
  extract_lets -merge -lift +onlyGivenNames x0 x1
  refine Frame.ite ?_ ?_
  next =>
    refine Frame.step ?_ (State.finishCmd_frame) rfl
    exact Frame.refl
  next =>
    refine Frame.ite ?_ ?_
    next =>
      unfold x1
      refine Frame.step ?_ (State.finishCmd_frame) rfl
      refine Frame.step ?_ (State.endTape_frame) rfl
      refine Frame.step ?_ (State.movePos_frame) rfl
      exact Frame.refl
    next =>
      split
      next =>
        refine Frame.step ?_ (State.finishCmd_frame) rfl
        refine Frame.step ?_ (State.endTape_frame) rfl
        exact Frame.refl
      next =>
        refine Frame.step ?_ (State.awaitTape_frame) rfl
        exact Frame.refl

theorem State.space_frame {s : State} {c} {k} {x} :
    Frame [.regs, .hi, .klt, .qe, .pe, .bm, .ms, .out] s (State.space s c k x) := by
  unfold State.space
  extract_lets -merge -lift +onlyGivenNames x0
  refine Frame.ite ?_ ?_
  next =>
    refine Frame.step ?_ (State.finishCmd_frame) rfl
    unfold x0
    refine Frame.ite ?_ ?_
    next =>
      exact Frame.refl
    next =>
      refine Frame.step ?_ (State.dmaFor_frame) rfl
      exact Frame.refl
  next =>
    split
    next =>
      refine Frame.step ?_ (State.finishCmd_frame) rfl
      refine Frame.step ?_ (State.endTape_frame) rfl
      unfold x0
      refine Frame.ite ?_ ?_
      next =>
        refine Frame.step ?_ (State.movePos_frame) rfl
        exact Frame.refl
      next =>
        refine Frame.step ?_ (State.dmaFor_frame) rfl
        refine Frame.step ?_ (State.movePos_frame) rfl
        exact Frame.refl
    next =>
      refine Frame.step ?_ (State.finishCmd_frame) rfl
      refine Frame.step ?_ (State.endTape_frame) rfl
      exact Frame.refl
    next =>
      refine Frame.ite ?_ ?_
      next =>
        exact Frame.refl
      next =>
        split
        next =>
          refine Frame.step ?_ (State.finishCmd_frame) rfl
          refine Frame.step ?_ (State.endTape_frame) rfl
          exact Frame.refl
        next =>
          refine Frame.step ?_ (State.awaitTape_frame) rfl
          exact Frame.refl

theorem State.finishReporting_frame {s : State} {c} {k} {result} :
    Frame [.regs, .hi, .klt, .qe, .pe, .bm, .ms, .out] s (State.finishReporting s c k result) := by
  unfold State.finishReporting
  split
  next =>
    refine Frame.step ?_ (State.finishCmd_frame) rfl
    refine Frame.step ?_ (State.modStream_frame) rfl
    exact Frame.refl
  next =>
    refine Frame.step ?_ (State.finishCmd_frame) rfl
    exact Frame.refl

theorem State.sync_frame {s : State} {c} {k} {x} :
    Frame [.regs, .hi, .klt, .qe, .pe, .bm, .ms, .out] s (State.sync s c k x) := by
  unfold State.sync
  refine Frame.ite ?_ ?_
  next =>
    refine Frame.step ?_ (State.finishReporting_frame) rfl
    exact Frame.refl
  next =>
    exact Frame.refl

theorem State.close_frame {s : State} {c} {k} {x} :
    Frame [.regs, .hi, .klt, .qe, .pe, .bm, .ms, .out] s (State.close s c k x) := by
  unfold State.close
  extract_lets -merge -lift +onlyGivenNames x0 x1
  refine Frame.ite ?_ ?_
  next =>
    unfold x0
    refine Frame.step ?_ (State.modStream_frame) rfl
    refine Frame.step ?_ (State.finishReporting_frame) rfl
    exact Frame.refl
  next =>
    refine Frame.ite ?_ ?_
    next =>
      unfold x0
      refine Frame.step ?_ (State.modStream_frame) rfl
      refine Frame.step ?_ (State.finishReporting_frame) rfl
      exact Frame.refl
    next =>
      refine Frame.ite ?_ ?_
      next =>
        exact Frame.refl
      next =>
        refine Frame.ite ?_ ?_
        next =>
          refine Frame.pe ?_ rfl
          exact Frame.refl
        next =>
          refine Frame.ite ?_ ?_
          next =>
            unfold x0
            refine Frame.step ?_ (State.modStream_frame) rfl
            refine Frame.step ?_ (State.finishReporting_frame) rfl
            exact Frame.refl
          next =>
            exact Frame.refl

theorem State.query_frame {s : State} {c} {k} {x} {listed} :
    Frame [.regs, .hi, .klt, .qe, .pe, .bm, .ms, .out] s (State.query s c k x listed) := by
  unfold State.query
  split
  next =>
    refine Frame.step ?_ (State.finishCmd_frame) rfl
    exact Frame.refl
  next =>
    extract_lets -merge -lift +onlyGivenNames x0 x1
    refine Frame.step ?_ (State.finishReporting_frame) rfl
    refine Frame.step ?_ (State.tellCredit_frame) rfl
    unfold x0
    refine Frame.step ?_ (State.scatter_frame) rfl
    exact Frame.refl

theorem State.extentQuery_frame {s : State} {c} {k} {listed} :
    Frame [.regs, .hi, .klt, .qe, .pe, .bm, .ms, .out] s (State.extentQuery s c k listed) := by
  unfold State.extentQuery
  split
  next =>
    refine Frame.step ?_ (State.finishCmd_frame) rfl
    exact Frame.refl
  next =>
    extract_lets -merge -lift +onlyGivenNames x0 x1 x2
    refine Frame.step ?_ (State.finishCmd_frame) rfl
    refine Frame.step ?_ (State.scatter_frame) rfl
    exact Frame.refl

theorem State.onStream_frame {s : State} {id} {op} {run : State → Cmd → Nat → Stream → State} {L : List Part} (hL :
    [.regs, .hi, .klt, .qe, .pe, .bm, .ms, .out].all (L.contains ·) = true) (hr : ∀ u a b c, Frame L u (run u a b c)) :
    Frame L s (State.onStream s id op run) := by
  unfold State.onStream
  extract_lets -merge -lift +onlyGivenNames x0
  split
  next =>
    unfold x0
    refine Frame.step ?_ (State.bringIn_frame) (Part.sub_trans rfl hL)
    exact Frame.refl
  next =>
    refine Frame.ite ?_ ?_
    next =>
      split
      next =>
        unfold x0
        refine Frame.step ?_ (State.bringIn_frame) (Part.sub_trans rfl hL)
        exact Frame.refl
      next =>
        split
        next =>
          refine Frame.trans ?_ (hr _ _ _ _)
          unfold x0
          refine Frame.step ?_ (State.bringIn_frame) (Part.sub_trans rfl hL)
          exact Frame.refl
        next =>
          unfold x0
          refine Frame.step ?_ (State.bringIn_frame) (Part.sub_trans rfl hL)
          exact Frame.refl
    next =>
      unfold x0
      refine Frame.step ?_ (State.bringIn_frame) (Part.sub_trans rfl hL)
      exact Frame.refl

theorem State.notePool_frame {s : State} {p} :
    Frame [.bm] s (State.notePool s p) := by
  unfold State.notePool
  extract_lets -merge -lift +onlyGivenNames x0
  refine Frame.bm ?_ rfl
  exact Frame.refl

theorem State.rewatch_frame {s : State} :
    Frame [.bm] s (State.rewatch s) := by
  unfold State.rewatch
  extract_lets -merge -lift +onlyGivenNames x0
  refine Frame.bm ?_ rfl
  exact Frame.refl

theorem State.fallBacks_frame {s : State} {skipped} :
    Frame [.regs] s (State.fallBacks s skipped) := by
  unfold State.fallBacks
  refine Frame.fold ?_ (fun u a => ?_) _
  next =>
    exact Frame.refl
  next =>
    refine Frame.step ?_ (State.bump_frame) rfl
    exact Frame.refl

theorem State.grantBuf_frame {s : State} {w} {p} {i} :
    Frame [.bm] s (State.grantBuf s w p i) := by
  unfold State.grantBuf
  extract_lets -merge -lift +onlyGivenNames x0 x1
  refine Frame.step ?_ (State.rewatch_frame) rfl
  refine Frame.step ?_ (State.notePool_frame) rfl
  unfold x1
  refine Frame.bm ?_ rfl
  exact Frame.refl

theorem State.serve_frame {s t : State} {w : BufWait} (h : s.serve w = some t) : Frame [.regs, .bm] s t := by
  unfold State.serve at h
  split at h
  next => cases h
  next =>
    obtain ⟨i, _, rfl⟩ := Option.map_eq_some_iff.mp h
    exact Frame.step (Frame.step Frame.refl State.fallBacks_frame rfl) State.grantBuf_frame rfl

theorem State.allocate_frame {s : State} {w} :
    Frame [.regs, .bm] s (State.allocate s w) := by
  unfold State.allocate
  refine Frame.ite ?_ ?_
  next =>
    first | exact Frame.refl | exact Frame.ofSome (by assumption) (fun _ => State.serve_frame) rfl
  next =>
    split
    next =>
      first | exact Frame.refl | exact Frame.ofSome (by assumption) (fun _ => State.serve_frame) rfl
    next =>
      extract_lets -merge -lift +onlyGivenNames x0
      refine Frame.bm ?_ rfl
      first | exact Frame.refl | exact Frame.ofSome (by assumption) (fun _ => State.serve_frame) rfl

theorem State.waitGrant_frame {s : State} : Frame [.regs, .bm] s s.waitGrant := by
  unfold State.waitGrant
  extract_lets can pick
  clear_value pick
  split
  next => exact Frame.refl
  next w rest =>
    extract_lets u
    have hu : Frame [.regs, .bm] s u := Frame.bm Frame.refl rfl
    cases hs : u.serve w with
    | none => exact hu
    | some v => exact Frame.step hu (State.serve_frame hs) rfl

theorem State.badFree_frame {s : State} {who} {p} {i} {tag} :
    Frame [.regs, .ms] s (State.badFree s who p i tag) := by
  unfold State.badFree
  refine Frame.step ?_ (State.logEv_frame) rfl
  refine Frame.step ?_ (State.bump_frame) rfl
  exact Frame.refl

theorem State.freeBuffer_frame {s : State} {who} {p} {i} :
    Frame [.regs, .bm, .ms] s (State.freeBuffer s who p i) := by
  unfold State.freeBuffer
  split
  next =>
    refine Frame.step ?_ (State.badFree_frame) rfl
    exact Frame.refl
  next =>
    extract_lets -merge -lift +onlyGivenNames x0
    refine Frame.ite ?_ ?_
    next =>
      refine Frame.step ?_ (State.rewatch_frame) rfl
      refine Frame.bm ?_ rfl
      exact Frame.refl
    next =>
      refine Frame.step ?_ (State.badFree_frame) rfl
      exact Frame.refl

theorem State.transferBuffer_frame {s : State} {who} {dest} {p} {i} :
    Frame [.regs, .bm, .ms] s (State.transferBuffer s who dest p i) := by
  unfold State.transferBuffer
  split
  next =>
    refine Frame.step ?_ (State.badFree_frame) rfl
    exact Frame.refl
  next =>
    extract_lets -merge -lift +onlyGivenNames x0
    refine Frame.ite ?_ ?_
    next =>
      refine Frame.bm ?_ rfl
      exact Frame.refl
    next =>
      refine Frame.step ?_ (State.badFree_frame) rfl
      exact Frame.refl

theorem State.ownerSet_frame {s : State} {src} {r} {sel} {v} {mask} :
    Frame [.regs] s (State.ownerSet s src r sel v mask) := by
  unfold State.ownerSet
  refine Frame.ite ?_ ?_
  next =>
    refine Frame.step ?_ (State.setReg_frame) rfl
    exact Frame.refl
  next =>
    exact Frame.refl

theorem State.writePoolSplit_frame {s : State} {src} {v} :
    Frame [.regs, .hi, .qe, .pe, .bm, .ms, .out] s (State.writePoolSplit s src v) := by
  unfold State.writePoolSplit
  extract_lets -merge -lift +onlyGivenNames x0
  refine Frame.ite ?_ ?_
  next =>
    exact Frame.refl
  next =>
    refine Frame.ite ?_ ?_
    next =>
      exact Frame.refl
    next =>
      refine Frame.ite ?_ ?_
      next =>
        refine Frame.step ?_ (State.rwlReject_frame) rfl
        exact Frame.refl
      next =>
        refine Frame.ite ?_ ?_
        next =>
          exact Frame.refl
        next =>
          refine Frame.step ?_ (State.rewatch_frame) rfl
          refine Frame.step ?_ (State.recredit_frame) rfl
          refine Frame.step ?_ (State.setReg_frame) rfl
          exact Frame.refl

theorem State.writeStreamWin_frame {s : State} {src} {v} :
    Frame [.regs, .hi, .qe, .pe, .out] s (State.writeStreamWin s src v) := by
  unfold State.writeStreamWin
  refine Frame.ite ?_ ?_
  next =>
    refine Frame.step ?_ (State.recredit_frame) rfl
    refine Frame.step ?_ (State.setReg_frame) rfl
    exact Frame.refl
  next =>
    exact Frame.refl

theorem State.writeWmCfg_frame {s : State} {src} {v} :
    Frame [.regs, .bm] s (State.writeWmCfg s src v) := by
  unfold State.writeWmCfg
  refine Frame.ite ?_ ?_
  next =>
    exact Frame.refl
  next =>
    refine Frame.step ?_ (State.rewatch_frame) rfl
    refine Frame.step ?_ (State.setReg_frame) rfl
    exact Frame.refl

theorem State.writeFcwCfg_frame {s : State} {src} {v} :
    Frame [.regs] s (State.writeFcwCfg s src v) := by
  unfold State.writeFcwCfg
  refine Frame.ite ?_ ?_
  next =>
    refine Frame.step ?_ (State.setReg_frame) rfl
    exact Frame.refl
  next =>
    exact Frame.refl

theorem State.setPair_frame {s : State} {n} {p} :
    Frame [.mc] s (State.setPair s n p) := by
  unfold State.setPair
  extract_lets -merge -lift +onlyGivenNames x0
  refine Frame.mc ?_ rfl
  exact Frame.refl

theorem State.schedulePair_frame {s : State} {n} {unit} :
    Frame [.regs, .hi, .klt, .qe, .mc, .ms, .out] s (State.schedulePair s n unit) := by
  unfold State.schedulePair
  extract_lets -merge -lift +onlyGivenNames x0
  refine Frame.ite ?_ ?_
  next =>
    exact Frame.refl
  next =>
    refine Frame.step ?_ (State.tellRetired_frame) rfl
    refine Frame.step ?_ (State.setPair_frame) rfl
    exact Frame.refl

theorem State.ueOutcome_frame {s : State} {c} :
    Frame [.regs, .hi, .klt, .qe, .pe, .bm, .cx, .ed, .ms, .out] s (State.ueOutcome s c) := by
  unfold State.ueOutcome
  split
  next =>
    split
    next =>
      refine Frame.ite ?_ ?_
      next =>
        refine Frame.step ?_ (State.deferError_frame) rfl
        exact Frame.refl
      next =>
        exact Frame.refl
    next =>
      exact Frame.refl
  next =>
    refine Frame.step ?_ (State.failRing_frame) rfl
    exact Frame.refl
  next =>
    extract_lets -merge -lift +onlyGivenNames x0 x1
    refine Frame.anchor ?_ ?_
    next =>
      exact Frame.refl
    next =>
      intro p hp; cases p <;> first | exact absurd hp (by decide) | rfl
  next =>
    extract_lets -merge -lift +onlyGivenNames x0
    refine Frame.cx ?_ rfl
    exact Frame.refl
  next =>
    extract_lets -merge -lift +onlyGivenNames x0
    refine Frame.pe ?_ rfl
    exact Frame.refl
  next =>
    exact Frame.refl
  next =>
    exact Frame.refl

theorem State.mcUe_frame {s : State} {n} {addr} {c} :
    Frame [.regs, .hi, .klt, .qe, .pe, .bm, .mc, .cx, .ed, .ms, .out] s (State.mcUe s n addr c) := by
  unfold State.mcUe
  extract_lets -merge -lift +onlyGivenNames x0 x1 x2 x3 x4 x5 x6
  refine Frame.step ?_ (State.ueOutcome_frame) rfl
  unfold x6
  refine Frame.ite ?_ ?_
  next =>
    refine Frame.step ?_ (State.schedulePair_frame) rfl
    unfold x4
    refine Frame.step ?_ (State.logEv_frame) rfl
    unfold x3
    refine Frame.step ?_ (State.setReg_frame) rfl
    refine Frame.step ?_ (State.setReg_frame) rfl
    unfold x2
    refine Frame.step ?_ (State.bump_frame) rfl
    exact Frame.refl
  next =>
    refine Frame.step ?_ (State.setPair_frame) rfl
    unfold x4
    refine Frame.step ?_ (State.logEv_frame) rfl
    unfold x3
    refine Frame.step ?_ (State.setReg_frame) rfl
    refine Frame.step ?_ (State.setReg_frame) rfl
    unfold x2
    refine Frame.step ?_ (State.bump_frame) rfl
    exact Frame.refl

end Sys2Proof.Machine
end

