-- ==== Sys2Proof/Laws/FramesWrite.lean ====
section
/-! SUPPORT. Which parts of the state each operation of keys, calibration, placement and the forming of datasets can change: one lemma for each. -/

namespace Sys2Proof.Machine

theorem State.onCommand_frame {s : State} {id} {op} {run : State → Cmd → State} {L : List Part} (hL : [.regs, .hi, .klt,
    .qe, .pe, .bm, .ms, .out].all (L.contains ·) = true) (hr : ∀ u v, Frame L u (run u v)) :
    Frame L s (State.onCommand s id op run) := by
  unfold State.onCommand
  extract_lets -merge -lift +onlyGivenNames x0
  split
  next =>
    unfold x0
    refine Frame.step ?_ (State.bringIn_frame) (Part.sub_trans rfl hL)
    exact Frame.refl
  next =>
    refine Frame.ite ?_ ?_
    next =>
      refine Frame.trans ?_ (hr _ _)
      unfold x0
      refine Frame.step ?_ (State.bringIn_frame) (Part.sub_trans rfl hL)
      exact Frame.refl
    next =>
      unfold x0
      refine Frame.step ?_ (State.bringIn_frame) (Part.sub_trans rfl hL)
      exact Frame.refl

theorem State.withBuffer_frame {s : State} {c} {listed} {run : State → List BufPiece → State} {L : List Part} (hL :
    [.regs, .hi, .klt, .qe, .pe, .bm, .ms, .out].all (L.contains ·) = true) (hr : ∀ u v, Frame L u (run u v)) :
    Frame L s (State.withBuffer s c listed run) := by
  unfold State.withBuffer
  split
  next =>
    refine Frame.step ?_ (State.finishCmd_frame) (Part.sub_trans rfl hL)
    exact Frame.refl
  next =>
    refine Frame.trans ?_ (hr _ _)
    exact Frame.refl

theorem State.keyLow_frame {s : State} {f} {n} :
    Frame [.regs, .hi, .qe, .ce, .out] s (State.keyLow s f n) := by
  unfold State.keyLow
  extract_lets -merge -lift +onlyGivenNames x0 x1 x2
  refine Frame.ite ?_ ?_
  next =>
    refine Frame.step ?_ (State.chime_frame) rfl
    refine Frame.step ?_ (State.setSlot_frame) rfl
    exact Frame.refl
  next =>
    exact Frame.refl

theorem State.takeInvocation_frame {s : State} {f} {n} :
    Frame [.regs, .hi, .qe, .ce, .out] s (State.takeInvocation s f n) := by
  unfold State.takeInvocation
  extract_lets -merge -lift +onlyGivenNames x0 x1 x2 x3 x4
  refine Frame.ite ?_ ?_
  next =>
    refine Frame.step ?_ (State.chime_frame) rfl
    unfold x4
    refine Frame.step ?_ (State.keyLow_frame) rfl
    unfold x3
    refine Frame.step ?_ (State.setSlot_frame) rfl
    exact Frame.refl
  next =>
    unfold x4
    refine Frame.step ?_ (State.keyLow_frame) rfl
    unfold x3
    refine Frame.step ?_ (State.setSlot_frame) rfl
    exact Frame.refl

theorem State.zeroSlot_frame {s : State} {g} :
    Frame [.ce] s (State.zeroSlot s g) := by
  unfold State.zeroSlot
  extract_lets -merge -lift +onlyGivenNames x0
  refine Frame.step ?_ (State.setSlot_frame) rfl
  exact Frame.refl

theorem State.eraseSlot_frame {s : State} {g} :
    Frame [.regs, .hi, .klt, .qe, .pe, .bm, .cx, .ce, .ms, .out] s (State.eraseSlot s g) := by
  unfold State.eraseSlot
  extract_lets -merge -lift +onlyGivenNames x0 x1
  refine Frame.fold ?_ (fun u a => ?_) _
  next =>
    unfold x1
    refine Frame.step ?_ (State.zeroSlot_frame) rfl
    exact Frame.refl
  next =>
    split
    next =>
      refine Frame.step ?_ (State.deferError_frame) rfl
      exact Frame.refl
    next =>
      exact Frame.refl

theorem State.setKek_frame {s : State} {f} {k} :
    Frame [.ce] s (State.setKek s f k) := by
  unfold State.setKek
  extract_lets -merge -lift +onlyGivenNames x0
  refine Frame.ce ?_ rfl
  exact Frame.refl

theorem State.eraseKek_frame {s : State} {f} :
    Frame [.ce] s (State.eraseKek s f) := by
  unfold State.eraseKek
  refine Frame.step ?_ (State.setKek_frame) rfl
  exact Frame.refl

theorem State.reserveEpochs_frame {s : State} :
    Frame [.ce] s (State.reserveEpochs s) := by
  unfold State.reserveEpochs
  extract_lets -merge -lift +onlyGivenNames x0
  refine Frame.ite ?_ ?_
  next =>
    exact Frame.refl
  next =>
    refine Frame.ce ?_ rfl
    exact Frame.refl

theorem State.switchKey_frame {s : State} {g} {raw} {key} {label} {limit} :
    Frame [.ce] s (State.switchKey s g raw key label limit) := by
  unfold State.switchKey
  extract_lets -merge -lift +onlyGivenNames x0 x1 x2 x3 x4 x5 x6
  refine Frame.ite ?_ ?_
  next =>
    refine Frame.step ?_ (State.setSlot_frame) rfl
    exact Frame.refl
  next =>
    refine Frame.step ?_ (State.setSlot_frame) rfl
    unfold x5
    refine Frame.ce ?_ rfl
    unfold x2
    refine Frame.step ?_ (State.reserveEpochs_frame) rfl
    exact Frame.refl

theorem State.installKey_frame {s : State} {c} {b} :
    Frame [.regs, .hi, .klt, .qe, .pe, .bm, .ce, .ms, .out] s (State.installKey s c b) := by
  unfold State.installKey
  extract_lets -merge -lift +onlyGivenNames x0 x1 x2
  refine Frame.ite ?_ ?_
  next =>
    exact Frame.refl
  next =>
    split
    next =>
      refine Frame.step ?_ (State.finishCmd_frame) rfl
      exact Frame.refl
    next =>
      refine Frame.ite ?_ ?_
      next =>
        refine Frame.step ?_ (State.finishCmd_frame) rfl
        exact Frame.refl
      next =>
        refine Frame.ite ?_ ?_
        next =>
          refine Frame.step ?_ (State.finishCmd_frame) rfl
          exact Frame.refl
        next =>
          split
          next =>
            refine Frame.step ?_ (State.finishCmd_frame) rfl
            refine Frame.step ?_ (State.bump_frame) rfl
            exact Frame.refl
          next =>
            extract_lets -merge -lift +onlyGivenNames x3
            refine Frame.ite ?_ ?_
            next =>
              refine Frame.step ?_ (State.finishCmd_frame) rfl
              refine Frame.step ?_ (State.bump_frame) rfl
              exact Frame.refl
            next =>
              refine Frame.ite ?_ ?_
              next =>
                refine Frame.step ?_ (State.finishCmd_frame) rfl
                exact Frame.refl
              next =>
                refine Frame.step ?_ (State.keyLow_frame) rfl
                refine Frame.step ?_ (State.finishCmd_frame) rfl
                unfold x3
                refine Frame.step ?_ (State.switchKey_frame) rfl
                exact Frame.refl

theorem State.installKek_frame {s : State} {c} {b} :
    Frame [.regs, .hi, .klt, .qe, .pe, .bm, .ce, .ms, .out] s (State.installKek s c b) := by
  unfold State.installKek
  refine Frame.ite ?_ ?_
  next =>
    refine Frame.step ?_ (State.finishCmd_frame) rfl
    exact Frame.refl
  next =>
    split
    next =>
      refine Frame.step ?_ (State.finishCmd_frame) rfl
      refine Frame.step ?_ (State.bump_frame) rfl
      exact Frame.refl
    next =>
      extract_lets -merge -lift +onlyGivenNames x0
      refine Frame.ite ?_ ?_
      next =>
        refine Frame.step ?_ (State.finishCmd_frame) rfl
        exact Frame.refl
      next =>
        refine Frame.step ?_ (State.finishCmd_frame) rfl
        refine Frame.step ?_ (State.setKek_frame) rfl
        exact Frame.refl

theorem State.keyErase_frame {s : State} {c} :
    Frame [.regs, .hi, .klt, .qe, .pe, .bm, .cx, .ce, .ms, .out] s (State.keyErase s c) := by
  unfold State.keyErase
  extract_lets -merge -lift +onlyGivenNames x0 x1
  refine Frame.ite ?_ ?_
  next =>
    refine Frame.step ?_ (State.finishCmd_frame) rfl
    unfold x0
    refine Frame.step ?_ (State.eraseKek_frame) rfl
    exact Frame.refl
  next =>
    refine Frame.step ?_ (State.finishCmd_frame) rfl
    unfold x1
    refine Frame.step ?_ (State.eraseSlot_frame) rfl
    exact Frame.refl

theorem State.keyQuery_frame {s : State} {c} {ps} :
    Frame [.regs, .hi, .klt, .qe, .pe, .bm, .ms, .out] s (State.keyQuery s c ps) := by
  unfold State.keyQuery
  extract_lets -merge -lift +onlyGivenNames x0
  refine Frame.ite ?_ ?_
  next =>
    refine Frame.step ?_ (State.finishCmd_frame) rfl
    refine Frame.step ?_ (State.scatter_frame) rfl
    exact Frame.refl
  next =>
    refine Frame.step ?_ (State.finishCmd_frame) rfl
    refine Frame.step ?_ (State.scatter_frame) rfl
    exact Frame.refl

theorem State.onCore_frame {s : State} {i} {n} :
    Frame [.regs, .ce, .ms] s (State.onCore s i n) := by
  unfold State.onCore
  extract_lets -merge -lift +onlyGivenNames x0 x1 x2 x3
  refine Frame.step ?_ (State.bumpBy_frame) rfl
  unfold x3
  refine Frame.ce ?_ rfl
  unfold x1
  refine Frame.step ?_ (State.yieldUnit_frame) rfl
  exact Frame.refl

theorem State.coreWork_frame {s : State} {n} :
    Frame [.regs, .ce, .ms] s (State.coreWork s n) := by
  unfold State.coreWork
  extract_lets -merge -lift +onlyGivenNames x0 x1 x2
  split
  next =>
    refine Frame.step ?_ (State.onCore_frame) rfl
    exact Frame.refl
  next =>
    split
    next =>
      refine Frame.step ?_ (State.onCore_frame) rfl
      exact Frame.refl
    next =>
      exact Frame.refl

theorem State.cipherRaw_frame {s : State} {c} {data} :
    Frame [.regs, .hi, .klt, .qe, .pe, .bm, .ce, .ms, .out] s (State.cipherRaw s c data) := by
  unfold State.cipherRaw
  extract_lets -merge -lift +onlyGivenNames x0 x1 x2 x3 x4 x5
  refine Frame.ite ?_ ?_
  next =>
    refine Frame.step ?_ (State.finishCmd_frame) rfl
    exact Frame.refl
  next =>
    refine Frame.ite ?_ ?_
    next =>
      refine Frame.step ?_ (State.finishCmd_frame) rfl
      exact Frame.refl
    next =>
      refine Frame.ite ?_ ?_
      next =>
        refine Frame.step ?_ (State.finishCmd_frame) rfl
        exact Frame.refl
      next =>
        refine Frame.ite ?_ ?_
        next =>
          refine Frame.step ?_ (State.finishCmd_frame) rfl
          exact Frame.refl
        next =>
          split
          next =>
            refine Frame.step ?_ (State.finishCmd_frame) rfl
            exact Frame.refl
          next =>
            refine Frame.step ?_ (State.finishCmd_frame) rfl
            refine Frame.step ?_ (State.dmaFor_frame) rfl
            unfold x4
            refine Frame.step ?_ (State.coreWork_frame) rfl
            refine Frame.step ?_ (State.takeInvocation_frame) rfl
            exact Frame.refl

theorem State.drbg_frame {s : State} {n : Nat} : Frame [.ce, .fresh] s (s.drbg n).2 :=
  Frame.ce (Frame.step Frame.refl State.draw_frame rfl) rfl

theorem State.aeadSeal_frame {s : State} {c : Cmd} {k : KeySlot} {b aad : Bytes} :
    Frame [.regs, .hi, .klt, .qe, .pe, .bm, .ce, .ms, .out, .fresh] s (s.aeadSeal c k b aad) := by
  unfold State.aeadSeal
  refine Frame.ite (Frame.step Frame.refl State.finishCmd_frame rfl) ?_
  split
  next => exact Frame.step Frame.refl State.finishCmd_frame rfl
  next =>
    extract_lets v u
    have hv : Frame [.regs, .hi, .klt, .qe, .pe, .bm, .ce, .ms, .out, .fresh] s v.2 := by
      show Frame _ _ (State.aeadIv s c k).2
      unfold State.aeadIv
      split
      next => exact Frame.step Frame.refl State.drbg_frame rfl
      next => exact Frame.refl
    have hu : Frame [.regs, .hi, .klt, .qe, .pe, .bm, .ce, .ms, .out, .fresh] s u := Frame.step (Frame.step hv
        State.takeInvocation_frame rfl) State.coreWork_frame rfl
    refine Frame.step ?_ State.finishCmd_frame rfl
    refine Frame.step (Frame.step ?_ State.dmaFor_frame rfl) State.dmaFor_frame rfl
    exact Frame.ite hu (Frame.step hu State.dmaFor_frame rfl)

theorem State.aeadOpen_frame {s : State} {c} {k} {b} {aad} {area} :
    Frame [.regs, .hi, .klt, .qe, .pe, .bm, .ce, .ms, .out] s (State.aeadOpen s c k b aad area) := by
  unfold State.aeadOpen
  split
  next =>
    refine Frame.step ?_ (State.finishCmd_frame) rfl
    exact Frame.refl
  next =>
    extract_lets -merge -lift +onlyGivenNames x0 x1 x2
    refine Frame.ite ?_ ?_
    next =>
      refine Frame.step ?_ (State.finishCmd_frame) rfl
      unfold x2
      refine Frame.ite ?_ ?_
      next =>
        unfold x1
        refine Frame.step ?_ (State.coreWork_frame) rfl
        exact Frame.refl
      next =>
        refine Frame.step ?_ (State.dmaFor_frame) rfl
        unfold x1
        refine Frame.step ?_ (State.coreWork_frame) rfl
        exact Frame.refl
    next =>
      refine Frame.step ?_ (State.finishCmd_frame) rfl
      refine Frame.step ?_ (State.bump_frame) rfl
      unfold x1
      refine Frame.step ?_ (State.coreWork_frame) rfl
      exact Frame.refl

theorem State.cipherAead_frame {s : State} {c} {data} {aad} {area} :
    Frame [.regs, .hi, .klt, .qe, .pe, .bm, .ce, .ms, .out, .fresh] s (State.cipherAead s c data aad area) := by
  unfold State.cipherAead
  extract_lets -merge -lift +onlyGivenNames x0 x1 x2
  refine Frame.ite ?_ ?_
  next =>
    refine Frame.step ?_ (State.finishCmd_frame) rfl
    exact Frame.refl
  next =>
    refine Frame.ite ?_ ?_
    next =>
      refine Frame.step ?_ (State.finishCmd_frame) rfl
      exact Frame.refl
    next =>
      refine Frame.ite ?_ ?_
      next =>
        refine Frame.step ?_ (State.finishCmd_frame) rfl
        exact Frame.refl
      next =>
        refine Frame.ite ?_ ?_
        next =>
          refine Frame.step ?_ (State.finishCmd_frame) rfl
          exact Frame.refl
        next =>
          refine Frame.ite ?_ ?_
          next =>
            refine Frame.step ?_ (State.aeadOpen_frame) rfl
            exact Frame.refl
          next =>
            refine Frame.step ?_ (State.aeadSeal_frame) rfl
            exact Frame.refl

theorem State.cutOff_frame {s : State} :
    Frame [.regs, .hi, .klt, .qe, .pe, .bm, .cx, .ms, .out] s (State.cutOff s) := by
  unfold State.cutOff
  refine Frame.fold ?_ (fun u a => ?_) _
  next =>
    exact Frame.refl
  next =>
    refine Frame.step ?_ (State.deferError_frame) rfl
    exact Frame.refl

theorem State.retestEnd_frame {s : State} {pass} :
    Frame [.regs, .hi, .klt, .qe, .pe, .bm, .cx, .ce, .ms, .out] s (State.retestEnd s pass) := by
  unfold State.retestEnd
  extract_lets -merge -lift +onlyGivenNames x0 x1 x2 x3
  refine Frame.ite ?_ ?_
  next =>
    exact Frame.refl
  next =>
    refine Frame.ite ?_ ?_
    next =>
      refine Frame.ce ?_ rfl
      exact Frame.refl
    next =>
      refine Frame.ite ?_ ?_
      next =>
        refine Frame.ce ?_ rfl
        exact Frame.refl
      next =>
        refine Frame.step ?_ (State.cutOff_frame) rfl
        refine Frame.step ?_ (State.logEv_frame) rfl
        refine Frame.step ?_ (State.bump_frame) rfl
        unfold x3
        refine Frame.ce ?_ rfl
        exact Frame.refl

theorem State.setCal_frame {s : State} {n} {c} :
    Frame [.vc] s (State.setCal s n c) := by
  unfold State.setCal
  extract_lets -merge -lift +onlyGivenNames x0
  refine Frame.vc ?_ rfl
  exact Frame.refl

theorem State.modCal_frame {s : State} {n} {g} :
    Frame [.vc] s (State.modCal s n g) := by
  unfold State.modCal
  refine Frame.step ?_ (State.setCal_frame) rfl
  exact Frame.refl

theorem State.modCals_frame {s : State} {g} :
    Frame [.vc] s (State.modCals s g) := by
  unfold State.modCals
  refine Frame.fold ?_ (fun u a => ?_) _
  next =>
    exact Frame.refl
  next =>
    refine Frame.step ?_ (State.setCal_frame) rfl
    exact Frame.refl

theorem State.setHealth_frame {s : State} {n} {v} :
    Frame [.pe] s (State.setHealth s n v) := by
  unfold State.setHealth
  extract_lets -merge -lift +onlyGivenNames x0
  refine Frame.pe ?_ rfl
  exact Frame.refl

theorem State.stepTo_frame {s : State} {n} {st} :
    Frame [.regs, .vc, .ms] s (State.stepTo s n st) := by
  unfold State.stepTo
  extract_lets -merge -lift +onlyGivenNames x0 x1
  refine Frame.ite ?_ ?_
  next =>
    exact Frame.refl
  next =>
    refine Frame.step ?_ (State.modCal_frame) rfl
    unfold x1
    refine Frame.step ?_ (State.logEv_frame) rfl
    refine Frame.step ?_ (State.bump_frame) rfl
    exact Frame.refl

theorem State.actOnStep_frame {s : State} {n} {r} :
    Frame [.regs, .vc, .ms] s (State.actOnStep s n r) := by
  unfold State.actOnStep
  extract_lets -merge -lift +onlyGivenNames x0
  refine Frame.ite ?_ ?_
  next =>
    exact Frame.refl
  next =>
    refine Frame.ite ?_ ?_
    next =>
      refine Frame.ite ?_ ?_
      next =>
        refine Frame.step ?_ (State.logEv_frame) rfl
        refine Frame.step ?_ (State.bump_frame) rfl
        refine Frame.step ?_ (State.modCal_frame) rfl
        exact Frame.refl
      next =>
        refine Frame.step ?_ (State.stepTo_frame) rfl
        exact Frame.refl
    next =>
      refine Frame.ite ?_ ?_
      next =>
        refine Frame.step ?_ (State.stepTo_frame) rfl
        exact Frame.refl
      next =>
        exact Frame.refl

theorem State.actOnTrim_frame {s : State} {n} {rev} :
    Frame [.regs, .vc] s (State.actOnTrim s n rev) := by
  unfold State.actOnTrim
  extract_lets -merge -lift +onlyGivenNames x0 x1 x2 x3 x4 x5 x6
  refine Frame.ite ?_ ?_
  next =>
    exact Frame.refl
  next =>
    refine Frame.step ?_ (State.setCal_frame) rfl
    unfold x6
    refine Frame.ite ?_ ?_
    next =>
      exact Frame.refl
    next =>
      refine Frame.step ?_ (State.bump_frame) rfl
      exact Frame.refl

theorem State.setTally_frame {s : State} {t} :
    Frame [.vc] s (State.setTally s t) := by
  unfold State.setTally
  extract_lets -merge -lift +onlyGivenNames x0
  refine Frame.vc ?_ rfl
  exact Frame.refl

theorem State.formRecord_frame {s : State} {d} {slot} :
    Frame [.regs, .vc, .ms] s (State.formRecord s d slot) := by
  unfold State.formRecord
  extract_lets -merge -lift +onlyGivenNames x0 x1 x2 x3 x4 x5 x6 x7 x8
  refine Frame.ite ?_ ?_
  next =>
    exact Frame.refl
  next =>
    refine Frame.ite ?_ ?_
    next =>
      unfold x2
      refine Frame.vc ?_ rfl
      exact Frame.refl
    next =>
      refine Frame.step ?_ (State.actOnTrim_frame) rfl
      unfold x8
      refine Frame.step ?_ (State.actOnStep_frame) rfl
      unfold x7
      refine Frame.step ?_ (State.setCal_frame) rfl
      unfold x2
      refine Frame.vc ?_ rfl
      exact Frame.refl

theorem State.endWindow_frame {s : State} :
    Frame [.pe, .vc] s (State.endWindow s) := by
  unfold State.endWindow
  split
  next =>
    exact Frame.refl
  next =>
    extract_lets -merge -lift +onlyGivenNames x0 x1
    refine Frame.pe ?_ rfl
    unfold x0
    refine Frame.fold ?_ (fun u a => ?_) _
    next =>
      exact Frame.refl
    next =>
      extract_lets -merge -lift +onlyGivenNames x2 x3
      refine Frame.step ?_ (State.setCal_frame) rfl
      unfold x3
      refine Frame.step ?_ (State.setHealth_frame) rfl
      exact Frame.refl

theorem State.startWindow_frame {s : State} {w} {slots} {steps} :
    Frame [.pe, .vc] s (State.startWindow s w slots steps) := by
  unfold State.startWindow
  extract_lets -merge -lift +onlyGivenNames x0 x1
  refine Frame.pe ?_ rfl
  unfold x0
  refine Frame.fold ?_ (fun u a => ?_) _
  next =>
    exact Frame.refl
  next =>
    refine Frame.step ?_ (State.modCal_frame) rfl
    exact Frame.refl

theorem State.benchmark_frame {s : State} {w} {res} :
    Frame [.regs, .pe, .rc, .vc] s (State.benchmark s w res) := by
  unfold State.benchmark
  extract_lets -merge -lift +onlyGivenNames x0 x1 x2 x3 x4
  refine Frame.ite ?_ ?_
  next =>
    refine Frame.pe ?_ rfl
    unfold x3
    refine Frame.step ?_ (State.startWindow_frame) rfl
    unfold x1
    refine Frame.fold ?_ (fun u a => ?_) _
    next =>
      unfold x0
      refine Frame.step ?_ (State.restartKernels_frame) rfl
      refine Frame.fold ?_ (fun v b => Frame.step Frame.refl State.adapt_frame rfl) _
      refine Frame.step ?_ (State.endWindow_frame) rfl
      exact Frame.refl
    next =>
      extract_lets -merge -lift +onlyGivenNames x5 x6
      refine Frame.ite ?_ ?_
      next =>
        unfold x6
        refine Frame.step ?_ (State.modCal_frame) rfl
        exact Frame.refl
      next =>
        refine Frame.step ?_ (State.setHealth_frame) rfl
        unfold x6
        refine Frame.step ?_ (State.modCal_frame) rfl
        exact Frame.refl
  next =>
    unfold x3
    refine Frame.step ?_ (State.startWindow_frame) rfl
    unfold x1
    refine Frame.fold ?_ (fun u a => ?_) _
    next =>
      unfold x0
      refine Frame.step ?_ (State.restartKernels_frame) rfl
      refine Frame.fold ?_ (fun v b => Frame.step Frame.refl State.adapt_frame rfl) _
      refine Frame.step ?_ (State.endWindow_frame) rfl
      exact Frame.refl
    next =>
      extract_lets -merge -lift +onlyGivenNames x5 x6
      refine Frame.ite ?_ ?_
      next =>
        unfold x6
        refine Frame.step ?_ (State.modCal_frame) rfl
        exact Frame.refl
      next =>
        refine Frame.step ?_ (State.setHealth_frame) rfl
        unfold x6
        refine Frame.step ?_ (State.modCal_frame) rfl
        exact Frame.refl

theorem State.substitute_frame {s : State} :
    Frame [.pe, .vc] s (State.substitute s) := by
  unfold State.substitute
  split
  next =>
    exact Frame.refl
  next =>
    extract_lets -merge -lift +onlyGivenNames x0
    refine Frame.fold ?_ (fun u a => ?_) _
    next =>
      exact Frame.refl
    next =>
      extract_lets -merge -lift +onlyGivenNames x1 x2 x3
      split
      next =>
        extract_lets -merge -lift +onlyGivenNames x4 x5
        refine Frame.pe ?_ rfl
        unfold x4
        refine Frame.step ?_ (State.modCal_frame) rfl
        unfold x1
        refine Frame.ite ?_ ?_
        next =>
          refine Frame.step ?_ (State.setHealth_frame) rfl
          exact Frame.refl
        next =>
          exact Frame.refl
      next =>
        refine Frame.pe ?_ rfl
        unfold x1
        refine Frame.ite ?_ ?_
        next =>
          refine Frame.step ?_ (State.setHealth_frame) rfl
          exact Frame.refl
        next =>
          exact Frame.refl

theorem State.applyForce_frame {s : State} :
    Frame [.regs, .vc, .ms] s (State.applyForce s) := by
  unfold State.applyForce
  refine Frame.fold ?_ (fun u a => ?_) _
  next =>
    exact Frame.refl
  next =>
    extract_lets -merge -lift +onlyGivenNames x0 x1 x2
    refine Frame.ite ?_ ?_
    next =>
      exact Frame.refl
    next =>
      refine Frame.ite ?_ ?_
      next =>
        refine Frame.step ?_ (State.stepTo_frame) rfl
        exact Frame.refl
      next =>
        refine Frame.ite ?_ ?_
        next =>
          refine Frame.step ?_ (State.stepTo_frame) rfl
          exact Frame.refl
        next =>
          exact Frame.refl

theorem State.takeTrims_frame {s : State} {slots} {rev} :
    FrameP [.vc] s (State.takeTrims s slots rev) := by
  unfold State.takeTrims
  refine FrameP.fold ?_ (fun u a => ?_) _
  next =>
    refine FrameP.mk ?_
    exact Frame.refl
  next =>
    extract_lets -merge -lift +onlyGivenNames x0 x1
    refine FrameP.ite ?_ ?_
    next =>
      refine FrameP.mk ?_
      unfold x0
      refine FrameP.out ?_
      exact Frame.refl
    next =>
      refine FrameP.mk ?_
      refine Frame.step ?_ (State.setCal_frame) rfl
      unfold x0
      refine FrameP.out ?_
      exact Frame.refl

theorem State.writeCalCtrl_frame {s : State} {src} {v} :
    Frame [.regs] s (State.writeCalCtrl s src v) := by
  unfold State.writeCalCtrl
  extract_lets -merge -lift +onlyGivenNames x0
  refine Frame.ite ?_ ?_
  next =>
    refine Frame.step ?_ (State.setReg_frame) rfl
    exact Frame.refl
  next =>
    exact Frame.refl

theorem State.releaseStream_frame {s : State} {k} :
    Frame [.pe] s (State.releaseStream s k) := by
  unfold State.releaseStream
  split
  next =>
    exact Frame.refl
  next =>
    extract_lets -merge -lift +onlyGivenNames x0 x1
    refine Frame.ite ?_ ?_
    next =>
      unfold x0
      refine Frame.step ?_ (State.setStream_frame) rfl
      exact Frame.refl
    next =>
      refine Frame.pe ?_ rfl
      unfold x0
      refine Frame.step ?_ (State.setStream_frame) rfl
      exact Frame.refl

theorem State.releaseAllDue_frame {s : State} :
    Frame [.pe] s (State.releaseAllDue s) := by
  unfold State.releaseAllDue
  refine Frame.fold ?_ (fun u a => ?_) _
  next =>
    exact Frame.refl
  next =>
    split
    next =>
      refine Frame.ite ?_ ?_
      next =>
        refine Frame.step ?_ (State.releaseStream_frame) rfl
        exact Frame.refl
      next =>
        exact Frame.refl
    next =>
      exact Frame.refl

theorem State.releaseLow_frame {s : State} :
    Frame [.pe] s (State.releaseLow s) := by
  unfold State.releaseLow
  extract_lets -merge -lift +onlyGivenNames x0
  refine Frame.ite ?_ ?_
  next =>
    refine Frame.pe ?_ rfl
    exact Frame.refl
  next =>
    exact Frame.refl

theorem State.setEngineCx_frame {s : State} {n} {e} :
    Frame [.cx] s (State.setEngineCx s n e) := by
  unfold State.setEngineCx
  extract_lets -merge -lift +onlyGivenNames x0
  refine Frame.cx ?_ rfl
  exact Frame.refl

theorem State.countEngine_frame {s : State} {n} {inB} {outB} {stored} :
    Frame [.regs, .cx] s (State.countEngine s n inB outB stored) := by
  unfold State.countEngine
  extract_lets -merge -lift +onlyGivenNames x0 x1 x2 x3
  refine Frame.step ?_ (State.bumpBy_frame) rfl
  refine Frame.step ?_ (State.bumpBy_frame) rfl
  refine Frame.step ?_ (State.bumpBy_frame) rfl
  unfold x3
  refine Frame.step ?_ (State.setEngineCx_frame) rfl
  exact Frame.refl

theorem State.putOut_frame {s : State} {eng} {o} {stored} :
    Frame [.regs, .cx] s (State.putOut s eng o stored) := by
  unfold State.putOut
  extract_lets -merge -lift +onlyGivenNames x0 x1
  refine Frame.cx ?_ rfl
  unfold x0
  refine Frame.step ?_ (State.countEngine_frame) rfl
  exact Frame.refl

theorem State.compressParcel_frame {s : State} {eng} {k} {budget} {start} :
    Frame [.regs, .cx] s (State.compressParcel s eng k budget start) := by
  unfold State.compressParcel
  split
  next =>
    exact Frame.refl
  next =>
    split
    next =>
      exact Frame.refl
    next =>
      extract_lets -merge -lift +onlyGivenNames x0 x1
      refine Frame.step ?_ (State.putOut_frame) rfl
      unfold x1
      refine Frame.step ?_ (State.setEngineCx_frame) rfl
      exact Frame.refl

theorem State.parcelCompress_frame {s : State} {eng} {k} {budget} {finish} :
    Frame [.regs, .cx, .ms] s (State.parcelCompress s eng k budget finish) := by
  unfold State.parcelCompress
  extract_lets -merge -lift +onlyGivenNames x0 x1
  refine Frame.ite ?_ ?_
  next =>
    exact Frame.refl
  next =>
    split
    next =>
      refine Frame.ite ?_ ?_
      next =>
        refine Frame.step ?_ (State.compressParcel_frame) rfl
        unfold x0
        refine Frame.step ?_ (State.yieldUnit_frame) rfl
        exact Frame.refl
      next =>
        unfold x0
        refine Frame.step ?_ (State.yieldUnit_frame) rfl
        exact Frame.refl
    next =>
      split
      next =>
        unfold x0
        refine Frame.step ?_ (State.yieldUnit_frame) rfl
        exact Frame.refl
      next =>
        extract_lets -merge -lift +onlyGivenNames x2
        refine Frame.ite ?_ ?_
        next =>
          unfold x0
          refine Frame.step ?_ (State.yieldUnit_frame) rfl
          exact Frame.refl
        next =>
          refine Frame.ite ?_ ?_
          next =>
            refine Frame.step ?_ (State.compressParcel_frame) rfl
            unfold x0
            refine Frame.step ?_ (State.yieldUnit_frame) rfl
            exact Frame.refl
          next =>
            refine Frame.step ?_ (State.setEngineCx_frame) rfl
            unfold x0
            refine Frame.step ?_ (State.yieldUnit_frame) rfl
            exact Frame.refl

theorem State.waitSave_frame {s : State} {eng} {k} {budget} :
    Frame [.regs, .cx, .ms] s (State.waitSave s eng k budget) := by
  unfold State.waitSave
  split
  next =>
    exact Frame.refl
  next =>
    extract_lets -merge -lift +onlyGivenNames x0 x1 x2 x3
    refine Frame.ite ?_ ?_
    next =>
      exact Frame.refl
    next =>
      refine Frame.step ?_ (State.parcelCompress_frame) rfl
      unfold x3
      refine Frame.step ?_ (State.bump_frame) rfl
      refine Frame.step ?_ (State.setEngineCx_frame) rfl
      unfold x1
      refine Frame.cx ?_ rfl
      exact Frame.refl

theorem State.contextRestore_frame {s : State} {eng} {img} :
    Frame [.regs, .cx] s (State.contextRestore s eng img) := by
  unfold State.contextRestore
  split
  next =>
    exact Frame.refl
  next =>
    extract_lets -merge -lift +onlyGivenNames x0 x1 x2
    refine Frame.ite ?_ ?_
    next =>
      exact Frame.refl
    next =>
      refine Frame.step ?_ (State.bump_frame) rfl
      refine Frame.step ?_ (State.setEngineCx_frame) rfl
      unfold x1
      refine Frame.cx ?_ rfl
      exact Frame.refl

theorem State.advanceFrontier_frame {s : State} :
    Frame [.pe] s (State.advanceFrontier s) := by
  unfold State.advanceFrontier
  extract_lets -merge -lift +onlyGivenNames x0
  refine Frame.pe ?_ rfl
  exact Frame.refl

theorem State.nearEnd_frame {s : State} :
    Frame [.regs, .hi, .qe, .pe, .out] s (State.nearEnd s) := by
  unfold State.nearEnd
  refine Frame.ite Frame.refl ?_
  extract_lets -merge -lift +onlyGivenNames x0 x1 x2 x3 x4
  refine Frame.ite ?_ ?_
  next =>
    refine Frame.pe ?_ rfl
    unfold x3
    refine Frame.ite ?_ ?_
    next =>
      refine Frame.step ?_ (State.chimeAll_frame) rfl
      refine Frame.pe ?_ rfl
      exact Frame.refl
    next =>
      exact Frame.refl
  next =>
    unfold x3
    refine Frame.ite ?_ ?_
    next =>
      refine Frame.step ?_ (State.chimeAll_frame) rfl
      refine Frame.pe ?_ rfl
      exact Frame.refl
    next =>
      exact Frame.refl

theorem State.outOfTape_frame {s : State} :
    Frame [.regs, .hi, .klt, .qe, .pe, .bm, .cx, .ms, .out] s (State.outOfTape s) := by
  unfold State.outOfTape
  refine Frame.fold ?_ (fun u a => ?_) _
  next =>
    exact Frame.refl
  next =>
    split
    next =>
      refine Frame.step ?_ (State.deferError_frame) rfl
      exact Frame.refl
    next =>
      exact Frame.refl

theorem State.noteRewrites_frame {s : State} :
    Frame [.df] s (State.noteRewrites s) := by
  unfold State.noteRewrites
  extract_lets -merge -lift +onlyGivenNames x0
  refine Frame.df ?_ rfl
  exact Frame.refl

theorem State.openGroup_frame {s : State} :
    Frame [.df] s (State.openGroup s) := by
  unfold State.openGroup
  extract_lets -merge -lift +onlyGivenNames x0
  split
  next =>
    unfold x0
    extract_lets -merge -lift +onlyGivenNames x1 x2
    refine Frame.df ?_ rfl
    exact Frame.refl
  next =>
    refine Frame.ite ?_ ?_
    next =>
      unfold x0
      extract_lets -merge -lift +onlyGivenNames x1 x2
      refine Frame.df ?_ rfl
      exact Frame.refl
    next =>
      exact Frame.refl

theorem State.modGroup_frame {s : State} {n} {f} :
    Frame [.df] s (State.modGroup s n f) := by
  unfold State.modGroup
  extract_lets -merge -lift +onlyGivenNames x0
  refine Frame.df ?_ rfl
  exact Frame.refl

theorem State.modDataset_frame {s : State} {n} {f} :
    Frame [.df] s (State.modDataset s n f) := by
  unfold State.modDataset
  extract_lets -merge -lift +onlyGivenNames x0
  refine Frame.df ?_ rfl
  exact Frame.refl

theorem State.makeDataset_frame {s : State} {kind} {num} {restart} {tiers} {slots} {steps} {w} {i} :
    FrameP [.df, .vc] s (State.makeDataset s kind num restart tiers slots steps w i) := by
  unfold State.makeDataset
  extract_lets -merge -lift +onlyGivenNames x0 x1 x2 x3 x4 x5
  refine FrameP.mk ?_
  unfold x5
  refine Frame.df ?_ rfl
  unfold x3
  refine FrameP.out ?_
  unfold x2
  refine FrameP.step ?_ (State.takeTrims_frame) rfl
  exact Frame.refl

theorem State.enqueue_frame {s : State} {d} :
    Frame [.pe, .df] s (State.enqueue s d) := by
  unfold State.enqueue
  extract_lets -merge -lift +onlyGivenNames x0 x1
  refine Frame.step ?_ (State.advanceFrontier_frame) rfl
  unfold x1
  refine Frame.df ?_ rfl
  exact Frame.refl

theorem State.joinGroup_frame {s : State} {d} :
    FrameP [.df] s (State.joinGroup s d) := by
  unfold State.joinGroup
  extract_lets -merge -lift +onlyGivenNames x0
  split
  next =>
    refine FrameP.mk ?_
    unfold x0
    refine Frame.step ?_ (State.openGroup_frame) rfl
    exact Frame.refl
  next =>
    extract_lets -merge -lift +onlyGivenNames x1
    refine FrameP.mk ?_
    unfold x1
    refine Frame.step ?_ (State.modGroup_frame) rfl
    unfold x0
    refine Frame.step ?_ (State.openGroup_frame) rfl
    exact Frame.refl

theorem State.takeNumber_frame {s : State} :
    Frame [.pe] s (State.takeNumber s) := by
  unfold State.takeNumber
  extract_lets -merge -lift +onlyGivenNames x0
  refine Frame.pe ?_ rfl
  exact Frame.refl

theorem State.putParcel_frame {s : State} {d} {f} {o} :
    FrameP [.pe] s (State.putParcel s d f o) := by
  unfold State.putParcel
  extract_lets -merge -lift +onlyGivenNames x0 x1 x2 x3
  refine FrameP.mk ?_
  unfold x3
  refine Frame.step ?_ (State.modStream_frame) rfl
  unfold x2
  refine Frame.pe ?_ rfl
  exact Frame.refl

theorem State.dropOut_frame {s : State} {o} :
    Frame [.cx] s (State.dropOut s o) := by
  unfold State.dropOut
  extract_lets -merge -lift +onlyGivenNames x0
  refine Frame.cx ?_ rfl
  exact Frame.refl

theorem State.fillOne_frame {s : State} {d} {f} {k} :
    FrameP [.regs, .pe, .cx] s (State.fillOne s d f k) := by
  unfold State.fillOne
  split
  next =>
    refine FrameP.mk ?_
    exact Frame.refl
  next =>
    refine FrameP.ite ?_ ?_
    next =>
      refine FrameP.mk ?_
      exact Frame.refl
    next =>
      split
      next =>
        refine FrameP.mk ?_
        exact Frame.refl
      next =>
        extract_lets -merge -lift +onlyGivenNames x0 x1
        refine FrameP.mk ?_
        refine FrameP.out ?_
        unfold x1
        refine FrameP.step ?_ (State.putParcel_frame) rfl
        unfold x0
        refine Frame.ite ?_ ?_
        next =>
          refine Frame.step ?_ (State.dropOut_frame) rfl
          exact Frame.refl
        next =>
          split
          next =>
            refine Frame.step ?_ (State.countEngine_frame) rfl
            exact Frame.refl
          next =>
            exact Frame.refl

theorem State.fillTurn_frame {s : State} {d : Dataset} {f : Filling} {k n : Nat} :
    FrameP [.regs, .pe, .cx] s (s.fillTurn d f k n) := by
  induction n generalizing s f with
  | zero => exact Frame.refl
  | succ n ih =>
    unfold State.fillTurn
    extract_lets r
    have hr : FrameP [.regs, .pe, .cx] s r := Frame.mono State.fillOne_frame rfl
    exact FrameP.ite hr (FrameP.ite (Frame.trans hr ih) hr)

theorem State.fillList_frame {s : State} {d : Dataset} {f : Filling} {l : List Nat} :
    FrameP [.regs, .pe, .cx] s (s.fillList d f l) := by
  induction l generalizing s f with
  | nil => exact Frame.refl
  | cons k t ih =>
    unfold State.fillList
    exact FrameP.ite Frame.refl (Frame.trans (Frame.mono State.fillTurn_frame rfl) ih)

theorem State.deficitOrder_frame {s : State} {ks} :
    FrameP [.pe] s (State.deficitOrder s ks) := by
  unfold State.deficitOrder
  extract_lets -merge -lift +onlyGivenNames x0 x1 x2 x3 x4 x5 x6 x7 x8
  refine FrameP.mk ?_
  unfold x6
  refine Frame.pe ?_ rfl
  exact Frame.refl

theorem State.chargeDeficits_frame {s : State} {ds} :
    Frame [.pe] s (State.chargeDeficits s ds) := by
  unfold State.chargeDeficits
  refine Frame.fold ?_ (fun u a => ?_) _
  next =>
    exact Frame.refl
  next =>
    split
    next =>
      extract_lets -merge -lift +onlyGivenNames x0
      refine Frame.pe ?_ rfl
      exact Frame.refl
    next =>
      exact Frame.refl

theorem State.fillData_frame {s : State} {d} :
    Frame [.regs, .pe, .cx] s (State.fillData s d) := by
  unfold State.fillData
  extract_lets -merge -lift +onlyGivenNames x0 x1 x2 x3 x4 x5 x6 x7
  refine Frame.ite ?_ ?_
  next =>
    refine Frame.step ?_ (State.chargeDeficits_frame) rfl
    unfold x7
    refine Frame.pe ?_ rfl
    unfold x5
    refine FrameP.out ?_
    unfold x4
    refine FrameP.step ?_ (State.fillList_frame) rfl
    refine FrameP.out ?_
    unfold x3
    refine FrameP.ite ?_ ?_
    next =>
      refine FrameP.step ?_ (State.deficitOrder_frame) rfl
      exact Frame.refl
    next =>
      refine FrameP.mk ?_
      exact Frame.refl
  next =>
    unfold x7
    refine Frame.pe ?_ rfl
    unfold x5
    refine FrameP.out ?_
    unfold x4
    refine FrameP.step ?_ (State.fillList_frame) rfl
    refine FrameP.out ?_
    unfold x3
    refine FrameP.ite ?_ ?_
    next =>
      refine FrameP.step ?_ (State.deficitOrder_frame) rfl
      exact Frame.refl
    next =>
      refine FrameP.mk ?_
      exact Frame.refl

theorem State.fillBook_frame {s : State} {d} :
    Frame [.qe, .pe] s (State.fillBook s d) := by
  unfold State.fillBook
  extract_lets -merge -lift +onlyGivenNames x0 x1 x2 x3 x4
  unfold x4
  refine Frame.anchor ?_ ?_
  next =>
    exact Frame.refl
  next =>
    intro p hp; cases p <;> first | exact absurd hp (by decide) | rfl

theorem State.writeSummary_frame {s : State} {isOpen} {root} :
    Frame [.ct, .out] s (State.writeSummary s isOpen root) := by
  unfold State.writeSummary
  extract_lets -merge -lift +onlyGivenNames x0 x1 x2 x3 x4
  refine Frame.step ?_ (State.emit_frame) rfl
  unfold x4
  refine Frame.ct ?_ rfl
  exact Frame.refl

theorem State.markOpen_frame {s : State} :
    Frame [.ct, .out] s (State.markOpen s) := by
  unfold State.markOpen
  extract_lets -merge -lift +onlyGivenNames x0
  refine Frame.ite ?_ ?_
  next =>
    exact Frame.refl
  next =>
    refine Frame.step ?_ (State.writeSummary_frame) rfl
    refine Frame.ct ?_ rfl
    exact Frame.refl

theorem State.afterForm_frame {s : State} {d} :
    Frame [.regs, .hi, .qe, .pe, .bm, .df, .vc, .out, .fresh] s (State.afterForm s d) := by
  unfold State.afterForm
  extract_lets -merge -lift +onlyGivenNames x0 x1 x2 x3 x4
  refine Frame.step ?_ (State.rewatch_frame) rfl
  refine Frame.step ?_ (State.nearEnd_frame) rfl
  refine Frame.step ?_ (State.noteRewrites_frame) rfl
  refine Frame.step ?_ (State.draw_frame) rfl
  unfold x4
  refine Frame.anchor ?_ ?_
  next =>
    exact Frame.refl
  next =>
    intro p hp; cases p <;> first | exact absurd hp (by decide) | rfl

theorem State.refuseForm_frame {s : State} :
    Frame [.regs, .hi, .klt, .qe, .pe, .bm, .cx, .ms, .out] s (State.refuseForm s) := by
  unfold State.refuseForm
  extract_lets -merge -lift +onlyGivenNames x0
  refine Frame.step ?_ (State.cutOff_frame) rfl
  refine Frame.pe ?_ rfl
  exact Frame.refl

theorem State.formVoid_frame {s : State} {w} {i} :
    Frame [.pe, .df, .out] s (State.formVoid s w i) := by
  unfold State.formVoid
  extract_lets -merge -lift +onlyGivenNames x0
  refine Frame.step ?_ (State.advanceFrontier_frame) rfl
  refine Frame.step ?_ (State.emit_frame) rfl
  refine Frame.df ?_ rfl
  exact Frame.refl

theorem State.formRestart_frame {s : State} {old} {w} {i} :
    Frame [.regs, .hi, .qe, .pe, .bm, .df, .vc, .out, .fresh] s (State.formRestart s old w i) := by
  unfold State.formRestart
  extract_lets -merge -lift +onlyGivenNames x0 x1 x2 x3 x4 x5 x6 x7 x8 x9 x10 x11
  refine Frame.ite ?_ ?_
  next =>
    exact Frame.refl
  next =>
    refine Frame.step ?_ (State.afterForm_frame) rfl
    unfold x11
    refine Frame.step ?_ (State.bump_frame) rfl
    refine Frame.step ?_ (State.enqueue_frame) rfl
    unfold x10
    refine Frame.step ?_ (State.modGroup_frame) rfl
    unfold x9
    refine Frame.pe ?_ rfl
    unfold x7
    refine FrameP.out ?_
    unfold x4
    refine FrameP.step ?_ (State.makeDataset_frame) rfl
    unfold x3
    refine Frame.df ?_ rfl
    exact Frame.refl

theorem State.formParity_frame {s : State} {g} {w} {i} :
    Frame [.regs, .hi, .qe, .pe, .bm, .df, .vc, .out, .fresh] s (State.formParity s g w i) := by
  unfold State.formParity
  extract_lets -merge -lift +onlyGivenNames x0 x1 x2 x3 x4 x5 x6 x7 x8 x9 x10 x11 x12 x13
  refine Frame.ite ?_ ?_
  next =>
    exact Frame.refl
  next =>
    refine Frame.step ?_ (State.afterForm_frame) rfl
    refine Frame.step ?_ (State.enqueue_frame) rfl
    unfold x13
    refine Frame.step ?_ (State.modGroup_frame) rfl
    refine FrameP.out ?_
    unfold x8
    refine FrameP.step ?_ (State.makeDataset_frame) rfl
    refine Frame.step ?_ (State.takeNumber_frame) rfl
    exact Frame.refl

theorem State.formMember_frame {s : State} {book} {w} {i} :
    Frame [.regs, .hi, .qe, .pe, .bm, .cx, .df, .vc, .out, .fresh] s (State.formMember s book w i) := by
  unfold State.formMember
  extract_lets -merge -lift +onlyGivenNames x0 x1 x2 x3 x4 x5 x6 x7 x8
  refine Frame.step ?_ (State.afterForm_frame) rfl
  refine Frame.step ?_ (State.enqueue_frame) rfl
  unfold x8
  refine Frame.ite ?_ ?_
  next =>
    unfold x6
    refine Frame.ite ?_ ?_
    next =>
      refine Frame.step ?_ (State.fillBook_frame) rfl
      refine FrameP.out ?_
      unfold x4
      refine FrameP.step ?_ (State.joinGroup_frame) rfl
      refine FrameP.out ?_
      unfold x3
      refine FrameP.step ?_ (State.makeDataset_frame) rfl
      refine Frame.step ?_ (State.takeNumber_frame) rfl
      exact Frame.refl
    next =>
      refine Frame.step ?_ (State.fillData_frame) rfl
      refine FrameP.out ?_
      unfold x4
      refine FrameP.step ?_ (State.joinGroup_frame) rfl
      refine FrameP.out ?_
      unfold x3
      refine FrameP.step ?_ (State.makeDataset_frame) rfl
      refine Frame.step ?_ (State.takeNumber_frame) rfl
      exact Frame.refl
  next =>
    refine Frame.pe ?_ rfl
    unfold x6
    refine Frame.ite ?_ ?_
    next =>
      refine Frame.step ?_ (State.fillBook_frame) rfl
      refine FrameP.out ?_
      unfold x4
      refine FrameP.step ?_ (State.joinGroup_frame) rfl
      refine FrameP.out ?_
      unfold x3
      refine FrameP.step ?_ (State.makeDataset_frame) rfl
      refine Frame.step ?_ (State.takeNumber_frame) rfl
      exact Frame.refl
    next =>
      refine Frame.step ?_ (State.fillData_frame) rfl
      refine FrameP.out ?_
      unfold x4
      refine FrameP.step ?_ (State.joinGroup_frame) rfl
      refine FrameP.out ?_
      unfold x3
      refine FrameP.step ?_ (State.makeDataset_frame) rfl
      refine Frame.step ?_ (State.takeNumber_frame) rfl
      exact Frame.refl

theorem State.formNext_frame {s : State} :
    Frame [.regs, .hi, .klt, .qe, .pe, .bm, .cx, .df, .vc, .ct, .ms, .out, .fresh] s (State.formNext s) := by
  unfold State.formNext
  extract_lets -merge -lift +onlyGivenNames x0 x1 x2
  refine Frame.ite ?_ ?_
  next =>
    refine Frame.ite ?_ ?_
    next =>
      refine Frame.step ?_ (State.outOfTape_frame) rfl
      exact Frame.refl
    next =>
      exact Frame.refl
  next =>
    refine Frame.ite ?_ ?_
    next =>
      refine Frame.step ?_ (State.refuseForm_frame) rfl
      unfold x0
      refine Frame.step ?_ (State.applyForce_frame) rfl
      refine Frame.step ?_ (State.substitute_frame) rfl
      exact Frame.refl
    next =>
      split
      next =>
        unfold x1
        refine Frame.step ?_ (State.markOpen_frame) rfl
        unfold x0
        refine Frame.step ?_ (State.applyForce_frame) rfl
        refine Frame.step ?_ (State.substitute_frame) rfl
        exact Frame.refl
      next =>
        refine Frame.ite ?_ ?_
        next =>
          refine Frame.step ?_ (State.formVoid_frame) rfl
          unfold x1
          refine Frame.step ?_ (State.markOpen_frame) rfl
          unfold x0
          refine Frame.step ?_ (State.applyForce_frame) rfl
          refine Frame.step ?_ (State.substitute_frame) rfl
          exact Frame.refl
        next =>
          split
          next =>
            refine Frame.step ?_ (State.formRestart_frame) rfl
            unfold x1
            refine Frame.step ?_ (State.markOpen_frame) rfl
            unfold x0
            refine Frame.step ?_ (State.applyForce_frame) rfl
            refine Frame.step ?_ (State.substitute_frame) rfl
            exact Frame.refl
          next =>
            split
            next =>
              refine Frame.step ?_ (State.formParity_frame) rfl
              unfold x1
              refine Frame.step ?_ (State.markOpen_frame) rfl
              unfold x0
              refine Frame.step ?_ (State.applyForce_frame) rfl
              refine Frame.step ?_ (State.substitute_frame) rfl
              exact Frame.refl
            next =>
              refine Frame.ite ?_ ?_
              next =>
                unfold x1
                refine Frame.step ?_ (State.markOpen_frame) rfl
                unfold x0
                refine Frame.step ?_ (State.applyForce_frame) rfl
                refine Frame.step ?_ (State.substitute_frame) rfl
                exact Frame.refl
              next =>
                refine Frame.ite ?_ ?_
                next =>
                  refine Frame.step ?_ (State.formMember_frame) rfl
                  unfold x1
                  refine Frame.step ?_ (State.markOpen_frame) rfl
                  unfold x0
                  refine Frame.step ?_ (State.applyForce_frame) rfl
                  refine Frame.step ?_ (State.substitute_frame) rfl
                  exact Frame.refl
                next =>
                  refine Frame.ite ?_ ?_
                  next =>
                    unfold x2
                    refine Frame.step ?_ (State.releaseLow_frame) rfl
                    refine Frame.step ?_ (State.releaseAllDue_frame) rfl
                    unfold x1
                    refine Frame.step ?_ (State.markOpen_frame) rfl
                    unfold x0
                    refine Frame.step ?_ (State.applyForce_frame) rfl
                    refine Frame.step ?_ (State.substitute_frame) rfl
                    exact Frame.refl
                  next =>
                    refine Frame.step ?_ (State.formMember_frame) rfl
                    unfold x2
                    refine Frame.step ?_ (State.releaseLow_frame) rfl
                    refine Frame.step ?_ (State.releaseAllDue_frame) rfl
                    unfold x1
                    refine Frame.step ?_ (State.markOpen_frame) rfl
                    unfold x0
                    refine Frame.step ?_ (State.applyForce_frame) rfl
                    refine Frame.step ?_ (State.substitute_frame) rfl
                    exact Frame.refl

end Sys2Proof.Machine
end

