-- ==== Sys2Proof/Laws/FramesTape.lean ====
section
/-! SUPPORT. Which parts of the state each operation of the write path, the read path and the servo loops can change: one lemma for each. -/

namespace Sys2Proof.Machine

theorem State.settleRetiring_frame {s : State} {g} :
    Frame [.ce] s (State.settleRetiring s g) := by
  unfold State.settleRetiring
  extract_lets -merge -lift +onlyGivenNames x0
  refine Frame.ite ?_ ?_
  next =>
    refine Frame.step ?_ (State.setSlot_frame) rfl
    exact Frame.refl
  next =>
    exact Frame.refl

theorem State.setParcel_frame {s : State} {p} :
    Frame [.pe] s (State.setParcel s p) := by
  unfold State.setParcel
  extract_lets -merge -lift +onlyGivenNames x0
  refine Frame.pe ?_ rfl
  exact Frame.refl

theorem State.emitFrame_frame {s : State} {g} {at_} {info} :
    Frame [.regs, .out] s (State.emitFrame s g at_ info) := by
  unfold State.emitFrame
  extract_lets -merge -lift +onlyGivenNames x0
  refine Frame.step ?_ (State.bumpBy_frame) rfl
  refine Frame.step ?_ (State.emit_frame) rfl
  exact Frame.refl

theorem State.startEncode_frame {s : State} {d} :
    Frame [.df] s (State.startEncode s d) := by
  unfold State.startEncode
  extract_lets -merge -lift +onlyGivenNames x0 x1
  refine Frame.ite ?_ ?_
  next =>
    exact Frame.refl
  next =>
    refine Frame.ite ?_ ?_
    next =>
      unfold x0
      refine Frame.step ?_ (State.modDataset_frame) rfl
      exact Frame.refl
    next =>
      refine Frame.step ?_ (State.modGroup_frame) rfl
      unfold x0
      refine Frame.step ?_ (State.modDataset_frame) rfl
      exact Frame.refl

theorem State.encodeRest_frame {s : State} {d} :
    Frame [.regs, .out] s (State.encodeRest s d) := by
  unfold State.encodeRest
  extract_lets -merge -lift +onlyGivenNames x0 x1
  refine Frame.fold ?_ (fun u a => ?_) _
  next =>
    unfold x1
    refine Frame.step ?_ (State.bumpBy_frame) rfl
    refine Frame.step ?_ (State.bumpBy_frame) rfl
    unfold x0
    refine Frame.fold ?_ (fun u a => ?_) _
    next =>
      exact Frame.refl
    next =>
      refine Frame.step ?_ (State.emitFrame_frame) rfl
      exact Frame.refl
  next =>
    refine Frame.step ?_ (State.emit_frame) rfl
    exact Frame.refl

theorem State.encFaults_frame {s : State} {ds n : Nat} : Frame [.regs, .ms] s (s.encFaults ds n) := by
  induction n generalizing s with
  | zero => exact Frame.refl
  | succ n ih =>
    exact (Frame.step (Frame.step Frame.refl State.bump_frame rfl) State.logEv_frame rfl).trans ih

theorem State.tierEncode_frame {s : State} {ds} {t} {faults} :
    Frame [.regs, .bm, .df, .ms, .out] s (State.tierEncode s ds t faults) := by
  unfold State.tierEncode
  split
  next =>
    exact Frame.refl
  next =>
    extract_lets -merge -lift +onlyGivenNames x0 x1 x2 x3 x4
    refine Frame.ite ?_ ?_
    next =>
      exact Frame.refl
    next =>
      refine Frame.step ?_ (State.rewatch_frame) rfl
      refine Frame.ite ?_ ?_
      next =>
        refine Frame.step ?_ (State.encodeRest_frame) rfl
        unfold x4
        refine Frame.step ?_ (State.modDataset_frame) rfl
        unfold x3
        refine Frame.step ?_ (State.encFaults_frame) rfl
        refine Frame.step ?_ (State.bump_frame) rfl
        unfold x2
        refine Frame.fold ?_ (fun u a => ?_) _
        next =>
          unfold x0
          refine Frame.step ?_ (State.startEncode_frame) rfl
          exact Frame.refl
        next =>
          refine Frame.step ?_ (State.emitFrame_frame) rfl
          exact Frame.refl
      next =>
        unfold x4
        refine Frame.step ?_ (State.modDataset_frame) rfl
        unfold x3
        refine Frame.step ?_ (State.encFaults_frame) rfl
        refine Frame.step ?_ (State.bump_frame) rfl
        unfold x2
        refine Frame.fold ?_ (fun u a => ?_) _
        next =>
          unfold x0
          refine Frame.step ?_ (State.startEncode_frame) rfl
          exact Frame.refl
        next =>
          refine Frame.step ?_ (State.emitFrame_frame) rfl
          exact Frame.refl

theorem State.raiseTrigger_frame {s : State} {t} :
    Frame [.regs, .wc] s (State.raiseTrigger s t) := by
  unfold State.raiseTrigger
  extract_lets -merge -lift +onlyGivenNames x0 x1 x2
  refine Frame.wc ?_ rfl
  unfold x1
  split
  next =>
    refine Frame.ite ?_ ?_
    next =>
      refine Frame.step ?_ (State.bump_frame) rfl
      exact Frame.refl
    next =>
      exact Frame.refl
  next =>
    exact Frame.refl

theorem State.clearTrigger_frame {s : State} {t} :
    Frame [.wc] s (State.clearTrigger s t) := by
  unfold State.clearTrigger
  extract_lets -merge -lift +onlyGivenNames x0
  refine Frame.wc ?_ rfl
  exact Frame.refl

theorem State.bump48_frame {s : State} {lo} {hi} {inst} {sel} {n} :
    Frame [.regs] s (State.bump48 s lo hi inst sel n) := by
  unfold State.bump48
  extract_lets -merge -lift +onlyGivenNames x0
  refine Frame.step ?_ (State.setReg_frame) rfl
  refine Frame.step ?_ (State.setReg_frame) rfl
  exact Frame.refl

theorem State.countFill_frame {s : State} {d} :
    Frame [.regs, .df] s (State.countFill s d) := by
  unfold State.countFill
  extract_lets -merge -lift +onlyGivenNames x0 x1
  refine Frame.ite ?_ ?_
  next =>
    exact Frame.refl
  next =>
    refine Frame.step ?_ (State.bumpBy_frame) rfl
    refine Frame.df ?_ rfl
    exact Frame.refl

theorem State.markWritten_frame {s : State} {ds} :
    Frame [.regs, .bm, .df] s (State.markWritten s ds) := by
  unfold State.markWritten
  split
  next =>
    exact Frame.refl
  next =>
    extract_lets -merge -lift +onlyGivenNames x0 x1 x2 x3
    refine Frame.ite ?_ ?_
    next =>
      exact Frame.refl
    next =>
      refine Frame.step ?_ (State.rewatch_frame) rfl
      refine Frame.step ?_ (State.countFill_frame) rfl
      refine Frame.step ?_ (State.bumpBy_frame) rfl
      unfold x3
      refine Frame.fold ?_ (fun u a => ?_) _
      next =>
        unfold x2
        refine Frame.df ?_ rfl
        unfold x0
        refine Frame.step ?_ (State.modDataset_frame) rfl
        exact Frame.refl
      next =>
        refine Frame.step ?_ (State.bump48_frame) rfl
        exact Frame.refl

theorem State.startRun_frame {s : State} :
    Frame [.df, .wc, .sm] s (State.startRun s) := by
  unfold State.startRun
  split
  next =>
    exact Frame.refl
  next =>
    extract_lets -merge -lift +onlyGivenNames x0 x1 x2
    refine Frame.ite ?_ ?_
    next =>
      exact Frame.refl
    next =>
      refine Frame.anchor ?_ ?_
      next =>
        exact Frame.refl
      next =>
        intro p hp; cases p <;> first | exact absurd hp (by decide) | rfl

theorem State.maybeBackhitch_frame {s : State} :
    Frame [.regs, .df] s (State.maybeBackhitch s) := by
  unfold State.maybeBackhitch
  extract_lets -merge -lift +onlyGivenNames x0 x1
  refine Frame.ite ?_ ?_
  next =>
    refine Frame.step ?_ (State.bump_frame) rfl
    refine Frame.df ?_ rfl
    exact Frame.refl
  next =>
    exact Frame.refl

theorem State.endRun_frame {s : State} {n} :
    Frame [.regs, .bm, .df, .wc] s (State.endRun s n) := by
  unfold State.endRun
  extract_lets -merge -lift +onlyGivenNames x0 x1 x2 x3 x4
  refine Frame.ite ?_ ?_
  next =>
    exact Frame.refl
  next =>
    refine Frame.step ?_ (State.maybeBackhitch_frame) rfl
    unfold x4
    refine Frame.anchor ?_ ?_
    next =>
      unfold x1
      refine Frame.fold ?_ (fun u a => ?_) _
      next =>
        exact Frame.refl
      next =>
        refine Frame.step ?_ (State.markWritten_frame) rfl
        exact Frame.refl
    next =>
      clear_value x1
      intro p hp; cases p <;> first | exact absurd hp (by decide) | rfl

theorem State.resumeBackhitch_frame {s : State} {ms} :
    Frame [.regs, .df, .wc, .sm] s (State.resumeBackhitch s ms) := by
  unfold State.resumeBackhitch
  extract_lets -merge -lift +onlyGivenNames x0 x1 x2
  refine Frame.ite ?_ ?_
  next =>
    refine Frame.step ?_ (State.startRun_frame) rfl
    refine Frame.step ?_ (State.bumpBy_frame) rfl
    refine Frame.df ?_ rfl
    exact Frame.refl
  next =>
    exact Frame.refl

theorem State.dropRewrites_frame {s : State} {ds} :
    Frame [.df] s (State.dropRewrites s ds) := by
  unfold State.dropRewrites
  extract_lets -merge -lift +onlyGivenNames x0
  refine Frame.df ?_ rfl
  exact Frame.refl

theorem State.abandon_frame {s : State} {d} :
    Frame [.regs, .hi, .klt, .qe, .pe, .bm, .cx, .df, .ms, .out] s (State.abandon s d) := by
  unfold State.abandon
  extract_lets -merge -lift +onlyGivenNames x0 x1 x2 x3 x4 x5 x6 x7 x8
  refine Frame.step ?_ (State.logEv_frame) rfl
  refine Frame.step ?_ (State.bump_frame) rfl
  unfold x8
  refine Frame.step ?_ (State.setReg_frame) rfl
  refine Frame.step ?_ (State.setReg_frame) rfl
  unfold x7
  refine Frame.anchor ?_ ?_
  next =>
    unfold x3
    refine Frame.fold ?_ (fun u a => ?_) _
    next =>
      unfold x2
      refine Frame.step ?_ (State.modDataset_frame) rfl
      exact Frame.refl
    next =>
      split
      next =>
        refine Frame.step ?_ (State.deferError_frame) rfl
        exact Frame.refl
      next =>
        exact Frame.refl
  next =>
    clear_value x3
    intro p hp; cases p <;> first | exact absurd hp (by decide) | rfl

theorem State.restart_frame {s : State} {ds} :
    Frame [.regs, .hi, .klt, .qe, .pe, .bm, .cx, .df, .ms, .out] s (State.restart s ds) := by
  unfold State.restart
  split
  next =>
    exact Frame.refl
  next =>
    extract_lets -merge -lift +onlyGivenNames x0 x1 x2 x3
    refine Frame.ite ?_ ?_
    next =>
      exact Frame.refl
    next =>
      refine Frame.ite ?_ ?_
      next =>
        refine Frame.step ?_ (State.abandon_frame) rfl
        unfold x0
        refine Frame.step ?_ (State.dropRewrites_frame) rfl
        exact Frame.refl
      next =>
        refine Frame.step ?_ (State.logEv_frame) rfl
        unfold x3
        refine Frame.df ?_ rfl
        unfold x1
        refine Frame.step ?_ (State.modDataset_frame) rfl
        unfold x0
        refine Frame.step ?_ (State.dropRewrites_frame) rfl
        exact Frame.refl

theorem State.needRewrite_frame {s : State} {d} {t} {i} {slot} :
    Frame [.regs, .hi, .klt, .qe, .pe, .bm, .cx, .df, .ms, .out] s (State.needRewrite s d t i slot) := by
  unfold State.needRewrite
  extract_lets -merge -lift +onlyGivenNames x0 x1 x2 x3
  refine Frame.ite ?_ ?_
  next =>
    exact Frame.refl
  next =>
    refine Frame.ite ?_ ?_
    next =>
      refine Frame.step ?_ (State.restart_frame) rfl
      unfold x0
      refine Frame.step ?_ (State.modDataset_frame) rfl
      exact Frame.refl
    next =>
      refine Frame.step ?_ (State.noteRewrites_frame) rfl
      refine Frame.df ?_ rfl
      unfold x0
      refine Frame.step ?_ (State.modDataset_frame) rfl
      exact Frame.refl

theorem State.modRewrite_frame {s : State} {r} {f} :
    Frame [.df] s (State.modRewrite s r f) := by
  unfold State.modRewrite
  extract_lets -merge -lift +onlyGivenNames x0
  refine Frame.df ?_ rfl
  exact Frame.refl

theorem State.loseFrame_frame {s : State} {p} :
    Frame [.regs, .hi, .klt, .qe, .pe, .bm, .cx, .df, .ms, .out] s (State.loseFrame s p) := by
  unfold State.loseFrame
  split
  next =>
    exact Frame.refl
  next =>
    extract_lets -merge -lift +onlyGivenNames x0
    split
    next =>
      refine Frame.step ?_ (State.needRewrite_frame) rfl
      unfold x0
      refine Frame.step ?_ (State.modDataset_frame) rfl
      exact Frame.refl
    next =>
      split
      next =>
        refine Frame.step ?_ (State.modRewrite_frame) rfl
        unfold x0
        refine Frame.step ?_ (State.modDataset_frame) rfl
        exact Frame.refl
      next =>
        unfold x0
        refine Frame.step ?_ (State.modDataset_frame) rfl
        exact Frame.refl
    next =>
      unfold x0
      refine Frame.step ?_ (State.modDataset_frame) rfl
      exact Frame.refl

theorem State.cutFrame_frame {s : State} {p} :
    Frame [.regs, .hi, .klt, .qe, .pe, .bm, .cx, .df, .vc, .ms, .out] s (State.cutFrame s p) := by
  unfold State.cutFrame
  extract_lets -merge -lift +onlyGivenNames x0
  refine Frame.ite ?_ ?_
  next =>
    have h : Frame [.regs, .hi, .klt, .qe, .pe, .bm, .cx, .df, .vc, .ms, .out] s x0 :=
      Frame.step (Frame.step Frame.refl State.bump_frame rfl) State.loseFrame_frame rfl
    split
    next => exact Frame.step h State.formRecord_frame rfl
    next => exact h
  next =>
    exact Frame.refl

theorem State.resumeGates_frame {s : State} {cut} :
    Frame [.regs, .hi, .klt, .qe, .pe, .bm, .cx, .df, .wc, .vc, .ms, .out] s (State.resumeGates s cut) := by
  unfold State.resumeGates
  extract_lets -merge -lift +onlyGivenNames x0 x1 x2
  refine Frame.ite ?_ ?_
  next =>
    exact Frame.refl
  next =>
    refine Frame.wc ?_ rfl
    unfold x0
    refine Frame.fold ?_ (fun u a => ?_) _
    next =>
      exact Frame.refl
    next =>
      refine Frame.step ?_ (State.cutFrame_frame) rfl
      exact Frame.refl

theorem State.makeDurable_frame {s : State} {d} :
    Frame [.pe] s (State.makeDurable s d) := by
  unfold State.makeDurable
  extract_lets -merge -lift +onlyGivenNames x0 x1 x2
  refine Frame.pe ?_ rfl
  unfold x1
  refine Frame.pe ?_ rfl
  exact Frame.refl

theorem State.passMark_frame {s : State} {nums} {k} :
    Frame [.pe, .bm] s (State.passMark s nums k) := by
  unfold State.passMark
  split
  next =>
    exact Frame.refl
  next =>
    extract_lets -merge -lift +onlyGivenNames x0 x1
    refine Frame.step ?_ (State.giveBack_frame) rfl
    refine Frame.step ?_ (State.setStream_frame) rfl
    exact Frame.refl

theorem State.releaseGroup_frame {s : State} {g} :
    Frame [.regs, .hi, .qe, .pe, .bm, .df, .out] s (State.releaseGroup s g) := by
  unfold State.releaseGroup
  extract_lets -merge -lift +onlyGivenNames x0 x1 x2 x3 x4
  refine Frame.step ?_ (State.recredit_frame) rfl
  unfold x4
  refine Frame.anchor ?_ ?_
  next =>
    unfold x1
    refine Frame.fold ?_ (fun u a => ?_) _
    next =>
      exact Frame.refl
    next =>
      refine Frame.step ?_ (State.passMark_frame) rfl
      exact Frame.refl
  next =>
    clear_value x1
    intro p hp; cases p <;> first | exact absurd hp (by decide) | rfl

theorem State.releaseGroups_frame {s : State} {l : List Group} : Frame [.regs, .hi, .qe, .pe, .bm, .df, .out] s
    (s.releaseGroups l) := by
  induction l generalizing s with
  | nil => exact Frame.refl
  | cons g t ih =>
    unfold State.releaseGroups
    exact Frame.ite ((Frame.step Frame.refl State.releaseGroup_frame rfl).trans ih) Frame.refl

theorem State.checkVerified_frame {s : State} {ds} :
    Frame [.regs, .hi, .qe, .pe, .bm, .df, .out] s (State.checkVerified s ds) := by
  unfold State.checkVerified
  split
  next =>
    exact Frame.refl
  next =>
    extract_lets -merge -lift +onlyGivenNames x0 x1
    refine Frame.ite ?_ ?_
    next =>
      exact Frame.refl
    next =>
      refine Frame.step ?_ (State.releaseGroups_frame) rfl
      unfold x1
      refine Frame.step ?_ (State.makeDurable_frame) rfl
      unfold x0
      refine Frame.step ?_ (State.modDataset_frame) rfl
      exact Frame.refl

theorem State.frameGood_frame {s : State} {ds} {t} {i} :
    Frame [.regs, .hi, .qe, .pe, .bm, .df, .out] s (State.frameGood s ds t i) := by
  unfold State.frameGood
  extract_lets -merge -lift +onlyGivenNames x0 x1
  refine Frame.step ?_ (State.checkVerified_frame) rfl
  unfold x1
  refine Frame.step ?_ (State.modDataset_frame) rfl
  exact Frame.refl

theorem State.countGrade_frame {s : State} {slot} {g} {m} {good} :
    Frame [.regs] s (State.countGrade s slot g m good) := by
  unfold State.countGrade
  extract_lets -merge -lift +onlyGivenNames x0
  refine Frame.step ?_ (State.setReg_frame) rfl
  unfold x0
  refine Frame.ite ?_ ?_
  next =>
    refine Frame.step ?_ (State.bump48_frame) rfl
    exact Frame.refl
  next =>
    refine Frame.ite ?_ ?_
    next =>
      refine Frame.step ?_ (State.bump_frame) rfl
      exact Frame.refl
    next =>
      refine Frame.step ?_ (State.bump_frame) rfl
      exact Frame.refl

theorem State.addTally_frame {s : State} {p} {m} {good} :
    Frame [.vc] s (State.addTally s p m good) := by
  unfold State.addTally
  extract_lets -merge -lift +onlyGivenNames x0
  refine Frame.step ?_ (State.setTally_frame) rfl
  exact Frame.refl

theorem State.blame_frame {s : State} {slot} :
    Frame [.pe] s (State.blame s slot) := by
  unfold State.blame
  extract_lets -merge -lift +onlyGivenNames x0
  refine Frame.pe ?_ rfl
  exact Frame.refl

theorem State.gradeRewrite_frame {s : State} {ds} {r} {slot} {good} :
    Frame [.regs, .hi, .klt, .qe, .pe, .bm, .cx, .df, .ms, .out] s (State.gradeRewrite s ds r slot good) := by
  unfold State.gradeRewrite
  split
  next =>
    exact Frame.refl
  next =>
    extract_lets -merge -lift +onlyGivenNames x0 x1 x2
    refine Frame.ite ?_ ?_
    next =>
      exact Frame.refl
    next =>
      refine Frame.ite ?_ ?_
      next =>
        refine Frame.step ?_ (State.frameGood_frame) rfl
        unfold x1
        refine Frame.df ?_ rfl
        exact Frame.refl
      next =>
        refine Frame.ite ?_ ?_
        next =>
          refine Frame.step ?_ (State.restart_frame) rfl
          unfold x2
          refine Frame.step ?_ (State.blame_frame) rfl
          exact Frame.refl
        next =>
          refine Frame.step ?_ (State.modRewrite_frame) rfl
          unfold x2
          refine Frame.step ?_ (State.blame_frame) rfl
          exact Frame.refl

theorem State.gradeRole_frame {s : State} {d} {p} {good} :
    Frame [.regs, .hi, .klt, .qe, .pe, .bm, .cx, .df, .ms, .out] s (State.gradeRole s d p good) := by
  unfold State.gradeRole
  split
  next =>
    refine Frame.ite ?_ ?_
    next =>
      exact Frame.refl
    next =>
      refine Frame.ite ?_ ?_
      next =>
        refine Frame.step ?_ (State.frameGood_frame) rfl
        exact Frame.refl
      next =>
        refine Frame.step ?_ (State.needRewrite_frame) rfl
        refine Frame.step ?_ (State.blame_frame) rfl
        exact Frame.refl
  next =>
    split
    next =>
      refine Frame.step ?_ (State.gradeRewrite_frame) rfl
      exact Frame.refl
    next =>
      exact Frame.refl
  next =>
    exact Frame.refl

theorem State.gradeFrame_frame {s : State} {p} :
    Frame [.regs, .hi, .klt, .qe, .pe, .bm, .cx, .df, .ed, .vc, .ms, .out] s (State.gradeFrame s p) := by
  unfold State.gradeFrame
  split
  next =>
    extract_lets -merge -lift +onlyGivenNames x0 x1 x2 x3 x4 x5 x6
    refine Frame.ite ?_ ?_
    next =>
      unfold x1
      refine Frame.ed ?_ rfl
      exact Frame.refl
    next =>
      refine Frame.step ?_ (State.rewatch_frame) rfl
      refine Frame.step ?_ (State.gradeRole_frame) rfl
      unfold x6
      split
      next =>
        refine Frame.step ?_ (State.formRecord_frame) rfl
        unfold x5
        refine Frame.step ?_ (State.addTally_frame) rfl
        refine Frame.step ?_ (State.modDataset_frame) rfl
        unfold x4
        refine Frame.step ?_ (State.countGrade_frame) rfl
        refine Frame.step ?_ (State.markWritten_frame) rfl
        unfold x1
        refine Frame.ed ?_ rfl
        exact Frame.refl
      next =>
        unfold x5
        refine Frame.step ?_ (State.addTally_frame) rfl
        refine Frame.step ?_ (State.modDataset_frame) rfl
        unfold x4
        refine Frame.step ?_ (State.countGrade_frame) rfl
        refine Frame.step ?_ (State.markWritten_frame) rfl
        unfold x1
        refine Frame.ed ?_ rfl
        exact Frame.refl
  next =>
    exact Frame.refl

theorem State.groupClose_frame {s : State} {ms} :
    Frame [.df] s (State.groupClose s ms) := by
  unfold State.groupClose
  split
  next =>
    exact Frame.refl
  next =>
    extract_lets -merge -lift +onlyGivenNames x0 x1
    refine Frame.step ?_ (State.modGroup_frame) rfl
    exact Frame.refl

theorem State.modChan_frame {s : State} {n} {g} :
    Frame [.rc] s (State.modChan s n g) := by
  unfold State.modChan
  extract_lets -merge -lift +onlyGivenNames x0
  refine Frame.ite ?_ ?_
  next =>
    refine Frame.rc ?_ rfl
    exact Frame.refl
  next =>
    exact Frame.refl

theorem State.spreadSteps_frame {s : State} {g} :
    Frame [.rc] s (State.spreadSteps s g) := by
  unfold State.spreadSteps
  refine Frame.fold ?_ (fun u a => ?_) _
  next =>
    exact Frame.refl
  next =>
    refine Frame.step ?_ (State.modChan_frame) rfl
    exact Frame.refl

theorem State.keepGeometry_frame {s : State} {g} :
    Frame [.rc] s (State.keepGeometry s g) := by
  unfold State.keepGeometry
  split
  next =>
    extract_lets -merge -lift +onlyGivenNames x0
    refine Frame.ite ?_ ?_
    next =>
      exact Frame.refl
    next =>
      refine Frame.rc ?_ rfl
      exact Frame.refl
  next =>
    extract_lets -merge -lift +onlyGivenNames x0
    refine Frame.rc ?_ rfl
    exact Frame.refl

theorem State.resumeVector_frame {s : State} {g} :
    Frame [.pe, .vc] s (State.resumeVector s g) := by
  unfold State.resumeVector
  split
  next =>
    refine Frame.ite ?_ ?_
    next =>
      refine Frame.step ?_ (State.startWindow_frame) rfl
      exact Frame.refl
    next =>
      exact Frame.refl
  next =>
    exact Frame.refl

theorem State.preamble_frame {s : State} {slot} {bits} {verify} :
    Frame [.regs, .pe, .rc, .vc] s (State.preamble s slot bits verify) := by
  unfold State.preamble
  refine Frame.ite ?_ ?_
  next =>
    exact Frame.refl
  next =>
    extract_lets -merge -lift +onlyGivenNames xa
    refine Frame.trans (t := xa) ?_ ?_
    next =>
      exact Frame.step Frame.refl State.adapt_frame rfl
    split
    next =>
      extract_lets -merge -lift +onlyGivenNames x0
      refine Frame.ite ?_ ?_
      next =>
        refine Frame.step ?_ (State.bump_frame) rfl
        unfold x0
        refine Frame.step ?_ (State.bump_frame) rfl
        exact Frame.refl
      next =>
        unfold x0
        refine Frame.step ?_ (State.bump_frame) rfl
        exact Frame.refl
    next =>
      extract_lets -merge -lift +onlyGivenNames x0 x1 x2
      refine Frame.ite ?_ ?_
      next =>
        exact Frame.refl
      next =>
        refine Frame.step ?_ (State.resumeVector_frame) rfl
        unfold x2
        refine Frame.ite ?_ ?_
        next =>
          refine Frame.step ?_ (State.keepGeometry_frame) rfl
          unfold x1
          refine Frame.step ?_ (State.spreadSteps_frame) rfl
          refine Frame.step ?_ (State.modChan_frame) rfl
          exact Frame.refl
        next =>
          unfold x1
          refine Frame.step ?_ (State.spreadSteps_frame) rfl
          refine Frame.step ?_ (State.modChan_frame) rfl
          exact Frame.refl

theorem State.holdFrame_frame {s : State} {verify} {g} :
    Frame [.ed] s (State.holdFrame s verify g) := by
  unfold State.holdFrame
  extract_lets -merge -lift +onlyGivenNames x0 x1 x2
  refine Frame.ite ?_ ?_
  next =>
    refine Frame.ed ?_ rfl
    exact Frame.refl
  next =>
    refine Frame.ed ?_ rfl
    exact Frame.refl

theorem State.noteIters_frame {s : State} {slot} {n} :
    Frame [.ed] s (State.noteIters s slot n) := by
  unfold State.noteIters
  extract_lets -merge -lift +onlyGivenNames x0
  refine Frame.ed ?_ rfl
  exact Frame.refl

theorem State.countChannel_frame {s : State} {f} :
    Frame [.regs] s (State.countChannel s f) := by
  unfold State.countChannel
  extract_lets -merge -lift +onlyGivenNames x0 x1 x2
  refine Frame.step ?_ (State.bumpBy_frame) rfl
  refine Frame.step ?_ (State.bumpBy_frame) rfl
  unfold x2
  refine Frame.step ?_ (State.setReg_frame) rfl
  refine Frame.step ?_ (State.bump48_frame) rfl
  exact Frame.refl

theorem State.countFrame_frame {s : State} {f} {good} :
    Frame [.regs, .ed] s (State.countFrame s f good) := by
  unfold State.countFrame
  split
  next =>
    refine Frame.step ?_ (State.bump_frame) rfl
    exact Frame.refl
  next =>
    extract_lets -merge -lift +onlyGivenNames x0
    refine Frame.ite ?_ ?_
    next =>
      refine Frame.ite ?_ ?_
      next =>
        refine Frame.step ?_ (State.bump_frame) rfl
        unfold x0
        refine Frame.step ?_ (State.noteIters_frame) rfl
        refine Frame.step ?_ (State.bump_frame) rfl
        exact Frame.refl
      next =>
        unfold x0
        refine Frame.step ?_ (State.noteIters_frame) rfl
        refine Frame.step ?_ (State.bump_frame) rfl
        exact Frame.refl
    next =>
      refine Frame.ite ?_ ?_
      next =>
        exact Frame.refl
      next =>
        refine Frame.step ?_ (State.bump_frame) rfl
        exact Frame.refl

theorem State.decodeFrame_frame {s : State} {f} :
    Frame [.regs, .rc, .ed, .ms] s (State.decodeFrame s f) := by
  unfold State.decodeFrame
  extract_lets -merge -lift +onlyGivenNames x0 xa x1 x2
  refine Frame.ite ?_ ?_
  next =>
    exact Frame.refl
  next =>
    refine Frame.step ?_ (State.holdFrame_frame) rfl
    unfold x2
    refine Frame.step ?_ (State.countFrame_frame) rfl
    refine Frame.step ?_ (State.countChannel_frame) rfl
    unfold xa
    refine Frame.step ?_ (State.adapt_frame) rfl
    unfold x0
    split
    next =>
      refine Frame.step ?_ (State.yieldUnit_frame) rfl
      exact Frame.refl
    next =>
      exact Frame.refl

theorem State.setTier_frame {s : State} {ds} {t} {b} :
    Frame [.ed] s (State.setTier s ds t b) := by
  unfold State.setTier
  extract_lets -merge -lift +onlyGivenNames x0
  refine Frame.ed ?_ rfl
  exact Frame.refl

theorem State.decodeTier_frame {s : State} {ds} {t} :
    Frame [.regs, .bm, .ed] s (State.decodeTier s ds t) := by
  unfold State.decodeTier
  split
  next =>
    exact Frame.refl
  next =>
    extract_lets -merge -lift +onlyGivenNames x0 x1 x2 x3
    refine Frame.ite ?_ ?_
    next =>
      exact Frame.refl
    next =>
      split
      next =>
        refine Frame.step ?_ (State.rewatch_frame) rfl
        refine Frame.step ?_ (State.setTier_frame) rfl
        refine Frame.step ?_ (State.bump_frame) rfl
        unfold x3
        refine Frame.step ?_ (State.bumpBy_frame) rfl
        refine Frame.step ?_ (State.bumpBy_frame) rfl
        exact Frame.refl
      next =>
        refine Frame.step ?_ (State.rewatch_frame) rfl
        refine Frame.step ?_ (State.setTier_frame) rfl
        refine Frame.step ?_ (State.bump_frame) rfl
        unfold x3
        refine Frame.step ?_ (State.bumpBy_frame) rfl
        refine Frame.step ?_ (State.bumpBy_frame) rfl
        exact Frame.refl

theorem State.deliverRec_frame {s : State} {d} :
    Frame [.pe] s (State.deliverRec s d) := by
  unfold State.deliverRec
  extract_lets -merge -lift +onlyGivenNames x0
  refine Frame.pe ?_ rfl
  exact Frame.refl

theorem State.failRec_frame {s : State} {k} {r} {status} {detail} :
    Frame [.pe] s (State.failRec s k r status detail) := by
  unfold State.failRec
  refine Frame.step ?_ (State.deliverRec_frame) rfl
  exact Frame.refl

theorem State.failReads_frame {s : State} {ds} {detail} :
    Frame [.pe] s (State.failReads s ds detail) := by
  unfold State.failReads
  refine Frame.fold ?_ (fun u a => ?_) _
  next =>
    exact Frame.refl
  next =>
    refine Frame.step ?_ (State.failRec_frame) rfl
    exact Frame.refl

theorem State.c3Recover_frame {s : State} {ds} {t} :
    Frame [.regs, .pe, .bm, .ed] s (State.c3Recover s ds t) := by
  unfold State.c3Recover
  extract_lets -merge -lift +onlyGivenNames x0
  split
  next =>
    refine Frame.ite ?_ ?_
    next =>
      refine Frame.step ?_ (State.failReads_frame) rfl
      refine Frame.step ?_ (State.bump_frame) rfl
      exact Frame.refl
    next =>
      exact Frame.refl
  next =>
    refine Frame.ite ?_ ?_
    next =>
      exact Frame.refl
    next =>
      split
      next =>
        refine Frame.step ?_ (State.rewatch_frame) rfl
        refine Frame.step ?_ (State.setTier_frame) rfl
        refine Frame.step ?_ (State.bump_frame) rfl
        exact Frame.refl
      next =>
        refine Frame.step ?_ (State.failReads_frame) rfl
        refine Frame.step ?_ (State.bump_frame) rfl
        exact Frame.refl

theorem State.openParcel_frame {s : State} {c} {t} {ds} {index} {b} :
    Frame [.regs, .hi, .qe, .pe, .ce, .ms, .out] s (State.openParcel s c t ds index b) := by
  unfold State.openParcel
  extract_lets -merge -lift +onlyGivenNames x0 x1 x2 x3 x4 x5 x6 x7
  split
  next =>
    refine Frame.step ?_ (State.failRec_frame) rfl
    unfold x4
    refine Frame.step ?_ (State.chime_frame) rfl
    unfold x3
    refine Frame.step ?_ (State.logEv_frame) rfl
    refine Frame.step ?_ (State.bump_frame) rfl
    exact Frame.refl
  next =>
    refine Frame.ite ?_ ?_
    next =>
      refine Frame.ce ?_ rfl
      unfold x5
      refine Frame.step ?_ (State.coreWork_frame) rfl
      exact Frame.refl
    next =>
      refine Frame.step ?_ (State.failRec_frame) rfl
      refine Frame.step ?_ (State.bump_frame) rfl
      unfold x5
      refine Frame.step ?_ (State.coreWork_frame) rfl
      exact Frame.refl

theorem State.parcelOpen_frame {s : State} {id} {ds} {index} :
    Frame [.regs, .hi, .qe, .pe, .ce, .ms, .out] s (State.parcelOpen s id ds index) := by
  unfold State.parcelOpen
  split
  next =>
    refine Frame.ite ?_ ?_
    next =>
      exact Frame.refl
    next =>
      split
      next =>
        exact Frame.refl
      next =>
        refine Frame.ite ?_ ?_
        next =>
          refine Frame.step ?_ (State.openParcel_frame) rfl
          exact Frame.refl
        next =>
          exact Frame.refl
  next =>
    exact Frame.refl

theorem State.takeRun_frame {s : State} {k} {r} {data} {m} :
    Frame [.pe] s (State.takeRun s k r data m) := by
  unfold State.takeRun
  split
  next =>
    exact Frame.refl
  next =>
    refine Frame.step ?_ (State.deliverRec_frame) rfl
    exact Frame.refl
  next =>
    refine Frame.step ?_ (State.deliverRec_frame) rfl
    exact Frame.refl
  next =>
    refine Frame.ite ?_ ?_
    next =>
      refine Frame.step ?_ (State.deliverRec_frame) rfl
      exact Frame.refl
    next =>
      refine Frame.step ?_ (State.failRec_frame) rfl
      exact Frame.refl

theorem State.takeRuns_frame {s : State} {k last r : Nat} {cont : Bool} {l : List Run} :
    Frame [.pe] s (s.takeRuns k last r cont l) := by
  induction l generalizing s r cont with
  | nil => unfold State.takeRuns; exact Frame.refl
  | cons x t ih =>
    unfold State.takeRuns
    refine Frame.ite Frame.refl ?_
    refine Frame.trans ?_ ih
    split
    next => exact Frame.step Frame.refl State.takeRun_frame rfl
    next => exact Frame.step Frame.refl State.takeRun_frame rfl
    next => exact Frame.refl

theorem State.keepCarry_frame {s : State} {k} {r} {cont} {b} :
    Frame [.pe] s (State.keepCarry s k r cont b) := by
  unfold State.keepCarry
  extract_lets -merge -lift +onlyGivenNames x0 x1
  clear_value x0
  split
  next =>
    exact Frame.refl
  next =>
    refine Frame.pe ?_ rfl
    exact Frame.refl

theorem State.guardTrip_frame {s : State} {unit} {ds} {t} :
    Frame [.regs, .ms] s (State.guardTrip s unit ds t) := by
  unfold State.guardTrip
  extract_lets -merge -lift +onlyGivenNames x0
  refine Frame.step ?_ (State.logEv_frame) rfl
  refine Frame.step ?_ (State.bump_frame) rfl
  unfold x0
  refine Frame.step ?_ (State.setReg_frame) rfl
  exact Frame.refl

theorem State.parcelDecompress_frame {s : State} {unit} {ds} {index} {upto} :
    Frame [.regs, .pe, .cx, .ce, .ms] s (State.parcelDecompress s unit ds index upto) := by
  unfold State.parcelDecompress
  split
  next =>
    exact Frame.refl
  next =>
    extract_lets -merge -lift +onlyGivenNames x0 x1 x2 x3 x4 x5 x6 x7 x8 x9 x10
    refine Frame.ite ?_ ?_
    next =>
      exact Frame.refl
    next =>
      refine Frame.ite ?_ ?_
      next =>
        unfold x9
        refine Frame.ite ?_ ?_
        next =>
          unfold x8
          refine Frame.step ?_ (State.takeRuns_frame) rfl
          unfold x7
          refine Frame.step ?_ (State.countEngine_frame) rfl
          unfold x0
          refine Frame.step ?_ (State.yieldUnit_frame) rfl
          exact Frame.refl
        next =>
          split
          next =>
            refine Frame.step ?_ (State.failRec_frame) rfl
            refine Frame.step ?_ (State.guardTrip_frame) rfl
            unfold x8
            refine Frame.step ?_ (State.takeRuns_frame) rfl
            unfold x7
            refine Frame.step ?_ (State.countEngine_frame) rfl
            unfold x0
            refine Frame.step ?_ (State.yieldUnit_frame) rfl
            exact Frame.refl
          next =>
            refine Frame.ite ?_ ?_
            next =>
              refine Frame.step ?_ (State.keepCarry_frame) rfl
              unfold x8
              refine Frame.step ?_ (State.takeRuns_frame) rfl
              unfold x7
              refine Frame.step ?_ (State.countEngine_frame) rfl
              unfold x0
              refine Frame.step ?_ (State.yieldUnit_frame) rfl
              exact Frame.refl
            next =>
              unfold x8
              refine Frame.step ?_ (State.takeRuns_frame) rfl
              unfold x7
              refine Frame.step ?_ (State.countEngine_frame) rfl
              unfold x0
              refine Frame.step ?_ (State.yieldUnit_frame) rfl
              exact Frame.refl
      next =>
        refine Frame.ce ?_ rfl
        unfold x9
        refine Frame.ite ?_ ?_
        next =>
          unfold x8
          refine Frame.step ?_ (State.takeRuns_frame) rfl
          unfold x7
          refine Frame.step ?_ (State.countEngine_frame) rfl
          unfold x0
          refine Frame.step ?_ (State.yieldUnit_frame) rfl
          exact Frame.refl
        next =>
          split
          next =>
            refine Frame.step ?_ (State.failRec_frame) rfl
            refine Frame.step ?_ (State.guardTrip_frame) rfl
            unfold x8
            refine Frame.step ?_ (State.takeRuns_frame) rfl
            unfold x7
            refine Frame.step ?_ (State.countEngine_frame) rfl
            unfold x0
            refine Frame.step ?_ (State.yieldUnit_frame) rfl
            exact Frame.refl
          next =>
            refine Frame.ite ?_ ?_
            next =>
              refine Frame.step ?_ (State.keepCarry_frame) rfl
              unfold x8
              refine Frame.step ?_ (State.takeRuns_frame) rfl
              unfold x7
              refine Frame.step ?_ (State.countEngine_frame) rfl
              unfold x0
              refine Frame.step ?_ (State.yieldUnit_frame) rfl
              exact Frame.refl
            next =>
              unfold x8
              refine Frame.step ?_ (State.takeRuns_frame) rfl
              unfold x7
              refine Frame.step ?_ (State.countEngine_frame) rfl
              unfold x0
              refine Frame.step ?_ (State.yieldUnit_frame) rfl
              exact Frame.refl

theorem State.selectTarget_frame {s : State} :
    Frame [.pe, .bm, .ce, .ed] s (State.selectTarget s) := by
  unfold State.selectTarget
  extract_lets -merge -lift +onlyGivenNames x0 x1 x2 x3
  refine Frame.ite ?_ ?_
  next =>
    refine Frame.step ?_ (State.rewatch_frame) rfl
    refine Frame.anchor ?_ ?_
    next =>
      exact Frame.refl
    next =>
      intro p hp; cases p <;> first | exact absurd hp (by decide) | rfl
  next =>
    refine Frame.ite ?_ ?_
    next =>
      exact Frame.refl
    next =>
      refine Frame.pe ?_ rfl
      exact Frame.refl

theorem State.waitExpiry_frame {s : State} {id} {long} :
    Frame [.pe] s (State.waitExpiry s id long) := by
  unfold State.waitExpiry
  extract_lets -merge -lift +onlyGivenNames x0
  refine Frame.ite ?_ ?_
  next =>
    refine Frame.pe ?_ rfl
    exact Frame.refl
  next =>
    exact Frame.refl

theorem State.land_frame {s : State} :
    Frame [.pe, .df, .sm, .fresh] s (State.land s) := by
  unfold State.land
  split
  next =>
    exact Frame.refl
  next =>
    extract_lets -merge -lift +onlyGivenNames x0 x1 x2
    refine Frame.ite ?_ ?_
    next =>
      exact Frame.refl
    next =>
      refine Frame.anchor ?_ ?_
      next =>
        exact Frame.step Frame.refl State.draw_frame rfl
      next =>
        intro p hp; cases p <;> first | exact absurd hp (by decide) | rfl

theorem State.setReader_frame {s : State} {k} {r} :
    Frame [.sm] s (State.setReader s k r) := by
  unfold State.setReader
  extract_lets -merge -lift +onlyGivenNames x0
  refine Frame.sm ?_ rfl
  exact Frame.refl

theorem State.followChain_frame {s : State} :
    Frame [.sm] s (State.followChain s) := by
  unfold State.followChain
  split
  next =>
    exact Frame.refl
  next =>
    extract_lets -merge -lift +onlyGivenNames x0 x1
    refine Frame.sm ?_ rfl
    exact Frame.refl

theorem State.servoFrame_frame {s : State} {k} {refs} {bias} :
    Frame [.regs, .sm] s (State.servoFrame s k refs bias) := by
  unfold State.servoFrame
  extract_lets -merge -lift +onlyGivenNames x0 x1 x2 x3 x4 x5 x6
  refine Frame.ite ?_ ?_
  next =>
    exact Frame.refl
  next =>
    refine Frame.ite ?_ ?_
    next =>
      refine Frame.step ?_ (State.bump_frame) rfl
      refine Frame.step ?_ (State.setReader_frame) rfl
      exact Frame.refl
    next =>
      refine Frame.step ?_ (State.followChain_frame) rfl
      unfold x6
      split
      next =>
        refine Frame.sm ?_ rfl
        unfold x4
        refine Frame.ite ?_ ?_
        next =>
          refine Frame.step ?_ (State.bump_frame) rfl
          unfold x3
          refine Frame.step ?_ (State.setReader_frame) rfl
          exact Frame.refl
        next =>
          unfold x3
          refine Frame.step ?_ (State.setReader_frame) rfl
          exact Frame.refl
      next =>
        unfold x4
        refine Frame.ite ?_ ?_
        next =>
          refine Frame.step ?_ (State.bump_frame) rfl
          unfold x3
          refine Frame.step ?_ (State.setReader_frame) rfl
          exact Frame.refl
        next =>
          unfold x3
          refine Frame.step ?_ (State.setReader_frame) rfl
          exact Frame.refl

theorem State.compare_frame {s : State} {pes} :
    Frame [.regs, .wc] s (State.compare s pes) := by
  unfold State.compare
  extract_lets -merge -lift +onlyGivenNames x0 x1 x2
  refine Frame.wc ?_ rfl
  unfold x0
  refine Frame.ite ?_ ?_
  next =>
    refine Frame.step ?_ (State.raiseTrigger_frame) rfl
    exact Frame.refl
  next =>
    refine Frame.step ?_ (State.clearTrigger_frame) rfl
    exact Frame.refl

theorem State.trip_frame {s : State} {cause} {engine} :
    Frame [.regs, .df, .wc, .sm, .ms] s (State.trip s cause engine) := by
  unfold State.trip
  extract_lets -merge -lift +onlyGivenNames x0 x1 x2 x3 x4 x5 x6
  refine Frame.ite ?_ ?_
  next =>
    unfold x0
    refine Frame.step ?_ (State.logEv_frame) rfl
    exact Frame.refl
  next =>
    refine Frame.anchor ?_ ?_
    next =>
      unfold x2
      refine Frame.step ?_ (State.raiseTrigger_frame) rfl
      unfold x1
      refine Frame.ite ?_ ?_
      next =>
        refine Frame.step ?_ (State.setReg_frame) rfl
        unfold x0
        refine Frame.step ?_ (State.logEv_frame) rfl
        exact Frame.refl
      next =>
        unfold x0
        refine Frame.step ?_ (State.logEv_frame) rfl
        exact Frame.refl
    next =>
      clear_value x2
      intro p hp; cases p <;> first | exact absurd hp (by decide) | rfl

theorem State.readersTrip_frame {s : State} :
    Frame [.regs, .df, .wc, .sm, .ms] s (State.readersTrip s) := by
  unfold State.readersTrip
  refine Frame.ite ?_ ?_
  next =>
    refine Frame.step ?_ (State.trip_frame) rfl
    exact Frame.refl
  next =>
    exact Frame.refl

theorem State.tripStopped_frame {s : State} :
    Frame [.sm] s (State.tripStopped s) := by
  unfold State.tripStopped
  extract_lets -merge -lift +onlyGivenNames x0
  refine Frame.ite ?_ ?_
  next =>
    refine Frame.sm ?_ rfl
    exact Frame.refl
  next =>
    exact Frame.refl

theorem State.tripSafe_frame {s : State} :
    Frame [.regs, .hi, .klt, .qe, .pe, .bm, .cx, .sm, .ms, .out] s (State.tripSafe s) := by
  unfold State.tripSafe
  extract_lets -merge -lift +onlyGivenNames x0
  refine Frame.ite ?_ ?_
  next =>
    refine Frame.step ?_ (State.cutOff_frame) rfl
    refine Frame.sm ?_ rfl
    exact Frame.refl
  next =>
    exact Frame.refl

theorem State.reelBrake_frame {s : State} :
    Frame [.sm] s (State.reelBrake s) := by
  unfold State.reelBrake
  extract_lets -merge -lift +onlyGivenNames x0
  refine Frame.ite ?_ ?_
  next =>
    refine Frame.sm ?_ rfl
    exact Frame.refl
  next =>
    exact Frame.refl

theorem State.wfaultPersist_frame {s : State} :
    Frame [.regs, .hi, .klt, .qe, .pe, .bm, .cx, .df, .wc, .sm, .ms, .out] s (State.wfaultPersist s) := by
  unfold State.wfaultPersist
  extract_lets -merge -lift +onlyGivenNames x0 x1
  refine Frame.ite ?_ ?_
  next =>
    refine Frame.step ?_ (State.cutOff_frame) rfl
    refine Frame.step ?_ (State.logEv_frame) rfl
    refine Frame.step ?_ (State.trip_frame) rfl
    unfold x1
    refine Frame.wc ?_ rfl
    exact Frame.refl
  next =>
    exact Frame.refl

theorem State.planMode_frame {s : State} {e} {mode} {e0} :
    Frame [.sm] s (State.planMode s e mode e0) := by
  unfold State.planMode
  extract_lets -merge -lift +onlyGivenNames x0
  refine Frame.sm ?_ rfl
  exact Frame.refl

theorem State.setEngine_frame {s : State} {e} {g} :
    Frame [.sm] s (State.setEngine s e g) := by
  unfold State.setEngine
  extract_lets -merge -lift +onlyGivenNames x0
  refine Frame.sm ?_ rfl
  exact Frame.refl

theorem State.tickInject_frame {s : State} {e} :
    Frame [.sm] s (State.tickInject s e) := by
  unfold State.tickInject
  extract_lets -merge -lift +onlyGivenNames x0
  refine Frame.sm ?_ rfl
  exact Frame.refl

theorem State.capture_frame {s : State} {e} {late} {hand} :
    Frame [.sm] s (State.capture s e late hand) := by
  unfold State.capture
  extract_lets -merge -lift +onlyGivenNames x0 x1 x2 x3 x4 x5 x6 x7
  refine Frame.ite ?_ ?_
  next =>
    exact Frame.refl
  next =>
    refine Frame.sm ?_ rfl
    exact Frame.refl

theorem State.rough_frame {s : State} {e} {old} {new_} :
    Frame [.regs, .ms] s (State.rough s e old new_) := by
  unfold State.rough
  refine Frame.step ?_ (State.logEv_frame) rfl
  refine Frame.step ?_ (State.bump_frame) rfl
  exact Frame.refl

theorem State.runSample_frame {s : State} {e} {meas} {ext} {vmot} :
    Frame [.regs, .wc, .sm, .ms] s (State.runSample s e meas ext vmot) := by
  unfold State.runSample
  extract_lets -merge -lift +onlyGivenNames x0 x1 x2 x3 x4 x5 x6 x7
  refine Frame.ite ?_ ?_
  next =>
    exact Frame.refl
  next =>
    refine Frame.ite ?_ ?_
    next =>
      refine Frame.step ?_ (State.capture_frame) rfl
      refine Frame.step ?_ (State.setEngine_frame) rfl
      exact Frame.refl
    next =>
      refine Frame.step ?_ (State.capture_frame) rfl
      refine Frame.step ?_ (State.tickInject_frame) rfl
      unfold x7
      refine Frame.ite ?_ ?_
      next =>
        refine Frame.sm ?_ rfl
        unfold x5
        refine Frame.ite ?_ ?_
        next =>
          refine Frame.wc ?_ rfl
          unfold x3
          refine Frame.ite ?_ ?_
          next =>
            refine Frame.step ?_ (State.rough_frame) rfl
            unfold x2
            refine Frame.step ?_ (State.setEngine_frame) rfl
            exact Frame.refl
          next =>
            unfold x2
            refine Frame.step ?_ (State.setEngine_frame) rfl
            exact Frame.refl
        next =>
          unfold x3
          refine Frame.ite ?_ ?_
          next =>
            refine Frame.step ?_ (State.rough_frame) rfl
            unfold x2
            refine Frame.step ?_ (State.setEngine_frame) rfl
            exact Frame.refl
          next =>
            unfold x2
            refine Frame.step ?_ (State.setEngine_frame) rfl
            exact Frame.refl
      next =>
        unfold x5
        refine Frame.ite ?_ ?_
        next =>
          refine Frame.wc ?_ rfl
          unfold x3
          refine Frame.ite ?_ ?_
          next =>
            refine Frame.step ?_ (State.rough_frame) rfl
            unfold x2
            refine Frame.step ?_ (State.setEngine_frame) rfl
            exact Frame.refl
          next =>
            unfold x2
            refine Frame.step ?_ (State.setEngine_frame) rfl
            exact Frame.refl
        next =>
          unfold x3
          refine Frame.ite ?_ ?_
          next =>
            refine Frame.step ?_ (State.rough_frame) rfl
            unfold x2
            refine Frame.step ?_ (State.setEngine_frame) rfl
            exact Frame.refl
          next =>
            unfold x2
            refine Frame.step ?_ (State.setEngine_frame) rfl
            exact Frame.refl

theorem State.overrun_frame {s : State} {e} :
    Frame [.regs, .sm] s (State.overrun s e) := by
  unfold State.overrun
  extract_lets -merge -lift +onlyGivenNames x0
  refine Frame.ite ?_ ?_
  next =>
    exact Frame.refl
  next =>
    refine Frame.step ?_ (State.capture_frame) rfl
    refine Frame.step ?_ (State.bump_frame) rfl
    refine Frame.step ?_ (State.setEngine_frame) rfl
    exact Frame.refl

theorem State.latSample_frame {s : State} : Frame [.regs, .wc, .sm] s s.latSample.2 := by
  unfold State.latSample
  extract_lets a b src u
  have hu : Frame [.regs, .wc, .sm] s u := Frame.sm Frame.refl rfl
  clear_value u
  split
  next => exact hu
  next =>
    split
    next =>
      refine Frame.anchor hu ?_
      intro p hp; cases p <;> first | exact absurd hp (by decide) | rfl
    next => exact Frame.step (Frame.sm hu rfl) State.compare_frame rfl

theorem State.spdSample_frame {s : State} {hall : Int} : Frame [.sm] s (s.spdSample hall).2 := by
  unfold State.spdSample
  extract_lets src u
  refine Frame.sm ?_ rfl
  exact Frame.sm Frame.refl rfl

theorem State.loopSample_frame {s : State} {e : Nat} {meas ext vmot : Int} {late : Bool} :
    Frame [.regs, .wc, .sm, .ms] s (s.loopSample e meas ext vmot late) := by
  unfold State.loopSample
  refine Frame.ite Frame.refl (Frame.ite (Frame.step Frame.refl State.overrun_frame rfl) ?_)
  split
  next =>
    extract_lets r
    have hr : Frame [.regs, .wc, .sm, .ms] s r.2 := Frame.mono State.latSample_frame rfl
    split
    next => exact Frame.step hr State.runSample_frame rfl
    next => exact hr
  next => exact Frame.step (Frame.mono State.spdSample_frame rfl) State.runSample_frame rfl
  next => exact Frame.step Frame.refl State.runSample_frame rfl

theorem State.switchMode_frame {s : State} {e} {mode} :
    Frame [.sm] s (State.switchMode s e mode) := by
  unfold State.switchMode
  refine Frame.ite ?_ ?_
  next =>
    refine Frame.step ?_ (State.planMode_frame) rfl
    exact Frame.refl
  next =>
    exact Frame.refl

theorem State.wrapChange_frame {s : State} {w} {bands} :
    Frame [.regs, .pe, .df, .wc, .vc, .sm, .ms] s (State.wrapChange s w bands) := by
  unfold State.wrapChange
  extract_lets -merge -lift +onlyGivenNames x0 x1 x2 x3 x4 x5
  refine Frame.ite ?_ ?_
  next =>
    exact Frame.refl
  next =>
    split
    next =>
      exact Frame.refl
    next =>
      refine Frame.step ?_ (State.trip_frame) rfl
      exact Frame.refl
    next =>
      refine Frame.step ?_ (State.planMode_frame) rfl
      unfold x5
      refine Frame.anchor ?_ ?_
      next =>
        unfold x1
        refine Frame.ite ?_ ?_
        next =>
          refine Frame.step ?_ (State.endWindow_frame) rfl
          exact Frame.refl
        next =>
          exact Frame.refl
      next =>
        clear_value x1
        intro p hp; cases p <;> first | exact absurd hp (by decide) | rfl

theorem State.writeRate_frame {s : State} {src} {v} :
    Frame [.regs, .ms] s (State.writeRate s src v) := by
  unfold State.writeRate
  extract_lets -merge -lift +onlyGivenNames x0 x1
  refine Frame.ite ?_ ?_
  next =>
    exact Frame.refl
  next =>
    refine Frame.ite ?_ ?_
    next =>
      refine Frame.step ?_ (State.rwlReject_frame) rfl
      exact Frame.refl
    next =>
      refine Frame.ite ?_ ?_
      next =>
        refine Frame.step ?_ (State.logEv_frame) rfl
        exact Frame.refl
      next =>
        refine Frame.step ?_ (State.setReg_frame) rfl
        exact Frame.refl

theorem State.writeCoef_frame {s : State} {src} {v} :
    Frame [.regs, .sm, .ms] s (State.writeCoef s src v) := by
  unfold State.writeCoef
  extract_lets -merge -lift +onlyGivenNames x0 x1 x2 x3 x4 x5 x6
  refine Frame.ite ?_ ?_
  next =>
    exact Frame.refl
  next =>
    refine Frame.ite ?_ ?_
    next =>
      refine Frame.step ?_ (State.rwlReject_frame) rfl
      exact Frame.refl
    next =>
      refine Frame.ite ?_ ?_
      next =>
        unfold x6
        refine Frame.sm ?_ rfl
        exact Frame.refl
      next =>
        refine Frame.ite ?_ ?_
        next =>
          exact Frame.refl
        next =>
          refine Frame.ite ?_ ?_
          next =>
            refine Frame.step ?_ (State.logEv_frame) rfl
            exact Frame.refl
          next =>
            unfold x6
            refine Frame.sm ?_ rfl
            exact Frame.refl

theorem State.writeSource_frame {s : State} {e} {v} :
    Frame [.regs, .ms] s (State.writeSource s e v) := by
  unfold State.writeSource
  extract_lets -merge -lift +onlyGivenNames x0 x1
  refine Frame.ite ?_ ?_
  next =>
    exact Frame.refl
  next =>
    refine Frame.ite ?_ ?_
    next =>
      refine Frame.step ?_ (State.rwlReject_frame) rfl
      exact Frame.refl
    next =>
      refine Frame.step ?_ (State.setReg_frame) rfl
      exact Frame.refl

theorem State.closeLoop_frame {s : State} {src} {v} :
    Frame [.regs, .sm, .ms] s (State.closeLoop s src v) := by
  unfold State.closeLoop
  extract_lets -merge -lift +onlyGivenNames x0 x1 x2
  refine Frame.ite ?_ ?_
  next =>
    exact Frame.refl
  next =>
    refine Frame.ite ?_ ?_
    next =>
      unfold x1
      refine Frame.step ?_ (State.writeSource_frame) rfl
      exact Frame.refl
    next =>
      refine Frame.step ?_ (State.setEngine_frame) rfl
      unfold x1
      refine Frame.step ?_ (State.writeSource_frame) rfl
      exact Frame.refl

theorem State.openLoop_frame {s : State} {src} {v} :
    Frame [.regs, .sm, .ms] s (State.openLoop s src v) := by
  unfold State.openLoop
  extract_lets -merge -lift +onlyGivenNames x0
  refine Frame.ite ?_ ?_
  next =>
    exact Frame.refl
  next =>
    refine Frame.ite ?_ ?_
    next =>
      refine Frame.step ?_ (State.writeSource_frame) rfl
      exact Frame.refl
    next =>
      refine Frame.ite ?_ ?_
      next =>
        refine Frame.step ?_ (State.writeSource_frame) rfl
        refine Frame.step ?_ (State.setEngine_frame) rfl
        exact Frame.refl
      next =>
        refine Frame.step ?_ (State.logEv_frame) rfl
        exact Frame.refl

theorem State.writeInject_frame {s : State} {src} {v} :
    Frame [.regs, .sm, .fresh] s (State.writeInject s src v) := by
  unfold State.writeInject
  extract_lets -merge -lift +onlyGivenNames x0 x1 x2 x3 x4 x5 x6
  refine Frame.ite ?_ ?_
  next =>
    exact Frame.refl
  next =>
    refine Frame.ite ?_ ?_
    next =>
      unfold x0
      refine Frame.step ?_ (State.setReg_frame) rfl
      exact Frame.refl
    next =>
      refine Frame.sm ?_ rfl
      unfold x5
      refine Frame.step ?_ (State.draw_frame) rfl
      unfold x0
      refine Frame.step ?_ (State.setReg_frame) rfl
      exact Frame.refl

theorem State.injectEnd_frame {s : State} :
    Frame [.sm] s (State.injectEnd s) := by
  unfold State.injectEnd
  split
  next =>
    extract_lets -merge -lift +onlyGivenNames x0
    refine Frame.ite ?_ ?_
    next =>
      refine Frame.sm ?_ rfl
      exact Frame.refl
    next =>
      exact Frame.refl
  next =>
    exact Frame.refl

theorem State.writeCapture_frame {s : State} {src} {v} :
    Frame [.regs, .sm] s (State.writeCapture s src v) := by
  unfold State.writeCapture
  extract_lets -merge -lift +onlyGivenNames x0 x1
  refine Frame.ite ?_ ?_
  next =>
    exact Frame.refl
  next =>
    refine Frame.ite ?_ ?_
    next =>
      refine Frame.sm ?_ rfl
      unfold x0
      refine Frame.step ?_ (State.setReg_frame) rfl
      exact Frame.refl
    next =>
      unfold x0
      refine Frame.step ?_ (State.setReg_frame) rfl
      exact Frame.refl

theorem State.captureFull_frame {s : State} :
    Frame [.sm] s (State.captureFull s) := by
  unfold State.captureFull
  extract_lets -merge -lift +onlyGivenNames x0 x1
  refine Frame.ite ?_ ?_
  next =>
    refine Frame.sm ?_ rfl
    exact Frame.refl
  next =>
    exact Frame.refl

end Sys2Proof.Machine
end

