-- ==== Sys2Proof/Laws/FramesMedia.lean ====
section
/-! SUPPORT. Which parts of the state each operation of cartridges, updates, the KLT, retirement and resets can change: one lemma for each. -/

namespace Sys2Proof.Machine

theorem State.writeProgress_frame {s : State} {x} {kind} :
    Frame [.ct, .out] s (State.writeProgress s x kind) := by
  unfold State.writeProgress
  extract_lets -merge -lift +onlyGivenNames x0 x1 x2 x3
  refine Frame.ct ?_ rfl
  unfold x2
  refine Frame.step ?_ (State.emit_frame) rfl
  exact Frame.refl

theorem State.emptyPe_frame {s : State} :
    Frame [.pe] s (State.emptyPe s) := by
  unfold State.emptyPe
  extract_lets -merge -lift +onlyGivenNames x0
  refine Frame.pe ?_ rfl
  exact Frame.refl

theorem State.emptyDf_frame {s : State} :
    Frame [.cx, .ce, .df, .rc, .ed, .vc] s (State.emptyDf s) := by
  unfold State.emptyDf
  extract_lets -merge -lift +onlyGivenNames x0 x1 x2 x3 x4 x5
  refine Frame.anchor ?_ ?_
  next =>
    exact Frame.refl
  next =>
    intro p hp; cases p <;> first | exact absurd hp (by decide) | rfl

theorem State.mountCalibration_frame {s : State} :
    Frame [.vc] s (State.mountCalibration s) := by
  unfold State.mountCalibration
  extract_lets -merge -lift +onlyGivenNames x0
  refine Frame.vc ?_ rfl
  exact Frame.refl

theorem State.takeBook_frame {s : State} {f} {books} :
    Frame [.pe] s (State.takeBook s f books) := by
  unfold State.takeBook
  extract_lets -merge -lift +onlyGivenNames x0 x1 x2
  refine Frame.pe ?_ rfl
  exact Frame.refl

theorem State.takeRoot_frame {s t : State} {m : MediaRead} {root : Bytes} (h : s.takeRoot m root = some t) :
    Frame [.pe, .df] s t := by
  obtain ⟨r, _, rfl⟩ := Option.map_eq_some_iff.mp h
  refine Frame.step ?_ State.takeBook_frame rfl
  refine Frame.anchor Frame.refl ?_
  intro p hp; cases p <;> first | exact absurd hp (by decide) | rfl

theorem State.openGroupAfter_frame {s : State} {root} {l} :
    Frame [.df] s (State.openGroupAfter s root l) := by
  unfold State.openGroupAfter
  extract_lets -merge -lift +onlyGivenNames x0 x1 x2 x3 x4 x5 x6 x7 x8 x9 x10
  refine Frame.ite ?_ ?_
  next =>
    unfold x5
    refine Frame.df ?_ rfl
    exact Frame.refl
  next =>
    refine Frame.df ?_ rfl
    unfold x5
    refine Frame.df ?_ rfl
    exact Frame.refl

theorem State.takeScan_frame {s t : State} {m : MediaRead} {root : Bytes} (h : s.takeScan m root = some t) :
    Frame [.pe, .df, .ct] s t := by
  unfold State.takeScan at h
  split at h
  next => cases h
  next =>
    obtain ⟨r, _, rfl⟩ := Option.map_eq_some_iff.mp h
    refine Frame.pe ?_ rfl
    refine Frame.step ?_ State.openGroupAfter_frame rfl
    refine Frame.step ?_ State.takeBook_frame rfl
    refine Frame.anchor Frame.refl ?_
    intro p hp; cases p <;> first | exact absurd hp (by decide) | rfl

theorem State.mounted_frame {s : State} {c} {ps} {detail} :
    Frame [.regs, .hi, .klt, .qe, .pe, .bm, .ms, .out] s (State.mounted s c ps detail) := by
  unfold State.mounted
  extract_lets -merge -lift +onlyGivenNames x0
  refine Frame.step ?_ (State.finishCmd_frame) rfl
  unfold x0
  refine Frame.ite ?_ ?_
  next =>
    refine Frame.step ?_ (State.scatter_frame) rfl
    exact Frame.refl
  next =>
    exact Frame.refl

theorem State.unthread_frame {s : State} :
    Frame [.sm, .ct] s (State.unthread s) := by
  unfold State.unthread
  refine Frame.anchor ?_ ?_
  next =>
    exact Frame.refl
  next =>
    intro p hp; cases p <;> first | exact absurd hp (by decide) | rfl

theorem State.mountFails_frame {s : State} {c} {step} {status} {detail} :
    Frame [.regs, .hi, .klt, .qe, .pe, .bm, .sm, .ct, .ms, .out] s (State.mountFails s c step status detail) := by
  unfold State.mountFails
  extract_lets -merge -lift +onlyGivenNames x0 x1 x2
  refine Frame.step ?_ (State.finishCmd_frame) rfl
  refine Frame.step ?_ (State.chimeAll_frame) rfl
  unfold x2
  refine Frame.anchor ?_ ?_
  next =>
    exact Frame.refl
  next =>
    intro p hp; cases p <;> first | exact absurd hp (by decide) | rfl

theorem State.takeLabel_frame {s : State} {m} {lab} {d} :
    Frame [.pe, .ct] s (State.takeLabel s m lab d) := by
  unfold State.takeLabel
  extract_lets -merge -lift +onlyGivenNames x0 x1 x2 x3
  refine Frame.anchor ?_ ?_
  next =>
    exact Frame.refl
  next =>
    intro p hp; cases p <;> first | exact absurd hp (by decide) | rfl

theorem State.threadIn_frame {s : State} :
    Frame [.regs, .wc, .sm, .ct] s (State.threadIn s) := by
  unfold State.threadIn
  extract_lets -merge -lift +onlyGivenNames x0 x1 x2 x3 x4
  refine Frame.anchor ?_ ?_
  next =>
    unfold x1
    refine Frame.step ?_ (State.setReg_frame) rfl
    exact Frame.refl
  next =>
    clear_value x1
    intro p hp; cases p <;> first | exact absurd hp (by decide) | rfl

theorem State.closeLeft_frame {s : State} :
    Frame [.regs, .pe, .ms] s (State.closeLeft s) := by
  unfold State.closeLeft
  refine Frame.fold ?_ (fun u a => ?_) _
  next =>
    exact Frame.refl
  next =>
    refine Frame.step ?_ (State.logDeferred_frame) rfl
    exact Frame.refl

theorem State.takeUp_frame {s t : State} {m : MediaRead} {lab : Bytes} {d : DatumRead}
    (h : s.takeUp m lab d = .inr t) : Frame [.pe, .df, .sm, .ct] s t := by
  unfold State.takeUp at h
  split at h
  next => cases h
  next =>
    extract_lets u rep sroot root at h
    have hu : Frame [.pe, .df, .sm, .ct] s u := Frame.step Frame.refl State.takeLabel_frame rfl
    clear_value root
    split at h
    next => cases h
    next r =>
      extract_lets v direct at h
      have hv : Frame [.pe, .df, .sm, .ct] s v := Frame.ct hu rfl
      clear_value direct
      split at h
      next => cases h
      next x hx =>
        obtain rfl := Sum.inr.inj h
        refine Frame.sm ?_ rfl
        split at hx
        next => exact Frame.step hv (State.takeRoot_frame hx) rfl
        next => exact Frame.step hv (State.takeScan_frame hx) rfl

theorem State.mountFormatted_frame {s : State} {c} {ps} {m} {lab} {d} :
    Frame [.regs, .hi, .klt, .qe, .pe, .bm, .df, .sm, .ct, .ms, .out] s (State.mountFormatted s c ps m lab d) := by
  unfold State.mountFormatted
  split
  next =>
    refine Frame.step ?_ (State.mountFails_frame) rfl
    exact Frame.refl
  next ht =>
    extract_lets -merge -lift +onlyGivenNames x0
    refine Frame.step ?_ (State.mounted_frame) rfl
    exact Frame.ct ((State.takeUp_frame ht).mono rfl) rfl

theorem State.mountClass_frame {s : State} {c} {ps} {m} :
    Frame [.regs, .hi, .klt, .qe, .pe, .bm, .df, .sm, .ct, .ms, .out] s (State.mountClass s c ps m) := by
  unfold State.mountClass
  refine Frame.ite ?_ ?_
  next =>
    refine Frame.step ?_ (State.mountFails_frame) rfl
    exact Frame.refl
  next =>
    split
    next =>
      refine Frame.step ?_ (State.mountFormatted_frame) rfl
      exact Frame.refl
    next =>
      extract_lets -merge -lift +onlyGivenNames x0
      refine Frame.ite ?_ ?_
      next =>
        refine Frame.step ?_ (State.mountFails_frame) rfl
        exact Frame.refl
      next =>
        refine Frame.step ?_ (State.mounted_frame) rfl
        refine Frame.ct ?_ rfl
        exact Frame.refl

theorem State.resumeSession_frame {s : State} {b : Bytes} {m : MediaRead} : Frame [.pe, .df, .sm, .ct] s
    (s.resumeSession b m) := by
  unfold State.resumeSession
  extract_lets cm src srcc u
  have hu : Frame [.pe, .df, .sm, .ct] s u := Frame.ct Frame.refl rfl
  clear_value u
  refine Frame.ite hu ?_
  split
  next =>
    split
    next ht => exact Frame.step hu (State.takeUp_frame ht) rfl
    next => exact hu
  next => exact hu

theorem State.mountSteps_frame {s : State} {c} {ps} {m} :
    Frame [.regs, .hi, .klt, .qe, .pe, .bm, .cx, .ce, .df, .wc, .rc, .ed, .vc, .sm, .ct, .ms, .out] s (State.mountSteps
        s c ps m) := by
  unfold State.mountSteps
  extract_lets -merge -lift +onlyGivenNames x0 x1 x2 x3 x4 x5 x6
  split
  next =>
    extract_lets -merge -lift +onlyGivenNames x7
    refine Frame.step ?_ (State.finishCmd_frame) rfl
    unfold x7
    refine Frame.step ?_ (State.resumeSession_frame) rfl
    unfold x4
    refine Frame.ite ?_ ?_
    next =>
      refine Frame.step ?_ (State.logEv_frame) rfl
      refine Frame.step ?_ (State.bump_frame) rfl
      unfold x3
      refine Frame.ct ?_ rfl
      unfold x1
      refine Frame.step ?_ (State.mountCalibration_frame) rfl
      refine Frame.step ?_ (State.emptyDf_frame) rfl
      refine Frame.step ?_ (State.emptyPe_frame) rfl
      refine Frame.step ?_ (State.closeLeft_frame) rfl
      exact Frame.refl
    next =>
      unfold x3
      refine Frame.ct ?_ rfl
      unfold x1
      refine Frame.step ?_ (State.mountCalibration_frame) rfl
      refine Frame.step ?_ (State.emptyDf_frame) rfl
      refine Frame.step ?_ (State.emptyPe_frame) rfl
      refine Frame.step ?_ (State.closeLeft_frame) rfl
      exact Frame.refl
  next =>
    refine Frame.ite ?_ ?_
    next =>
      refine Frame.step ?_ (State.mountFails_frame) rfl
      unfold x4
      refine Frame.ite ?_ ?_
      next =>
        refine Frame.step ?_ (State.logEv_frame) rfl
        refine Frame.step ?_ (State.bump_frame) rfl
        unfold x3
        refine Frame.ct ?_ rfl
        unfold x1
        refine Frame.step ?_ (State.mountCalibration_frame) rfl
        refine Frame.step ?_ (State.emptyDf_frame) rfl
        refine Frame.step ?_ (State.emptyPe_frame) rfl
        refine Frame.step ?_ (State.closeLeft_frame) rfl
        exact Frame.refl
      next =>
        unfold x3
        refine Frame.ct ?_ rfl
        unfold x1
        refine Frame.step ?_ (State.mountCalibration_frame) rfl
        refine Frame.step ?_ (State.emptyDf_frame) rfl
        refine Frame.step ?_ (State.emptyPe_frame) rfl
        refine Frame.step ?_ (State.closeLeft_frame) rfl
        exact Frame.refl
    next =>
      refine Frame.ite ?_ ?_
      next =>
        refine Frame.step ?_ (State.mountFails_frame) rfl
        unfold x6
        refine Frame.ite ?_ ?_
        next =>
          unfold x4
          refine Frame.ite ?_ ?_
          next =>
            refine Frame.step ?_ (State.logEv_frame) rfl
            refine Frame.step ?_ (State.bump_frame) rfl
            unfold x3
            refine Frame.ct ?_ rfl
            unfold x1
            refine Frame.step ?_ (State.mountCalibration_frame) rfl
            refine Frame.step ?_ (State.emptyDf_frame) rfl
            refine Frame.step ?_ (State.emptyPe_frame) rfl
            refine Frame.step ?_ (State.closeLeft_frame) rfl
            exact Frame.refl
          next =>
            unfold x3
            refine Frame.ct ?_ rfl
            unfold x1
            refine Frame.step ?_ (State.mountCalibration_frame) rfl
            refine Frame.step ?_ (State.emptyDf_frame) rfl
            refine Frame.step ?_ (State.emptyPe_frame) rfl
            refine Frame.step ?_ (State.closeLeft_frame) rfl
            exact Frame.refl
        next =>
          refine Frame.step ?_ (State.bump_frame) rfl
          unfold x4
          refine Frame.ite ?_ ?_
          next =>
            refine Frame.step ?_ (State.logEv_frame) rfl
            refine Frame.step ?_ (State.bump_frame) rfl
            unfold x3
            refine Frame.ct ?_ rfl
            unfold x1
            refine Frame.step ?_ (State.mountCalibration_frame) rfl
            refine Frame.step ?_ (State.emptyDf_frame) rfl
            refine Frame.step ?_ (State.emptyPe_frame) rfl
            refine Frame.step ?_ (State.closeLeft_frame) rfl
            exact Frame.refl
          next =>
            unfold x3
            refine Frame.ct ?_ rfl
            unfold x1
            refine Frame.step ?_ (State.mountCalibration_frame) rfl
            refine Frame.step ?_ (State.emptyDf_frame) rfl
            refine Frame.step ?_ (State.emptyPe_frame) rfl
            refine Frame.step ?_ (State.closeLeft_frame) rfl
            exact Frame.refl
      next =>
        refine Frame.step ?_ (State.mountClass_frame) rfl
        refine Frame.step ?_ (State.threadIn_frame) rfl
        unfold x6
        refine Frame.ite ?_ ?_
        next =>
          unfold x4
          refine Frame.ite ?_ ?_
          next =>
            refine Frame.step ?_ (State.logEv_frame) rfl
            refine Frame.step ?_ (State.bump_frame) rfl
            unfold x3
            refine Frame.ct ?_ rfl
            unfold x1
            refine Frame.step ?_ (State.mountCalibration_frame) rfl
            refine Frame.step ?_ (State.emptyDf_frame) rfl
            refine Frame.step ?_ (State.emptyPe_frame) rfl
            refine Frame.step ?_ (State.closeLeft_frame) rfl
            exact Frame.refl
          next =>
            unfold x3
            refine Frame.ct ?_ rfl
            unfold x1
            refine Frame.step ?_ (State.mountCalibration_frame) rfl
            refine Frame.step ?_ (State.emptyDf_frame) rfl
            refine Frame.step ?_ (State.emptyPe_frame) rfl
            refine Frame.step ?_ (State.closeLeft_frame) rfl
            exact Frame.refl
        next =>
          refine Frame.step ?_ (State.bump_frame) rfl
          unfold x4
          refine Frame.ite ?_ ?_
          next =>
            refine Frame.step ?_ (State.logEv_frame) rfl
            refine Frame.step ?_ (State.bump_frame) rfl
            unfold x3
            refine Frame.ct ?_ rfl
            unfold x1
            refine Frame.step ?_ (State.mountCalibration_frame) rfl
            refine Frame.step ?_ (State.emptyDf_frame) rfl
            refine Frame.step ?_ (State.emptyPe_frame) rfl
            refine Frame.step ?_ (State.closeLeft_frame) rfl
            exact Frame.refl
          next =>
            unfold x3
            refine Frame.ct ?_ rfl
            unfold x1
            refine Frame.step ?_ (State.mountCalibration_frame) rfl
            refine Frame.step ?_ (State.emptyDf_frame) rfl
            refine Frame.step ?_ (State.emptyPe_frame) rfl
            refine Frame.step ?_ (State.closeLeft_frame) rfl
            exact Frame.refl

theorem State.mount_frame {s : State} {c} {m} {ps} :
    Frame [.regs, .hi, .klt, .qe, .pe, .bm, .cx, .ce, .df, .wc, .rc, .ed, .vc, .sm, .ct, .ms, .out] s (State.mount s c m
        ps) := by
  unfold State.mount
  refine Frame.ite ?_ ?_
  next =>
    refine Frame.step ?_ (State.finishCmd_frame) rfl
    exact Frame.refl
  next =>
    refine Frame.ite ?_ ?_
    next =>
      refine Frame.step ?_ (State.finishCmd_frame) rfl
      exact Frame.refl
    next =>
      refine Frame.ite ?_ ?_
      next =>
        refine Frame.step ?_ (State.mounted_frame) rfl
        exact Frame.refl
      next =>
        refine Frame.ite ?_ ?_
        next =>
          refine Frame.step ?_ (State.finishCmd_frame) rfl
          refine Frame.step ?_ (State.chimeAll_frame) rfl
          refine Frame.step ?_ (State.unthread_frame) rfl
          exact Frame.refl
        next =>
          refine Frame.step ?_ (State.mountSteps_frame) rfl
          exact Frame.refl

theorem State.prepareUnmount_frame {s : State} :
    Frame [.pe, .df] s (State.prepareUnmount s) := by
  unfold State.prepareUnmount
  extract_lets -merge -lift +onlyGivenNames x0
  refine Frame.ite ?_ ?_
  next =>
    refine Frame.pe ?_ rfl
    exact Frame.refl
  next =>
    refine Frame.ite ?_ ?_
    next =>
      exact Frame.refl
    next =>
      split
      next =>
        refine Frame.ite ?_ ?_
        next =>
          exact Frame.refl
        next =>
          refine Frame.step ?_ (State.modGroup_frame) rfl
          exact Frame.refl
      next =>
        exact Frame.refl

theorem State.writeHints_frame {s : State} :
    Frame [.out] s (State.writeHints s) := by
  unfold State.writeHints
  refine Frame.fold ?_ (fun u a => ?_) _
  next =>
    exact Frame.refl
  next =>
    refine Frame.step ?_ (State.emit_frame) rfl
    exact Frame.refl

theorem State.writeRoot_frame {s : State} {ok} :
    Frame [.regs, .ct, .ms, .out] s (State.writeRoot s ok) := by
  unfold State.writeRoot
  extract_lets -merge -lift +onlyGivenNames x0 x1 x2 x3 x4 x5 x6 x7 x8 x9
  refine Frame.step ?_ (State.writeSummary_frame) rfl
  unfold x9
  refine Frame.ct ?_ rfl
  unfold x6
  refine Frame.ite ?_ ?_
  next =>
    refine Frame.ct ?_ rfl
    unfold x4
    refine Frame.step ?_ (State.emit_frame) rfl
    exact Frame.refl
  next =>
    refine Frame.step ?_ (State.logEv_frame) rfl
    exact Frame.refl

theorem State.dismount_frame {s : State} {unload} :
    Frame [.regs, .pe, .cx, .ce, .df, .rc, .ed, .vc, .sm, .ct, .ms] s (State.dismount s unload) := by
  unfold State.dismount
  extract_lets -merge -lift +onlyGivenNames x0 x1 x2 x3 x4
  refine Frame.ite ?_ ?_
  next =>
    refine Frame.anchor ?_ ?_
    next =>
      unfold x2
      refine Frame.ct ?_ rfl
      unfold x0
      refine Frame.step ?_ (State.emptyDf_frame) rfl
      refine Frame.step ?_ (State.emptyPe_frame) rfl
      refine Frame.step ?_ (State.closeLeft_frame) rfl
      exact Frame.refl
    next =>
      clear_value x2
      intro p hp; cases p <;> first | exact absurd hp (by decide) | rfl
  next =>
    unfold x2
    refine Frame.ct ?_ rfl
    unfold x0
    refine Frame.step ?_ (State.emptyDf_frame) rfl
    refine Frame.step ?_ (State.emptyPe_frame) rfl
    refine Frame.step ?_ (State.closeLeft_frame) rfl
    exact Frame.refl

theorem State.endMount_frame {s : State} {ok} {unload} :
    FrameP [.regs, .pe, .cx, .ce, .df, .rc, .ed, .vc, .sm, .ct, .ms, .out] s (State.endMount s ok unload) := by
  unfold State.endMount
  extract_lets -merge -lift +onlyGivenNames x0 x1
  refine FrameP.ite ?_ ?_
  next =>
    refine FrameP.mk ?_
    refine Frame.step ?_ (State.dismount_frame) rfl
    exact Frame.refl
  next =>
    refine FrameP.ite ?_ ?_
    next =>
      refine FrameP.mk ?_
      refine Frame.step ?_ (State.dismount_frame) rfl
      refine Frame.step ?_ (State.writeRoot_frame) rfl
      refine Frame.step ?_ (State.writeHints_frame) rfl
      unfold x1
      refine Frame.step ?_ (State.prepareUnmount_frame) rfl
      refine Frame.ct ?_ rfl
      exact Frame.refl
    next =>
      refine FrameP.mk ?_
      unfold x1
      refine Frame.step ?_ (State.prepareUnmount_frame) rfl
      refine Frame.ct ?_ rfl
      exact Frame.refl

theorem State.unmount_frame {s : State} {c} {ok} :
    Frame [.regs, .hi, .klt, .qe, .pe, .bm, .cx, .ce, .df, .rc, .ed, .vc, .sm, .ct, .ms, .out] s (State.unmount s c ok)
        := by
  unfold State.unmount
  extract_lets -merge -lift +onlyGivenNames x0
  refine Frame.ite ?_ ?_
  next =>
    refine Frame.step ?_ (State.finishCmd_frame) rfl
    exact Frame.refl
  next =>
    refine Frame.ite ?_ ?_
    next =>
      refine Frame.step ?_ (State.finishCmd_frame) rfl
      exact Frame.refl
    next =>
      refine Frame.ite ?_ ?_
      next =>
        refine Frame.step ?_ (State.finishCmd_frame) rfl
        exact Frame.refl
      next =>
        refine Frame.ite ?_ ?_
        next =>
          refine Frame.step ?_ (State.finishCmd_frame) rfl
          refine FrameP.out ?_
          unfold x0
          refine FrameP.step ?_ (State.endMount_frame) rfl
          exact Frame.refl
        next =>
          refine FrameP.out ?_
          unfold x0
          refine FrameP.step ?_ (State.endMount_frame) rfl
          exact Frame.refl

theorem State.startSession_frame {s : State} {c} {kind} {phase} {total} {tenants} {label} {m} :
    Frame [.ct, .out] s (State.startSession s c kind phase total tenants label m) := by
  unfold State.startSession
  extract_lets -merge -lift +onlyGivenNames x0 x1 x2 x3 x4 x5
  refine Frame.step ?_ (State.writeProgress_frame) rfl
  unfold x5
  refine Frame.ite ?_ ?_
  next =>
    exact Frame.refl
  next =>
    refine Frame.ct ?_ rfl
    exact Frame.refl

theorem State.leaveForSession_frame {s : State} :
    Frame [.pe, .cx, .ce, .df, .rc, .ed, .vc, .ct] s (State.leaveForSession s) := by
  unfold State.leaveForSession
  extract_lets -merge -lift +onlyGivenNames x0 x1
  refine Frame.ct ?_ rfl
  unfold x0
  refine Frame.step ?_ (State.emptyDf_frame) rfl
  refine Frame.step ?_ (State.emptyPe_frame) rfl
  exact Frame.refl

theorem State.format_frame {s : State} {c} {label} {m} :
    Frame [.regs, .hi, .klt, .qe, .pe, .bm, .cx, .ce, .df, .rc, .ed, .vc, .ct, .ms, .out] s (State.format s c label m)
        := by
  unfold State.format
  split
  next =>
    refine Frame.step ?_ (State.finishCmd_frame) rfl
    exact Frame.refl
  next =>
    split
    next =>
      refine Frame.step ?_ (State.finishCmd_frame) rfl
      exact Frame.refl
    next =>
      refine Frame.step ?_ (State.startSession_frame) rfl
      refine Frame.step ?_ (State.leaveForSession_frame) rfl
      exact Frame.refl

theorem State.overwrite_frame {s : State} {c} {m} :
    Frame [.regs, .hi, .klt, .qe, .pe, .bm, .cx, .ce, .df, .rc, .ed, .vc, .ct, .ms, .out] s (State.overwrite s c m) :=
        by
  unfold State.overwrite
  split
  next =>
    refine Frame.step ?_ (State.finishCmd_frame) rfl
    exact Frame.refl
  next =>
    split
    next =>
      refine Frame.step ?_ (State.finishCmd_frame) rfl
      exact Frame.refl
    next =>
      extract_lets -merge -lift +onlyGivenNames x0 x1
      refine Frame.step ?_ (State.startSession_frame) rfl
      refine Frame.step ?_ (State.leaveForSession_frame) rfl
      exact Frame.refl

theorem State.wipeKeys_frame {s : State} {f} :
    Frame [.regs, .hi, .klt, .qe, .pe, .bm, .cx, .ce, .ms, .out] s (State.wipeKeys s f) := by
  unfold State.wipeKeys
  extract_lets -merge -lift +onlyGivenNames x0
  refine Frame.step ?_ (State.eraseKek_frame) rfl
  refine Frame.fold ?_ (fun u a => ?_) _
  next =>
    exact Frame.refl
  next =>
    refine Frame.step ?_ (State.eraseSlot_frame) rfl
    exact Frame.refl

theorem State.crypto_frame {s : State} {c} {names} {m} :
    Frame [.regs, .hi, .klt, .qe, .pe, .bm, .cx, .ce, .ct, .ms, .out] s (State.crypto s c names m) := by
  unfold State.crypto
  extract_lets -merge -lift +onlyGivenNames x0 x1
  refine Frame.ite ?_ ?_
  next =>
    refine Frame.step ?_ (State.finishCmd_frame) rfl
    exact Frame.refl
  next =>
    split
    next =>
      refine Frame.step ?_ (State.finishCmd_frame) rfl
      exact Frame.refl
    next =>
      refine Frame.ite ?_ ?_
      next =>
        refine Frame.step ?_ (State.finishCmd_frame) rfl
        exact Frame.refl
      next =>
        refine Frame.ite ?_ ?_
        next =>
          refine Frame.step ?_ (State.finishCmd_frame) rfl
          exact Frame.refl
        next =>
          split
          next =>
            refine Frame.step ?_ (State.finishCmd_frame) rfl
            exact Frame.refl
          next =>
            refine Frame.step ?_ (State.startSession_frame) rfl
            unfold x1
            refine Frame.fold ?_ (fun u a => ?_) _
            next =>
              exact Frame.refl
            next =>
              refine Frame.step ?_ (State.wipeKeys_frame) rfl
              exact Frame.refl

theorem State.formatDone_frame {s : State} {x} :
    Frame [.ct, .out] s (State.formatDone s x) := by
  unfold State.formatDone
  extract_lets -merge -lift +onlyGivenNames x0 x1 x2 x3 x4
  refine Frame.step ?_ (State.emit_frame) rfl
  refine Frame.step ?_ (State.writeSummary_frame) rfl
  refine Frame.step ?_ (State.emit_frame) rfl
  unfold x4
  refine Frame.ite ?_ ?_
  next =>
    refine Frame.fold ?_ (fun u a => ?_) _
    next =>
      unfold x3
      refine Frame.step ?_ (State.emit_frame) rfl
      refine Frame.step ?_ (State.emit_frame) rfl
      refine Frame.step ?_ (State.emit_frame) rfl
      unfold x2
      refine Frame.ite ?_ ?_
      next =>
        refine Frame.fold ?_ (fun u a => ?_) _
        next =>
          exact Frame.refl
        next =>
          refine Frame.step ?_ (State.emit_frame) rfl
          exact Frame.refl
      next =>
        exact Frame.refl
    next =>
      refine Frame.step ?_ (State.emit_frame) rfl
      exact Frame.refl
  next =>
    unfold x3
    refine Frame.step ?_ (State.emit_frame) rfl
    refine Frame.step ?_ (State.emit_frame) rfl
    refine Frame.step ?_ (State.emit_frame) rfl
    unfold x2
    refine Frame.ite ?_ ?_
    next =>
      refine Frame.fold ?_ (fun u a => ?_) _
      next =>
        exact Frame.refl
      next =>
        refine Frame.step ?_ (State.emit_frame) rfl
        exact Frame.refl
    next =>
      exact Frame.refl

theorem State.cryptoDone_frame {s : State} {x} :
    Frame [.regs, .pe, .ct, .ms, .out] s (State.cryptoDone s x) := by
  unfold State.cryptoDone
  extract_lets -merge -lift +onlyGivenNames x0 x1 x2 x3 x4 x5 x6
  split
  next =>
    exact Frame.refl
  next =>
    extract_lets -merge -lift +onlyGivenNames x7 x8 x9
    refine Frame.ct ?_ rfl
    unfold x8
    refine Frame.step ?_ (State.writeRoot_frame) rfl
    refine Frame.step ?_ (State.writeRoot_frame) rfl
    refine Frame.step ?_ (State.advanceFrontier_frame) rfl
    unfold x7
    refine Frame.pe ?_ rfl
    unfold x5
    refine Frame.fold ?_ (fun u a => ?_) _
    next =>
      unfold x4
      refine Frame.step ?_ (State.emit_frame) rfl
      exact Frame.refl
    next =>
      refine Frame.step ?_ (State.emit_frame) rfl
      exact Frame.refl

theorem State.tellSession_frame {s : State} {x} {status} :
    Frame [.regs, .hi, .qe, .out] s (State.tellSession s x status) := by
  unfold State.tellSession
  extract_lets -merge -lift +onlyGivenNames x0
  refine Frame.step ?_ (State.chimeOwner_frame) rfl
  unfold x0
  split
  next =>
    refine Frame.ite ?_ ?_
    next =>
      exact Frame.refl
    next =>
      refine Frame.step ?_ (State.chime_frame) rfl
      exact Frame.refl
  next =>
    exact Frame.refl

theorem State.sessionEnd_frame {s : State} {ok} {phase} {done} {elapsed} :
    Frame [.regs, .hi, .klt, .qe, .pe, .bm, .ct, .ms, .out] s (State.sessionEnd s ok phase done elapsed) := by
  unfold State.sessionEnd
  split
  next =>
    exact Frame.refl
  next =>
    extract_lets -merge -lift +onlyGivenNames x0 x1 x2 x3 x4 x5 x6 x7 x8
    refine Frame.ite ?_ ?_
    next =>
      exact Frame.refl
    next =>
      refine Frame.step ?_ (State.tellSession_frame) rfl
      unfold x8
      split
      next =>
        refine Frame.step ?_ (State.finishCmd_frame) rfl
        unfold x6
        refine Frame.ite ?_ ?_
        next =>
          refine Frame.ct ?_ rfl
          unfold x2
          refine Frame.step ?_ (State.writeProgress_frame) rfl
          unfold x1
          refine Frame.ite ?_ ?_
          next =>
            refine Frame.ite ?_ ?_
            next =>
              refine Frame.step ?_ (State.cryptoDone_frame) rfl
              exact Frame.refl
            next =>
              refine Frame.step ?_ (State.formatDone_frame) rfl
              exact Frame.refl
          next =>
            exact Frame.refl
        next =>
          refine Frame.ct ?_ rfl
          unfold x4
          refine Frame.step ?_ (State.writeProgress_frame) rfl
          unfold x1
          refine Frame.ite ?_ ?_
          next =>
            refine Frame.ite ?_ ?_
            next =>
              refine Frame.step ?_ (State.cryptoDone_frame) rfl
              exact Frame.refl
            next =>
              refine Frame.step ?_ (State.formatDone_frame) rfl
              exact Frame.refl
          next =>
            exact Frame.refl
      next =>
        unfold x6
        refine Frame.ite ?_ ?_
        next =>
          refine Frame.ct ?_ rfl
          unfold x2
          refine Frame.step ?_ (State.writeProgress_frame) rfl
          unfold x1
          refine Frame.ite ?_ ?_
          next =>
            refine Frame.ite ?_ ?_
            next =>
              refine Frame.step ?_ (State.cryptoDone_frame) rfl
              exact Frame.refl
            next =>
              refine Frame.step ?_ (State.formatDone_frame) rfl
              exact Frame.refl
          next =>
            exact Frame.refl
        next =>
          refine Frame.ct ?_ rfl
          unfold x4
          refine Frame.step ?_ (State.writeProgress_frame) rfl
          unfold x1
          refine Frame.ite ?_ ?_
          next =>
            refine Frame.ite ?_ ?_
            next =>
              refine Frame.step ?_ (State.cryptoDone_frame) rfl
              exact Frame.refl
            next =>
              refine Frame.step ?_ (State.formatDone_frame) rfl
              exact Frame.refl
          next =>
            exact Frame.refl

theorem State.cartridgeLeft_frame {s : State} :
    Frame [.regs, .hi, .klt, .qe, .pe, .bm, .cx, .df, .wc, .sm, .ct, .ms, .out] s (State.cartridgeLeft s) := by
  unfold State.cartridgeLeft
  extract_lets -merge -lift +onlyGivenNames x0 x1
  refine Frame.step ?_ (State.cutOff_frame) rfl
  refine Frame.step ?_ (State.logEv_frame) rfl
  refine Frame.step ?_ (State.trip_frame) rfl
  unfold x1
  refine Frame.ct ?_ rfl
  exact Frame.refl

theorem State.senseChange_frame {s : State} {pins} :
    Frame [.regs, .hi, .klt, .qe, .pe, .bm, .cx, .df, .wc, .sm, .ct, .ms, .out] s (State.senseChange s pins) := by
  unfold State.senseChange
  extract_lets -merge -lift +onlyGivenNames x0 x1 x2 x3 x4 x5
  refine Frame.ite ?_ ?_
  next =>
    unfold x2
    refine Frame.ct ?_ rfl
    exact Frame.refl
  next =>
    refine Frame.ite ?_ ?_
    next =>
      refine Frame.step ?_ (State.cartridgeLeft_frame) rfl
      unfold x5
      refine Frame.ite ?_ ?_
      next =>
        refine Frame.step ?_ (State.logEv_frame) rfl
        unfold x4
        refine Frame.step ?_ (State.chimeAll_frame) rfl
        refine Frame.step ?_ (State.wake_frame) rfl
        unfold x2
        refine Frame.ct ?_ rfl
        exact Frame.refl
      next =>
        unfold x4
        refine Frame.step ?_ (State.chimeAll_frame) rfl
        refine Frame.step ?_ (State.wake_frame) rfl
        unfold x2
        refine Frame.ct ?_ rfl
        exact Frame.refl
    next =>
      unfold x5
      refine Frame.ite ?_ ?_
      next =>
        refine Frame.step ?_ (State.logEv_frame) rfl
        unfold x4
        refine Frame.step ?_ (State.chimeAll_frame) rfl
        refine Frame.step ?_ (State.wake_frame) rfl
        unfold x2
        refine Frame.ct ?_ rfl
        exact Frame.refl
      next =>
        unfold x4
        refine Frame.step ?_ (State.chimeAll_frame) rfl
        refine Frame.step ?_ (State.wake_frame) rfl
        unfold x2
        refine Frame.ct ?_ rfl
        exact Frame.refl

theorem State.countErases_frame {s : State} :
    Frame [.regs, .fresh] s (State.countErases s) := by
  unfold State.countErases
  refine Frame.step ?_ (State.bumpBy_frame) rfl
  refine Frame.step ?_ (State.draw_frame) rfl
  exact Frame.refl

theorem State.updateOpen_frame {s : State} {c} :
    Frame [.regs, .hi, .klt, .qe, .pe, .bm, .ms, .out, .fresh] s (State.updateOpen s c) := by
  unfold State.updateOpen
  extract_lets -merge -lift +onlyGivenNames x0 x1 x2
  refine Frame.ite ?_ ?_
  next =>
    refine Frame.step ?_ (State.finishCmd_frame) rfl
    exact Frame.refl
  next =>
    refine Frame.ite ?_ ?_
    next =>
      refine Frame.step ?_ (State.finishCmd_frame) rfl
      exact Frame.refl
    next =>
      refine Frame.step ?_ (State.finishCmd_frame) rfl
      unfold x2
      refine Frame.ms ?_ rfl
      unfold x0
      refine Frame.step ?_ (State.countErases_frame) rfl
      exact Frame.refl

theorem State.touchUpdate_frame {s : State} {v} :
    Frame [.ms] s (State.touchUpdate s v) := by
  unfold State.touchUpdate
  extract_lets -merge -lift +onlyGivenNames x0
  refine Frame.ms ?_ rfl
  exact Frame.refl

theorem State.updateBlock_frame {s : State} {c} {data} :
    Frame [.regs, .hi, .klt, .qe, .pe, .bm, .ms, .out] s (State.updateBlock s c data) := by
  unfold State.updateBlock
  extract_lets -merge -lift +onlyGivenNames x0 x1 x2 x3 x4
  refine Frame.ite ?_ ?_
  next =>
    refine Frame.step ?_ (State.finishCmd_frame) rfl
    exact Frame.refl
  next =>
    refine Frame.ite ?_ ?_
    next =>
      refine Frame.step ?_ (State.finishCmd_frame) rfl
      refine Frame.step ?_ (State.touchUpdate_frame) rfl
      exact Frame.refl
    next =>
      refine Frame.step ?_ (State.finishCmd_frame) rfl
      unfold x4
      refine Frame.ms ?_ rfl
      unfold x2
      refine Frame.step ?_ (State.touchUpdate_frame) rfl
      exact Frame.refl

theorem State.updateVerify_frame {s : State} {c} :
    Frame [.regs, .hi, .klt, .qe, .pe, .bm, .ms, .out] s (State.updateVerify s c) := by
  unfold State.updateVerify
  refine Frame.ite ?_ ?_
  next =>
    refine Frame.step ?_ (State.finishCmd_frame) rfl
    exact Frame.refl
  next =>
    split
    next =>
      refine Frame.step ?_ (State.finishCmd_frame) rfl
      refine Frame.step ?_ (State.touchUpdate_frame) rfl
      exact Frame.refl
    next =>
      refine Frame.step ?_ (State.finishCmd_frame) rfl
      refine Frame.step ?_ (State.touchUpdate_frame) rfl
      exact Frame.refl

theorem State.convert_frame {s : State} {schema} :
    Frame [.regs] s (State.convert s schema) := by
  unfold State.convert
  refine Frame.regs ?_ rfl
  exact Frame.refl

theorem State.compact_frame {s : State} :
    Frame [.regs, .ms, .fresh] s (State.compact s) := by
  unfold State.compact
  extract_lets -merge -lift +onlyGivenNames x0 x1 x2
  refine Frame.ite ?_ ?_
  next =>
    exact Frame.refl
  next =>
    refine Frame.ms ?_ rfl
    unfold x1
    refine Frame.step ?_ (State.countErases_frame) rfl
    exact Frame.refl

theorem State.switchTables_frame {s : State} {i} :
    Frame [.sm, .ms] s (State.switchTables s i) := by
  unfold State.switchTables
  extract_lets -merge -lift +onlyGivenNames x0 x1
  refine Frame.anchor ?_ ?_
  next =>
    exact Frame.refl
  next =>
    intro p hp; cases p <;> first | exact absurd hp (by decide) | rfl

theorem State.writePointer_frame {s : State} {slot} {trial} {starts} {mark} :
    Frame [.ms] s (State.writePointer s slot trial starts mark) := by
  unfold State.writePointer
  extract_lets -merge -lift +onlyGivenNames x0
  refine Frame.ms ?_ rfl
  exact Frame.refl

theorem State.setSlotImage_frame {s : State} {slot} {i} :
    Frame [.ms] s (State.setSlotImage s slot i) := by
  unfold State.setSlotImage
  extract_lets -merge -lift +onlyGivenNames x0 x1
  refine Frame.ite ?_ ?_
  next =>
    refine Frame.ms ?_ rfl
    exact Frame.refl
  next =>
    refine Frame.ms ?_ rfl
    exact Frame.refl

theorem State.activate_frame {s : State} {i} :
    Frame [.regs, .klt, .sm, .ms, .fresh] s (State.activate s i) := by
  unfold State.activate
  extract_lets -merge -lift +onlyGivenNames x0 x1 x2 x3 x4
  refine Frame.step ?_ (State.kltTrigger_frame) rfl
  refine Frame.step ?_ (State.switchTables_frame) rfl
  refine Frame.step ?_ (State.writePointer_frame) rfl
  unfold x4
  refine Frame.ms ?_ rfl
  unfold x2
  refine Frame.step ?_ (State.convert_frame) rfl
  refine Frame.step ?_ (State.setSlotImage_frame) rfl
  refine Frame.step ?_ (State.countErases_frame) rfl
  exact Frame.refl

theorem State.updateActivate_frame {s : State} {c} {holdup} :
    Frame [.regs, .hi, .klt, .qe, .pe, .bm, .sm, .ms, .out, .fresh] s (State.updateActivate s c holdup) := by
  unfold State.updateActivate
  refine Frame.ite ?_ ?_
  next =>
    refine Frame.step ?_ (State.finishCmd_frame) rfl
    exact Frame.refl
  next =>
    refine Frame.ite ?_ ?_
    next =>
      refine Frame.step ?_ (State.finishCmd_frame) rfl
      refine Frame.step ?_ (State.touchUpdate_frame) rfl
      exact Frame.refl
    next =>
      split
      next =>
        refine Frame.step ?_ (State.finishCmd_frame) rfl
        refine Frame.step ?_ (State.touchUpdate_frame) rfl
        exact Frame.refl
      next =>
        extract_lets -merge -lift +onlyGivenNames x0
        split
        next =>
          refine Frame.step ?_ (State.finishCmd_frame) rfl
          unfold x0
          refine Frame.step ?_ (State.touchUpdate_frame) rfl
          exact Frame.refl
        next =>
          refine Frame.step ?_ (State.chimeOwner_frame) rfl
          refine Frame.step ?_ (State.finishCmd_frame) rfl
          refine Frame.step ?_ (State.activate_frame) rfl
          unfold x0
          refine Frame.step ?_ (State.touchUpdate_frame) rfl
          exact Frame.refl

theorem State.blowFuses_frame {s : State} :
    Frame [.ms] s (State.blowFuses s) := by
  unfold State.blowFuses
  extract_lets -merge -lift +onlyGivenNames x0
  refine Frame.ms ?_ rfl
  exact Frame.refl

theorem State.updateConfirm_frame {s : State} {c} :
    Frame [.regs, .hi, .klt, .qe, .pe, .bm, .ms, .out] s (State.updateConfirm s c) := by
  unfold State.updateConfirm
  extract_lets -merge -lift +onlyGivenNames x0 x1 x2 x3
  refine Frame.ite ?_ ?_
  next =>
    refine Frame.step ?_ (State.finishCmd_frame) rfl
    refine Frame.step ?_ (State.touchUpdate_frame) rfl
    exact Frame.refl
  next =>
    refine Frame.step ?_ (State.chimeOwner_frame) rfl
    refine Frame.step ?_ (State.finishCmd_frame) rfl
    unfold x3
    refine Frame.ms ?_ rfl
    unfold x1
    refine Frame.step ?_ (State.blowFuses_frame) rfl
    refine Frame.step ?_ (State.kltTrigger_frame) rfl
    refine Frame.step ?_ (State.writePointer_frame) rfl
    exact Frame.refl

theorem State.rollBack_frame {s : State} :
    Frame [.regs, .ms] s (State.rollBack s) := by
  unfold State.rollBack
  extract_lets -merge -lift +onlyGivenNames x0 x1 x2 x3 x4 x5
  split
  next =>
    refine Frame.ms ?_ rfl
    unfold x4
    refine Frame.step ?_ (State.writePointer_frame) rfl
    unfold x3
    refine Frame.anchor ?_ ?_
    next =>
      exact Frame.refl
    next =>
      intro p hp; cases p <;> first | exact absurd hp (by decide) | rfl
  next =>
    unfold x4
    refine Frame.step ?_ (State.writePointer_frame) rfl
    unfold x3
    refine Frame.anchor ?_ ?_
    next =>
      exact Frame.refl
    next =>
      intro p hp; cases p <;> first | exact absurd hp (by decide) | rfl

theorem State.updateRevert_frame {s : State} {c} {holdup} :
    Frame [.regs, .hi, .klt, .qe, .pe, .bm, .sm, .ms, .out, .fresh] s (State.updateRevert s c holdup) := by
  unfold State.updateRevert
  refine Frame.ite ?_ ?_
  next =>
    refine Frame.ite ?_ ?_
    next =>
      refine Frame.step ?_ (State.finishCmd_frame) rfl
      exact Frame.refl
    next =>
      split
      next =>
        refine Frame.step ?_ (State.finishCmd_frame) rfl
        exact Frame.refl
      next =>
        extract_lets -merge -lift +onlyGivenNames x0 x1 x2 x3
        refine Frame.step ?_ (State.chimeOwner_frame) rfl
        refine Frame.step ?_ (State.finishCmd_frame) rfl
        refine Frame.step ?_ (State.kltTrigger_frame) rfl
        unfold x3
        refine Frame.ms ?_ rfl
        unfold x1
        split
        next =>
          refine Frame.step ?_ (State.switchTables_frame) rfl
          unfold x0
          refine Frame.step ?_ (State.rollBack_frame) rfl
          exact Frame.refl
        next =>
          unfold x0
          refine Frame.step ?_ (State.rollBack_frame) rfl
          exact Frame.refl
  next =>
    refine Frame.ite ?_ ?_
    next =>
      refine Frame.step ?_ (State.finishCmd_frame) rfl
      refine Frame.step ?_ (State.abandonUpdate_frame) rfl
      refine Frame.step ?_ (State.draw_frame) rfl
      exact Frame.refl
    next =>
      refine Frame.step ?_ (State.finishCmd_frame) rfl
      exact Frame.refl

theorem State.kltEnd_frame {s : State} :
    Frame [.regs, .hi, .klt, .qe, .out] s (State.kltEnd s) := by
  unfold State.kltEnd
  extract_lets -merge -lift +onlyGivenNames x0 x1 x2 x3 x4 x5
  refine Frame.ite ?_ ?_
  next =>
    exact Frame.refl
  next =>
    refine Frame.ite ?_ ?_
    next =>
      unfold x4
      refine Frame.klt ?_ rfl
      exact Frame.refl
    next =>
      refine Frame.fold ?_ (fun u a => ?_) _
      next =>
        unfold x4
        refine Frame.klt ?_ rfl
        exact Frame.refl
      next =>
        refine Frame.step ?_ (State.chime_frame) rfl
        exact Frame.refl

theorem State.rewriteSlot_frame {s : State} {slot} :
    Frame [.regs, .hi, .klt, .qe, .pe, .bm, .cx, .df, .ms, .out] s (State.rewriteSlot s slot) := by
  unfold State.rewriteSlot
  extract_lets -merge -lift +onlyGivenNames x0
  refine Frame.fold ?_ (fun u a => ?_) _
  next =>
    exact Frame.refl
  next =>
    extract_lets -merge -lift +onlyGivenNames x1 x2
    refine Frame.fold ?_ (fun u a => ?_) _
    next =>
      exact Frame.refl
    next =>
      refine Frame.ite ?_ ?_
      next =>
        exact Frame.refl
      next =>
        refine Frame.step ?_ (State.loseFrame_frame) rfl
        exact Frame.refl

theorem State.dropEngine_frame {s : State} {n} :
    Frame [.cx] s (State.dropEngine s n) := by
  unfold State.dropEngine
  extract_lets -merge -lift +onlyGivenNames x0 x1
  refine Frame.cx ?_ rfl
  exact Frame.refl

theorem State.dropUnit_frame {s : State} {t} {n} :
    Frame [.regs, .hi, .klt, .qe, .pe, .bm, .cx, .ce, .df, .wc, .ed, .sm, .ms, .out] s (State.dropUnit s t n) := by
  unfold State.dropUnit
  split
  next =>
    extract_lets -merge -lift +onlyGivenNames x0
    refine Frame.step ?_ (State.rewriteSlot_frame) rfl
    refine Frame.step ?_ (State.yieldUnit_frame) rfl
    refine Frame.wc ?_ rfl
    exact Frame.refl
  next =>
    extract_lets -merge -lift +onlyGivenNames x0
    refine Frame.ed ?_ rfl
    exact Frame.refl
  next =>
    refine Frame.step ?_ (State.dropEngine_frame) rfl
    exact Frame.refl
  next =>
    refine Frame.step ?_ (State.dropEngine_frame) rfl
    exact Frame.refl
  next =>
    extract_lets -merge -lift +onlyGivenNames x0
    refine Frame.ce ?_ rfl
    exact Frame.refl
  next =>
    extract_lets -merge -lift +onlyGivenNames x0
    refine Frame.step ?_ (State.readersTrip_frame) rfl
    refine Frame.sm ?_ rfl
    exact Frame.refl
  next =>
    exact Frame.refl

theorem State.newlyBelow_frame {s : State} {t} {was} :
    Frame [.regs, .hi, .klt, .qe, .pe, .bm, .cx, .ms, .out] s (State.newlyBelow s t was) := by
  unfold State.newlyBelow
  refine Frame.ite ?_ ?_
  next =>
    refine Frame.step ?_ (State.cutOff_frame) rfl
    exact Frame.refl
  next =>
    exact Frame.refl

theorem State.retireUnit_frame {s : State} {t} {n} :
    Frame [.regs, .hi, .klt, .qe, .pe, .bm, .mc, .cx, .ce, .df, .wc, .ed, .sm, .ms, .out] s (State.retireUnit s t n) :=
        by
  unfold State.retireUnit
  extract_lets -merge -lift +onlyGivenNames x0 x1 x2
  refine Frame.ite ?_ ?_
  next =>
    refine Frame.step ?_ (State.schedulePair_frame) rfl
    exact Frame.refl
  next =>
    refine Frame.ite ?_ ?_
    next =>
      exact Frame.refl
    next =>
      refine Frame.step ?_ (State.newlyBelow_frame) rfl
      refine Frame.step ?_ (State.tellRetired_frame) rfl
      refine Frame.step ?_ (State.dropUnit_frame) rfl
      unfold x2
      refine Frame.ite ?_ ?_
      next =>
        refine Frame.ms ?_ rfl
        exact Frame.refl
      next =>
        exact Frame.refl

theorem State.restoreUnit_frame {s : State} {t} {n} :
    Frame [.mc, .cx, .ce, .wc, .ed, .sm] s (State.restoreUnit s t n) := by
  unfold State.restoreUnit
  split
  next =>
    extract_lets -merge -lift +onlyGivenNames x0
    refine Frame.wc ?_ rfl
    exact Frame.refl
  next =>
    extract_lets -merge -lift +onlyGivenNames x0
    refine Frame.ed ?_ rfl
    exact Frame.refl
  next =>
    extract_lets -merge -lift +onlyGivenNames x0
    refine Frame.cx ?_ rfl
    exact Frame.refl
  next =>
    extract_lets -merge -lift +onlyGivenNames x0
    refine Frame.cx ?_ rfl
    exact Frame.refl
  next =>
    extract_lets -merge -lift +onlyGivenNames x0
    refine Frame.ce ?_ rfl
    exact Frame.refl
  next =>
    extract_lets -merge -lift +onlyGivenNames x0
    refine Frame.step ?_ (State.setPair_frame) rfl
    exact Frame.refl
  next =>
    extract_lets -merge -lift +onlyGivenNames x0
    refine Frame.sm ?_ rfl
    exact Frame.refl
  next =>
    exact Frame.refl

theorem State.returnUnit_frame {s : State} {t} {n} :
    Frame [.regs, .klt, .mc, .cx, .ce, .wc, .ed, .sm, .ms] s (State.returnUnit s t n) := by
  unfold State.returnUnit
  refine Frame.step ?_ (State.kltTrigger_frame) rfl
  refine Frame.step ?_ (State.logEv_frame) rfl
  refine Frame.step ?_ (State.restoreUnit_frame) rfl
  exact Frame.refl

theorem State.dropItem_frame {s : State} {x} :
    Frame [.pe, .ce, .ed] s (State.dropItem s x) := by
  unfold State.dropItem
  split
  next =>
    refine Frame.step ?_ (State.holdFrame_frame) rfl
    exact Frame.refl
  next =>
    extract_lets -merge -lift +onlyGivenNames x0 x1
    refine Frame.anchor ?_ ?_
    next =>
      exact Frame.refl
    next =>
      intro p hp; cases p <;> first | exact absurd hp (by decide) | rfl
  next =>
    exact Frame.refl

theorem State.detachStreams_frame {s : State} {f} :
    Frame [.regs, .pe, .ms] s (State.detachStreams s f) := by
  unfold State.detachStreams
  extract_lets -merge -lift +onlyGivenNames x0
  refine Frame.fold ?_ (fun u a => ?_) _
  next =>
    exact Frame.refl
  next =>
    extract_lets -merge -lift +onlyGivenNames x1 x2 x3
    refine Frame.pe ?_ rfl
    unfold x2
    refine Frame.step ?_ (State.modStream_frame) rfl
    unfold x1
    refine Frame.step ?_ (State.logDeferred_frame) rfl
    exact Frame.refl

theorem State.retireKeys_frame {s : State} {f} :
    Frame [.ce] s (State.retireKeys s f) := by
  unfold State.retireKeys
  extract_lets -merge -lift +onlyGivenNames x0 x1
  refine Frame.fold ?_ (fun u a => ?_) _
  next =>
    unfold x1
    refine Frame.ite ?_ ?_
    next =>
      refine Frame.step ?_ (State.setKek_frame) rfl
      exact Frame.refl
    next =>
      exact Frame.refl
  next =>
    extract_lets -merge -lift +onlyGivenNames x2
    refine Frame.ite ?_ ?_
    next =>
      exact Frame.refl
    next =>
      refine Frame.step ?_ (State.settleRetiring_frame) rfl
      refine Frame.step ?_ (State.setSlot_frame) rfl
      exact Frame.refl

theorem State.orphanCmds_frame {s : State} {f} :
    Frame [.qe] s (State.orphanCmds s f) := by
  unfold State.orphanCmds
  extract_lets -merge -lift +onlyGivenNames x0
  refine Frame.qe ?_ rfl
  exact Frame.refl

theorem State.dropRings_frame {s : State} {f} :
    Frame [.hi, .qe, .bm] s (State.dropRings s f) := by
  unfold State.dropRings
  extract_lets -merge -lift +onlyGivenNames x0 x1 x2 x3
  refine Frame.anchor ?_ ?_
  next =>
    exact Frame.refl
  next =>
    intro p hp; cases p <;> first | exact absurd hp (by decide) | rfl

theorem State.stopFn_frame {s : State} {f} :
    Frame [.regs, .latch, .pendWord, .hi, .klt, .qe, .pe, .bm, .ce, .ct, .ms, .out] s (State.stopFn s f) := by
  unfold State.stopFn
  extract_lets -merge -lift +onlyGivenNames x0 x1 x2 x3 x4 x5 x6
  refine Frame.ite ?_ ?_
  next =>
    refine Frame.step ?_ (State.abandonUpdate_frame) rfl
    unfold x6
    refine Frame.ct ?_ rfl
    unfold x4
    refine Frame.step ?_ (State.clearRegs_frame) rfl
    unfold x3
    refine Frame.step ?_ (State.dropRings_frame) rfl
    unfold x2
    refine Frame.step ?_ (State.retireKeys_frame) rfl
    refine Frame.step ?_ (State.detachStreams_frame) rfl
    refine Frame.step ?_ (State.orphanCmds_frame) rfl
    unfold x1
    refine Frame.fold ?_ (fun u a => ?_) _
    next =>
      exact Frame.refl
    next =>
      refine Frame.step ?_ (State.abandonCmd_frame) rfl
      exact Frame.refl
  next =>
    unfold x6
    refine Frame.ct ?_ rfl
    unfold x4
    refine Frame.step ?_ (State.clearRegs_frame) rfl
    unfold x3
    refine Frame.step ?_ (State.dropRings_frame) rfl
    unfold x2
    refine Frame.step ?_ (State.retireKeys_frame) rfl
    refine Frame.step ?_ (State.detachStreams_frame) rfl
    refine Frame.step ?_ (State.orphanCmds_frame) rfl
    unfold x1
    refine Frame.fold ?_ (fun u a => ?_) _
    next =>
      exact Frame.refl
    next =>
      refine Frame.step ?_ (State.abandonCmd_frame) rfl
      exact Frame.refl

theorem State.setVfs_frame {s : State} {p} {n} :
    Frame [.hi] s (State.setVfs s p n) := by
  unfold State.setVfs
  extract_lets -merge -lift +onlyGivenNames x0
  refine Frame.hi ?_ rfl
  exact Frame.refl

theorem State.flr_frame {s : State} {f} :
    Frame [.regs, .latch, .pendWord, .hi, .klt, .qe, .pe, .bm, .ce, .ct, .ms, .out] s (State.flr s f) := by
  unfold State.flr
  extract_lets -merge -lift +onlyGivenNames x0 x1 x2
  refine Frame.ite ?_ ?_
  next =>
    exact Frame.refl
  next =>
    refine Frame.ite ?_ ?_
    next =>
      refine Frame.step ?_ (State.kltTrigger_frame) rfl
      refine Frame.step ?_ (State.setVfs_frame) rfl
      unfold x2
      refine Frame.fold ?_ (fun u a => ?_) _
      next =>
        exact Frame.refl
      next =>
        refine Frame.step ?_ (State.stopFn_frame) rfl
        exact Frame.refl
    next =>
      refine Frame.step ?_ (State.kltTrigger_frame) rfl
      refine Frame.step ?_ (State.stopFn_frame) rfl
      exact Frame.refl

theorem State.vfCount_frame {s : State} {p} {n} :
    Frame [.regs, .latch, .pendWord, .hi, .klt, .qe, .pe, .bm, .ce, .ct, .ms, .out] s (State.vfCount s p n) := by
  unfold State.vfCount
  extract_lets -merge -lift +onlyGivenNames x0 x1 x2
  refine Frame.ite ?_ ?_
  next =>
    exact Frame.refl
  next =>
    refine Frame.step ?_ (State.kltTrigger_frame) rfl
    refine Frame.step ?_ (State.setVfs_frame) rfl
    unfold x2
    refine Frame.fold ?_ (fun u a => ?_) _
    next =>
      exact Frame.refl
    next =>
      refine Frame.step ?_ (State.stopFn_frame) rfl
      exact Frame.refl

theorem State.perst_frame {s : State} {p} :
    Frame [.regs, .latch, .pendWord, .hi, .klt, .qe, .pe, .bm, .ce, .ct, .ms, .out] s (State.perst s p) := by
  unfold State.perst
  extract_lets -merge -lift +onlyGivenNames x0 x1 x2 x3 x4
  refine Frame.ite ?_ ?_
  next =>
    exact Frame.refl
  next =>
    refine Frame.ite ?_ ?_
    next =>
      unfold x1
      refine Frame.hi ?_ rfl
      exact Frame.refl
    next =>
      refine Frame.step ?_ (State.kltTrigger_frame) rfl
      unfold x4
      refine Frame.step ?_ (State.clearRegs_frame) rfl
      refine Frame.step ?_ (State.setVfs_frame) rfl
      unfold x3
      refine Frame.fold ?_ (fun u a => ?_) _
      next =>
        unfold x1
        refine Frame.hi ?_ rfl
        exact Frame.refl
      next =>
        refine Frame.step ?_ (State.stopFn_frame) rfl
        exact Frame.refl

theorem State.perstEnd_frame {s : State} {p} :
    Frame [.regs, .hi, .ms] s (State.perstEnd s p) := by
  unfold State.perstEnd
  extract_lets -merge -lift +onlyGivenNames x0 x1 x2 x3 x4
  refine Frame.ite ?_ ?_
  next =>
    exact Frame.refl
  next =>
    refine Frame.ite ?_ ?_
    next =>
      unfold x1
      refine Frame.hi ?_ rfl
      exact Frame.refl
    next =>
      refine Frame.step ?_ (State.wake_frame) rfl
      refine Frame.hi ?_ rfl
      unfold x1
      refine Frame.hi ?_ rfl
      exact Frame.refl

theorem State.hardReset_frame {s : State} {por} {keepScan} :
    Frame [.regs, .latch, .pendWord, .hi, .qe, .pe, .bm, .mc, .cx, .ce, .df, .wc, .rc, .ed, .vc, .sm, .ct, .ms] s
        (State.hardReset s por keepScan) := by
  unfold State.hardReset
  extract_lets -merge -lift +onlyGivenNames x0 x1 x2 x3 x4 x5
  refine Frame.anchor ?_ ?_
  next =>
    unfold x0
    refine Frame.step ?_ (State.clearRegs_frame) rfl
    refine Frame.step ?_ (State.emptyDf_frame) rfl
    refine Frame.step ?_ (State.emptyPe_frame) rfl
    exact Frame.refl
  next =>
    clear_value x0
    intro p hp; cases p <;> first | exact absurd hp (by decide) | rfl

theorem State.stuck_frame {s : State} :
    Frame [.regs, .ms] s (State.stuck s) := by
  unfold State.stuck
  extract_lets -merge -lift +onlyGivenNames x0 x1
  refine Frame.ms ?_ rfl
  unfold x0
  refine Frame.step ?_ (State.logEv_frame) rfl
  exact Frame.refl

theorem State.rollBackAtStart_frame {s : State} {reason} :
    Frame [.regs, .ms] s (State.rollBackAtStart s reason) := by
  unfold State.rollBackAtStart
  extract_lets -merge -lift +onlyGivenNames x0 x1
  refine Frame.ms ?_ rfl
  unfold x0
  refine Frame.step ?_ (State.logEv_frame) rfl
  refine Frame.step ?_ (State.rollBack_frame) rfl
  exact Frame.refl

theorem State.chooseImage_frame {s t : State} {por : Bool} (h : s.chooseImage por = some t) : Frame [.regs, .ms] s t :=
    by
  unfold State.chooseImage at h
  extract_lets p u q v at h
  have hu : Frame [.regs, .ms] s u := by
    refine Frame.ite (Frame.ite ?_ (Frame.ite ?_ (Frame.ite ?_ Frame.refl))) Frame.refl
    · exact Frame.step Frame.refl State.rollBackAtStart_frame rfl
    · exact Frame.step Frame.refl State.rollBackAtStart_frame rfl
    · exact Frame.step Frame.refl State.writePointer_frame rfl
  have hv : Frame [.regs, .ms] s v := Frame.ite (Frame.step hu State.writePointer_frame rfl) hu
  clear_value v
  split at h
  next =>
    obtain rfl := Option.some.inj h
    exact Frame.ite (Frame.ms hv rfl) (Frame.step (Frame.ms hv rfl) State.blowFuses_frame rfl)
  next => cases h

theorem State.recordRun_frame {s : State} {run} {t} :
    Frame [.regs, .hi, .klt, .qe, .pe, .bm, .mc, .cx, .ce, .df, .wc, .ed, .sm, .ms, .out] s (State.recordRun s run t) :=
        by
  unfold State.recordRun
  extract_lets -merge -lift +onlyGivenNames x0 x1 x2 x3
  refine Frame.fold ?_ (fun u a => ?_) _
  next =>
    unfold x3
    refine Frame.ms ?_ rfl
    exact Frame.refl
  next =>
    refine Frame.step ?_ (State.retireUnit_frame) rfl
    exact Frame.refl

theorem State.interleave_frame {s : State} :
    Frame [.mc] s (State.interleave s) := by
  unfold State.interleave
  extract_lets -merge -lift +onlyGivenNames x0
  refine Frame.mc ?_ rfl
  exact Frame.refl

theorem State.repairTenants_frame {s : State} :
    Frame [.regs, .ms] s (State.repairTenants s) := by
  unfold State.repairTenants
  refine FrameP.out ?_
  refine FrameP.fold ?_ (fun u a => ?_) _
  next =>
    refine FrameP.mk ?_
    exact Frame.refl
  next =>
    extract_lets -merge -lift +onlyGivenNames x0 x1
    refine FrameP.ite ?_ ?_
    next =>
      refine FrameP.mk ?_
      refine Frame.step ?_ (State.writeN_frame) rfl
      refine FrameP.out ?_
      exact Frame.refl
    next =>
      refine FrameP.mk ?_
      refine FrameP.out ?_
      exact Frame.refl

theorem State.startLinks_frame {s : State} :
    Frame [.hi] s (State.startLinks s) := by
  unfold State.startLinks
  extract_lets -merge -lift +onlyGivenNames x0
  refine Frame.hi ?_ rfl
  exact Frame.refl

theorem State.startUp_frame {s : State} {por} :
    Frame [.regs, .hi, .klt, .qe, .mc, .ce, .ms, .out, .fresh] s (State.startUp s por) := by
  unfold State.startUp
  extract_lets -merge -lift +onlyGivenNames x0 x1 x2 x3 x4 x5 x6 x7 x8 x9 x10 x11 x12 x13
  refine Frame.ite ?_ ?_
  next =>
    unfold x5
    refine Frame.ite ?_ ?_
    next =>
      refine Frame.step ?_ (State.logEv_frame) rfl
      unfold x4
      refine Frame.ite ?_ ?_
      next =>
        unfold x3
        refine Frame.anchor ?_ ?_
        next =>
          unfold x0
          refine Frame.step ?_ (State.interleave_frame) rfl
          refine Frame.step ?_ (State.draw_frame) rfl
          exact Frame.refl
        next =>
          clear_value x0
          intro p hp; cases p <;> first | exact absurd hp (by decide) | rfl
      next =>
        refine Frame.step ?_ (State.logEv_frame) rfl
        refine Frame.step ?_ (State.bump_frame) rfl
        unfold x3
        refine Frame.anchor ?_ ?_
        next =>
          unfold x0
          refine Frame.step ?_ (State.interleave_frame) rfl
          refine Frame.step ?_ (State.draw_frame) rfl
          exact Frame.refl
        next =>
          clear_value x0
          intro p hp; cases p <;> first | exact absurd hp (by decide) | rfl
    next =>
      unfold x4
      refine Frame.ite ?_ ?_
      next =>
        unfold x3
        refine Frame.anchor ?_ ?_
        next =>
          unfold x0
          refine Frame.step ?_ (State.interleave_frame) rfl
          refine Frame.step ?_ (State.draw_frame) rfl
          exact Frame.refl
        next =>
          clear_value x0
          intro p hp; cases p <;> first | exact absurd hp (by decide) | rfl
      next =>
        refine Frame.step ?_ (State.logEv_frame) rfl
        refine Frame.step ?_ (State.bump_frame) rfl
        unfold x3
        refine Frame.anchor ?_ ?_
        next =>
          unfold x0
          refine Frame.step ?_ (State.interleave_frame) rfl
          refine Frame.step ?_ (State.draw_frame) rfl
          exact Frame.refl
        next =>
          clear_value x0
          intro p hp; cases p <;> first | exact absurd hp (by decide) | rfl
  next =>
    split
    next =>
      refine Frame.ite ?_ ?_
      next =>
        refine Frame.step ?_ (State.chimeOwner_frame) rfl
        refine Frame.ms ?_ rfl
        unfold x12
        refine Frame.anchor ?_ ?_
        next =>
          unfold x9
          refine Frame.step ?_ (State.startLinks_frame) rfl
          refine Frame.step ?_ (State.repairTenants_frame) rfl
          unfold x8
          refine Frame.ite ?_ ?_
          next =>
            refine Frame.step ?_ (State.logEv_frame) rfl
            unfold x7
            refine Frame.hi ?_ rfl
            unfold x5
            refine Frame.ite ?_ ?_
            next =>
              refine Frame.step ?_ (State.logEv_frame) rfl
              unfold x4
              refine Frame.ite ?_ ?_
              next =>
                unfold x3
                refine Frame.anchor ?_ ?_
                next =>
                  unfold x0
                  refine Frame.step ?_ (State.interleave_frame) rfl
                  refine Frame.step ?_ (State.draw_frame) rfl
                  exact Frame.refl
                next =>
                  clear_value x0
                  intro p hp; cases p <;> first | exact absurd hp (by decide) | rfl
              next =>
                refine Frame.step ?_ (State.logEv_frame) rfl
                refine Frame.step ?_ (State.bump_frame) rfl
                unfold x3
                refine Frame.anchor ?_ ?_
                next =>
                  unfold x0
                  refine Frame.step ?_ (State.interleave_frame) rfl
                  refine Frame.step ?_ (State.draw_frame) rfl
                  exact Frame.refl
                next =>
                  clear_value x0
                  intro p hp; cases p <;> first | exact absurd hp (by decide) | rfl
            next =>
              unfold x4
              refine Frame.ite ?_ ?_
              next =>
                unfold x3
                refine Frame.anchor ?_ ?_
                next =>
                  unfold x0
                  refine Frame.step ?_ (State.interleave_frame) rfl
                  refine Frame.step ?_ (State.draw_frame) rfl
                  exact Frame.refl
                next =>
                  clear_value x0
                  intro p hp; cases p <;> first | exact absurd hp (by decide) | rfl
              next =>
                refine Frame.step ?_ (State.logEv_frame) rfl
                refine Frame.step ?_ (State.bump_frame) rfl
                unfold x3
                refine Frame.anchor ?_ ?_
                next =>
                  unfold x0
                  refine Frame.step ?_ (State.interleave_frame) rfl
                  refine Frame.step ?_ (State.draw_frame) rfl
                  exact Frame.refl
                next =>
                  clear_value x0
                  intro p hp; cases p <;> first | exact absurd hp (by decide) | rfl
          next =>
            unfold x7
            refine Frame.hi ?_ rfl
            unfold x5
            refine Frame.ite ?_ ?_
            next =>
              refine Frame.step ?_ (State.logEv_frame) rfl
              unfold x4
              refine Frame.ite ?_ ?_
              next =>
                unfold x3
                refine Frame.anchor ?_ ?_
                next =>
                  unfold x0
                  refine Frame.step ?_ (State.interleave_frame) rfl
                  refine Frame.step ?_ (State.draw_frame) rfl
                  exact Frame.refl
                next =>
                  clear_value x0
                  intro p hp; cases p <;> first | exact absurd hp (by decide) | rfl
              next =>
                refine Frame.step ?_ (State.logEv_frame) rfl
                refine Frame.step ?_ (State.bump_frame) rfl
                unfold x3
                refine Frame.anchor ?_ ?_
                next =>
                  unfold x0
                  refine Frame.step ?_ (State.interleave_frame) rfl
                  refine Frame.step ?_ (State.draw_frame) rfl
                  exact Frame.refl
                next =>
                  clear_value x0
                  intro p hp; cases p <;> first | exact absurd hp (by decide) | rfl
            next =>
              unfold x4
              refine Frame.ite ?_ ?_
              next =>
                unfold x3
                refine Frame.anchor ?_ ?_
                next =>
                  unfold x0
                  refine Frame.step ?_ (State.interleave_frame) rfl
                  refine Frame.step ?_ (State.draw_frame) rfl
                  exact Frame.refl
                next =>
                  clear_value x0
                  intro p hp; cases p <;> first | exact absurd hp (by decide) | rfl
              next =>
                refine Frame.step ?_ (State.logEv_frame) rfl
                refine Frame.step ?_ (State.bump_frame) rfl
                unfold x3
                refine Frame.anchor ?_ ?_
                next =>
                  unfold x0
                  refine Frame.step ?_ (State.interleave_frame) rfl
                  refine Frame.step ?_ (State.draw_frame) rfl
                  exact Frame.refl
                next =>
                  clear_value x0
                  intro p hp; cases p <;> first | exact absurd hp (by decide) | rfl
        next =>
          clear_value x9
          intro p hp; cases p <;> first | exact absurd hp (by decide) | rfl
      next =>
        unfold x12
        refine Frame.anchor ?_ ?_
        next =>
          unfold x9
          refine Frame.step ?_ (State.startLinks_frame) rfl
          refine Frame.step ?_ (State.repairTenants_frame) rfl
          unfold x8
          refine Frame.ite ?_ ?_
          next =>
            refine Frame.step ?_ (State.logEv_frame) rfl
            unfold x7
            refine Frame.hi ?_ rfl
            unfold x5
            refine Frame.ite ?_ ?_
            next =>
              refine Frame.step ?_ (State.logEv_frame) rfl
              unfold x4
              refine Frame.ite ?_ ?_
              next =>
                unfold x3
                refine Frame.anchor ?_ ?_
                next =>
                  unfold x0
                  refine Frame.step ?_ (State.interleave_frame) rfl
                  refine Frame.step ?_ (State.draw_frame) rfl
                  exact Frame.refl
                next =>
                  clear_value x0
                  intro p hp; cases p <;> first | exact absurd hp (by decide) | rfl
              next =>
                refine Frame.step ?_ (State.logEv_frame) rfl
                refine Frame.step ?_ (State.bump_frame) rfl
                unfold x3
                refine Frame.anchor ?_ ?_
                next =>
                  unfold x0
                  refine Frame.step ?_ (State.interleave_frame) rfl
                  refine Frame.step ?_ (State.draw_frame) rfl
                  exact Frame.refl
                next =>
                  clear_value x0
                  intro p hp; cases p <;> first | exact absurd hp (by decide) | rfl
            next =>
              unfold x4
              refine Frame.ite ?_ ?_
              next =>
                unfold x3
                refine Frame.anchor ?_ ?_
                next =>
                  unfold x0
                  refine Frame.step ?_ (State.interleave_frame) rfl
                  refine Frame.step ?_ (State.draw_frame) rfl
                  exact Frame.refl
                next =>
                  clear_value x0
                  intro p hp; cases p <;> first | exact absurd hp (by decide) | rfl
              next =>
                refine Frame.step ?_ (State.logEv_frame) rfl
                refine Frame.step ?_ (State.bump_frame) rfl
                unfold x3
                refine Frame.anchor ?_ ?_
                next =>
                  unfold x0
                  refine Frame.step ?_ (State.interleave_frame) rfl
                  refine Frame.step ?_ (State.draw_frame) rfl
                  exact Frame.refl
                next =>
                  clear_value x0
                  intro p hp; cases p <;> first | exact absurd hp (by decide) | rfl
          next =>
            unfold x7
            refine Frame.hi ?_ rfl
            unfold x5
            refine Frame.ite ?_ ?_
            next =>
              refine Frame.step ?_ (State.logEv_frame) rfl
              unfold x4
              refine Frame.ite ?_ ?_
              next =>
                unfold x3
                refine Frame.anchor ?_ ?_
                next =>
                  unfold x0
                  refine Frame.step ?_ (State.interleave_frame) rfl
                  refine Frame.step ?_ (State.draw_frame) rfl
                  exact Frame.refl
                next =>
                  clear_value x0
                  intro p hp; cases p <;> first | exact absurd hp (by decide) | rfl
              next =>
                refine Frame.step ?_ (State.logEv_frame) rfl
                refine Frame.step ?_ (State.bump_frame) rfl
                unfold x3
                refine Frame.anchor ?_ ?_
                next =>
                  unfold x0
                  refine Frame.step ?_ (State.interleave_frame) rfl
                  refine Frame.step ?_ (State.draw_frame) rfl
                  exact Frame.refl
                next =>
                  clear_value x0
                  intro p hp; cases p <;> first | exact absurd hp (by decide) | rfl
            next =>
              unfold x4
              refine Frame.ite ?_ ?_
              next =>
                unfold x3
                refine Frame.anchor ?_ ?_
                next =>
                  unfold x0
                  refine Frame.step ?_ (State.interleave_frame) rfl
                  refine Frame.step ?_ (State.draw_frame) rfl
                  exact Frame.refl
                next =>
                  clear_value x0
                  intro p hp; cases p <;> first | exact absurd hp (by decide) | rfl
              next =>
                refine Frame.step ?_ (State.logEv_frame) rfl
                refine Frame.step ?_ (State.bump_frame) rfl
                unfold x3
                refine Frame.anchor ?_ ?_
                next =>
                  unfold x0
                  refine Frame.step ?_ (State.interleave_frame) rfl
                  refine Frame.step ?_ (State.draw_frame) rfl
                  exact Frame.refl
                next =>
                  clear_value x0
                  intro p hp; cases p <;> first | exact absurd hp (by decide) | rfl
        next =>
          clear_value x9
          intro p hp; cases p <;> first | exact absurd hp (by decide) | rfl
    next =>
      unfold x12
      refine Frame.anchor ?_ ?_
      next =>
        unfold x9
        refine Frame.step ?_ (State.startLinks_frame) rfl
        refine Frame.step ?_ (State.repairTenants_frame) rfl
        unfold x8
        refine Frame.ite ?_ ?_
        next =>
          refine Frame.step ?_ (State.logEv_frame) rfl
          unfold x7
          refine Frame.hi ?_ rfl
          unfold x5
          refine Frame.ite ?_ ?_
          next =>
            refine Frame.step ?_ (State.logEv_frame) rfl
            unfold x4
            refine Frame.ite ?_ ?_
            next =>
              unfold x3
              refine Frame.anchor ?_ ?_
              next =>
                unfold x0
                refine Frame.step ?_ (State.interleave_frame) rfl
                refine Frame.step ?_ (State.draw_frame) rfl
                exact Frame.refl
              next =>
                clear_value x0
                intro p hp; cases p <;> first | exact absurd hp (by decide) | rfl
            next =>
              refine Frame.step ?_ (State.logEv_frame) rfl
              refine Frame.step ?_ (State.bump_frame) rfl
              unfold x3
              refine Frame.anchor ?_ ?_
              next =>
                unfold x0
                refine Frame.step ?_ (State.interleave_frame) rfl
                refine Frame.step ?_ (State.draw_frame) rfl
                exact Frame.refl
              next =>
                clear_value x0
                intro p hp; cases p <;> first | exact absurd hp (by decide) | rfl
          next =>
            unfold x4
            refine Frame.ite ?_ ?_
            next =>
              unfold x3
              refine Frame.anchor ?_ ?_
              next =>
                unfold x0
                refine Frame.step ?_ (State.interleave_frame) rfl
                refine Frame.step ?_ (State.draw_frame) rfl
                exact Frame.refl
              next =>
                clear_value x0
                intro p hp; cases p <;> first | exact absurd hp (by decide) | rfl
            next =>
              refine Frame.step ?_ (State.logEv_frame) rfl
              refine Frame.step ?_ (State.bump_frame) rfl
              unfold x3
              refine Frame.anchor ?_ ?_
              next =>
                unfold x0
                refine Frame.step ?_ (State.interleave_frame) rfl
                refine Frame.step ?_ (State.draw_frame) rfl
                exact Frame.refl
              next =>
                clear_value x0
                intro p hp; cases p <;> first | exact absurd hp (by decide) | rfl
        next =>
          unfold x7
          refine Frame.hi ?_ rfl
          unfold x5
          refine Frame.ite ?_ ?_
          next =>
            refine Frame.step ?_ (State.logEv_frame) rfl
            unfold x4
            refine Frame.ite ?_ ?_
            next =>
              unfold x3
              refine Frame.anchor ?_ ?_
              next =>
                unfold x0
                refine Frame.step ?_ (State.interleave_frame) rfl
                refine Frame.step ?_ (State.draw_frame) rfl
                exact Frame.refl
              next =>
                clear_value x0
                intro p hp; cases p <;> first | exact absurd hp (by decide) | rfl
            next =>
              refine Frame.step ?_ (State.logEv_frame) rfl
              refine Frame.step ?_ (State.bump_frame) rfl
              unfold x3
              refine Frame.anchor ?_ ?_
              next =>
                unfold x0
                refine Frame.step ?_ (State.interleave_frame) rfl
                refine Frame.step ?_ (State.draw_frame) rfl
                exact Frame.refl
              next =>
                clear_value x0
                intro p hp; cases p <;> first | exact absurd hp (by decide) | rfl
          next =>
            unfold x4
            refine Frame.ite ?_ ?_
            next =>
              unfold x3
              refine Frame.anchor ?_ ?_
              next =>
                unfold x0
                refine Frame.step ?_ (State.interleave_frame) rfl
                refine Frame.step ?_ (State.draw_frame) rfl
                exact Frame.refl
              next =>
                clear_value x0
                intro p hp; cases p <;> first | exact absurd hp (by decide) | rfl
            next =>
              refine Frame.step ?_ (State.logEv_frame) rfl
              refine Frame.step ?_ (State.bump_frame) rfl
              unfold x3
              refine Frame.anchor ?_ ?_
              next =>
                unfold x0
                refine Frame.step ?_ (State.interleave_frame) rfl
                refine Frame.step ?_ (State.draw_frame) rfl
                exact Frame.refl
              next =>
                clear_value x0
                intro p hp; cases p <;> first | exact absurd hp (by decide) | rfl
      next =>
        clear_value x9
        intro p hp; cases p <;> first | exact absurd hp (by decide) | rfl

theorem State.replayLog_frame {s : State} :
    Frame [.ms] s (State.replayLog s) := by
  unfold State.replayLog
  extract_lets -merge -lift +onlyGivenNames x0
  refine Frame.ms ?_ rfl
  exact Frame.refl

theorem State.readClean_frame {s : State} :
    Frame [.regs, .ms] s (State.readClean s) := by
  unfold State.readClean
  extract_lets -merge -lift +onlyGivenNames x0 x1
  refine Frame.ms ?_ rfl
  unfold x0
  refine Frame.ite ?_ ?_
  next =>
    exact Frame.refl
  next =>
    refine Frame.step ?_ (State.setFld_frame) rfl
    exact Frame.refl

theorem State.start_frame {s : State} {por : Bool} {mem : TestRead} :
    Frame [.regs, .hi, .klt, .qe, .pe, .bm, .mc, .cx, .ce, .df, .wc, .ed, .sm, .ms, .out, .fresh] s (s.start por mem) :=
        by
  unfold State.start
  extract_lets a b c d e
  have ha : Frame [.regs, .hi, .klt, .qe, .pe, .bm, .mc, .cx, .ce, .df, .wc, .ed, .sm, .ms, .out, .fresh] s a :=
      Frame.ite (Frame.step Frame.refl State.replayLog_frame rfl) Frame.refl
  have hc : Frame [.regs, .hi, .klt, .qe, .pe, .bm, .mc, .cx, .ce, .df, .wc, .ed, .sm, .ms, .out, .fresh] s c :=
      Frame.step ha State.readClean_frame rfl
  have hd : Frame [.regs, .hi, .klt, .qe, .pe, .bm, .mc, .cx, .ce, .df, .wc, .ed, .sm, .ms, .out, .fresh] s d :=
      Frame.ite (Frame.step hc State.logEv_frame rfl) hc
  have he : Frame [.regs, .hi, .klt, .qe, .pe, .bm, .mc, .cx, .ce, .df, .wc, .ed, .sm, .ms, .out, .fresh] s e :=
    Frame.ite (Frame.step (Frame.step hd State.recordRun_frame rfl) State.setFld_frame rfl) hd
  clear_value e a
  refine Frame.ite (Frame.step ha State.stuck_frame rfl) ?_
  split
  next => exact Frame.step he State.stuck_frame rfl
  next ht => exact Frame.step (Frame.step he (State.chooseImage_frame ht) rfl) State.startUp_frame rfl

theorem State.deviceReset_frame {s : State} {bit} :
    Frame [.regs, .latch, .pendWord, .hi, .klt, .qe, .pe, .bm, .mc, .cx, .ce, .df, .wc, .rc, .ed, .vc, .sm, .ct, .ms,
        .out, .fresh] s (State.deviceReset s bit) := by
  unfold State.deviceReset
  refine Frame.step ?_ (State.start_frame) rfl
  refine Frame.step ?_ (State.setFld_frame) rfl
  refine Frame.step ?_ (State.hardReset_frame) rfl
  exact Frame.refl

theorem State.settleDevrst_frame {s : State} :
    Frame [.regs, .latch, .pendWord, .hi, .klt, .qe, .pe, .bm, .mc, .cx, .ce, .df, .wc, .rc, .ed, .vc, .sm, .ct, .ms,
        .out, .fresh] s (State.settleDevrst s) := by
  unfold State.settleDevrst
  refine Frame.ite ?_ ?_
  next =>
    refine Frame.step ?_ (State.deviceReset_frame) rfl
    exact Frame.refl
  next =>
    exact Frame.refl

theorem State.writeSbOwner_frame {s : State} {v} :
    Frame [.regs, .hi, .klt, .qe, .ms, .out] s (State.writeSbOwner s v) := by
  unfold State.writeSbOwner
  extract_lets -merge -lift +onlyGivenNames x0 x1 x2
  refine Frame.ite ?_ ?_
  next =>
    exact Frame.refl
  next =>
    refine Frame.ite ?_ ?_
    next =>
      refine Frame.step ?_ (State.rwlReject_frame) rfl
      exact Frame.refl
    next =>
      refine Frame.ite ?_ ?_
      next =>
        refine Frame.step ?_ (State.rwlReject_frame) rfl
        exact Frame.refl
      next =>
        refine Frame.step ?_ (State.settleOwner_frame) rfl
        refine Frame.hi ?_ rfl
        unfold x1
        refine Frame.step ?_ (State.setReg_frame) rfl
        exact Frame.refl

end Sys2Proof.Machine
end

