-- ==== Sys2Proof/Laws/FramesMs.lean ====
section
/-! SUPPORT. Which parts of the state each operation of register accesses, diagnosis and power can change: one lemma for each. -/

namespace Sys2Proof.Machine

theorem State.clearOnRead_frame {s : State} {r} {inst} {sel} :
    Frame [.regs, .bm, .df, .ms, .fresh] s (State.clearOnRead s r inst sel) := by
  unfold State.clearOnRead
  split
  next =>
    extract_lets -merge -lift +onlyGivenNames x0
    refine Frame.bm ?_ rfl
    exact Frame.refl
  next =>
    extract_lets -merge -lift +onlyGivenNames x0
    refine Frame.df ?_ rfl
    exact Frame.refl
  next =>
    extract_lets -merge -lift +onlyGivenNames x0 x1
    refine Frame.ms ?_ rfl
    unfold x0
    refine Frame.step ?_ (State.draw_frame) rfl
    exact Frame.refl
  next =>
    refine Frame.step ?_ (State.setReg_frame) rfl
    exact Frame.refl

theorem State.readReg_frame {s : State} {src : Port} {r : RegName} {inst sel mask : Nat} :
    Frame [.regs, .latch, .bm, .df, .ms, .fresh] s (s.readReg src r inst sel mask).2 := by
  unfold State.readReg
  split
  next => exact Frame.latch Frame.refl rfl
  next =>
    extract_lets k
    split
    next => exact Frame.latch Frame.refl rfl
    next => exact Frame.refl
  next =>
    extract_lets v u
    have hu : Frame [.regs, .latch, .bm, .df, .ms, .fresh] s u :=
      Frame.ite (Frame.step Frame.refl State.draw_frame rfl) Frame.refl
    clear_value u
    split
    next => exact Frame.step hu State.clearOnRead_frame rfl
    next => exact hu

theorem State.readWord_frame {s : State} {src : Port} {b : Blk} {inst off mask : Nat} :
    Frame [.regs, .latch, .bm, .df, .ms, .fresh] s (s.readWord src b inst off mask).2 := by
  unfold State.readWord
  split
  next => exact Frame.refl
  next => exact Frame.refl
  next =>
    split
    next => exact Frame.refl
    next => exact Frame.refl
    next =>
      split
      next => exact State.readReg_frame
      next => exact Frame.refl

theorem State.readWords_frame {s : State} {src : Port} {b : Blk} {inst off width w n : Nat} :
    Frame [.regs, .latch, .bm, .df, .ms, .fresh] s (s.readWords src b inst off width w n).2 := by
  induction n generalizing s w with
  | zero => exact Frame.refl
  | succ n ih => exact Frame.trans State.readWord_frame ih

theorem State.hostRead_frame {s : State} {src : Port} {b : Blk} {inst off width : Nat} :
    Frame [.regs, .latch, .bm, .df, .ms, .out, .fresh] s (s.hostRead src b inst off width) := by
  unfold State.hostRead
  refine Frame.ite Frame.refl (Frame.ite (Frame.step Frame.refl State.emit_frame rfl) ?_)
  exact Frame.step (Frame.mono State.readWords_frame rfl) State.emit_frame rfl

theorem State.getLog_frame {s : State} {c} {ps} :
    Frame [.regs, .hi, .klt, .qe, .pe, .bm, .ms, .out, .fresh] s (State.getLog s c ps) := by
  unfold State.getLog
  extract_lets -merge -lift +onlyGivenNames x0 x1
  refine Frame.step ?_ (State.finishCmd_frame) rfl
  refine Frame.step ?_ (State.scatter_frame) rfl
  unfold x1
  refine Frame.ite ?_ ?_
  next =>
    refine Frame.step ?_ (State.draw_frame) rfl
    exact Frame.refl
  next =>
    exact Frame.refl

theorem State.testUnits_frame {s : State} {t} {n} {r} :
    FrameP [.regs, .hi, .klt, .qe, .pe, .bm, .mc, .cx, .ce, .df, .wc, .ed, .sm, .ms, .out] s (State.testUnits s t n r)
        := by
  unfold State.testUnits
  extract_lets -merge -lift +onlyGivenNames x0
  refine FrameP.mk ?_
  refine Frame.step ?_ (State.recordRun_frame) rfl
  exact Frame.refl

theorem State.selfTest_frame {s : State} {c} {r} :
    Frame [.regs, .hi, .klt, .qe, .pe, .bm, .mc, .cx, .ce, .df, .wc, .ed, .sm, .ms, .out] s (State.selfTest s c r) := by
  unfold State.selfTest
  extract_lets -merge -lift +onlyGivenNames x0 x1
  refine Frame.ite ?_ ?_
  next =>
    refine Frame.step ?_ (State.finishCmd_frame) rfl
    exact Frame.refl
  next =>
    refine Frame.step ?_ (State.finishCmd_frame) rfl
    refine FrameP.out ?_
    unfold x1
    refine FrameP.step ?_ (State.testUnits_frame) rfl
    exact Frame.refl

theorem State.unitReturn_frame {s : State} {c} {r} :
    Frame [.regs, .hi, .klt, .qe, .pe, .bm, .mc, .cx, .ce, .df, .wc, .ed, .sm, .ms, .out] s (State.unitReturn s c r) :=
        by
  unfold State.unitReturn
  extract_lets -merge -lift +onlyGivenNames x0 x1
  refine Frame.ite ?_ ?_
  next =>
    refine Frame.step ?_ (State.finishCmd_frame) rfl
    exact Frame.refl
  next =>
    refine Frame.ite ?_ ?_
    next =>
      refine Frame.step ?_ (State.finishCmd_frame) rfl
      refine FrameP.out ?_
      unfold x1
      refine FrameP.step ?_ (State.testUnits_frame) rfl
      exact Frame.refl
    next =>
      refine Frame.step ?_ (State.finishCmd_frame) rfl
      refine Frame.step ?_ (State.returnUnit_frame) rfl
      refine FrameP.out ?_
      unfold x1
      refine FrameP.step ?_ (State.testUnits_frame) rfl
      exact Frame.refl

theorem State.unitBurn_frame {s : State} {c} {good} {burned} :
    Frame [.regs, .hi, .klt, .qe, .pe, .bm, .ms, .out] s (State.unitBurn s c good burned) := by
  unfold State.unitBurn
  extract_lets -merge -lift +onlyGivenNames x0 x1 x2 x3 x4 x5
  refine Frame.ite ?_ ?_
  next =>
    refine Frame.step ?_ (State.finishCmd_frame) rfl
    exact Frame.refl
  next =>
    refine Frame.ite ?_ ?_
    next =>
      refine Frame.step ?_ (State.finishCmd_frame) rfl
      unfold x3
      refine Frame.ms ?_ rfl
      exact Frame.refl
    next =>
      refine Frame.step ?_ (State.finishCmd_frame) rfl
      unfold x5
      refine Frame.ms ?_ rfl
      exact Frame.refl

theorem State.sliceStart_frame {s : State} :
    Frame [.ms] s (State.sliceStart s) := by
  unfold State.sliceStart
  refine Frame.ite ?_ ?_
  next =>
    exact Frame.refl
  next =>
    split
    next =>
      exact Frame.refl
    next =>
      extract_lets -merge -lift +onlyGivenNames x0
      refine Frame.ite ?_ ?_
      next =>
        refine Frame.ms ?_ rfl
        exact Frame.refl
      next =>
        exact Frame.refl

theorem State.sliceEnd_frame {s : State} {r} :
    Frame [.regs, .hi, .klt, .qe, .pe, .bm, .mc, .cx, .ce, .df, .wc, .ed, .sm, .ms, .out] s (State.sliceEnd s r) := by
  unfold State.sliceEnd
  split
  next =>
    exact Frame.refl
  next =>
    extract_lets -merge -lift +onlyGivenNames x0 x1 x2 x3
    refine FrameP.out ?_
    refine FrameP.step ?_ (State.testUnits_frame) rfl
    unfold x3
    refine Frame.ite ?_ ?_
    next =>
      refine Frame.step ?_ (State.logEv_frame) rfl
      refine Frame.step ?_ (State.bump_frame) rfl
      unfold x1
      refine Frame.step ?_ (State.bump_frame) rfl
      refine Frame.ms ?_ rfl
      exact Frame.refl
    next =>
      unfold x1
      refine Frame.step ?_ (State.bump_frame) rfl
      refine Frame.ms ?_ rfl
      exact Frame.refl

theorem State.zeroise_frame {s : State} :
    Frame [.ce] s (State.zeroise s) := by
  unfold State.zeroise
  extract_lets -merge -lift +onlyGivenNames x0
  refine Frame.ce ?_ rfl
  exact Frame.refl

theorem State.closeAll_frame {s : State} :
    Frame [.regs, .pe, .ms] s (State.closeAll s) := by
  unfold State.closeAll
  refine Frame.fold ?_ (fun u a => ?_) _
  next =>
    exact Frame.refl
  next =>
    refine Frame.ite ?_ ?_
    next =>
      refine Frame.step ?_ (State.modStream_frame) rfl
      refine Frame.step ?_ (State.logDeferred_frame) rfl
      exact Frame.refl
    next =>
      exact Frame.refl

theorem State.brakeTape_frame {s : State} :
    Frame [.wc, .sm] s (State.brakeTape s) := by
  unfold State.brakeTape
  extract_lets -merge -lift +onlyGivenNames x0 x1
  refine Frame.anchor ?_ ?_
  next =>
    exact Frame.refl
  next =>
    intro p hp; cases p <;> first | exact absurd hp (by decide) | rfl

theorem State.leaveService_frame {s : State} :
    Frame [.qe] s (State.leaveService s) := by
  unfold State.leaveService
  extract_lets -merge -lift +onlyGivenNames x0
  refine Frame.qe ?_ rfl
  exact Frame.refl

theorem State.shutdownPrep_frame {s : State} {c} {rootOk} :
    Frame [.regs, .hi, .klt, .qe, .pe, .bm, .cx, .ce, .df, .wc, .rc, .ed, .vc, .sm, .ct, .ms, .out] s
        (State.shutdownPrep s c rootOk) := by
  unfold State.shutdownPrep
  extract_lets -merge -lift +onlyGivenNames x0 x1 x2 x3
  refine Frame.ite ?_ ?_
  next =>
    refine Frame.step ?_ (State.finishCmd_frame) rfl
    exact Frame.refl
  next =>
    refine Frame.ite ?_ ?_
    next =>
      refine Frame.step ?_ (State.finishCmd_frame) rfl
      exact Frame.refl
    next =>
      refine Frame.ite ?_ ?_
      next =>
        refine FrameP.out ?_
        unfold x1
        refine FrameP.ite ?_ ?_
        next =>
          refine FrameP.step ?_ (State.endMount_frame) rfl
          unfold x0
          refine Frame.step ?_ (State.closeAll_frame) rfl
          exact Frame.refl
        next =>
          refine FrameP.mk ?_
          unfold x0
          refine Frame.step ?_ (State.closeAll_frame) rfl
          exact Frame.refl
      next =>
        refine Frame.ms ?_ rfl
        unfold x2
        refine Frame.step ?_ (State.saveSummary_frame) rfl
        refine Frame.step ?_ (State.leaveService_frame) rfl
        refine Frame.step ?_ (State.finishCmd_frame) rfl
        refine Frame.step ?_ (State.brakeTape_frame) rfl
        refine FrameP.out ?_
        unfold x1
        refine FrameP.ite ?_ ?_
        next =>
          refine FrameP.step ?_ (State.endMount_frame) rfl
          unfold x0
          refine Frame.step ?_ (State.closeAll_frame) rfl
          exact Frame.refl
        next =>
          refine FrameP.mk ?_
          unfold x0
          refine Frame.step ?_ (State.closeAll_frame) rfl
          exact Frame.refl

theorem State.quiet_frame {s : State} :
    Frame [.wc, .sm, .ms] s (State.quiet s) := by
  unfold State.quiet
  extract_lets -merge -lift +onlyGivenNames x0 x1
  refine Frame.ms ?_ rfl
  unfold x0
  refine Frame.step ?_ (State.brakeTape_frame) rfl
  exact Frame.refl

theorem State.shutdownTest_frame {s : State} {zeroOk} {r} :
    Frame [.regs, .hi, .klt, .qe, .pe, .bm, .mc, .cx, .ce, .df, .wc, .ed, .sm, .ms, .out] s (State.shutdownTest s zeroOk
        r) := by
  unfold State.shutdownTest
  extract_lets -merge -lift +onlyGivenNames x0 x1 x2
  refine Frame.ite ?_ ?_
  next =>
    exact Frame.refl
  next =>
    refine Frame.ite ?_ ?_
    next =>
      refine Frame.step ?_ (State.quiet_frame) rfl
      refine Frame.step ?_ (State.logEv_frame) rfl
      unfold x0
      refine Frame.step ?_ (State.zeroise_frame) rfl
      exact Frame.refl
    next =>
      refine Frame.step ?_ (State.quiet_frame) rfl
      refine Frame.ms ?_ rfl
      unfold x1
      refine Frame.step ?_ (State.recordRun_frame) rfl
      unfold x0
      refine Frame.step ?_ (State.zeroise_frame) rfl
      exact Frame.refl

theorem State.unlock_frame {s : State} {src} {v} :
    Frame [.regs, .qe, .ce, .ms] s (State.unlock s src v) := by
  unfold State.unlock
  extract_lets -merge -lift +onlyGivenNames x0 x1
  refine Frame.ite ?_ ?_
  next =>
    exact Frame.refl
  next =>
    refine Frame.ite ?_ ?_
    next =>
      refine Frame.step ?_ (State.rwlReject_frame) rfl
      exact Frame.refl
    next =>
      refine Frame.ite ?_ ?_
      next =>
        exact Frame.refl
      next =>
        refine Frame.ms ?_ rfl
        unfold x0
        refine Frame.step ?_ (State.logEv_frame) rfl
        refine Frame.step ?_ (State.zeroise_frame) rfl
        refine Frame.step ?_ (State.leaveService_frame) rfl
        exact Frame.refl

theorem State.loopBegin_frame {s : State} {c} :
    Frame [.regs, .hi, .qe, .ms] s (State.loopBegin s c) := by
  unfold State.loopBegin
  extract_lets -merge -lift +onlyGivenNames x0 x1 x2 x3 x4 x5 x6
  refine Frame.ite ?_ ?_
  next =>
    refine Frame.hi ?_ rfl
    unfold x4
    refine Frame.step ?_ (State.setFld_frame) rfl
    unfold x3
    refine Frame.ms ?_ rfl
    exact Frame.refl
  next =>
    refine Frame.ite ?_ ?_
    next =>
      refine Frame.step ?_ (State.setSq_frame) rfl
      unfold x3
      refine Frame.ms ?_ rfl
      exact Frame.refl
    next =>
      unfold x3
      refine Frame.ms ?_ rfl
      exact Frame.refl

theorem State.loopStart_frame {s : State} {id} {mine} {before : State → Cmd → State × Bool} {L : List Part} (hL :
    [.regs, .hi, .klt, .qe, .pe, .bm, .ms, .out].all (L.contains ·) = true) (hr : ∀ u c, FrameP L u (before u c)) :
    Frame L s (State.loopStart s id mine before) := by
  unfold State.loopStart
  refine Frame.trans ?_ (State.onCommand_frame (hL := Part.sub_trans rfl hL) (hr := ?hr))
  case hr =>
    intros
    try beta_reduce
    refine Frame.ite ?_ ?_
    next =>
      exact Frame.refl
    next =>
      split
      next =>
        refine Frame.step ?_ (State.finishCmd_frame) (Part.sub_trans rfl hL)
        exact Frame.refl
      next =>
        extract_lets -merge -lift +onlyGivenNames x0
        refine Frame.ite ?_ ?_
        next =>
          exact Frame.refl
        next =>
          refine Frame.ite ?_ ?_
          next =>
            refine Frame.step ?_ (State.loopBegin_frame) (Part.sub_trans rfl hL)
            refine FrameP.out ?_
            unfold x0
            refine Frame.trans ?_ (hr _ _)
            exact Frame.refl
          next =>
            refine FrameP.out ?_
            unfold x0
            refine Frame.trans ?_ (hr _ _)
            exact Frame.refl
  exact Frame.refl

theorem loopReady_frame {s : State} {a1} :
    FrameP [] s (loopReady s a1) := by
  unfold loopReady
  refine FrameP.mk ?_
  exact Frame.refl

theorem State.loopThread_frame {s : State} {c} {threaded} {tension} {formatted} :
    FrameP [.regs, .hi, .klt, .qe, .pe, .bm, .wc, .sm, .ct, .ms, .out] s (State.loopThread s c threaded tension
        formatted) := by
  unfold State.loopThread
  extract_lets -merge -lift +onlyGivenNames x0 x1
  refine FrameP.ite ?_ ?_
  next =>
    refine FrameP.mk ?_
    refine Frame.step ?_ (State.finishCmd_frame) rfl
    exact Frame.refl
  next =>
    refine FrameP.mk ?_
    refine Frame.ite ?_ ?_
    next =>
      unfold x1
      refine Frame.step ?_ (State.threadIn_frame) rfl
      refine Frame.ite ?_ ?_
      next =>
        exact Frame.refl
      next =>
        refine Frame.step ?_ (State.bump_frame) rfl
        exact Frame.refl
    next =>
      refine Frame.step ?_ (State.emit_frame) rfl
      unfold x1
      refine Frame.step ?_ (State.threadIn_frame) rfl
      refine Frame.ite ?_ ?_
      next =>
        exact Frame.refl
      next =>
        refine Frame.step ?_ (State.bump_frame) rfl
        exact Frame.refl

theorem State.loopRestore_frame {s : State} {c} {l} :
    Frame [.regs, .hi, .qe, .ms] s (State.loopRestore s c l) := by
  unfold State.loopRestore
  extract_lets -merge -lift +onlyGivenNames x0 x1 x2 x3 x4 x5
  refine Frame.ite ?_ ?_
  next =>
    refine Frame.ite ?_ ?_
    next =>
      refine Frame.hi ?_ rfl
      unfold x2
      refine Frame.step ?_ (State.setFld_frame) rfl
      unfold x1
      refine Frame.ms ?_ rfl
      exact Frame.refl
    next =>
      refine Frame.hi ?_ rfl
      unfold x2
      refine Frame.step ?_ (State.setFld_frame) rfl
      unfold x1
      refine Frame.ms ?_ rfl
      exact Frame.refl
  next =>
    refine Frame.ite ?_ ?_
    next =>
      refine Frame.step ?_ (State.setSq_frame) rfl
      unfold x1
      refine Frame.ms ?_ rfl
      exact Frame.refl
    next =>
      unfold x1
      refine Frame.ms ?_ rfl
      exact Frame.refl

theorem State.loopEnd_frame {s : State} {id} {listed} {r} :
    Frame [.regs, .hi, .klt, .qe, .pe, .bm, .ms, .out] s (State.loopEnd s id listed r) := by
  unfold State.loopEnd
  split
  next =>
    extract_lets -merge -lift +onlyGivenNames x0 x1
    refine Frame.trans ?_ (State.withBuffer_frame (hL := rfl) (hr := ?hr))
    case hr =>
      intros
      try beta_reduce
      refine Frame.step ?_ (State.finishCmd_frame) rfl
      refine Frame.step ?_ (State.scatter_frame) rfl
      exact Frame.refl
    unfold x1
    refine Frame.step ?_ (State.loopRestore_frame) rfl
    exact Frame.refl
  next =>
    extract_lets -merge -lift +onlyGivenNames x0
    refine Frame.ms ?_ rfl
    exact Frame.refl
  next =>
    exact Frame.refl

theorem State.enterState_frame {s : State} {n} :
    Frame [.regs, .sm, .ms] s (State.enterState s n) := by
  unfold State.enterState
  extract_lets -merge -lift +onlyGivenNames x0 x1 x2 x3
  refine Frame.ite ?_ ?_
  next =>
    refine Frame.sm ?_ rfl
    unfold x2
    refine Frame.ms ?_ rfl
    unfold x0
    refine Frame.step ?_ (State.setFld_frame) rfl
    refine Frame.step ?_ (State.countResidency_frame) rfl
    exact Frame.refl
  next =>
    unfold x2
    refine Frame.ms ?_ rfl
    unfold x0
    refine Frame.step ?_ (State.setFld_frame) rfl
    refine Frame.step ?_ (State.countResidency_frame) rfl
    exact Frame.refl

theorem State.tryEnter_frame {s : State} :
    Frame [.regs, .sm, .ms] s (State.tryEnter s) := by
  unfold State.tryEnter
  extract_lets -merge -lift +onlyGivenNames x0
  refine Frame.ite ?_ ?_
  next =>
    refine Frame.step ?_ (State.enterState_frame) rfl
    exact Frame.refl
  next =>
    exact Frame.refl

theorem State.idleExpire_frame {s : State} {n} :
    Frame [.regs, .sm, .ms] s (State.idleExpire s n) := by
  unfold State.idleExpire
  extract_lets -merge -lift +onlyGivenNames x0
  refine Frame.ite ?_ ?_
  next =>
    refine Frame.step ?_ (State.enterState_frame) rfl
    exact Frame.refl
  next =>
    exact Frame.refl

theorem State.writePwrReq_frame {s : State} {v} :
    Frame [.regs, .sm, .ms] s (State.writePwrReq s v) := by
  unfold State.writePwrReq
  extract_lets -merge -lift +onlyGivenNames x0
  refine Frame.ite ?_ ?_
  next =>
    refine Frame.step ?_ (State.wake_frame) rfl
    unfold x0
    refine Frame.step ?_ (State.tryEnter_frame) rfl
    refine Frame.step ?_ (State.setReg_frame) rfl
    exact Frame.refl
  next =>
    unfold x0
    refine Frame.step ?_ (State.tryEnter_frame) rfl
    refine Frame.step ?_ (State.setReg_frame) rfl
    exact Frame.refl

theorem State.store_frame {s : State} {r} {inst} {sel} {v} :
    Frame [.regs, .ms] s (State.store s r inst sel v) := by
  unfold State.store
  refine Frame.ite ?_ ?_
  next =>
    exact Frame.refl
  next =>
    refine Frame.ite ?_ ?_
    next =>
      refine Frame.step ?_ (State.writeN_frame) rfl
      exact Frame.refl
    next =>
      refine Frame.step ?_ (State.setReg_frame) rfl
      exact Frame.refl

theorem State.settled_frame {s : State} {r} {inst} {sel} :
    Frame [.regs, .hi, .qe, .pe, .bm, .df, .wc, .sm, .ms, .out] s (State.settled s r inst sel) := by
  unfold State.settled
  split
  next =>
    refine Frame.step ?_ (State.rewatch_frame) rfl
    refine Frame.step ?_ (State.recredit_frame) rfl
    exact Frame.refl
  next =>
    refine Frame.step ?_ (State.rewatch_frame) rfl
    refine Frame.step ?_ (State.recredit_frame) rfl
    exact Frame.refl
  next =>
    refine Frame.step ?_ (State.rewatch_frame) rfl
    exact Frame.refl
  next =>
    refine Frame.step ?_ (State.signal_frame) rfl
    exact Frame.refl
  next =>
    refine Frame.step ?_ (State.readersTrip_frame) rfl
    exact Frame.refl
  next =>
    exact Frame.refl

theorem State.writeFields_frame {s : State} {r} {inst} {sel} {v} :
    Frame [.regs, .hi, .qe, .pe, .bm, .df, .wc, .sm, .ms, .out] s (State.writeFields s r inst sel v) := by
  unfold State.writeFields
  extract_lets -merge -lift +onlyGivenNames x0 x1
  refine Frame.ite ?_ ?_
  next =>
    exact Frame.refl
  next =>
    refine Frame.ite ?_ ?_
    next =>
      refine Frame.step ?_ (State.rwlReject_frame) rfl
      unfold x1
      refine Frame.ite ?_ ?_
      next =>
        exact Frame.refl
      next =>
        refine Frame.step ?_ (State.settled_frame) rfl
        refine Frame.step ?_ (State.store_frame) rfl
        exact Frame.refl
    next =>
      unfold x1
      refine Frame.ite ?_ ?_
      next =>
        exact Frame.refl
      next =>
        refine Frame.step ?_ (State.settled_frame) rfl
        refine Frame.step ?_ (State.store_frame) rfl
        exact Frame.refl

theorem State.writePair_frame {s : State} {src} {r} {lo} {hi} {inst} {sel} {v} :
    Frame [.regs, .pendWord, .ms] s (State.writePair s src r lo hi inst sel v) := by
  unfold State.writePair
  extract_lets -merge -lift +onlyGivenNames x0 x1 x2 x3 x4
  refine Frame.ite ?_ ?_
  next =>
    refine Frame.pendWord ?_ rfl
    exact Frame.refl
  next =>
    refine Frame.ite ?_ ?_
    next =>
      unfold x2
      refine Frame.pendWord ?_ rfl
      exact Frame.refl
    next =>
      refine Frame.ite ?_ ?_
      next =>
        refine Frame.step ?_ (State.setReg_frame) rfl
        refine Frame.step ?_ (State.setReg_frame) rfl
        unfold x2
        refine Frame.pendWord ?_ rfl
        exact Frame.refl
      next =>
        refine Frame.step ?_ (State.rwlReject_frame) rfl
        unfold x2
        refine Frame.pendWord ?_ rfl
        exact Frame.refl

theorem State.writeTrim_frame {s : State} {inst} {sel} {v} :
    Frame [.regs, .vc, .ms] s (State.writeTrim s inst sel v) := by
  unfold State.writeTrim
  extract_lets -merge -lift +onlyGivenNames x0 x1
  refine Frame.ite ?_ ?_
  next =>
    exact Frame.refl
  next =>
    refine Frame.ite ?_ ?_
    next =>
      refine Frame.step ?_ (State.rwlReject_frame) rfl
      exact Frame.refl
    next =>
      refine Frame.ite ?_ ?_
      next =>
        refine Frame.step ?_ (State.modCal_frame) rfl
        exact Frame.refl
      next =>
        refine Frame.step ?_ (State.modCal_frame) rfl
        exact Frame.refl

theorem State.writeMask_frame {s : State} {f} {vector} {mask} :
    Frame [.hi, .out] s (State.writeMask s f vector mask) := by
  unfold State.writeMask
  extract_lets -merge -lift +onlyGivenNames x0 x1
  refine Frame.ite ?_ ?_
  next =>
    refine Frame.step ?_ (State.modFctx_frame) rfl
    exact Frame.refl
  next =>
    refine Frame.ite ?_ ?_
    next =>
      refine Frame.step ?_ (State.emit_frame) rfl
      unfold x1
      refine Frame.step ?_ (State.modFctx_frame) rfl
      exact Frame.refl
    next =>
      unfold x1
      refine Frame.step ?_ (State.modFctx_frame) rfl
      exact Frame.refl

theorem State.writeTask_frame {s : State} {r} {f} {idx} {v} :
    Frame [.regs, .hi, .qe, .pe, .bm, .df, .wc, .sm, .ms, .out] s (State.writeTask s r f idx v) := by
  unfold State.writeTask
  refine Frame.ite ?_ ?_
  next =>
    refine Frame.step ?_ (State.bump_frame) rfl
    exact Frame.refl
  next =>
    refine Frame.step ?_ (State.writeFields_frame) rfl
    exact Frame.refl

theorem State.writeLoops_frame {s : State} {r} {inst} {sel} {v} :
    Frame [.regs, .hi, .qe, .pe, .bm, .df, .wc, .rc, .sm, .ms, .out] s (State.writeLoops s r inst sel v) := by
  unfold State.writeLoops
  extract_lets -merge -lift +onlyGivenNames x0
  refine Frame.step ?_ (State.writeFields_frame) rfl
  refine Frame.step ?_ (State.keepLoops_frame) rfl
  unfold x0
  refine Frame.ite ?_ ?_
  next =>
    exact Frame.refl
  next =>
    refine Frame.step ?_ (State.setReg_frame) rfl
    exact Frame.refl

theorem State.writeReg_frame {s : State} {src} {r} {inst} {idx} {v} :
    Frame [.regs, .latch, .pendWord, .hi, .klt, .qe, .pe, .bm, .mc, .cx, .ce, .df, .wc, .rc, .ed, .vc, .sm, .ct, .ms,
        .out, .fresh] s (State.writeReg s src r inst idx v) := by
  unfold State.writeReg
  extract_lets -merge -lift +onlyGivenNames x0
  split
  next =>
    exact Frame.refl
  next =>
    refine Frame.step ?_ (State.writeSqCtrl_frame) rfl
    exact Frame.refl
  next =>
    refine Frame.step ?_ (State.writeCqCtrl_frame) rfl
    exact Frame.refl
  next =>
    refine Frame.step ?_ (State.writeSqReset_frame) rfl
    exact Frame.refl
  next =>
    refine Frame.step ?_ (State.pealCommit_frame) rfl
    exact Frame.refl
  next =>
    refine Frame.step ?_ (State.taskGo_frame) rfl
    exact Frame.refl
  next =>
    refine Frame.step ?_ (State.writeTask_frame) rfl
    exact Frame.refl
  next =>
    refine Frame.step ?_ (State.writeTask_frame) rfl
    exact Frame.refl
  next =>
    refine Frame.step ?_ (State.writeTenant_frame) rfl
    exact Frame.refl
  next =>
    refine Frame.step ?_ (State.writeQuota_frame) rfl
    exact Frame.refl
  next =>
    refine Frame.step ?_ (State.writePoolSplit_frame) rfl
    exact Frame.refl
  next =>
    refine Frame.step ?_ (State.writeStreamWin_frame) rfl
    exact Frame.refl
  next =>
    refine Frame.step ?_ (State.writeWmCfg_frame) rfl
    exact Frame.refl
  next =>
    refine Frame.step ?_ (State.writeFcwCfg_frame) rfl
    exact Frame.refl
  next =>
    refine Frame.step ?_ (State.writeCalCtrl_frame) rfl
    exact Frame.refl
  next =>
    refine Frame.ite ?_ ?_
    next =>
      refine Frame.step ?_ (State.closeLoop_frame) rfl
      exact Frame.refl
    next =>
      refine Frame.step ?_ (State.openLoop_frame) rfl
      exact Frame.refl
  next =>
    refine Frame.step ?_ (State.writeRate_frame) rfl
    exact Frame.refl
  next =>
    refine Frame.step ?_ (State.writeCoef_frame) rfl
    exact Frame.refl
  next =>
    refine Frame.step ?_ (State.writeInject_frame) rfl
    exact Frame.refl
  next =>
    refine Frame.step ?_ (State.writeCapture_frame) rfl
    exact Frame.refl
  next =>
    refine Frame.ite ?_ ?_
    next =>
      refine Frame.step ?_ (State.trip_frame) rfl
      exact Frame.refl
    next =>
      exact Frame.refl
  next =>
    refine Frame.step ?_ (State.writePwrReq_frame) rfl
    exact Frame.refl
  next =>
    refine Frame.ite ?_ ?_
    next =>
      refine Frame.step ?_ (State.deviceReset_frame) rfl
      exact Frame.refl
    next =>
      exact Frame.refl
  next =>
    refine Frame.ite ?_ ?_
    next =>
      refine Frame.step ?_ (State.writeSbOwner_frame) rfl
      exact Frame.refl
    next =>
      refine Frame.ite ?_ ?_
      next =>
        exact Frame.refl
      next =>
        refine Frame.step ?_ (State.rwlReject_frame) rfl
        exact Frame.refl
  next =>
    refine Frame.step ?_ (State.unlock_frame) rfl
    exact Frame.refl
  next =>
    refine Frame.ite ?_ ?_
    next =>
      exact Frame.refl
    next =>
      refine Frame.step ?_ (State.writeFields_frame) rfl
      exact Frame.refl
  next =>
    split
    next =>
      refine Frame.step ?_ (State.writeAlloc_frame) rfl
      exact Frame.refl
    next =>
      split
      next =>
        exact Frame.refl
      next =>
        refine Frame.ite ?_ ?_
        next =>
          refine Frame.step ?_ (State.writeTrim_frame) rfl
          exact Frame.refl
        next =>
          refine Frame.ite ?_ ?_
          next =>
            refine Frame.step ?_ (State.writeLoops_frame) rfl
            exact Frame.refl
          next =>
            split
            next =>
              refine Frame.ite ?_ ?_
              next =>
                exact Frame.refl
              next =>
                refine Frame.step ?_ (State.writePair_frame) rfl
                exact Frame.refl
            next =>
              refine Frame.ite ?_ ?_
              next =>
                exact Frame.refl
              next =>
                refine Frame.step ?_ (State.writePair_frame) rfl
                exact Frame.refl
            next =>
              refine Frame.step ?_ (State.writeFields_frame) rfl
              exact Frame.refl

theorem State.writeWord_frame {s : State} {src} {b} {inst} {off} {v} :
    Frame [.regs, .latch, .pendWord, .hi, .klt, .qe, .pe, .bm, .mc, .cx, .ce, .df, .wc, .rc, .ed, .vc, .sm, .ct, .ms,
        .out, .fresh] s (State.writeWord s src b inst off v) := by
  unfold State.writeWord
  refine Frame.ite ?_ ?_
  next =>
    exact Frame.refl
  next =>
    split
    next =>
      exact Frame.refl
    next =>
      refine Frame.ite ?_ ?_
      next =>
        refine Frame.step ?_ (State.writeMask_frame) rfl
        exact Frame.refl
      next =>
        exact Frame.refl
    next =>
      split
      next =>
        refine Frame.step ?_ (State.writeReg_frame) rfl
        exact Frame.refl
      next =>
        exact Frame.refl

theorem State.writeWords_frame {s : State} {src : Port} {b : Blk} {inst off value n : Nat} :
    Frame [.regs, .latch, .pendWord, .hi, .klt, .qe, .pe, .bm, .mc, .cx, .ce, .df, .wc, .rc, .ed, .vc, .sm, .ct, .ms,
        .out, .fresh] s (s.writeWords src b inst off value n) := by
  induction n generalizing s off value with
  | zero => exact Frame.refl
  | succ n ih => exact (Frame.step Frame.refl State.writeWord_frame rfl).trans ih

theorem State.narrow_frame {s : State} {src} {b} {inst} {off} :
    Frame [.regs, .ms] s (State.narrow s src b inst off) := by
  unfold State.narrow
  refine Frame.ite ?_ ?_
  next =>
    refine Frame.step ?_ (State.dropDoorbell_frame) rfl
    exact Frame.refl
  next =>
    refine Frame.step ?_ (State.logEv_frame) rfl
    refine Frame.step ?_ (State.bump_frame) rfl
    exact Frame.refl

theorem State.writeAccess_frame {s : State} {src} {b} {inst} {off} {width} {value} :
    Frame [.regs, .latch, .pendWord, .hi, .klt, .qe, .pe, .bm, .mc, .cx, .ce, .df, .wc, .rc, .ed, .vc, .sm, .ct, .ms,
        .out, .fresh] s (State.writeAccess s src b inst off width value) := by
  unfold State.writeAccess
  refine Frame.ite ?_ ?_
  next =>
    exact Frame.refl
  next =>
    refine Frame.ite ?_ ?_
    next =>
      refine Frame.step ?_ (State.bellWrite_frame) rfl
      exact Frame.refl
    next =>
      refine Frame.ite ?_ ?_
      next =>
        refine Frame.step ?_ (State.narrow_frame) rfl
        exact Frame.refl
      next =>
        refine Frame.step ?_ (State.writeWords_frame) rfl
        exact Frame.refl

theorem State.runHeld_frame {s : State} {a1} :
    Frame [.regs, .latch, .pendWord, .hi, .klt, .qe, .pe, .bm, .mc, .cx, .ce, .df, .wc, .rc, .ed, .vc, .sm, .ct, .ms,
        .out, .fresh] s (State.runHeld s a1) := by
  unfold State.runHeld
  split
  next =>
    refine Frame.ite ?_ ?_
    next =>
      refine Frame.step ?_ (State.writeAccess_frame) rfl
      exact Frame.refl
    next =>
      exact Frame.refl
  next =>
    refine Frame.ite ?_ ?_
    next =>
      refine Frame.step ?_ (State.bellWrite_frame) rfl
      exact Frame.refl
    next =>
      exact Frame.refl

theorem State.sleepDefaults_frame {s : State} :
    Frame [.regs, .latch, .pendWord, .pe, .ce, .rc, .ed, .vc, .sm, .fresh] s (State.sleepDefaults s) := by
  unfold State.sleepDefaults
  extract_lets -merge -lift +onlyGivenNames x0 x1 x2 x3 x4 x5 x6
  refine Frame.anchor ?_ ?_
  next =>
    unfold x0
    refine Frame.step ?_ (State.clearRegs_frame) rfl
    refine Frame.step ?_ (State.draw_frame) rfl
    exact Frame.refl
  next =>
    clear_value x0
    intro p hp; cases p <;> first | exact absurd hp (by decide) | rfl

theorem State.awake_frame {s : State} :
    Frame [.ms] s (State.awake s) := by
  unfold State.awake
  extract_lets -merge -lift +onlyGivenNames x0
  refine Frame.ms ?_ rfl
  exact Frame.refl

theorem State.wakeUp_frame {s : State} :
    Frame [.regs, .latch, .pendWord, .hi, .klt, .qe, .pe, .bm, .mc, .cx, .ce, .df, .wc, .rc, .ed, .vc, .sm, .ct, .ms,
        .out, .fresh] s (State.wakeUp s) := by
  unfold State.wakeUp
  extract_lets -merge -lift +onlyGivenNames x0 x1 x2 x3
  refine Frame.fold ?_ (fun u a => ?_) _
  next =>
    unfold x3
    refine Frame.ms ?_ rfl
    unfold x1
    refine Frame.step ?_ (State.awake_frame) rfl
    refine Frame.step ?_ (State.sleepDefaults_frame) rfl
    exact Frame.refl
  next =>
    refine Frame.step ?_ (State.runHeld_frame) rfl
    exact Frame.refl

theorem State.powerWarn_frame {s : State} :
    Frame [.regs, .latch, .pendWord, .hi, .klt, .qe, .pe, .bm, .mc, .cx, .ce, .df, .wc, .rc, .ed, .vc, .sm, .ct, .ms,
        .out, .fresh] s (State.powerWarn s) := by
  unfold State.powerWarn
  extract_lets -merge -lift +onlyGivenNames x0 x1 x2 x3 x4 x5
  refine Frame.step ?_ (State.saveSummary_frame) rfl
  unfold x5
  split
  next =>
    refine Frame.ite ?_ ?_
    next =>
      refine Frame.step ?_ (State.writeProgress_frame) rfl
      unfold x4
      refine Frame.step ?_ (State.logEv_frame) rfl
      refine Frame.step ?_ (State.trip_frame) rfl
      refine Frame.step ?_ (State.leaveService_frame) rfl
      unfold x3
      refine Frame.wc ?_ rfl
      unfold x1
      refine Frame.ite ?_ ?_
      next =>
        refine Frame.step ?_ (State.wakeUp_frame) rfl
        unfold x0
        refine Frame.step ?_ (State.wake_frame) rfl
        exact Frame.refl
      next =>
        refine Frame.ite ?_ ?_
        next =>
          unfold x0
          refine Frame.step ?_ (State.wake_frame) rfl
          exact Frame.refl
        next =>
          refine Frame.step ?_ (State.awake_frame) rfl
          unfold x0
          refine Frame.step ?_ (State.wake_frame) rfl
          exact Frame.refl
    next =>
      unfold x4
      refine Frame.step ?_ (State.logEv_frame) rfl
      refine Frame.step ?_ (State.trip_frame) rfl
      refine Frame.step ?_ (State.leaveService_frame) rfl
      unfold x3
      refine Frame.wc ?_ rfl
      unfold x1
      refine Frame.ite ?_ ?_
      next =>
        refine Frame.step ?_ (State.wakeUp_frame) rfl
        unfold x0
        refine Frame.step ?_ (State.wake_frame) rfl
        exact Frame.refl
      next =>
        refine Frame.ite ?_ ?_
        next =>
          unfold x0
          refine Frame.step ?_ (State.wake_frame) rfl
          exact Frame.refl
        next =>
          refine Frame.step ?_ (State.awake_frame) rfl
          unfold x0
          refine Frame.step ?_ (State.wake_frame) rfl
          exact Frame.refl
  next =>
    unfold x4
    refine Frame.step ?_ (State.logEv_frame) rfl
    refine Frame.step ?_ (State.trip_frame) rfl
    refine Frame.step ?_ (State.leaveService_frame) rfl
    unfold x3
    refine Frame.wc ?_ rfl
    unfold x1
    refine Frame.ite ?_ ?_
    next =>
      refine Frame.step ?_ (State.wakeUp_frame) rfl
      unfold x0
      refine Frame.step ?_ (State.wake_frame) rfl
      exact Frame.refl
    next =>
      refine Frame.ite ?_ ?_
      next =>
        unfold x0
        refine Frame.step ?_ (State.wake_frame) rfl
        exact Frame.refl
      next =>
        refine Frame.step ?_ (State.awake_frame) rfl
        unfold x0
        refine Frame.step ?_ (State.wake_frame) rfl
        exact Frame.refl

theorem State.linkChange_frame {s : State} {p} {l} :
    Frame [.hi] s (State.linkChange s p l) := by
  unfold State.linkChange
  extract_lets -merge -lift +onlyGivenNames x0 x1
  refine Frame.ite ?_ ?_
  next =>
    exact Frame.refl
  next =>
    refine Frame.fold ?_ (fun u a => ?_) _
    next =>
      unfold x1
      refine Frame.hi ?_ rfl
      exact Frame.refl
    next =>
      refine Frame.step ?_ (State.modFctx_frame) rfl
      exact Frame.refl

theorem State.tick_frame {s : State} :
    Frame [.regs, .sm, .ms] s (State.tick s) := by
  unfold State.tick
  extract_lets -merge -lift +onlyGivenNames x0
  refine Frame.ite ?_ ?_
  next =>
    exact Frame.refl
  next =>
    refine Frame.step ?_ (State.tryEnter_frame) rfl
    refine Frame.ms ?_ rfl
    exact Frame.refl

end Sys2Proof.Machine
end

