-- ==== Sys2Proof/Laws/State.lean ====
section
/-! SUPPORT. What the named updates of State leave alone: one lemma for each field and each update. -/

namespace Sys2Proof.Machine

@[simp] theorem State.modFctx_board (s : State) (f : Fn) (g : FnCtx → FnCtx) : (s.modFctx f g).board = s.board := rfl
@[simp] theorem State.modFctx_regs (s : State) (f : Fn) (g : FnCtx → FnCtx) : (s.modFctx f g).regs = s.regs := rfl
@[simp] theorem State.modFctx_latch (s : State) (f : Fn) (g : FnCtx → FnCtx) : (s.modFctx f g).latch = s.latch := rfl
@[simp] theorem State.modFctx_pendWord (s : State) (f : Fn) (g : FnCtx → FnCtx) : (s.modFctx f g).pendWord = s.pendWord := rfl
@[simp] theorem State.modFctx_klt (s : State) (f : Fn) (g : FnCtx → FnCtx) : (s.modFctx f g).klt = s.klt := rfl
@[simp] theorem State.modFctx_qe (s : State) (f : Fn) (g : FnCtx → FnCtx) : (s.modFctx f g).qe = s.qe := rfl
@[simp] theorem State.modFctx_pe (s : State) (f : Fn) (g : FnCtx → FnCtx) : (s.modFctx f g).pe = s.pe := rfl
@[simp] theorem State.modFctx_bm (s : State) (f : Fn) (g : FnCtx → FnCtx) : (s.modFctx f g).bm = s.bm := rfl
@[simp] theorem State.modFctx_mc (s : State) (f : Fn) (g : FnCtx → FnCtx) : (s.modFctx f g).mc = s.mc := rfl
@[simp] theorem State.modFctx_cx (s : State) (f : Fn) (g : FnCtx → FnCtx) : (s.modFctx f g).cx = s.cx := rfl
@[simp] theorem State.modFctx_ce (s : State) (f : Fn) (g : FnCtx → FnCtx) : (s.modFctx f g).ce = s.ce := rfl
@[simp] theorem State.modFctx_df (s : State) (f : Fn) (g : FnCtx → FnCtx) : (s.modFctx f g).df = s.df := rfl
@[simp] theorem State.modFctx_wc (s : State) (f : Fn) (g : FnCtx → FnCtx) : (s.modFctx f g).wc = s.wc := rfl
@[simp] theorem State.modFctx_rc (s : State) (f : Fn) (g : FnCtx → FnCtx) : (s.modFctx f g).rc = s.rc := rfl
@[simp] theorem State.modFctx_ed (s : State) (f : Fn) (g : FnCtx → FnCtx) : (s.modFctx f g).ed = s.ed := rfl
@[simp] theorem State.modFctx_vc (s : State) (f : Fn) (g : FnCtx → FnCtx) : (s.modFctx f g).vc = s.vc := rfl
@[simp] theorem State.modFctx_sm (s : State) (f : Fn) (g : FnCtx → FnCtx) : (s.modFctx f g).sm = s.sm := rfl
@[simp] theorem State.modFctx_ct (s : State) (f : Fn) (g : FnCtx → FnCtx) : (s.modFctx f g).ct = s.ct := rfl
@[simp] theorem State.modFctx_ms (s : State) (f : Fn) (g : FnCtx → FnCtx) : (s.modFctx f g).ms = s.ms := rfl
@[simp] theorem State.modFctx_out (s : State) (f : Fn) (g : FnCtx → FnCtx) : (s.modFctx f g).out = s.out := rfl
@[simp] theorem State.modFctx_fresh (s : State) (f : Fn) (g : FnCtx → FnCtx) : (s.modFctx f g).fresh = s.fresh := rfl
@[simp] theorem State.modFctx_pending (s : State) (f : Fn) (g : FnCtx → FnCtx) : (s.modFctx f g).pending = s.pending := rfl

@[simp] theorem State.setReg_board (s : State) (r : RegName) (i k v : Nat) : (s.setReg r i k v).board = s.board := rfl
@[simp] theorem State.setReg_latch (s : State) (r : RegName) (i k v : Nat) : (s.setReg r i k v).latch = s.latch := rfl
@[simp] theorem State.setReg_pendWord (s : State) (r : RegName) (i k v : Nat) : (s.setReg r i k v).pendWord = s.pendWord := rfl
@[simp] theorem State.setReg_hi (s : State) (r : RegName) (i k v : Nat) : (s.setReg r i k v).hi = s.hi := rfl
@[simp] theorem State.setReg_klt (s : State) (r : RegName) (i k v : Nat) : (s.setReg r i k v).klt = s.klt := rfl
@[simp] theorem State.setReg_qe (s : State) (r : RegName) (i k v : Nat) : (s.setReg r i k v).qe = s.qe := rfl
@[simp] theorem State.setReg_pe (s : State) (r : RegName) (i k v : Nat) : (s.setReg r i k v).pe = s.pe := rfl
@[simp] theorem State.setReg_bm (s : State) (r : RegName) (i k v : Nat) : (s.setReg r i k v).bm = s.bm := rfl
@[simp] theorem State.setReg_mc (s : State) (r : RegName) (i k v : Nat) : (s.setReg r i k v).mc = s.mc := rfl
@[simp] theorem State.setReg_cx (s : State) (r : RegName) (i k v : Nat) : (s.setReg r i k v).cx = s.cx := rfl
@[simp] theorem State.setReg_ce (s : State) (r : RegName) (i k v : Nat) : (s.setReg r i k v).ce = s.ce := rfl
@[simp] theorem State.setReg_df (s : State) (r : RegName) (i k v : Nat) : (s.setReg r i k v).df = s.df := rfl
@[simp] theorem State.setReg_wc (s : State) (r : RegName) (i k v : Nat) : (s.setReg r i k v).wc = s.wc := rfl
@[simp] theorem State.setReg_rc (s : State) (r : RegName) (i k v : Nat) : (s.setReg r i k v).rc = s.rc := rfl
@[simp] theorem State.setReg_ed (s : State) (r : RegName) (i k v : Nat) : (s.setReg r i k v).ed = s.ed := rfl
@[simp] theorem State.setReg_vc (s : State) (r : RegName) (i k v : Nat) : (s.setReg r i k v).vc = s.vc := rfl
@[simp] theorem State.setReg_sm (s : State) (r : RegName) (i k v : Nat) : (s.setReg r i k v).sm = s.sm := rfl
@[simp] theorem State.setReg_ct (s : State) (r : RegName) (i k v : Nat) : (s.setReg r i k v).ct = s.ct := rfl
@[simp] theorem State.setReg_ms (s : State) (r : RegName) (i k v : Nat) : (s.setReg r i k v).ms = s.ms := rfl
@[simp] theorem State.setReg_out (s : State) (r : RegName) (i k v : Nat) : (s.setReg r i k v).out = s.out := rfl
@[simp] theorem State.setReg_fresh (s : State) (r : RegName) (i k v : Nat) : (s.setReg r i k v).fresh = s.fresh := rfl
@[simp] theorem State.setReg_pending (s : State) (r : RegName) (i k v : Nat) : (s.setReg r i k v).pending = s.pending := rfl

@[simp] theorem State.setFld_board (s : State) (r : RegName) (i k h l v : Nat) : (s.setFld r i k h l v).board = s.board := rfl
@[simp] theorem State.setFld_latch (s : State) (r : RegName) (i k h l v : Nat) : (s.setFld r i k h l v).latch = s.latch := rfl
@[simp] theorem State.setFld_pendWord (s : State) (r : RegName) (i k h l v : Nat) : (s.setFld r i k h l v).pendWord = s.pendWord := rfl
@[simp] theorem State.setFld_hi (s : State) (r : RegName) (i k h l v : Nat) : (s.setFld r i k h l v).hi = s.hi := rfl
@[simp] theorem State.setFld_klt (s : State) (r : RegName) (i k h l v : Nat) : (s.setFld r i k h l v).klt = s.klt := rfl
@[simp] theorem State.setFld_qe (s : State) (r : RegName) (i k h l v : Nat) : (s.setFld r i k h l v).qe = s.qe := rfl
@[simp] theorem State.setFld_pe (s : State) (r : RegName) (i k h l v : Nat) : (s.setFld r i k h l v).pe = s.pe := rfl
@[simp] theorem State.setFld_bm (s : State) (r : RegName) (i k h l v : Nat) : (s.setFld r i k h l v).bm = s.bm := rfl
@[simp] theorem State.setFld_mc (s : State) (r : RegName) (i k h l v : Nat) : (s.setFld r i k h l v).mc = s.mc := rfl
@[simp] theorem State.setFld_cx (s : State) (r : RegName) (i k h l v : Nat) : (s.setFld r i k h l v).cx = s.cx := rfl
@[simp] theorem State.setFld_ce (s : State) (r : RegName) (i k h l v : Nat) : (s.setFld r i k h l v).ce = s.ce := rfl
@[simp] theorem State.setFld_df (s : State) (r : RegName) (i k h l v : Nat) : (s.setFld r i k h l v).df = s.df := rfl
@[simp] theorem State.setFld_wc (s : State) (r : RegName) (i k h l v : Nat) : (s.setFld r i k h l v).wc = s.wc := rfl
@[simp] theorem State.setFld_rc (s : State) (r : RegName) (i k h l v : Nat) : (s.setFld r i k h l v).rc = s.rc := rfl
@[simp] theorem State.setFld_ed (s : State) (r : RegName) (i k h l v : Nat) : (s.setFld r i k h l v).ed = s.ed := rfl
@[simp] theorem State.setFld_vc (s : State) (r : RegName) (i k h l v : Nat) : (s.setFld r i k h l v).vc = s.vc := rfl
@[simp] theorem State.setFld_sm (s : State) (r : RegName) (i k h l v : Nat) : (s.setFld r i k h l v).sm = s.sm := rfl
@[simp] theorem State.setFld_ct (s : State) (r : RegName) (i k h l v : Nat) : (s.setFld r i k h l v).ct = s.ct := rfl
@[simp] theorem State.setFld_ms (s : State) (r : RegName) (i k h l v : Nat) : (s.setFld r i k h l v).ms = s.ms := rfl
@[simp] theorem State.setFld_out (s : State) (r : RegName) (i k h l v : Nat) : (s.setFld r i k h l v).out = s.out := rfl
@[simp] theorem State.setFld_fresh (s : State) (r : RegName) (i k h l v : Nat) : (s.setFld r i k h l v).fresh = s.fresh := rfl
@[simp] theorem State.setFld_pending (s : State) (r : RegName) (i k h l v : Nat) : (s.setFld r i k h l v).pending = s.pending := rfl

@[simp] theorem State.bumpBy_board (s : State) (r : RegName) (i k n : Nat) : (s.bumpBy r i k n).board = s.board := rfl
@[simp] theorem State.bumpBy_latch (s : State) (r : RegName) (i k n : Nat) : (s.bumpBy r i k n).latch = s.latch := rfl
@[simp] theorem State.bumpBy_pendWord (s : State) (r : RegName) (i k n : Nat) : (s.bumpBy r i k n).pendWord = s.pendWord := rfl
@[simp] theorem State.bumpBy_hi (s : State) (r : RegName) (i k n : Nat) : (s.bumpBy r i k n).hi = s.hi := rfl
@[simp] theorem State.bumpBy_klt (s : State) (r : RegName) (i k n : Nat) : (s.bumpBy r i k n).klt = s.klt := rfl
@[simp] theorem State.bumpBy_qe (s : State) (r : RegName) (i k n : Nat) : (s.bumpBy r i k n).qe = s.qe := rfl
@[simp] theorem State.bumpBy_pe (s : State) (r : RegName) (i k n : Nat) : (s.bumpBy r i k n).pe = s.pe := rfl
@[simp] theorem State.bumpBy_bm (s : State) (r : RegName) (i k n : Nat) : (s.bumpBy r i k n).bm = s.bm := rfl
@[simp] theorem State.bumpBy_mc (s : State) (r : RegName) (i k n : Nat) : (s.bumpBy r i k n).mc = s.mc := rfl
@[simp] theorem State.bumpBy_cx (s : State) (r : RegName) (i k n : Nat) : (s.bumpBy r i k n).cx = s.cx := rfl
@[simp] theorem State.bumpBy_ce (s : State) (r : RegName) (i k n : Nat) : (s.bumpBy r i k n).ce = s.ce := rfl
@[simp] theorem State.bumpBy_df (s : State) (r : RegName) (i k n : Nat) : (s.bumpBy r i k n).df = s.df := rfl
@[simp] theorem State.bumpBy_wc (s : State) (r : RegName) (i k n : Nat) : (s.bumpBy r i k n).wc = s.wc := rfl
@[simp] theorem State.bumpBy_rc (s : State) (r : RegName) (i k n : Nat) : (s.bumpBy r i k n).rc = s.rc := rfl
@[simp] theorem State.bumpBy_ed (s : State) (r : RegName) (i k n : Nat) : (s.bumpBy r i k n).ed = s.ed := rfl
@[simp] theorem State.bumpBy_vc (s : State) (r : RegName) (i k n : Nat) : (s.bumpBy r i k n).vc = s.vc := rfl
@[simp] theorem State.bumpBy_sm (s : State) (r : RegName) (i k n : Nat) : (s.bumpBy r i k n).sm = s.sm := rfl
@[simp] theorem State.bumpBy_ct (s : State) (r : RegName) (i k n : Nat) : (s.bumpBy r i k n).ct = s.ct := rfl
@[simp] theorem State.bumpBy_ms (s : State) (r : RegName) (i k n : Nat) : (s.bumpBy r i k n).ms = s.ms := rfl
@[simp] theorem State.bumpBy_out (s : State) (r : RegName) (i k n : Nat) : (s.bumpBy r i k n).out = s.out := rfl
@[simp] theorem State.bumpBy_fresh (s : State) (r : RegName) (i k n : Nat) : (s.bumpBy r i k n).fresh = s.fresh := rfl
@[simp] theorem State.bumpBy_pending (s : State) (r : RegName) (i k n : Nat) : (s.bumpBy r i k n).pending = s.pending := rfl

@[simp] theorem State.bump_board (s : State) (r : RegName) (i k : Nat) : (s.bump r i k).board = s.board := rfl
@[simp] theorem State.bump_latch (s : State) (r : RegName) (i k : Nat) : (s.bump r i k).latch = s.latch := rfl
@[simp] theorem State.bump_pendWord (s : State) (r : RegName) (i k : Nat) : (s.bump r i k).pendWord = s.pendWord := rfl
@[simp] theorem State.bump_hi (s : State) (r : RegName) (i k : Nat) : (s.bump r i k).hi = s.hi := rfl
@[simp] theorem State.bump_klt (s : State) (r : RegName) (i k : Nat) : (s.bump r i k).klt = s.klt := rfl
@[simp] theorem State.bump_qe (s : State) (r : RegName) (i k : Nat) : (s.bump r i k).qe = s.qe := rfl
@[simp] theorem State.bump_pe (s : State) (r : RegName) (i k : Nat) : (s.bump r i k).pe = s.pe := rfl
@[simp] theorem State.bump_bm (s : State) (r : RegName) (i k : Nat) : (s.bump r i k).bm = s.bm := rfl
@[simp] theorem State.bump_mc (s : State) (r : RegName) (i k : Nat) : (s.bump r i k).mc = s.mc := rfl
@[simp] theorem State.bump_cx (s : State) (r : RegName) (i k : Nat) : (s.bump r i k).cx = s.cx := rfl
@[simp] theorem State.bump_ce (s : State) (r : RegName) (i k : Nat) : (s.bump r i k).ce = s.ce := rfl
@[simp] theorem State.bump_df (s : State) (r : RegName) (i k : Nat) : (s.bump r i k).df = s.df := rfl
@[simp] theorem State.bump_wc (s : State) (r : RegName) (i k : Nat) : (s.bump r i k).wc = s.wc := rfl
@[simp] theorem State.bump_rc (s : State) (r : RegName) (i k : Nat) : (s.bump r i k).rc = s.rc := rfl
@[simp] theorem State.bump_ed (s : State) (r : RegName) (i k : Nat) : (s.bump r i k).ed = s.ed := rfl
@[simp] theorem State.bump_vc (s : State) (r : RegName) (i k : Nat) : (s.bump r i k).vc = s.vc := rfl
@[simp] theorem State.bump_sm (s : State) (r : RegName) (i k : Nat) : (s.bump r i k).sm = s.sm := rfl
@[simp] theorem State.bump_ct (s : State) (r : RegName) (i k : Nat) : (s.bump r i k).ct = s.ct := rfl
@[simp] theorem State.bump_ms (s : State) (r : RegName) (i k : Nat) : (s.bump r i k).ms = s.ms := rfl
@[simp] theorem State.bump_out (s : State) (r : RegName) (i k : Nat) : (s.bump r i k).out = s.out := rfl
@[simp] theorem State.bump_fresh (s : State) (r : RegName) (i k : Nat) : (s.bump r i k).fresh = s.fresh := rfl
@[simp] theorem State.bump_pending (s : State) (r : RegName) (i k : Nat) : (s.bump r i k).pending = s.pending := rfl

@[simp] theorem State.draw_board (s : State) : (s.draw).board = s.board := rfl
@[simp] theorem State.draw_regs (s : State) : (s.draw).regs = s.regs := rfl
@[simp] theorem State.draw_latch (s : State) : (s.draw).latch = s.latch := rfl
@[simp] theorem State.draw_pendWord (s : State) : (s.draw).pendWord = s.pendWord := rfl
@[simp] theorem State.draw_hi (s : State) : (s.draw).hi = s.hi := rfl
@[simp] theorem State.draw_klt (s : State) : (s.draw).klt = s.klt := rfl
@[simp] theorem State.draw_qe (s : State) : (s.draw).qe = s.qe := rfl
@[simp] theorem State.draw_pe (s : State) : (s.draw).pe = s.pe := rfl
@[simp] theorem State.draw_bm (s : State) : (s.draw).bm = s.bm := rfl
@[simp] theorem State.draw_mc (s : State) : (s.draw).mc = s.mc := rfl
@[simp] theorem State.draw_cx (s : State) : (s.draw).cx = s.cx := rfl
@[simp] theorem State.draw_ce (s : State) : (s.draw).ce = s.ce := rfl
@[simp] theorem State.draw_df (s : State) : (s.draw).df = s.df := rfl
@[simp] theorem State.draw_wc (s : State) : (s.draw).wc = s.wc := rfl
@[simp] theorem State.draw_rc (s : State) : (s.draw).rc = s.rc := rfl
@[simp] theorem State.draw_ed (s : State) : (s.draw).ed = s.ed := rfl
@[simp] theorem State.draw_vc (s : State) : (s.draw).vc = s.vc := rfl
@[simp] theorem State.draw_sm (s : State) : (s.draw).sm = s.sm := rfl
@[simp] theorem State.draw_ct (s : State) : (s.draw).ct = s.ct := rfl
@[simp] theorem State.draw_ms (s : State) : (s.draw).ms = s.ms := rfl
@[simp] theorem State.draw_out (s : State) : (s.draw).out = s.out := rfl
@[simp] theorem State.draw_pending (s : State) : (s.draw).pending = s.pending := rfl

@[simp] theorem State.emit_board (s : State) (o : Out) : (s.emit o).board = s.board := rfl
@[simp] theorem State.emit_regs (s : State) (o : Out) : (s.emit o).regs = s.regs := rfl
@[simp] theorem State.emit_latch (s : State) (o : Out) : (s.emit o).latch = s.latch := rfl
@[simp] theorem State.emit_pendWord (s : State) (o : Out) : (s.emit o).pendWord = s.pendWord := rfl
@[simp] theorem State.emit_hi (s : State) (o : Out) : (s.emit o).hi = s.hi := rfl
@[simp] theorem State.emit_klt (s : State) (o : Out) : (s.emit o).klt = s.klt := rfl
@[simp] theorem State.emit_qe (s : State) (o : Out) : (s.emit o).qe = s.qe := rfl
@[simp] theorem State.emit_pe (s : State) (o : Out) : (s.emit o).pe = s.pe := rfl
@[simp] theorem State.emit_bm (s : State) (o : Out) : (s.emit o).bm = s.bm := rfl
@[simp] theorem State.emit_mc (s : State) (o : Out) : (s.emit o).mc = s.mc := rfl
@[simp] theorem State.emit_cx (s : State) (o : Out) : (s.emit o).cx = s.cx := rfl
@[simp] theorem State.emit_ce (s : State) (o : Out) : (s.emit o).ce = s.ce := rfl
@[simp] theorem State.emit_df (s : State) (o : Out) : (s.emit o).df = s.df := rfl
@[simp] theorem State.emit_wc (s : State) (o : Out) : (s.emit o).wc = s.wc := rfl
@[simp] theorem State.emit_rc (s : State) (o : Out) : (s.emit o).rc = s.rc := rfl
@[simp] theorem State.emit_ed (s : State) (o : Out) : (s.emit o).ed = s.ed := rfl
@[simp] theorem State.emit_vc (s : State) (o : Out) : (s.emit o).vc = s.vc := rfl
@[simp] theorem State.emit_sm (s : State) (o : Out) : (s.emit o).sm = s.sm := rfl
@[simp] theorem State.emit_ct (s : State) (o : Out) : (s.emit o).ct = s.ct := rfl
@[simp] theorem State.emit_ms (s : State) (o : Out) : (s.emit o).ms = s.ms := rfl
@[simp] theorem State.emit_fresh (s : State) (o : Out) : (s.emit o).fresh = s.fresh := rfl
@[simp] theorem State.emit_pending (s : State) (o : Out) : (s.emit o).pending = s.pending := rfl

@[simp] theorem State.setSq_board (s : State) (f r : Nat) (c : SqCtx) : (s.setSq f r c).board = s.board := rfl
@[simp] theorem State.setSq_regs (s : State) (f r : Nat) (c : SqCtx) : (s.setSq f r c).regs = s.regs := rfl
@[simp] theorem State.setSq_latch (s : State) (f r : Nat) (c : SqCtx) : (s.setSq f r c).latch = s.latch := rfl
@[simp] theorem State.setSq_pendWord (s : State) (f r : Nat) (c : SqCtx) : (s.setSq f r c).pendWord = s.pendWord := rfl
@[simp] theorem State.setSq_hi (s : State) (f r : Nat) (c : SqCtx) : (s.setSq f r c).hi = s.hi := rfl
@[simp] theorem State.setSq_klt (s : State) (f r : Nat) (c : SqCtx) : (s.setSq f r c).klt = s.klt := rfl
@[simp] theorem State.setSq_pe (s : State) (f r : Nat) (c : SqCtx) : (s.setSq f r c).pe = s.pe := rfl
@[simp] theorem State.setSq_bm (s : State) (f r : Nat) (c : SqCtx) : (s.setSq f r c).bm = s.bm := rfl
@[simp] theorem State.setSq_mc (s : State) (f r : Nat) (c : SqCtx) : (s.setSq f r c).mc = s.mc := rfl
@[simp] theorem State.setSq_cx (s : State) (f r : Nat) (c : SqCtx) : (s.setSq f r c).cx = s.cx := rfl
@[simp] theorem State.setSq_ce (s : State) (f r : Nat) (c : SqCtx) : (s.setSq f r c).ce = s.ce := rfl
@[simp] theorem State.setSq_df (s : State) (f r : Nat) (c : SqCtx) : (s.setSq f r c).df = s.df := rfl
@[simp] theorem State.setSq_wc (s : State) (f r : Nat) (c : SqCtx) : (s.setSq f r c).wc = s.wc := rfl
@[simp] theorem State.setSq_rc (s : State) (f r : Nat) (c : SqCtx) : (s.setSq f r c).rc = s.rc := rfl
@[simp] theorem State.setSq_ed (s : State) (f r : Nat) (c : SqCtx) : (s.setSq f r c).ed = s.ed := rfl
@[simp] theorem State.setSq_vc (s : State) (f r : Nat) (c : SqCtx) : (s.setSq f r c).vc = s.vc := rfl
@[simp] theorem State.setSq_sm (s : State) (f r : Nat) (c : SqCtx) : (s.setSq f r c).sm = s.sm := rfl
@[simp] theorem State.setSq_ct (s : State) (f r : Nat) (c : SqCtx) : (s.setSq f r c).ct = s.ct := rfl
@[simp] theorem State.setSq_ms (s : State) (f r : Nat) (c : SqCtx) : (s.setSq f r c).ms = s.ms := rfl
@[simp] theorem State.setSq_out (s : State) (f r : Nat) (c : SqCtx) : (s.setSq f r c).out = s.out := rfl
@[simp] theorem State.setSq_fresh (s : State) (f r : Nat) (c : SqCtx) : (s.setSq f r c).fresh = s.fresh := rfl
@[simp] theorem State.setSq_pending (s : State) (f r : Nat) (c : SqCtx) : (s.setSq f r c).pending = s.pending := rfl

@[simp] theorem State.setCq_board (s : State) (f r : Nat) (c : CqCtx) : (s.setCq f r c).board = s.board := rfl
@[simp] theorem State.setCq_regs (s : State) (f r : Nat) (c : CqCtx) : (s.setCq f r c).regs = s.regs := rfl
@[simp] theorem State.setCq_latch (s : State) (f r : Nat) (c : CqCtx) : (s.setCq f r c).latch = s.latch := rfl
@[simp] theorem State.setCq_pendWord (s : State) (f r : Nat) (c : CqCtx) : (s.setCq f r c).pendWord = s.pendWord := rfl
@[simp] theorem State.setCq_hi (s : State) (f r : Nat) (c : CqCtx) : (s.setCq f r c).hi = s.hi := rfl
@[simp] theorem State.setCq_klt (s : State) (f r : Nat) (c : CqCtx) : (s.setCq f r c).klt = s.klt := rfl
@[simp] theorem State.setCq_pe (s : State) (f r : Nat) (c : CqCtx) : (s.setCq f r c).pe = s.pe := rfl
@[simp] theorem State.setCq_bm (s : State) (f r : Nat) (c : CqCtx) : (s.setCq f r c).bm = s.bm := rfl
@[simp] theorem State.setCq_mc (s : State) (f r : Nat) (c : CqCtx) : (s.setCq f r c).mc = s.mc := rfl
@[simp] theorem State.setCq_cx (s : State) (f r : Nat) (c : CqCtx) : (s.setCq f r c).cx = s.cx := rfl
@[simp] theorem State.setCq_ce (s : State) (f r : Nat) (c : CqCtx) : (s.setCq f r c).ce = s.ce := rfl
@[simp] theorem State.setCq_df (s : State) (f r : Nat) (c : CqCtx) : (s.setCq f r c).df = s.df := rfl
@[simp] theorem State.setCq_wc (s : State) (f r : Nat) (c : CqCtx) : (s.setCq f r c).wc = s.wc := rfl
@[simp] theorem State.setCq_rc (s : State) (f r : Nat) (c : CqCtx) : (s.setCq f r c).rc = s.rc := rfl
@[simp] theorem State.setCq_ed (s : State) (f r : Nat) (c : CqCtx) : (s.setCq f r c).ed = s.ed := rfl
@[simp] theorem State.setCq_vc (s : State) (f r : Nat) (c : CqCtx) : (s.setCq f r c).vc = s.vc := rfl
@[simp] theorem State.setCq_sm (s : State) (f r : Nat) (c : CqCtx) : (s.setCq f r c).sm = s.sm := rfl
@[simp] theorem State.setCq_ct (s : State) (f r : Nat) (c : CqCtx) : (s.setCq f r c).ct = s.ct := rfl
@[simp] theorem State.setCq_ms (s : State) (f r : Nat) (c : CqCtx) : (s.setCq f r c).ms = s.ms := rfl
@[simp] theorem State.setCq_out (s : State) (f r : Nat) (c : CqCtx) : (s.setCq f r c).out = s.out := rfl
@[simp] theorem State.setCq_fresh (s : State) (f r : Nat) (c : CqCtx) : (s.setCq f r c).fresh = s.fresh := rfl
@[simp] theorem State.setCq_pending (s : State) (f r : Nat) (c : CqCtx) : (s.setCq f r c).pending = s.pending := rfl

@[simp] theorem State.setSlot_board (s : State) (g : Nat) (k : KeySlot) : (s.setSlot g k).board = s.board := rfl
@[simp] theorem State.setSlot_regs (s : State) (g : Nat) (k : KeySlot) : (s.setSlot g k).regs = s.regs := rfl
@[simp] theorem State.setSlot_latch (s : State) (g : Nat) (k : KeySlot) : (s.setSlot g k).latch = s.latch := rfl
@[simp] theorem State.setSlot_pendWord (s : State) (g : Nat) (k : KeySlot) : (s.setSlot g k).pendWord = s.pendWord := rfl
@[simp] theorem State.setSlot_hi (s : State) (g : Nat) (k : KeySlot) : (s.setSlot g k).hi = s.hi := rfl
@[simp] theorem State.setSlot_klt (s : State) (g : Nat) (k : KeySlot) : (s.setSlot g k).klt = s.klt := rfl
@[simp] theorem State.setSlot_qe (s : State) (g : Nat) (k : KeySlot) : (s.setSlot g k).qe = s.qe := rfl
@[simp] theorem State.setSlot_pe (s : State) (g : Nat) (k : KeySlot) : (s.setSlot g k).pe = s.pe := rfl
@[simp] theorem State.setSlot_bm (s : State) (g : Nat) (k : KeySlot) : (s.setSlot g k).bm = s.bm := rfl
@[simp] theorem State.setSlot_mc (s : State) (g : Nat) (k : KeySlot) : (s.setSlot g k).mc = s.mc := rfl
@[simp] theorem State.setSlot_cx (s : State) (g : Nat) (k : KeySlot) : (s.setSlot g k).cx = s.cx := rfl
@[simp] theorem State.setSlot_df (s : State) (g : Nat) (k : KeySlot) : (s.setSlot g k).df = s.df := rfl
@[simp] theorem State.setSlot_wc (s : State) (g : Nat) (k : KeySlot) : (s.setSlot g k).wc = s.wc := rfl
@[simp] theorem State.setSlot_rc (s : State) (g : Nat) (k : KeySlot) : (s.setSlot g k).rc = s.rc := rfl
@[simp] theorem State.setSlot_ed (s : State) (g : Nat) (k : KeySlot) : (s.setSlot g k).ed = s.ed := rfl
@[simp] theorem State.setSlot_vc (s : State) (g : Nat) (k : KeySlot) : (s.setSlot g k).vc = s.vc := rfl
@[simp] theorem State.setSlot_sm (s : State) (g : Nat) (k : KeySlot) : (s.setSlot g k).sm = s.sm := rfl
@[simp] theorem State.setSlot_ct (s : State) (g : Nat) (k : KeySlot) : (s.setSlot g k).ct = s.ct := rfl
@[simp] theorem State.setSlot_ms (s : State) (g : Nat) (k : KeySlot) : (s.setSlot g k).ms = s.ms := rfl
@[simp] theorem State.setSlot_out (s : State) (g : Nat) (k : KeySlot) : (s.setSlot g k).out = s.out := rfl
@[simp] theorem State.setSlot_fresh (s : State) (g : Nat) (k : KeySlot) : (s.setSlot g k).fresh = s.fresh := rfl
@[simp] theorem State.setSlot_pending (s : State) (g : Nat) (k : KeySlot) : (s.setSlot g k).pending = s.pending := rfl

@[simp] theorem State.setStream_board (s : State) (k : Nat) (x : Stream) : (s.setStream k x).board = s.board := rfl
@[simp] theorem State.setStream_regs (s : State) (k : Nat) (x : Stream) : (s.setStream k x).regs = s.regs := rfl
@[simp] theorem State.setStream_latch (s : State) (k : Nat) (x : Stream) : (s.setStream k x).latch = s.latch := rfl
@[simp] theorem State.setStream_pendWord (s : State) (k : Nat) (x : Stream) : (s.setStream k x).pendWord = s.pendWord := rfl
@[simp] theorem State.setStream_hi (s : State) (k : Nat) (x : Stream) : (s.setStream k x).hi = s.hi := rfl
@[simp] theorem State.setStream_klt (s : State) (k : Nat) (x : Stream) : (s.setStream k x).klt = s.klt := rfl
@[simp] theorem State.setStream_qe (s : State) (k : Nat) (x : Stream) : (s.setStream k x).qe = s.qe := rfl
@[simp] theorem State.setStream_bm (s : State) (k : Nat) (x : Stream) : (s.setStream k x).bm = s.bm := rfl
@[simp] theorem State.setStream_mc (s : State) (k : Nat) (x : Stream) : (s.setStream k x).mc = s.mc := rfl
@[simp] theorem State.setStream_cx (s : State) (k : Nat) (x : Stream) : (s.setStream k x).cx = s.cx := rfl
@[simp] theorem State.setStream_ce (s : State) (k : Nat) (x : Stream) : (s.setStream k x).ce = s.ce := rfl
@[simp] theorem State.setStream_df (s : State) (k : Nat) (x : Stream) : (s.setStream k x).df = s.df := rfl
@[simp] theorem State.setStream_wc (s : State) (k : Nat) (x : Stream) : (s.setStream k x).wc = s.wc := rfl
@[simp] theorem State.setStream_rc (s : State) (k : Nat) (x : Stream) : (s.setStream k x).rc = s.rc := rfl
@[simp] theorem State.setStream_ed (s : State) (k : Nat) (x : Stream) : (s.setStream k x).ed = s.ed := rfl
@[simp] theorem State.setStream_vc (s : State) (k : Nat) (x : Stream) : (s.setStream k x).vc = s.vc := rfl
@[simp] theorem State.setStream_sm (s : State) (k : Nat) (x : Stream) : (s.setStream k x).sm = s.sm := rfl
@[simp] theorem State.setStream_ct (s : State) (k : Nat) (x : Stream) : (s.setStream k x).ct = s.ct := rfl
@[simp] theorem State.setStream_ms (s : State) (k : Nat) (x : Stream) : (s.setStream k x).ms = s.ms := rfl
@[simp] theorem State.setStream_out (s : State) (k : Nat) (x : Stream) : (s.setStream k x).out = s.out := rfl
@[simp] theorem State.setStream_fresh (s : State) (k : Nat) (x : Stream) : (s.setStream k x).fresh = s.fresh := rfl
@[simp] theorem State.setStream_pending (s : State) (k : Nat) (x : Stream) : (s.setStream k x).pending = s.pending := rfl

@[simp] theorem State.setCmd_board (s : State) (c : Cmd) : (s.setCmd c).board = s.board := rfl
@[simp] theorem State.setCmd_regs (s : State) (c : Cmd) : (s.setCmd c).regs = s.regs := rfl
@[simp] theorem State.setCmd_latch (s : State) (c : Cmd) : (s.setCmd c).latch = s.latch := rfl
@[simp] theorem State.setCmd_pendWord (s : State) (c : Cmd) : (s.setCmd c).pendWord = s.pendWord := rfl
@[simp] theorem State.setCmd_hi (s : State) (c : Cmd) : (s.setCmd c).hi = s.hi := rfl
@[simp] theorem State.setCmd_klt (s : State) (c : Cmd) : (s.setCmd c).klt = s.klt := rfl
@[simp] theorem State.setCmd_pe (s : State) (c : Cmd) : (s.setCmd c).pe = s.pe := rfl
@[simp] theorem State.setCmd_bm (s : State) (c : Cmd) : (s.setCmd c).bm = s.bm := rfl
@[simp] theorem State.setCmd_mc (s : State) (c : Cmd) : (s.setCmd c).mc = s.mc := rfl
@[simp] theorem State.setCmd_cx (s : State) (c : Cmd) : (s.setCmd c).cx = s.cx := rfl
@[simp] theorem State.setCmd_ce (s : State) (c : Cmd) : (s.setCmd c).ce = s.ce := rfl
@[simp] theorem State.setCmd_df (s : State) (c : Cmd) : (s.setCmd c).df = s.df := rfl
@[simp] theorem State.setCmd_wc (s : State) (c : Cmd) : (s.setCmd c).wc = s.wc := rfl
@[simp] theorem State.setCmd_rc (s : State) (c : Cmd) : (s.setCmd c).rc = s.rc := rfl
@[simp] theorem State.setCmd_ed (s : State) (c : Cmd) : (s.setCmd c).ed = s.ed := rfl
@[simp] theorem State.setCmd_vc (s : State) (c : Cmd) : (s.setCmd c).vc = s.vc := rfl
@[simp] theorem State.setCmd_sm (s : State) (c : Cmd) : (s.setCmd c).sm = s.sm := rfl
@[simp] theorem State.setCmd_ct (s : State) (c : Cmd) : (s.setCmd c).ct = s.ct := rfl
@[simp] theorem State.setCmd_ms (s : State) (c : Cmd) : (s.setCmd c).ms = s.ms := rfl
@[simp] theorem State.setCmd_out (s : State) (c : Cmd) : (s.setCmd c).out = s.out := rfl
@[simp] theorem State.setCmd_fresh (s : State) (c : Cmd) : (s.setCmd c).fresh = s.fresh := rfl
@[simp] theorem State.setCmd_pending (s : State) (c : Cmd) : (s.setCmd c).pending = s.pending := rfl

@[simp] theorem State.setPair_board (s : State) (n : Nat) (p : McPair) : (s.setPair n p).board = s.board := rfl
@[simp] theorem State.setPair_regs (s : State) (n : Nat) (p : McPair) : (s.setPair n p).regs = s.regs := rfl
@[simp] theorem State.setPair_latch (s : State) (n : Nat) (p : McPair) : (s.setPair n p).latch = s.latch := rfl
@[simp] theorem State.setPair_pendWord (s : State) (n : Nat) (p : McPair) : (s.setPair n p).pendWord = s.pendWord := rfl
@[simp] theorem State.setPair_hi (s : State) (n : Nat) (p : McPair) : (s.setPair n p).hi = s.hi := rfl
@[simp] theorem State.setPair_klt (s : State) (n : Nat) (p : McPair) : (s.setPair n p).klt = s.klt := rfl
@[simp] theorem State.setPair_qe (s : State) (n : Nat) (p : McPair) : (s.setPair n p).qe = s.qe := rfl
@[simp] theorem State.setPair_pe (s : State) (n : Nat) (p : McPair) : (s.setPair n p).pe = s.pe := rfl
@[simp] theorem State.setPair_bm (s : State) (n : Nat) (p : McPair) : (s.setPair n p).bm = s.bm := rfl
@[simp] theorem State.setPair_cx (s : State) (n : Nat) (p : McPair) : (s.setPair n p).cx = s.cx := rfl
@[simp] theorem State.setPair_ce (s : State) (n : Nat) (p : McPair) : (s.setPair n p).ce = s.ce := rfl
@[simp] theorem State.setPair_df (s : State) (n : Nat) (p : McPair) : (s.setPair n p).df = s.df := rfl
@[simp] theorem State.setPair_wc (s : State) (n : Nat) (p : McPair) : (s.setPair n p).wc = s.wc := rfl
@[simp] theorem State.setPair_rc (s : State) (n : Nat) (p : McPair) : (s.setPair n p).rc = s.rc := rfl
@[simp] theorem State.setPair_ed (s : State) (n : Nat) (p : McPair) : (s.setPair n p).ed = s.ed := rfl
@[simp] theorem State.setPair_vc (s : State) (n : Nat) (p : McPair) : (s.setPair n p).vc = s.vc := rfl
@[simp] theorem State.setPair_sm (s : State) (n : Nat) (p : McPair) : (s.setPair n p).sm = s.sm := rfl
@[simp] theorem State.setPair_ct (s : State) (n : Nat) (p : McPair) : (s.setPair n p).ct = s.ct := rfl
@[simp] theorem State.setPair_ms (s : State) (n : Nat) (p : McPair) : (s.setPair n p).ms = s.ms := rfl
@[simp] theorem State.setPair_out (s : State) (n : Nat) (p : McPair) : (s.setPair n p).out = s.out := rfl
@[simp] theorem State.setPair_fresh (s : State) (n : Nat) (p : McPair) : (s.setPair n p).fresh = s.fresh := rfl
@[simp] theorem State.setPair_pending (s : State) (n : Nat) (p : McPair) : (s.setPair n p).pending = s.pending := rfl

@[simp] theorem State.setKek_board (s : State) (f : Nat) (k : Kek) : (s.setKek f k).board = s.board := rfl
@[simp] theorem State.setKek_regs (s : State) (f : Nat) (k : Kek) : (s.setKek f k).regs = s.regs := rfl
@[simp] theorem State.setKek_latch (s : State) (f : Nat) (k : Kek) : (s.setKek f k).latch = s.latch := rfl
@[simp] theorem State.setKek_pendWord (s : State) (f : Nat) (k : Kek) : (s.setKek f k).pendWord = s.pendWord := rfl
@[simp] theorem State.setKek_hi (s : State) (f : Nat) (k : Kek) : (s.setKek f k).hi = s.hi := rfl
@[simp] theorem State.setKek_klt (s : State) (f : Nat) (k : Kek) : (s.setKek f k).klt = s.klt := rfl
@[simp] theorem State.setKek_qe (s : State) (f : Nat) (k : Kek) : (s.setKek f k).qe = s.qe := rfl
@[simp] theorem State.setKek_pe (s : State) (f : Nat) (k : Kek) : (s.setKek f k).pe = s.pe := rfl
@[simp] theorem State.setKek_bm (s : State) (f : Nat) (k : Kek) : (s.setKek f k).bm = s.bm := rfl
@[simp] theorem State.setKek_mc (s : State) (f : Nat) (k : Kek) : (s.setKek f k).mc = s.mc := rfl
@[simp] theorem State.setKek_cx (s : State) (f : Nat) (k : Kek) : (s.setKek f k).cx = s.cx := rfl
@[simp] theorem State.setKek_df (s : State) (f : Nat) (k : Kek) : (s.setKek f k).df = s.df := rfl
@[simp] theorem State.setKek_wc (s : State) (f : Nat) (k : Kek) : (s.setKek f k).wc = s.wc := rfl
@[simp] theorem State.setKek_rc (s : State) (f : Nat) (k : Kek) : (s.setKek f k).rc = s.rc := rfl
@[simp] theorem State.setKek_ed (s : State) (f : Nat) (k : Kek) : (s.setKek f k).ed = s.ed := rfl
@[simp] theorem State.setKek_vc (s : State) (f : Nat) (k : Kek) : (s.setKek f k).vc = s.vc := rfl
@[simp] theorem State.setKek_sm (s : State) (f : Nat) (k : Kek) : (s.setKek f k).sm = s.sm := rfl
@[simp] theorem State.setKek_ct (s : State) (f : Nat) (k : Kek) : (s.setKek f k).ct = s.ct := rfl
@[simp] theorem State.setKek_ms (s : State) (f : Nat) (k : Kek) : (s.setKek f k).ms = s.ms := rfl
@[simp] theorem State.setKek_out (s : State) (f : Nat) (k : Kek) : (s.setKek f k).out = s.out := rfl
@[simp] theorem State.setKek_fresh (s : State) (f : Nat) (k : Kek) : (s.setKek f k).fresh = s.fresh := rfl
@[simp] theorem State.setKek_pending (s : State) (f : Nat) (k : Kek) : (s.setKek f k).pending = s.pending := rfl

@[simp] theorem State.setCal_board (s : State) (n : Nat) (c : CalSlot) : (s.setCal n c).board = s.board := rfl
@[simp] theorem State.setCal_regs (s : State) (n : Nat) (c : CalSlot) : (s.setCal n c).regs = s.regs := rfl
@[simp] theorem State.setCal_latch (s : State) (n : Nat) (c : CalSlot) : (s.setCal n c).latch = s.latch := rfl
@[simp] theorem State.setCal_pendWord (s : State) (n : Nat) (c : CalSlot) : (s.setCal n c).pendWord = s.pendWord := rfl
@[simp] theorem State.setCal_hi (s : State) (n : Nat) (c : CalSlot) : (s.setCal n c).hi = s.hi := rfl
@[simp] theorem State.setCal_klt (s : State) (n : Nat) (c : CalSlot) : (s.setCal n c).klt = s.klt := rfl
@[simp] theorem State.setCal_qe (s : State) (n : Nat) (c : CalSlot) : (s.setCal n c).qe = s.qe := rfl
@[simp] theorem State.setCal_pe (s : State) (n : Nat) (c : CalSlot) : (s.setCal n c).pe = s.pe := rfl
@[simp] theorem State.setCal_bm (s : State) (n : Nat) (c : CalSlot) : (s.setCal n c).bm = s.bm := rfl
@[simp] theorem State.setCal_mc (s : State) (n : Nat) (c : CalSlot) : (s.setCal n c).mc = s.mc := rfl
@[simp] theorem State.setCal_cx (s : State) (n : Nat) (c : CalSlot) : (s.setCal n c).cx = s.cx := rfl
@[simp] theorem State.setCal_ce (s : State) (n : Nat) (c : CalSlot) : (s.setCal n c).ce = s.ce := rfl
@[simp] theorem State.setCal_df (s : State) (n : Nat) (c : CalSlot) : (s.setCal n c).df = s.df := rfl
@[simp] theorem State.setCal_wc (s : State) (n : Nat) (c : CalSlot) : (s.setCal n c).wc = s.wc := rfl
@[simp] theorem State.setCal_rc (s : State) (n : Nat) (c : CalSlot) : (s.setCal n c).rc = s.rc := rfl
@[simp] theorem State.setCal_ed (s : State) (n : Nat) (c : CalSlot) : (s.setCal n c).ed = s.ed := rfl
@[simp] theorem State.setCal_sm (s : State) (n : Nat) (c : CalSlot) : (s.setCal n c).sm = s.sm := rfl
@[simp] theorem State.setCal_ct (s : State) (n : Nat) (c : CalSlot) : (s.setCal n c).ct = s.ct := rfl
@[simp] theorem State.setCal_ms (s : State) (n : Nat) (c : CalSlot) : (s.setCal n c).ms = s.ms := rfl
@[simp] theorem State.setCal_out (s : State) (n : Nat) (c : CalSlot) : (s.setCal n c).out = s.out := rfl
@[simp] theorem State.setCal_fresh (s : State) (n : Nat) (c : CalSlot) : (s.setCal n c).fresh = s.fresh := rfl
@[simp] theorem State.setCal_pending (s : State) (n : Nat) (c : CalSlot) : (s.setCal n c).pending = s.pending := rfl

@[simp] theorem State.setEngineCx_board (s : State) (n : Nat) (e : CxEngine) : (s.setEngineCx n e).board = s.board := rfl
@[simp] theorem State.setEngineCx_regs (s : State) (n : Nat) (e : CxEngine) : (s.setEngineCx n e).regs = s.regs := rfl
@[simp] theorem State.setEngineCx_latch (s : State) (n : Nat) (e : CxEngine) : (s.setEngineCx n e).latch = s.latch := rfl
@[simp] theorem State.setEngineCx_pendWord (s : State) (n : Nat) (e : CxEngine) : (s.setEngineCx n e).pendWord = s.pendWord := rfl
@[simp] theorem State.setEngineCx_hi (s : State) (n : Nat) (e : CxEngine) : (s.setEngineCx n e).hi = s.hi := rfl
@[simp] theorem State.setEngineCx_klt (s : State) (n : Nat) (e : CxEngine) : (s.setEngineCx n e).klt = s.klt := rfl
@[simp] theorem State.setEngineCx_qe (s : State) (n : Nat) (e : CxEngine) : (s.setEngineCx n e).qe = s.qe := rfl
@[simp] theorem State.setEngineCx_pe (s : State) (n : Nat) (e : CxEngine) : (s.setEngineCx n e).pe = s.pe := rfl
@[simp] theorem State.setEngineCx_bm (s : State) (n : Nat) (e : CxEngine) : (s.setEngineCx n e).bm = s.bm := rfl
@[simp] theorem State.setEngineCx_mc (s : State) (n : Nat) (e : CxEngine) : (s.setEngineCx n e).mc = s.mc := rfl
@[simp] theorem State.setEngineCx_ce (s : State) (n : Nat) (e : CxEngine) : (s.setEngineCx n e).ce = s.ce := rfl
@[simp] theorem State.setEngineCx_df (s : State) (n : Nat) (e : CxEngine) : (s.setEngineCx n e).df = s.df := rfl
@[simp] theorem State.setEngineCx_wc (s : State) (n : Nat) (e : CxEngine) : (s.setEngineCx n e).wc = s.wc := rfl
@[simp] theorem State.setEngineCx_rc (s : State) (n : Nat) (e : CxEngine) : (s.setEngineCx n e).rc = s.rc := rfl
@[simp] theorem State.setEngineCx_ed (s : State) (n : Nat) (e : CxEngine) : (s.setEngineCx n e).ed = s.ed := rfl
@[simp] theorem State.setEngineCx_vc (s : State) (n : Nat) (e : CxEngine) : (s.setEngineCx n e).vc = s.vc := rfl
@[simp] theorem State.setEngineCx_sm (s : State) (n : Nat) (e : CxEngine) : (s.setEngineCx n e).sm = s.sm := rfl
@[simp] theorem State.setEngineCx_ct (s : State) (n : Nat) (e : CxEngine) : (s.setEngineCx n e).ct = s.ct := rfl
@[simp] theorem State.setEngineCx_ms (s : State) (n : Nat) (e : CxEngine) : (s.setEngineCx n e).ms = s.ms := rfl
@[simp] theorem State.setEngineCx_out (s : State) (n : Nat) (e : CxEngine) : (s.setEngineCx n e).out = s.out := rfl
@[simp] theorem State.setEngineCx_fresh (s : State) (n : Nat) (e : CxEngine) : (s.setEngineCx n e).fresh = s.fresh := rfl
@[simp] theorem State.setEngineCx_pending (s : State) (n : Nat) (e : CxEngine) : (s.setEngineCx n e).pending = s.pending := rfl

@[simp] theorem State.setReader_board (s : State) (k : Nat) (r : Reader) : (s.setReader k r).board = s.board := rfl
@[simp] theorem State.setReader_regs (s : State) (k : Nat) (r : Reader) : (s.setReader k r).regs = s.regs := rfl
@[simp] theorem State.setReader_latch (s : State) (k : Nat) (r : Reader) : (s.setReader k r).latch = s.latch := rfl
@[simp] theorem State.setReader_pendWord (s : State) (k : Nat) (r : Reader) : (s.setReader k r).pendWord = s.pendWord := rfl
@[simp] theorem State.setReader_hi (s : State) (k : Nat) (r : Reader) : (s.setReader k r).hi = s.hi := rfl
@[simp] theorem State.setReader_klt (s : State) (k : Nat) (r : Reader) : (s.setReader k r).klt = s.klt := rfl
@[simp] theorem State.setReader_qe (s : State) (k : Nat) (r : Reader) : (s.setReader k r).qe = s.qe := rfl
@[simp] theorem State.setReader_pe (s : State) (k : Nat) (r : Reader) : (s.setReader k r).pe = s.pe := rfl
@[simp] theorem State.setReader_bm (s : State) (k : Nat) (r : Reader) : (s.setReader k r).bm = s.bm := rfl
@[simp] theorem State.setReader_mc (s : State) (k : Nat) (r : Reader) : (s.setReader k r).mc = s.mc := rfl
@[simp] theorem State.setReader_cx (s : State) (k : Nat) (r : Reader) : (s.setReader k r).cx = s.cx := rfl
@[simp] theorem State.setReader_ce (s : State) (k : Nat) (r : Reader) : (s.setReader k r).ce = s.ce := rfl
@[simp] theorem State.setReader_df (s : State) (k : Nat) (r : Reader) : (s.setReader k r).df = s.df := rfl
@[simp] theorem State.setReader_wc (s : State) (k : Nat) (r : Reader) : (s.setReader k r).wc = s.wc := rfl
@[simp] theorem State.setReader_rc (s : State) (k : Nat) (r : Reader) : (s.setReader k r).rc = s.rc := rfl
@[simp] theorem State.setReader_ed (s : State) (k : Nat) (r : Reader) : (s.setReader k r).ed = s.ed := rfl
@[simp] theorem State.setReader_vc (s : State) (k : Nat) (r : Reader) : (s.setReader k r).vc = s.vc := rfl
@[simp] theorem State.setReader_ct (s : State) (k : Nat) (r : Reader) : (s.setReader k r).ct = s.ct := rfl
@[simp] theorem State.setReader_ms (s : State) (k : Nat) (r : Reader) : (s.setReader k r).ms = s.ms := rfl
@[simp] theorem State.setReader_out (s : State) (k : Nat) (r : Reader) : (s.setReader k r).out = s.out := rfl
@[simp] theorem State.setReader_fresh (s : State) (k : Nat) (r : Reader) : (s.setReader k r).fresh = s.fresh := rfl
@[simp] theorem State.setReader_pending (s : State) (k : Nat) (r : Reader) : (s.setReader k r).pending = s.pending := rfl

@[simp] theorem State.setEngine_board (s : State) (e : Nat) (g : Engine) : (s.setEngine e g).board = s.board := rfl
@[simp] theorem State.setEngine_regs (s : State) (e : Nat) (g : Engine) : (s.setEngine e g).regs = s.regs := rfl
@[simp] theorem State.setEngine_latch (s : State) (e : Nat) (g : Engine) : (s.setEngine e g).latch = s.latch := rfl
@[simp] theorem State.setEngine_pendWord (s : State) (e : Nat) (g : Engine) : (s.setEngine e g).pendWord = s.pendWord := rfl
@[simp] theorem State.setEngine_hi (s : State) (e : Nat) (g : Engine) : (s.setEngine e g).hi = s.hi := rfl
@[simp] theorem State.setEngine_klt (s : State) (e : Nat) (g : Engine) : (s.setEngine e g).klt = s.klt := rfl
@[simp] theorem State.setEngine_qe (s : State) (e : Nat) (g : Engine) : (s.setEngine e g).qe = s.qe := rfl
@[simp] theorem State.setEngine_pe (s : State) (e : Nat) (g : Engine) : (s.setEngine e g).pe = s.pe := rfl
@[simp] theorem State.setEngine_bm (s : State) (e : Nat) (g : Engine) : (s.setEngine e g).bm = s.bm := rfl
@[simp] theorem State.setEngine_mc (s : State) (e : Nat) (g : Engine) : (s.setEngine e g).mc = s.mc := rfl
@[simp] theorem State.setEngine_cx (s : State) (e : Nat) (g : Engine) : (s.setEngine e g).cx = s.cx := rfl
@[simp] theorem State.setEngine_ce (s : State) (e : Nat) (g : Engine) : (s.setEngine e g).ce = s.ce := rfl
@[simp] theorem State.setEngine_df (s : State) (e : Nat) (g : Engine) : (s.setEngine e g).df = s.df := rfl
@[simp] theorem State.setEngine_wc (s : State) (e : Nat) (g : Engine) : (s.setEngine e g).wc = s.wc := rfl
@[simp] theorem State.setEngine_rc (s : State) (e : Nat) (g : Engine) : (s.setEngine e g).rc = s.rc := rfl
@[simp] theorem State.setEngine_ed (s : State) (e : Nat) (g : Engine) : (s.setEngine e g).ed = s.ed := rfl
@[simp] theorem State.setEngine_vc (s : State) (e : Nat) (g : Engine) : (s.setEngine e g).vc = s.vc := rfl
@[simp] theorem State.setEngine_ct (s : State) (e : Nat) (g : Engine) : (s.setEngine e g).ct = s.ct := rfl
@[simp] theorem State.setEngine_ms (s : State) (e : Nat) (g : Engine) : (s.setEngine e g).ms = s.ms := rfl
@[simp] theorem State.setEngine_out (s : State) (e : Nat) (g : Engine) : (s.setEngine e g).out = s.out := rfl
@[simp] theorem State.setEngine_fresh (s : State) (e : Nat) (g : Engine) : (s.setEngine e g).fresh = s.fresh := rfl
@[simp] theorem State.setEngine_pending (s : State) (e : Nat) (g : Engine) : (s.setEngine e g).pending = s.pending := rfl

end Sys2Proof.Machine
end

