-- ==== Sys2Proof/Laws/Regs.lean ====
section
/-! SUPPORT. Sparse tables and the register store: what a key reads after a write to it and to another, and that every operation
keeps a table's canonical form. -/

namespace Sys2Proof

variable {α : Type}

@[simp] theorem Tab.find_nil (q : Nat) : Tab.find ([] : Tab α) q = none := rfl

@[simp] theorem Tab.find_set_self (t : Tab α) (q : Nat) (v : α) : Tab.find (Tab.set t q v) q = some v := by
  induction t with
  | nil => simp [Tab.set, Tab.find]
  | cons e t ih =>
    obtain ⟨k, w⟩ := e
    unfold Tab.set
    split
    · simp [Tab.find]
    · split
      · simp [Tab.find]
      · rename_i h1 h2
        simp [Tab.find, ih, Ne.symm h2]

theorem Tab.find_set_ne (t : Tab α) {q p : Nat} (v : α) (h : p ≠ q) : Tab.find (Tab.set t q v) p = Tab.find t p := by
  induction t with
  | nil => simp [Tab.set, Tab.find, Ne.symm h]
  | cons e t ih =>
    obtain ⟨k, w⟩ := e
    unfold Tab.set
    split
    · simp [Tab.find, Ne.symm h]
    · split
      · rename_i h2
        subst h2
        simp [Tab.find, Ne.symm h]
      · simp [Tab.find, ih]

@[simp] theorem Tab.find_del_self (t : Tab α) (q : Nat) : Tab.find (Tab.del t q) q = none := by
  induction t with
  | nil => rfl
  | cons e t ih =>
    obtain ⟨k, w⟩ := e
    unfold Tab.del
    split
    · exact ih
    · rename_i h
      simp [Tab.find, h, ih]

theorem Tab.find_del_ne (t : Tab α) {q p : Nat} (h : p ≠ q) : Tab.find (Tab.del t q) p = Tab.find t p := by
  induction t with
  | nil => rfl
  | cons e t ih =>
    obtain ⟨k, w⟩ := e
    unfold Tab.del
    split
    · rename_i hk
      subst hk
      simp [Tab.find, Ne.symm h, ih]
    · simp [Tab.find, ih]

@[simp] theorem Tab.get_set_self (t : Tab α) (d : α) (q : Nat) (v : α) : Tab.get (Tab.set t q v) d q = v := by
  simp [Tab.get]

theorem Tab.get_set_ne (t : Tab α) (d : α) {q p : Nat} (v : α) (h : p ≠ q) :
    Tab.get (Tab.set t q v) d p = Tab.get t d p := by simp [Tab.get, Tab.find_set_ne t v h]

/-- Every key of a table lies above a bound. -/
def Tab.above (b : Nat) (t : Tab α) : Prop := ∀ e ∈ t, b < e.1

theorem Tab.sorted_cons (k : Nat) (w : α) (t : Tab α) :
    Tab.sorted ((k, w) :: t) = true ↔ Tab.above k t ∧ Tab.sorted t = true := by
  induction t generalizing k w with
  | nil => simp [Tab.sorted, Tab.above]
  | cons e t ih =>
    obtain ⟨b, x⟩ := e
    rw [Tab.sorted, Bool.and_eq_true, decide_eq_true_eq, ih]
    constructor
    · rintro ⟨h1, h2, h3⟩
      refine ⟨?_, h2, h3⟩
      intro e he
      rcases List.mem_cons.mp he with rfl | he
      · exact h1
      · exact lt_trans h1 (h2 e he)
    · rintro ⟨h1, h2, h3⟩
      exact ⟨h1 (b, x) (List.mem_cons_self ..), h2, h3⟩

theorem Tab.above_set {b q : Nat} {t : Tab α} (v : α) (h : Tab.above b t) (hq : b < q) : Tab.above b (Tab.set t q v) := by
  induction t with
  | nil =>
    intro e he
    simp [Tab.set] at he
    subst he
    exact hq
  | cons e t ih =>
    obtain ⟨k, w⟩ := e
    have ht : Tab.above b t := fun e he => h e (List.mem_cons_of_mem _ he)
    unfold Tab.set
    split
    · intro e he
      rcases List.mem_cons.mp he with rfl | he
      · exact hq
      · exact h e he
    · split
      · intro e he
        rcases List.mem_cons.mp he with rfl | he
        · exact hq
        · exact ht e he
      · intro e he
        rcases List.mem_cons.mp he with rfl | he
        · exact h _ (List.mem_cons_self ..)
        · exact ih ht e he

/-- A write keeps a table's keys strictly rising. -/
theorem Tab.sorted_set {t : Tab α} (q : Nat) (v : α) (h : Tab.sorted t = true) : Tab.sorted (Tab.set t q v) = true := by
  induction t with
  | nil => rfl
  | cons e t ih =>
    obtain ⟨k, w⟩ := e
    obtain ⟨ha, hs⟩ := (Tab.sorted_cons k w t).mp h
    unfold Tab.set
    split
    · rename_i hlt
      refine (Tab.sorted_cons q v _).mpr ⟨?_, h⟩
      intro e he
      rcases List.mem_cons.mp he with rfl | he
      · exact hlt
      · exact lt_trans hlt (ha e he)
    · split
      · rename_i heq
        subst heq
        exact (Tab.sorted_cons q v t).mpr ⟨ha, hs⟩
      · rename_i h1 h2
        exact (Tab.sorted_cons k w _).mpr ⟨Tab.above_set v ha (lt_of_le_of_ne (not_lt.mp h1) (Ne.symm h2)), ih hs⟩

theorem Tab.above_del {b q : Nat} {t : Tab α} (h : Tab.above b t) : Tab.above b (Tab.del t q) := by
  induction t with
  | nil => exact h
  | cons e t ih =>
    obtain ⟨k, w⟩ := e
    have ht : Tab.above b t := fun e he => h e (List.mem_cons_of_mem _ he)
    unfold Tab.del
    split
    · exact ih ht
    · intro e he
      rcases List.mem_cons.mp he with rfl | he
      · exact h _ (List.mem_cons_self ..)
      · exact ih ht e he

/-- Unlisting a key keeps a table's keys strictly rising. -/
theorem Tab.sorted_del {t : Tab α} (q : Nat) (h : Tab.sorted t = true) : Tab.sorted (Tab.del t q) = true := by
  induction t with
  | nil => rfl
  | cons e t ih =>
    obtain ⟨k, w⟩ := e
    obtain ⟨ha, hs⟩ := (Tab.sorted_cons k w t).mp h
    unfold Tab.del
    split
    · exact ih hs
    · exact (Tab.sorted_cons k w _).mpr ⟨Tab.above_del ha, ih hs⟩

namespace Machine

theorem regKey_inj {r r' : RegName} {i i' k k' : Nat} (h : regKey r i k = regKey r' i' k') : r = r' ∧ i = i' ∧ k = k' := by
  unfold regKey at h
  obtain ⟨h1, h2⟩ := Nat.pair_eq_pair.mp h
  obtain ⟨h3, h4⟩ := Nat.pair_eq_pair.mp h2
  refine ⟨?_, h3, h4⟩
  have := congrArg RegName.ofNat h1
  simpa [RegName.ofNat_ctorIdx] using this

/-- A register reads as it was last written. -/
theorem State.reg_setReg_self (s : State) (r : RegName) (i k v : Nat) : (s.setReg r i k v).reg r i k = v % 2 ^ 32 := by
  simp [State.reg, State.setReg]

/-- A write to one register leaves every other alone. -/
theorem State.reg_setReg_ne (s : State) {r r' : RegName} {i i' k k' : Nat} (v : Nat) (h : (r', i', k') ≠ (r, i, k)) :
    (s.setReg r i k v).reg r' i' k' = s.reg r' i' k' := by
  have hk : regKey r' i' k' ≠ regKey r i k := by
    intro he
    obtain ⟨rfl, rfl, rfl⟩ := regKey_inj he
    exact h rfl
  simp only [State.reg, State.setReg, Tab.find_set_ne _ _ hk]
  rfl

theorem bitsOf_mod (n : Nat) {h l : Nat} (hl : l ≤ h) (hh : h < 32) : bitsOf (n % 2 ^ 32) h l = bitsOf n h l := by
  unfold bitsOf
  have e : (2 : Nat) ^ 32 = 2 ^ l * 2 ^ (32 - l) := by rw [← pow_add]; congr 1; omega
  have e2 : (2 : Nat) ^ (32 - l) = 2 ^ (h + 1 - l) * 2 ^ (31 - h) := by rw [← pow_add]; congr 1; omega
  rw [e, Nat.mod_mul_right_div_self, e2, Nat.mod_mul_right_mod]

/-- A field replaced inside a number reads back, and the fields below and above it are as they were. -/
theorem bitsOf_splice (w v h l : Nat) :
    bitsOf (w - bitsOf w h l * 2 ^ l + v % 2 ^ (h + 1 - l) * 2 ^ l) h l = v % 2 ^ (h + 1 - l) := by
  unfold bitsOf
  set m := 2 ^ (h + 1 - l) with hm
  have hm0 : 0 < m := by positivity
  have hp : 0 < 2 ^ l := by positivity
  have hw : w = (w / 2 ^ l / m * m + w / 2 ^ l % m) * 2 ^ l + w % 2 ^ l := by
    rw [Nat.div_add_mod' (w / 2 ^ l) m, Nat.div_add_mod']
  have hs : w - w / 2 ^ l % m * 2 ^ l = (w / 2 ^ l / m * m) * 2 ^ l + w % 2 ^ l := by
    conv_lhs => rw [hw]
    have h1 : ((w / 2 ^ l / m * m + w / 2 ^ l % m) * 2 ^ l + w % 2 ^ l) / 2 ^ l % m = w / 2 ^ l % m := by
      rw [← hw]
    rw [h1]
    rw [Nat.add_mul]
    omega
  rw [hs]
  have : (w / 2 ^ l / m * m) * 2 ^ l + w % 2 ^ l + v % m * 2 ^ l = (w / 2 ^ l / m * m + v % m) * 2 ^ l + w % 2 ^ l := by ring
  rw [this, Nat.mul_comm _ (2 ^ l), Nat.mul_add_div hp, Nat.div_eq_of_lt (Nat.mod_lt _ hp), Nat.add_zero]
  rw [Nat.mul_comm _ m, Nat.mul_add_mod, Nat.mod_mod]

/-- A field reads as it was last written. -/
theorem State.fld_setFld_self (s : State) (r : RegName) (i k v : Nat) {h l : Nat} (hl : l ≤ h) (hh : h < 32) :
    (s.setFld r i k h l v).fld r i k h l = v % 2 ^ (h + 1 - l) := by
  unfold State.fld State.setFld
  simp only [State.reg_setReg_self]
  rw [bitsOf_mod _ hl hh, bitsOf_splice]

/-- A write to a field leaves every other register alone. -/
theorem State.reg_setFld_ne (s : State) {r r' : RegName} {i i' k k' : Nat} (h l v : Nat) (hn : (r', i', k') ≠ (r, i, k)) :
    (s.setFld r i k h l v).reg r' i' k' = s.reg r' i' k' := by
  unfold State.setFld
  exact State.reg_setReg_ne s _ hn

/-- A counter takes its sum, saturated. -/
theorem State.reg_bumpBy_self (s : State) (r : RegName) (i k n : Nat) :
    (s.bumpBy r i k n).reg r i k = min (s.reg r i k + n) 0xFFFFFFFF := by
  unfold State.bumpBy
  rw [State.reg_setReg_self, Nat.mod_eq_of_lt]
  exact lt_of_le_of_lt (min_le_right _ _) (by norm_num)

theorem State.reg_bumpBy_ne (s : State) {r r' : RegName} {i i' k k' : Nat} (n : Nat) (hn : (r', i', k') ≠ (r, i, k)) :
    (s.bumpBy r i k n).reg r' i' k' = s.reg r' i' k' := State.reg_setReg_ne s _ hn

/-- Registers are read from the register store and the strapping alone. -/
theorem State.reg_congr {s t : State} (h : t.regs = s.regs) (hb : t.board = s.board) : t.reg = s.reg := by
  funext r i k
  simp [State.reg, State.parts, h, hb]

@[simp] theorem State.sq_setSq_self (s : State) (f r : Nat) (c : SqCtx) : (s.setSq f r c).sq f r = c := by
  simp [State.sq, State.setSq]

theorem State.sq_setSq_ne (s : State) {f r g j : Nat} (c : SqCtx) (h : (g, j) ≠ (f, r)) : (s.setSq f r c).sq g j = s.sq g j := by
  have : Nat.pair g j ≠ Nat.pair f r := fun he => h (by obtain ⟨a, b⟩ := Nat.pair_eq_pair.mp he; rw [a, b])
  simp [State.sq, State.setSq, Tab.get_set_ne _ _ _ this]

@[simp] theorem State.cq_setCq_self (s : State) (f r : Nat) (c : CqCtx) : (s.setCq f r c).cq f r = c := by
  simp [State.cq, State.setCq]

theorem State.cq_setCq_ne (s : State) {f r g j : Nat} (c : CqCtx) (h : (g, j) ≠ (f, r)) : (s.setCq f r c).cq g j = s.cq g j := by
  have : Nat.pair g j ≠ Nat.pair f r := fun he => h (by obtain ⟨a, b⟩ := Nat.pair_eq_pair.mp he; rw [a, b])
  simp [State.cq, State.setCq, Tab.get_set_ne _ _ _ this]

@[simp] theorem State.cq_setSq (s : State) (f r g j : Nat) (c : SqCtx) : (s.setSq f r c).cq g j = s.cq g j := rfl

@[simp] theorem State.sq_setCq (s : State) (f r g j : Nat) (c : CqCtx) : (s.setCq f r c).sq g j = s.sq g j := rfl

@[simp] theorem State.fctx_modFctx_self (s : State) (f : Fn) (g : FnCtx → FnCtx) : (s.modFctx f g).fctx f = g (s.fctx f) := by
  simp [State.fctx, State.modFctx, Tab.upd]

theorem State.fctx_modFctx_ne (s : State) {f h : Fn} (g : FnCtx → FnCtx) (hn : h ≠ f) : (s.modFctx f g).fctx h = s.fctx h := by
  simp [State.fctx, State.modFctx, Tab.upd, Tab.get_set_ne _ _ _ hn]

@[simp] theorem State.slot_setSlot_self (s : State) (g : Nat) (k : KeySlot) : (s.setSlot g k).slot g = k := by
  simp [State.slot, State.setSlot]

theorem State.slot_setSlot_ne (s : State) {g h : Nat} (k : KeySlot) (hn : h ≠ g) : (s.setSlot g k).slot h = s.slot h := by
  simp [State.slot, State.setSlot, Tab.get_set_ne _ _ _ hn]

@[simp] theorem State.stream_setStream_self (s : State) (k : Nat) (x : Stream) : (s.setStream k x).stream? k = some x := by
  simp [State.stream?, State.setStream]

theorem State.stream_setStream_ne (s : State) {k j : Nat} (x : Stream) (hn : j ≠ k) :
    (s.setStream k x).stream? j = s.stream? j := by
  simp [State.stream?, State.setStream, Tab.find_set_ne _ _ hn]

end Machine

end Sys2Proof
end

