-- ==== Sys2Proof/Tests/Slice0.lean ====
section
/-! SUPPORT. The model's own tests: the well-formedness checks refuse what they should, and concrete states and operands
meet the hypotheses of every statement. -/

namespace Sys2Proof.Tests

open Machine

-- One theorem at a time: each kernel evaluation on a thread of its own would ask for too many stacks.
set_option Elab.async false

/-! ### Small states and entries -/

/-- An entry from its fields' places and values (R105). -/
def entry (l : List (Nat × Nat)) : Entry := BitVec.ofNat 512 (l.map fun p => p.2 * 2 ^ (8 * p.1)).sum

/-- The part once its first rebuild of the KLT is done: function 0 reaches it. -/
def live : State := { State.reset with klt := { klt0 with running := [], shown := 1, gen := 1 } }

/-- A submission ring in service. -/
def sqOn : SqCtx := { sqCtx0 with enabled := true }

/-- A completion ring in service. -/
def cqOn : CqCtx := { cqCtx0 with enabled := true }

/-- Submission ring 3 of function 0 with 16 slots, bound to completion ring 2 with 16 slots. -/
def rings : State :=
  (((live.setReg .qeSqCfg 0 3 0xF0002).setReg .qeCqCfg 0 2 0xF0005).setSq 0 3 sqOn).setCq 0 2 cqOn

/-- A command of function 0 on ring 3 that has been handed over. -/
def ready (e : Entry) : Cmd :=
  { id := 5, fn := 0, ring := 3, entry := e, stamp := 0, phase := .ready, lock := none, stream := none, first := 0
    count := 0, truncates := false, held := 0, overdraft := 0, recs := [], order := 0 }

/-- The rings with one command in flight. -/
def flying (c : Cmd) : State := { rings with qe := { rings.qe with cmds := [c], nextId := 6 } }

/-- The rings with a command of an opcode handed over. -/
def holding (op : Nat) (l : List (Nat × Nat)) : State := flying (ready (entry ((0, op) :: (2, 9) :: l)))

/-- A formatted cartridge mounted for writing. -/
def loaded (s : State) : State := { s with ct := { s.ct with mounted := true, formatted := true, threaded := true } }

/-- Stream 1 of tenant 1 as function 0 has it open on handle 1. -/
def openStream : Stream := { stream0 1 1 with handle := some (0, 1), index := 1, write := true }
def k1 : Nat := streamKey 1 1

/-- A command of the open stream in a phase, the cartridge mounted. -/
def onStream (c : Cmd) (x : Stream) : State := (loaded (flying { c with stream := some k1 })).setStream k1 x

/-- An opcode on handle 1, handed over. -/
def streamOp (op : Nat) (l : List (Nat × Nat)) (x : Stream) : State :=
  onStream (ready (entry ((0, op) :: (2, 9) :: (4, 1) :: l))) x

/-- The front command of a state. -/
def front (s : State) : Cmd := s.qe.cmds.headD (ready 0)

/-- Stream 1 of tenant 1 as a state has it. -/
def strmOf (s : State) : Stream := (s.stream? k1).getD (stream0 1 1)

/-- A change of MS alone. -/
def msWith (s : State) (f : MsState → MsState) : State := { s with ms := f s.ms }

/-! ### Rings -/

def sqResetting : State := rings.setSq 0 3 { sqOn with resetting := true, dropped := 3 }
def sqPublished : State := (rings.setSq 0 3 { sqOn with tail := 2, pubs := [(2, 0)] }).setCq 0 2 { cqOn with tail := 15 }
def sqHeld : State := { sqPublished with qe := { sqPublished.qe with cmds := [ready (entry [(0, 0x16), (2, 9)])] } }
def sqStaged : State := flying { ready (entry [(0, 0x64), (2, 9)]) with phase := .staged }
def sqWaiting : State :=
  onStream { ready (entry [(0, 0x16), (2, 9), (4, 1)]) with phase := .waiting, lock := some ⟨k1, false, 0, 3⟩ } openStream
def cqReady : State := { rings with qe := { rings.qe with ready := [⟨0, 2, 3, 0, 5, 0, 0, 9, false⟩] } }
def selected (s : State) : State := (s.setReg .qeSqSel 0 0 3).setReg .qeCqSel 0 0 2
def unringed : State := selected { live with regs := rings.regs }
def onlyCq : State := unringed.setCq 0 2 cqOn
def windowed : State := live.setReg .taskStatus 0 0 (2 ^ 31)
def pealed : State := live.setReg .qePealCount 0 (pealSel 1 0) 510
def chimed : State := (rings.setReg .qeEvtCfg 0 0 (2 ^ 31 + 2)).modFctx 0 fun x => { x with chimes := [⟨4, 3, 0, 7⟩] }
def moderated : State := (rings.setCq 0 2 { cqOn with since := 2, modTime := 5 }).modFctx 0 fun x => { x with msix := true }
def wroteRecords : State := streamOp 0x10 [(24, 100), (16, 4096)] openStream
def pegMoving : State := onStream { ready (entry [(0, 0x13), (4, 1), (30, 7)]) with phase := .moving } openStream

/-! ### Functions, partitions, owner -/

def vfSelected : State := live.setReg .hiFnIndex 0 0 3
def twoParts : State := { live with board := { board0 with partSel := 1, ownerSel := 3 } }
def withVfs : State := { live with hi := { hi0 with numVfs := [(0, 3)] } }
def inPerst : State := { live with hi := { hi0 with perst := [0] } }

/-! ### Memory and buffers -/

def granted : State := { live with bm := { bm0 with bufs := [(bufKey 1 0, ⟨.unit .pe 3, 0⟩)] } }
def waiting : State := ({ live with bm := { bm0 with waits := [⟨.unit .qe 1, 0, 100⟩] } }).setReg .hiFnBufMin 0 0 100
def noMemory : State := { live with mc := { mc0 with pairs := [] } }
def ueSeen : State := live.setPair 1 { mcPair0 with ueSeen := [0x1000] }
def corrLimited : State := (live.setReg .mcCorrLimit 1 0 10).setReg .mcScrub 1 0 3

/-! ### Compression and placement -/

def twoRecords : Stream :=
  { openStream with recs := [⟨0, [1, 2, 3], none, none⟩, ⟨1, [4, 4, 4, 4], none, none⟩], seqEnd := 2, endNum := 2, runEnd := 2 }
def cxJob : CxJob := ⟨k1, ⟨0, 0⟩, false⟩
def runReady : State := (loaded live).setStream k1 twoRecords
def oneEmpty : Stream := { openStream with noCompress := true, recs := [⟨0, [], none, none⟩], seqEnd := 1, endNum := 1, runEnd := 1 }
def cxRuns : State := let s := runReady.setStream k1 oneEmpty; { s with cx := { s.cx with engines := [(2, ⟨false, some cxJob, 0, 0⟩)] } }
def cxOther : State := (streamOp 0x16 [] twoRecords).setEngineCx 2 ⟨false, some { cxJob with stream := 78 }, 0, 0⟩
def cxSaved : State := { live with cx := { engines := [], images := [(4, cxJob)], outs := [] } }
def mayForm : State :=
  let s := (loaded live).setReg .smBhCfg 0 0 0
  { s with ct := { s.ct with written := true, cart := { s.ct.cart with wraps := 256, endTick := 2000000 } }
           pe := { pe0 with frontier := some (0, 5), wrapNow := some 0, active := List.range 128, nextDataset := 7 } }
def voidDue : State := { mayForm with df := { df0 with voidDue := 2 } }
def bookDue : State := { mayForm with pe := { mayForm.pe with bookDue := true } }
def backhitched : State := { mayForm with df := { df0 with backhitch := true, queue := [1, 2, 3, 4] } }

/-! ### Parcels, datasets and frames -/

def parc : Parcel :=
  { stream := k1, dataset := 3, index := 2, first := 0, last := 1, continues := false, cont := false, chunk := false
    payload := [1, 2, 3], plainLen := 5, sealedText := none, tag := [], iv := [], key := 0, offset := 4096, wrap := 0
    chainage := 0, upto := ⟨1, 0⟩, dead := false, verified := false, released := false }
def parcSealed : Parcel := { parc with index := 1, sealedText := some [9] }
def toSeal : State := ({ loaded live with pe := { pe0 with parcels := [parc, parcSealed] } }).setStream k1 openStream
def aeadSlot : KeySlot := { keySlot0 with state := 2, key := zeros 32, label := 6, limit := 9, used := 3, epoch := 7, gen := 1 }
def toSealKeyed : State := (toSeal.setStream k1 { openStream with keySlot := some 4 }).setSlot 4 aeadSlot
def zeroSpent : State := { toSeal with ce := { toSeal.ce with zeroCount := 2 ^ 64 - 1 } }
def geo : Geometry :=
  { num := 3, kind := 0, restart := 0, wrap := 0, chainage := 4000, slots := List.range 128, steps := List.replicate 128 4
    tiers := 32, leftover := 0 }
def dset : Dataset :=
  { geo := geo, ext := 5, rewrites := [], group := 0, position := 0, part := 0, parityOff := 0, parityLen := 0, members := []
    content := [], started := true, encoded := [], written := false, trims := [], signs := [], cut := [], graded := []
    good := [], verified := false, needed := 0, failed := false, abandoned := false }
def dsetEncoded : Dataset := { dset with encoded := List.range 32 }
def withSet (d : Dataset) : State :=
  let s := loaded live
  { s with df := { df0 with datasets := [d], queue := [3] }, sm := { sm0 with wrap := some 0 } }
def runsNow : State := let s := withSet dsetEncoded; { s with df := { s.df with running := true } }
def geo8 : Geometry := { geo with slots := List.range 8, steps := List.replicate 8 4, tiers := 2 }
def dsetWritten : Dataset := { dset with geo := geo8, encoded := [0, 1], written := true }
def frame0 : FramePos := ⟨3, 0, 0, 0⟩
def got : FrameGot := ⟨frame0, some [], 3, 10, 2, 5⟩
def graded : State := let s := withSet dsetWritten; { s with ed := { s.ed with verify := [got] } }
def gradedBad : State :=
  (let s := withSet dsetWritten; { s with ed := { s.ed with verify := [{ got with info := none }] } }).setReg .vcRestart 0 0 0
def inhibited : State := { runsNow with wc := { wc0 with inhibited := true, inWindow := 32 } }
def faulted : State := { live with wc := { wc0 with triggers := [3] } }
def accOn : State := live.setReg .smAccCfg 0 0 (2 ^ 31 + 500)

/-! ### Reading -/

def frm (lane : Option Nat) : FrameRead := ⟨frame0, lane, true, [], 1, 3, 1, 300, false, 0⟩
def benchDue : State := { live with pe := { pe0 with frontier := some (64, 0) }, sm := { sm0 with wrap := some 64 } }
def calNone : State := live.setReg .vcCalSel 0 0 136
def oneSlot : Geometry := { geo with slots := [0], steps := [0], tiers := 24 }
def gotNone : FrameGot := { got with info := none }
def repairing : Group := { group0 0 with repair := 1 }
def otherJob : CxJob := { cxJob with stream := 78 }
def tapeRead : TapeRead := ⟨5, k1, 0, 3, false, false, false⟩
def reading : State :=
  let s := loaded (flying { ready (entry [(0, 0x11), (2, 9)]) with stream := some k1 })
  { s with pe := { s.pe with reads := [tapeRead], target := some 5, parcels := [parc] }, sm := { sm0 with wrap := some 0 }
           ct := { s.ct with cart := { s.ct.cart with endTick := 2000000 } } }
def knownSet : State := { live with rc := { live.rc with geos := [oneSlot] } }
def onTape : Bytes := let h := parc.header; h.take 28 ++ zeros 4 ++ h.drop 32 ++ [1, 2, 3] ++ zeros 16
def tierRead : State := { reading with ed := { reading.ed with tiers := [⟨3, 0, some (zeros 4096 ++ onTape ++ zeros 64)⟩] } }
def tierLost : State :=
  { reading with ed := { reading.ed with tiers := [⟨3, 1, none⟩, ⟨3, 0, some (dset.header [])⟩] } }
def gsfOne : Bytes := [0x69, 0, 0, 1, 2, 3]
def opened (payload : Bytes) (n : Nat) : OpenParcel := ⟨3, 0, { parc with payload := payload, plainLen := n }.header, payload⟩
def withOpened (o : OpenParcel) : State := { live with ce := { ce0 with opened := [o] } }
def openGroup : State := { live with df := { df0 with groups := [{ group0 0 with repair := 1 }] } }

/-! ### Servo and transport -/

def smWith (s : State) (f : SmState → SmState) : State := { s with sm := f s.sm }
def readerKnown : State := smWith live fun m => { m with readers := [(0, { live.reader 0 with prevRef := some 0, period := none })] }
def closed : Engine := { engine0 with closed := true }
def loop (e : Nat) (g : Engine) : State :=
  smWith (live.setReg .smLoopSel 0 0 e) fun m =>
    { m with engines := [(e, g)], coef := [0, 1, 2, 3].map fun k => (coefPlace e k 60, 0x12) }
def mountedAt : State := smWith (loaded live) fun m => { m with wrap := some 0, band := some 0 }
def tripped (step reels : Nat) : State :=
  smWith live fun m => { m with state := 3, tripEngine := 2, tripStep := step, missing := 64, speed := if step = 0 then 501 else 10, reels := reels }
def trippedFault : State := { tripped 1 1 with wc := { wc0 with triggers := [3] } }
def limits : State := live.setReg .smLimits 0 0 (2000 * 65536 + 9000)
def fastMissing : State := smWith live fun m => { m with missing := 64, speed := 501 }
def inTrip (s : State) : State := smWith s fun m => { m with state := 3 }
def injecting : State := smWith live fun m => { m with inject := some ⟨2, 0, 0, 0, 3, 1⟩ }
def captured : State := smWith live fun m => { m with cap := { m.cap with armed := true, left := some 0 } }

/-! ### Cartridges -/

def patch (b : Bytes) (off : Nat) (x : Bytes) : Bytes := b.take off ++ x ++ b.drop (off + x.length)
def cmBlank : Bytes := patch (patch (patch (zeros 1028) 0 (bytesBE 8 77)) 8 (bytesBE 4 4000000)) 12 [0x52]
def session0 : Session :=
  { kind := 1, phase := 1, done := 0, total := 10, elapsed := 0, tenants := [], label := zeros 64, seq := 1, copy := 0
    state := 1, fn := some 0, cmd := some 5, serial := 77, base := 0, endTick := 3997600 }
def label0 : Bytes := session0.labelBlock 65536
def root0 : Bytes := session0.emptyRoot 2
def summary0 : Bytes := summaryBytes 3 false root0
def cmFormatted : Bytes := patch cmBlank 0x200 summary0
def datum0 : DatumRead := ⟨[0xD7], some label0, some (session0.emptyRoot 1), some root0⟩
def mediaBlank : MediaRead := ⟨some cmBlank, true, true, [], [], [], true⟩
def mediaFormatted : MediaRead := ⟨some cmFormatted, true, true, [datum0], [], [], true⟩
def inDrive (s : State) : State := { s with ct := { s.ct with pins := 0xEC } }
def unmounting (unload : Nat) : State := loaded (inDrive (holding 0x02 [(1, unload)]))
def unmountWritten : State :=
  let s := unmounting 2
  { s with ct := { s.ct with written := true }, pe := { s.pe with frontier := some (0, 0), streams := [(k1, mountedStream k1 3)] } }
def unmountOpen : State := (unmounting 0).setStream k1 openStream
def sessionRuns (k : Nat) : State :=
  let s := inDrive (holding (if k = 1 then 0x40 else 0x41) [])
  { s with ct := { s.ct with session := some { session0 with kind := k } } }

/-! ### Streams and records -/

def readable : Stream :=
  { openStream with write := false, endNum := 5, seqEnd := 4, pos := ⟨1, 0⟩, placed := ⟨4, 0⟩, runEnd := 4, durable := 4
                    recs := [⟨1, [7, 8, 9], none, none⟩, ⟨2, [], some 3, none⟩, ⟨3, [1, 2], none, none⟩] }
def opAt (op first : Nat) (l : List (Nat × Nat)) (x : Stream) : State :=
  onStream { ready (entry ((0, op) :: (2, 9) :: (4, 1) :: l)) with first := first } x
def recordsTo (n durable : Nat) : Stream := { openStream with seqEnd := n, endNum := n, durable := durable }
def closing (x : Stream) : Stream := { x with closing := some (0, 1), handle := none }
def bookWritten : State :=
  let s := onStream { ready (entry [(0, 0x04), (4, 1)]) with first := 3, count := 5 } (closing (recordsTo 3 3))
  { s with pe := { s.pe with nextDataset := 9, books := [⟨4, 0, 4000, 0⟩] } }
def onTapeOnly : State :=
  let s := opAt 0x11 0 [(24, 100)] readable
  { s with pe := { s.pe with parcels := [{ parc with dataset := 0, last := 0, verified := true, released := true }] } }
def failedRecord : State :=
  let s := opAt 0x11 0 [(24, 100)] readable
  { s with pe := { s.pe with decoded := [⟨k1, 0, none, [], none, some (0x22, 0x13)⟩] } }

/-! ### Keys -/

def keyed (op : Nat) (l : List (Nat × Nat)) : State := (holding op l).setKek 0 ⟨some (zeros 32), 4⟩
def slot3 (k : KeySlot) (s : State) : State := s.setSlot (s.keyBase 0 + 3) k
def rawSlot : KeySlot := { aeadSlot with raw := true, state := 1 }

/-! ### Units, updates, loop-backs, power -/

def unitNum (t n : Nat) : Nat := t * 65536 + n
def testRead (f : List (Nat × Nat)) : TestRead := ⟨[], f, [], 12⟩
def image1 : Image := { image0 with version := 65537, sv := 3, floor := 2 }
def updating (op : Nat) (l : List (Nat × Nat)) (i : Option Image) : State :=
  msWith (holding op l) fun m => { m with upd := some ⟨1, i⟩ }
def onTrial (op : Nat) : State := msWith (holding op []) fun m => { m with pointer := ⟨2, 1, true, 0, 0⟩, slotB := some image1 }
def looping (aux h : Nat) : State := inDrive (holding 0x70 [(30, aux), (4, h), (8, 1000), (24, 64), (16, 4096)])
def loopRuns (aux h : Nat) : State := msWith (looping aux h) fun m => { m with loops := [⟨5, aux, h, 1000⟩] }
def echoed : State := ((looping 0x10 4).setReg .qeSqCfg 0 4 0xF0002).setSq 0 4 sqOn
def ceWith (f : CeState → CeState) : State := { live with ce := f live.ce }
def idle (n : Nat) (moving : Bool) : State :=
  msWith (((live.setReg .msIdleT1 0 0 1).setReg .msIdleT2 0 0 1).setReg .msIdleT3 0 0 1) fun m =>
    { m with power := n, moving := moving }
def off : State := msWith live fun m => { m with phase := 0, clean := true }
def held : State := msWith live fun m => { m with phase := 1 }
def devrstWindow : State := flying { ready (entry [(0, 0x53)]) with ring := windowRing }
def burning (repairs left : Nat) : State :=
  msWith (holding 0x52 [(4, unitNum 1 5), (30, 3)]) fun m => { m with soft := [(unitNum 1 5, repairs)], fuseLeft := left }
def slicing : State := msWith live fun m => { m with slice := some (2, 7), sliceLast := (2, 7) }
def unmountOpen51 : State := (holding 0x51 []).setStream k1 openStream
def shutDue : State := msWith live fun m => { m with shutDue := 2 }
def probedSet : Dataset := { dsetWritten with graded := [(0, 3)], good := [264] }
def probed : State :=
  (withSet probedSet).setReg .vcProbe 0 0 (2 ^ 31)

/-! ### Values that the spec or a public standard gives -/

/-- The chapter's worked example of a GSF payload (R207 to R220). -/
theorem test_gsf_worked_example :
    (decompress 28 false [0x2B, 0x2C, 0x2A, 0x46, 0x22, 0x20, 0x00]).1 =
      [⟨[97, 98, 99, 97, 98, 99, 97, 98, 99, 97, 98, 99], .recEnd⟩] := by decide +kernel

/-- The chapter's worked example of tier 5 (R302): tracks and positions of frames 0, 3, 127, 128, 231, 232 and 255. -/
theorem test_tier_worked_example :
    (let l := geo.tierFrames 5; [0, 3, 127, 128, 231, 232, 255].map fun i => l.getD i (0, 0)) =
      [(0, 5), (3, 20), (127, 0), (0, 37), (103, 40), (104, 45), (127, 32)] := by decide +kernel

/-- CRC-32C of the digits 1 to 9, the standard's check value (R27). -/
theorem test_crc_check_value :
    crc32c [0x31, 0x32, 0x33, 0x34, 0x35, 0x36, 0x37, 0x38, 0x39] = 0xE3069283#32 := by decide +kernel

/-- AES-256-GCM with the all-zero key and IV over nothing: the tag of the standard's test case 13 (R245). -/
theorem test_gcm_empty :
    gcmTag (zeros 32) (zeros 12) [] [] =
      [0x53, 0x0F, 0x8A, 0xFB, 0xC7, 0x45, 0x36, 0xB9, 0xA9, 0x63, 0xB4, 0xF1, 0xC4, 0xCB, 0x73, 0x8B] := by decide +kernel

/-- The chapter's example of a fill frame's first word (R292): guide value 1, then the state (1, 2) with D = +4. -/
theorem test_modulation_worked_example :
    (modulateWord ⟨true, 6, 4⟩ (List.replicate 64 false)).1.take 10 =
      [false, true, false, false, true, true, false, false, true, true] ∧
    (modulateWord ⟨true, 6, 4⟩ (List.replicate 64 false)).2.1 = ⟨true, 2, 4⟩ := by decide +kernel

/-! ### One step -/

/-- What holds in the next state. -/
def after (o : Host.Outcome State Fault Refusal) (p : State → Bool) : Bool :=
  match o with
  | .next t => p t
  | _ => false


/-- The submission tail moves to what the doorbell says (R86, R87). -/
theorem test_doorbell_moves_tail :
    after (exec (.sqDoorbell 0 (4 * 3) 4 2) rings) (fun t => (t.sq 0 3).tail == 2) = true := by decide +kernel

/-- A tail beyond the ring is dropped and counted (R87). -/
theorem test_doorbell_beyond_ring :
    after (exec (.sqDoorbell 0 (4 * 3) 4 16) rings) (fun t => (t.sq 0 3).tail == 0 && t.reg .qeBadDb 0 0 == 1) = true := by
  decide +kernel

/-- An idle block's clock moves by its 20 ns (R452). -/
theorem test_idle_tick : after (step live) (fun t => t.ms.time == live.ms.time + 20) = true := by decide +kernel

/-- A write to a read-only field changes nothing of it, and the field reads as the spec gives it (R44). -/
theorem test_read_only_kept :
    after (exec (.registerWrite (.fn 0) .qe 0 0 4 0xFFFFFFFF) live) (fun t => t.regs == live.regs)
      = true := by decide +kernel

/-- A trip ends in state 4 with the brakes on (R407). -/
theorem test_trip_ends_safe :
    after (exec .safeHoldExpiry (tripped 2 0)) (fun t => t.sm.state == 4 && t.sm.brake) = true := by decide +kernel

/-! ### Ill-formed commands are refused by each check -/

theorem test_wf_function : (Instr.wf (.flr 253)) = false ∧ (Instr.wf (.flr 1024)) = false ∧ Instr.wf (.flr 252) = true := by
  decide +kernel
theorem test_wf_port : Instr.wf (.smLoopOpen (.fn 253) 0) = false ∧ Instr.wf (.smLoopOpen .sideband 0) = true := by
  decide +kernel
theorem test_wf_party : Instr.wf (.bufferFree (.ring 253 0) 0 0) = false ∧ Instr.wf (.bufferFree (.unit .pe 3) 4 0) = true := by
  decide +kernel
theorem test_wf_width : Instr.wf (.sqDoorbell 0 12 3 0) = false ∧ Instr.wf (.sqDoorbell 0 12 4 0) = true := by decide +kernel
theorem test_wf_value : Instr.wf (.sqDoorbell 0 12 1 256) = false ∧ Instr.wf (.sqDoorbell 0 12 1 255) = true := by
  decide +kernel
theorem test_wf_piece : Instr.wf (.mount 0 [⟨2 ^ 64, 1⟩] mediaBlank) = false ∧
    Instr.wf (.mount 0 [⟨0, 2 ^ 32⟩] mediaBlank) = false ∧ Instr.wf (.mount 0 [⟨0, 1⟩] mediaBlank) = true := by decide +kernel
theorem test_wf_place : Instr.wf (.frameGrade ⟨3, 0, 136, 0⟩) = false ∧ Instr.wf (.frameGrade ⟨3, 3, 0, 0⟩) = false ∧
    Instr.wf (.frameGrade frame0) = true := by decide +kernel
theorem test_wf_frame : Instr.wf (.frameDecode (frm none)) = false := by decide +kernel
theorem test_wf_board : boardOk board0 = true ∧ boardOk { board0 with partSel := 4 } = false ∧
    boardOk { board0 with density := [5] } = false := by decide +kernel
theorem test_wf_test : Instr.wf (.sliceTestEnd ⟨List.replicate 26 ⟨0, 0, 0, 0, 0, 0, 0, 0⟩, [], [], 0⟩) = false := by decide +kernel

/-! ### Concrete states and operands that meet the hypotheses of each statement -/

theorem test_AnEmptyQueueLetsTimePass : live.pending = [] :=
  by decide +kernel

theorem test_NoCommandTouchesTheQueue : ∃ t, exec (.lossOfLock 3) live = .next t :=
  ⟨_, rfl⟩

theorem test_EachCommandKeepsItsFrame : ∃ t, exec (.lossOfLock 3) live = .next t :=
  ⟨_, rfl⟩

theorem test_CountersNeverComeTwice : State.reset.countersBound ∧ ∃ t, step { State.reset with pending := [.lossOfLock
    3] } = .next t :=
  ⟨by unfold State.countersBound; decide +kernel, _, rfl⟩

theorem test_DoorbellsPublishReleaseOrAreDropped : (rings.serves (.fn 0) ∧ rings.hasFn 0 = true ∧ 15 < 65536 ∧ 3 <
    262144 ∧ rings.sqBellOk 0 3 15 = true ∧ (rings.sq 0 3).tail ≠ 15) ∧ (rings.serves (.fn 0) ∧ rings.hasFn 0 = true ∧
    15 < 65536 ∧ 2 < 65536 ∧ rings.cqBellOk 0 2 15 = true) ∧ (rings.serves (.fn 0) ∧ rings.hasFn 0 = true ∧ 15 < 65536
    ∧ 12 % 4 = 0) :=
  by decide +kernel

theorem test_DoorbellsPublishReleaseOrAreDropped_2 : rings.serves (.fn 0) ∧ rings.hasFn 0 = true ∧ 16 < 65536 ∧ (3 <
    262144 ∧ rings.sqBellOk 0 3 16 = false ∧ 12 = 4 * 3 ∧ 4 = 4 ∨ 3 < 65536 ∧ rings.cqBellOk 0 3 16 = false ∧ 12 =
    0x100000 + 4 * 3 ∧ 4 = 4 ∨ 4 < 4 ∨ 12 % 4 ≠ 0) :=
  by decide +kernel

theorem test_PealCommitAppliesEveryPair : (pealed.serves (.fn 0) ∧ pealed.hasFn 0 = true ∧ 1 < 64 ∧ 1 ≤ (pealed.reg
    .qePealCount 0 (pealSel 1 0) % 1024) ∧ (pealed.reg .qePealCount 0 (pealSel 1 0) % 1024) ≤ 510) ∧ (pealed.serves
    (.fn 0) ∧ pealed.hasFn 0 = true ∧ 63 < 64 ∧ ((pealed.reg .qePealCount 0 (pealSel 63 0) % 1024) = 0 ∨ 510 <
    (pealed.reg .qePealCount 0 (pealSel 63 0) % 1024))) :=
  by decide +kernel

theorem test_WindowCommandsStartAndAbort : (live.serves (.fn 0) ∧ live.hasFn 0 = true ∧ live.qe.window = true ∧
    live.windowBusy 0 = false) ∧ (windowed.serves (.fn 0) ∧ windowed.hasFn 0 = true ∧ windowed.qe.window = true ∧
    windowed.windowBusy 0 = true ∧ (windowed.qe.cmds.all fun c_ => c_.fn != 0 || c_.ring != windowRing) = true) ∧
    (windowed.serves (.fn 0) ∧ windowed.hasFn 0 = true ∧ windowed.qe.window = true ∧ windowed.windowBusy 0 = true ∧ 1
    < 9) :=
  by decide +kernel

theorem test_RingsAreEnabledAndDisabled : (onlyCq.serves (.fn 0) ∧ (onlyCq.fld .qeSqSel 0 0 17 0) < onlyCq.sqCount 0 ∧
    (onlyCq.sq 0 (onlyCq.fld .qeSqSel 0 0 17 0)).enabled = false ∧ bitOf (1#32).toNat 0 = true ∧ (onlyCq.setFld
    .qeSqCtrl 0 (onlyCq.fld .qeSqSel 0 0 17 0) 3 2 (bitsOf (1#32).toNat 3 2)).sqEnableOk 0 (onlyCq.fld .qeSqSel 0 0 17
    0) = true) ∧ (unringed.serves (.fn 0) ∧ (unringed.fld .qeSqSel 0 0 17 0) < unringed.sqCount 0 ∧ (unringed.sq 0
    (unringed.fld .qeSqSel 0 0 17 0)).enabled = false ∧ bitOf (1#32).toNat 0 = true ∧ (unringed.setFld .qeSqCtrl 0
    (unringed.fld .qeSqSel 0 0 17 0) 3 2 (bitsOf (1#32).toNat 3 2)).sqEnableOk 0 (unringed.fld .qeSqSel 0 0 17 0) =
    false) ∧ (∃ s ∈ [selected rings], s.serves (.fn 0) ∧ (s.fld .qeSqSel 0 0 17 0) < s.sqCount 0 ∧ (s.sq 0 (s.fld
    .qeSqSel 0 0 17 0)).enabled = true ∧ (s.sq 0 (s.fld .qeSqSel 0 0 17 0)).resetting = false ∧ bitOf (0#32).toNat 0 =
    false) ∧ (unringed.serves (.fn 0) ∧ (unringed.fld .qeCqSel 0 0 15 0) < unringed.cqCount 0 ∧ (unringed.cq 0
    (unringed.fld .qeCqSel 0 0 15 0)).enabled = false ∧ bitOf (1#32).toNat 0 = true ∧ unringed.cqEnableOk 0
    (unringed.fld .qeCqSel 0 0 15 0) = true) :=
  by decide +kernel

theorem test_RingsAreEnabledAndDisabled_2 : (∃ s ∈ [selected live], s.serves (.fn 0) ∧ (s.fld .qeCqSel 0 0 15 0) <
    s.cqCount 0 ∧ (s.cq 0 (s.fld .qeCqSel 0 0 15 0)).enabled = false ∧ bitOf (1#32).toNat 0 = true ∧ s.cqEnableOk 0
    (s.fld .qeCqSel 0 0 15 0) = false) ∧ (onlyCq.serves (.fn 0) ∧ (onlyCq.fld .qeCqSel 0 0 15 0) < onlyCq.cqCount 0 ∧
    (onlyCq.cq 0 (onlyCq.fld .qeCqSel 0 0 15 0)).enabled = true ∧ bitOf (0#32).toNat 0 = false ∧ onlyCq.cqBusy 0
    (onlyCq.fld .qeCqSel 0 0 15 0) = false) ∧ (∃ s ∈ [selected rings], s.serves (.fn 0) ∧ (s.fld .qeCqSel 0 0 15 0) <
    s.cqCount 0 ∧ (s.cq 0 (s.fld .qeCqSel 0 0 15 0)).enabled = true ∧ bitOf (0#32).toNat 0 = false ∧ s.cqBusy 0 (s.fld
    .qeCqSel 0 0 15 0) = true) :=
  by decide +kernel

theorem test_QueueResetsDropAndReport : (3 < rings.sqCount 0 ∧ rings.serves (.fn 0) ∧ 3 = (3#32).toNat % 2 ^ 18 ∧
    (rings.sq 0 3).enabled = true ∧ (rings.sq 0 3).resetting = false ∧ rings.unaccepted 0 3 = []) ∧ (3 <
    sqResetting.sqCount 0 ∧ (sqResetting.sq 0 3).resetting = true ∧ sqResetting.resetQuiet 0 3 = true ∧
    sqResetting.cqRoom 0 (sqResetting.boundCq 0 3) = true ∧ (sqResetting.qe.ready.all fun x_ => x_.fn != 0 || x_.cq !=
    sqResetting.boundCq 0 3) = true) :=
  by decide +kernel

theorem test_RingsFailOnContextErrors : ((rings.sq 0 3).enabled = true ∧ (rings.sq 0 3).failed = false) ∧ ((rings.cq 0
    2).enabled = true ∧ (rings.cq 0 2).failed = false) :=
  by decide +kernel

theorem test_FetchResolveAndLock : (3 ≠ windowRing ∧ (sqPublished.sq 0 3).echo = false ∧ fetchCheck
    (sqPublished.advance 0 3) 0 3 (entry [(0, 0x64), (2, 9)]) = none) ∧ (∃ u ∈ [(sqPublished).pickFn.1],
    sqPublished.pickFn = (u, some 0) ∧ u.pickRing 0 = some 3) ∧ (sqStaged.cmd? 5 = some (front sqStaged) ∧
    sqStaged.mayResolve (front sqStaged) = true ∧ entOpcode (front sqStaged).entry ≠ 0x03 ∧ usesHandle (entOpcode
    (front sqStaged).entry) = false) ∧ (sqWaiting.cmd? 5 = some (front sqWaiting) ∧ (front sqWaiting).phase = .waiting
    ∧ sqWaiting.lockBlocked (front sqWaiting) = false ∧ sqWaiting.openBlocked (front sqWaiting) = false) :=
  by decide +kernel

theorem test_WritesTransferAndSequence : (wroteRecords.cmd? 5 = some (front wroteRecords) ∧ (front wroteRecords).phase
    = .ready ∧ isWriteClass (entOpcode (front wroteRecords).entry) = true ∧ (front wroteRecords).stream = some k1 ∧
    wroteRecords.stream? k1 = some (strmOf wroteRecords) ∧ wroteRecords.writeFailure (front wroteRecords) (strmOf
    wroteRecords) (([] : List BufPiece)) (([⟨100, 0, 0, 0⟩] : List RecItem)) = none ∧ wroteRecords.mayStart (front
    wroteRecords) (strmOf wroteRecords) = true) ∧ (pegMoving.cmd? 5 = some (front pegMoving) ∧ (front pegMoving).phase
    = .moving ∧ entOpcode (front pegMoving).entry = 0x13 ∧ (front pegMoving).stream = some k1 ∧ pegMoving.stream? k1 =
    some (strmOf pegMoving) ∧ pegMoving.sequenceTurn (front pegMoving) = true ∧ (front pegMoving).truncates = false ∧
    pegMoving.pe.creditClosed = false) :=
  by decide +kernel

theorem test_CompletionsArePosted : (cqReady.qe.ready = ((⟨0, 2, 3, 0, 5, 0, 0, 9, false⟩ : Ready)) :: (([] : List
    Ready)) ∧ cqReady.cqRoom ((⟨0, 2, 3, 0, 5, 0, 0, 9, false⟩ : Ready)).fn ((⟨0, 2, 3, 0, 5, 0, 0, 9, false⟩ :
    Ready)).cq = true ∧ ((⟨0, 2, 3, 0, 5, 0, 0, 9, false⟩ : Ready)).devrst = false ∧ cqReady.qe.devrstDue = false) ∧
    (cqReady.hi.ownerNext = none ∧ (ready 0).stream = none ∧ isWriteClass (entOpcode (ready 0).entry) = false ∧ (ready
    0).ring < windowRing) ∧ (cqReady.hi.ownerNext = none ∧ (({ ready 0 with ring := windowRing } : Cmd)).stream = none
    ∧ isWriteClass (entOpcode (({ ready 0 with ring := windowRing } : Cmd)).entry) = false ∧ (({ ready 0 with ring :=
    windowRing } : Cmd)).ring = windowRing) ∧ (cqReady.hi.ownerNext = none ∧ (({ ready 0 with ring := goneRing } :
    Cmd)).stream = none ∧ isWriteClass (entOpcode (({ ready 0 with ring := goneRing } : Cmd)).entry) = false ∧ (({
    ready 0 with ring := goneRing } : Cmd)).ring = goneRing) :=
  by decide +kernel

theorem test_ChimesWaitAndGo : chimed.fld .qeEvtCfg 0 0 31 31 = 1 ∧ chimed.eventRing 0 = some 2 ∧ chimed.cqRoom 0 2 =
    true ∧ chimed.qe.ready = [] ∧ (chimed.fctx 0).lost = 0 ∧ (chimed.fctx 0).chimes = [((⟨4, 3, 0, 7⟩ : Chime))] ∧
    chimed.qe.devrstDue = false :=
  by decide +kernel

theorem test_InterruptsAreModeratedAndMasked : (moderated.cq 0 2).enabled = true ∧ 0 < (moderated.cq 0 2).since ∧
    (moderated.cq 0 2).modTime ≠ 0 ∧ (moderated.fctx 0).msix = true ∧ moderated.fld .qeCqCfg 0 2 12 0 <
    moderated.vecCount 0 :=
  by decide +kernel

theorem test_AllocationsNeverOverlap : (live.serves (.fn 0) ∧ live.isOwner 0 = true ∧ live.selFn 0 = some 0 ∧
    (allocRange ((.sqCount : AllocKind))).isSome = true ∧ live.alloc (allocReg ((.sqCount : AllocKind))).1 0 ≠
    (5#32).toNat % 2 ^ (allocReg ((.sqCount : AllocKind))).2 ∧ live.allocCond 0 ((.sqCount : AllocKind)) ((5#32).toNat
    % 2 ^ (allocReg ((.sqCount : AllocKind))).2) = true ∧ live.allocFits 0 ((.sqCount : AllocKind)) ((5#32).toNat % 2
    ^ (allocReg ((.sqCount : AllocKind))).2) = true) ∧ (live.serves (.fn 0) ∧ live.isOwner 0 = true ∧ live.selFn 0 =
    some 0 ∧ (allocRange ((.sqBase : AllocKind))).isSome = true ∧ live.alloc (allocReg ((.sqBase : AllocKind))).1 0 ≠
    (5#32).toNat % 2 ^ (allocReg ((.sqBase : AllocKind))).2 ∧ live.allocCond 0 ((.sqBase : AllocKind)) ((5#32).toNat %
    2 ^ (allocReg ((.sqBase : AllocKind))).2) = true ∧ live.allocFits 0 ((.sqBase : AllocKind)) ((5#32).toNat % 2 ^
    (allocReg ((.sqBase : AllocKind))).2) = false) ∧ (live.serves (.fn 0) ∧ live.isOwner 0 = true ∧ live.selFn 0 =
    some 0 ∧ live.tenant 0 ≠ (255#32).toNat % 256 ∧ live.openStreams 0 = 0 ∧ live.anyKey 0 = false ∧ (255#32).toNat %
    256 ≠ 0 ∧ (live.quotaFns.all fun g_ => g_ == 0 || live.tenant g_ != (255#32).toNat % 256) = true) :=
  by decide +kernel

theorem test_AllocationsNeverOverlap_2 : live.serves (.fn 0) ∧ live.isOwner 0 = true ∧ 0 < live.parts ∧ (5#32).toNat %
    256 ≠ live.reg .hiVfQuota 0 0 % 256 ∧ live.vfs 0 = 0 ∧ (((List.range live.parts).filter (· != 0)).map fun p_ =>
    live.reg .hiVfQuota p_ 0 % 256).sum + (5#32).toNat % 256 ≤ (if live.parts = 4 then 251 else 252) :=
  by decide +kernel

theorem test_TheOwnerChangesAndTheTableIsRebuilt : (twoParts.serves .sideband ∧ twoParts.board.ownerSel = 3 ∧
    twoParts.reg .msSbOwner 0 0 ≠ (4#32).toNat % 8 ∧ (4#32).toNat % 8 / 4 = 1 ∧ (4#32).toNat % 4 < twoParts.parts ∧
    (twoParts.qe.cmds.all fun c_ => !needsOwner c_.entry) = true ∧ twoParts.ms.upd = none) ∧ (State.reset.klt.running
    ≠ [] ∧ State.reset.klt.waiting = [] ∧ State.reset.ms.phase = 2) ∧ (twoParts.klt.running = []) :=
  by decide +kernel

theorem test_RegistersReadAndWrite : (live.serves (.fn 0) ∧ live.isOwner 0 = true ∧ 0xFFFFFFFF < 2 ^ 32 ∧ ((.peHoldMax
    : RegName)) ∈ [RegName.peHoldMax, RegName.ceKeyLow, RegName.smTension] ∧ ((.peHoldMax : RegName)).info.off =
    RegName.peHoldMax.info.off ∧ live.reg ((.peHoldMax : RegName)) 0 0 < 2 ^ 32) ∧ (live.serves (.fn 0) ∧ live.sees
    (.fn 0) ((.bm : Blk)) = true ∧ ((.bm : Blk)) ≠ .peal ∧ ((.bm : Blk)) ≠ .bells ∧ (2 < 4 ∨
    RegName.peHoldMax.info.off % 4 ≠ 0)) ∧ (live.portOpen (.fn 0) = true ∧ live.isOwner 0 = true ∧ live.hasFn 0 =
    true) ∧ (live.portOpen (.fn 0) = true ∧ live.hasFn 0 = true ∧ live.reg .qeBadDb 0 0 < 2 ^ 32) :=
  by decide +kernel

theorem test_FunctionResetsReachOnlyTheirOwn : (0 < live.parts ∧ live.hi.perst.contains 0 = false) ∧
    (inPerst.hi.perst.contains 0 = true ∧ inPerst.ms.phase = 2) ∧ (live.ms.phase = 2 ∧ live.hasFn 0 = true ∧ live.vfs
    (partOf 0) < 256 ∧ live.ms.upd = none ∧ live.qe.devrstDue = false ∧ (live.qe.cmds.all fun c_ => partOf c_.fn !=
    partOf 0) = true ∧ (live.qe.ready.all fun r_ => partOf r_.fn != partOf 0) = true) ∧ (live.ms.phase = 2 ∧ 0 <
    live.parts ∧ 252 ≤ live.reg .hiVfQuota 0 0 % 256 ∧ live.vfs 0 < 252) :=
  by decide +kernel

theorem test_BuffersHaveOneOwner : (0 < 16777216 ∧ 16777216 ≤ 16777216 ∧ 4 < 5 ∧ 16777216 ≤ poolSize 4 ∧ (∀ q_, q_ < 4
    → 16777216 ≤ poolSize q_ → live.freeBuf q_ = none) ∧ live.freeBuf 4 = some 0) ∧ (0 < 16777216 ∧ 16777216 ≤
    16777216 ∧ (∀ q, q < 5 → 16777216 ≤ poolSize q → noMemory.freeBuf q = none)) ∧ (waiting.bm.waits = ((⟨.unit .qe 1,
    0, 100⟩ : BufWait)) :: (([] : List BufWait)) ∧ waiting.belowRes ((⟨.unit .qe 1, 0, 100⟩ : BufWait)).fn = true ∧
    waiting.servingPool ((⟨.unit .qe 1, 0, 100⟩ : BufWait)) = some 0 ∧ waiting.freeBuf 0 = some 0) ∧ (Tab.find
    granted.bm.bufs (bufKey 1 0) = some ((⟨.unit .pe 3, 0⟩ : Buf)) ∧ ((⟨.unit .pe 3, 0⟩ : Buf)).owner = ((.unit .pe 3
    : Party))) ∧ (((Tab.find live.bm.bufs (bufKey 0 0)).map Buf.owner) ≠ some ((.unit .pe 3 : Party))) :=
  by decide +kernel

theorem test_BufferSettingsTakeEffectAtOnce : (live.serves (.fn 0) ∧ live.isOwner 0 = true ∧ live.ct.mounted = false ∧
    (live.qe.sqs.any fun e_ => e_.2.enabled && e_.1.unpair.2 != windowRing) = false ∧ ((List.range 4).map fun i_ =>
    bitsOf (0x40404040#32).toNat (8 * i_ + 7) (8 * i_)).any (· == 0) = false ∧ ((List.range 4).map fun i_ => bitsOf
    (0x40404040#32).toNat (8 * i_ + 7) (8 * i_)).sum = 256) ∧ (∃ s ∈ [loaded live], s.serves (.fn 0) ∧ s.isOwner 0 =
    true ∧ s.ct.mounted = true ∧ s.reg .bmPoolSplit 0 0 ≠ (0x40404040#32).toNat) ∧ (live.serves (.fn 0) ∧ live.isOwner
    0 = true ∧ live.ct.mounted = false ∧ (live.qe.sqs.any fun e_ => e_.2.enabled && e_.1.unpair.2 != windowRing) =
    false ∧ (((List.range 4).map fun i_ => bitsOf (0#32).toNat (8 * i_ + 7) (8 * i_)).any (· == 0) = true ∨
    ((List.range 4).map fun i_ => bitsOf (0#32).toNat (8 * i_ + 7) (8 * i_)).sum ≠ 256)) ∧ (live.serves (.fn 0) ∧
    live.isOwner 0 = true ∧ bitsOf (0xFE01#32).toNat 7 0 < bitsOf (0xFE01#32).toNat 15 8) ∧ (live.serves (.fn 0) ∧
    live.isOwner 0 = true ∧ bitsOf (0x40404040#32).toNat 15 8 ≤ bitsOf (0x40404040#32).toNat 7 0) :=
  by decide +kernel

theorem test_MemoryAndCrossingErrorsAreHandled : ((2 ^ 37 - 1) < 2 ^ 37 ∧ (live.pair 1).ueSeen.contains ((2 ^ 37 - 1)
    / 64 * 64) = false) ∧ (0x1000 < 2 ^ 37 ∧ (ueSeen.pair 1).ueSeen.contains (0x1000 / 64 * 64) = true ∧ (ueSeen.pair
    1).retired = false) ∧ (live.fld .mcScrub 1 0 7 0 ≠ 0) ∧ (corrLimited.fld .mcCorrLimit 1 0 15 0 ≠ 0 ∧
    (corrLimited.pair 1).retired = false ∧ corrLimited.fld .mcCorrLimit 1 0 15 0 < 11) ∧ (live.fld .mcCorrLimit 1 0 15
    0 ≠ 0 ∧ (live.pair 1).retired = false ∧ 11 ≤ live.fld .mcCorrLimit 1 0 15 0) ∧ (toSeal.parcel? 3 2 = some parc ∧
    parc.verified = false) :=
  by decide +kernel

theorem test_RunsAreReleasedAndCompressed : (runReady.engineUsable 2 = true ∧ 2 < 32 ∧ runReady.ms.slice ≠ some (3, 2)
    ∧ (runReady.engineCx 2).job = none ∧ runReady.stream? k1 = some twoRecords ∧ runReady.mayCompress k1 twoRecords =
    true) ∧ (cxRuns.engineUsable 2 = true ∧ 2 < 32 ∧ cxRuns.ms.slice ≠ some (3, 2) ∧ (cxRuns.engineCx 2).job = some
    cxJob ∧ cxJob.stream = k1 ∧ cxRuns.stream? k1 = some oneEmpty ∧ (cxRuns.compressFrom k1 oneEmpty cxJob.start (some
    1000)).isSome = true) ∧ (cxOther.engineUsable 2 = true ∧ 2 < 32 ∧ (cxOther.engineCx 2).job = some otherJob ∧
    otherJob.stream ≠ k1 ∧ cxOther.endWaits k1 = true) ∧ (cxSaved.engineUsable 2 = true ∧ 2 < 32 ∧ (cxSaved.engineCx
    2).job = none ∧ Tab.find cxSaved.cx.images 4 = some cxJob) :=
  by decide +kernel

theorem test_DatasetsFormAtTheFrontier : (voidDue.mayForm = true ∧ voidDue.ct.written = true ∧ 6144 ≤ sumFrames
    voidDue.vector.2 ∧ (voidDue.pe.active.all fun n_ => !(voidDue.cal n_).retired && !voidDue.wc.retired.contains n_
    && !bitOf (voidDue.calCtrl n_) 4) = true ∧ voidDue.pe.frontier = some (0, 5) ∧ 0 < voidDue.df.voidDue) ∧
    (mayForm.mayForm = true ∧ mayForm.ct.written = true ∧ 6144 ≤ sumFrames mayForm.vector.2 ∧ (mayForm.pe.active.all
    fun n_ => !(mayForm.cal n_).retired && !mayForm.wc.retired.contains n_ && !bitOf (mayForm.calCtrl n_) 4) = true ∧
    mayForm.pe.frontier = some (0, 5) ∧ mayForm.df.voidDue = 0 ∧ mayForm.df.restartDue = [] ∧ mayForm.parityGroup =
    none ∧ (mayForm.df.groups.any fun g_ => g_.repair == 2) = false ∧ ((mayForm.pe.bookDue || decide (256 ≤
    mayForm.pe.legCount)) = true ∨ mayForm.forced = true ∨ mayForm.fld .smBhCfg 0 0 3 0 = 0)) ∧
    (backhitched.df.backhitch = true ∧ (4 ≤ backhitched.df.queue.length ∨ backhitched.forced = true)) :=
  by decide +kernel

theorem test_ParcelsAreSealedOnceUnderTheirKey : (toSeal.parcel? 3 2 = some parc ∧ parc.sealedText = none ∧ parc.dead
    = false ∧ toSeal.noCipher = false ∧ toSeal.cipherWaits = false ∧ ((toSeal.stream? parc.stream).bind fun x_ =>
    x_.keySlot) = none ∧ toSeal.ce.zeroCount + 1 < 2 ^ 64) ∧ (zeroSpent.parcel? 3 2 = some parc ∧ parc.sealedText =
    none ∧ parc.dead = false ∧ zeroSpent.noCipher = false ∧ zeroSpent.cipherWaits = false ∧ ((zeroSpent.stream?
    parc.stream).bind fun x_ => x_.keySlot) = none ∧ 2 ^ 64 ≤ zeroSpent.ce.zeroCount + 1) ∧ (toSealKeyed.parcel? 3 2 =
    some parc ∧ parc.sealedText = none ∧ parc.dead = false ∧ toSealKeyed.noCipher = false ∧ toSealKeyed.cipherWaits =
    false ∧ toSealKeyed.stream? parc.stream = some (strmOf toSealKeyed) ∧ (strmOf toSealKeyed).keySlot = some 4 ∧
    (toSealKeyed.slot (toSealKeyed.keyBase (toSealKeyed.streamFn (strmOf toSealKeyed)) + 4)).state = 2 ∧
    (toSealKeyed.slot (toSealKeyed.keyBase (toSealKeyed.streamFn (strmOf toSealKeyed)) + 4)).raw = false ∧
    (toSealKeyed.slot (toSealKeyed.keyBase (toSealKeyed.streamFn (strmOf toSealKeyed)) + 4)).retiring = false) :=
  by decide +kernel

theorem test_ParcelsAreSealedOnceUnderTheirKey_2 : toSeal.parcel? 3 1 = some parcSealed ∧ parcSealed.sealedText.isSome
    = true :=
  by decide +kernel

theorem test_WhatASealWritesAnOpenReads : (zeros 32).length = 32 ∧ (zeros 12).length = 12 ∧ 0xFFFFFFFF < 2 ^ 32 ∧
    parc.payload.length < 2 ^ 32 ∧ parc.plainLen < 2 ^ 32 ∧ parc.tenant < 256 ∧ parc.sid < 2 ^ 64 ∧ parc.first < 2 ^
    64 :=
  by decide +kernel

theorem test_TiersAreEncodedAndWritten : (∃ s ∈ [withSet dset], s.dataset? 3 = some dset ∧ dset.failed = false ∧
    dset.abandoned = false ∧ 31 < dset.tiers ∧ dset.encoded.contains 31 = false ∧ s.mayEncode dset = true ∧
    dset.encoded.length + 1 ≠ dset.tiers) ∧ (∃ s ∈ [withSet dsetEncoded], s.df.queue.head?.bind s.dataset? = some
    dsetEncoded ∧ s.mayRun = true) ∧ (runsNow.df.running = true ∧ runsNow.df.queue = 3 :: (([] : List Nat)) ∧
    runsNow.dataset? 3 = some dsetEncoded ∧ dsetEncoded.encoded.length = dsetEncoded.tiers ∧ dsetEncoded.written =
    false) :=
  by decide +kernel

theorem test_FramesAreGradedAndRewritten : graded.dataset? frame0.dataset = some dsetWritten ∧ (graded.ed.verify.find?
    fun g_ => decide (g_.place = frame0)) = some got ∧ dsetWritten.geo.restart = frame0.restart ∧
    dsetWritten.cut.contains (frame0.slot, frame0.pos) = false ∧ dsetWritten.graded.contains (frame0.slot, frame0.pos)
    = false ∧ dsetWritten.written = true ∧ dsetWritten.failed = false ∧ dsetWritten.abandoned = false ∧
    dsetWritten.geo.role frame0.slot frame0.pos = some (.tier 0 0) ∧ ({ dsetWritten with graded := (frame0.slot,
    frame0.pos) :: dsetWritten.graded } : Dataset).trackDone frame0.slot = false ∧ got.info.isSome = true ∧ graded.fld
    .vcRwThresh 0 0 7 0 ≤ graded.margin got ∧ dsetWritten.good.length + 1 < 256 * dsetWritten.tiers ∧
    dsetWritten.good.contains (256 * 0 + 0) = false :=
  by decide +kernel

theorem test_FramesAreGradedAndRewritten_2 : (gradedBad.dataset? frame0.dataset = some dsetWritten ∧
    (gradedBad.ed.verify.find? fun g_ => decide (g_.place = frame0)) = some gotNone ∧ dsetWritten.geo.restart =
    frame0.restart ∧ dsetWritten.cut.contains (frame0.slot, frame0.pos) = false ∧ dsetWritten.graded.contains
    (frame0.slot, frame0.pos) = false ∧ dsetWritten.written = true ∧ dsetWritten.failed = false ∧
    dsetWritten.abandoned = false ∧ dsetWritten.geo.role frame0.slot frame0.pos = some (.tier 0 0) ∧ ({ dsetWritten
    with graded := (frame0.slot, frame0.pos) :: dsetWritten.graded } : Dataset).trackDone frame0.slot = false ∧
    gotNone.info = none ∧ gradedBad.df.rewrites.length < 4096 ∧ gradedBad.fld .vcRestart 0 0 11 0 = 0) ∧
    (probed.dataset? ((⟨3, 0, 0, 3⟩ : FramePos)).dataset = some probedSet ∧ probed.fld .vcProbe 0 0 31 31 = 1 ∧
    probedSet.geo.stepOf ((⟨3, 0, 0, 3⟩ : FramePos)).slot = some 4 ∧ ((⟨3, 0, 0, 3⟩ : FramePos)).pos = ((⟨3, 0, 0, 3⟩
    : FramePos)).dataset % framesAt 4 ∧ probedSet.geo.role ((⟨3, 0, 0, 3⟩ : FramePos)).slot ((⟨3, 0, 0, 3⟩ :
    FramePos)).pos = some (.tier 1 8) ∧ probedSet.good.contains (256 * 1 + 8) = true ∧ ((⟨3, 0, 0, 3⟩ :
    FramePos)).restart = probedSet.geo.restart ∧ probedSet.graded.contains (((⟨3, 0, 0, 3⟩ : FramePos)).slot, ((⟨3, 0,
    0, 3⟩ : FramePos)).pos) = true ∧ probedSet.trackDone ((⟨3, 0, 0, 3⟩ : FramePos)).slot = false) :=
  by decide +kernel

theorem test_FramesAreGradedAndRewritten_3 : inhibited.wc.inhibited = true ∧ inhibited.wc.triggers = [] ∧ 32 ≤
    inhibited.wc.inWindow ∧ inhibited.frameStands frame0 = true :=
  by decide +kernel

theorem test_InhibitTriggersLowerTheGates : ((1, ((.shockN : Instr)), ((.dfInhShock : RegName))) ∈ [(1, Instr.shockN,
    RegName.dfInhShock), (3, .wfaultN, .dfInhWfault)]) ∧ ((1, ((.shockNDeassert : Instr))) ∈ [(1,
    Instr.shockNDeassert), (3, .wfaultNDeassert)]) ∧ (accOn.fld .smAccCfg 0 0 31 31 = 1 ∧ accOn.fld .smAccCfg 0 0 15 0
    < ((501 : Int)).natAbs) ∧ (accOn.fld .smAccCfg 0 0 31 31 = 1 ∧ (-500).natAbs ≤ accOn.fld .smAccCfg 0 0 15 0 ∧
    ((500 : Int)).natAbs ≤ accOn.fld .smAccCfg 0 0 15 0 ∧ (-500).natAbs ≤ accOn.fld .smAccCfg 0 0 15 0) ∧
    (faulted.wc.wfault = false ∧ faulted.wc.triggers.contains 3 = true ∧ faulted.sm.state < 3) :=
  by decide +kernel

theorem test_FramesAndPreamblesAreDecoded : ((frm (some 95)).place.slot < 136 ∧ (frm (some 95)).lane = some 95 ∧
    live.laneOk (frm (some 95)) = true ∧ live.ms.slice ≠ some (2, 95)) ∧ ((frm none).place.slot < 136 ∧ (frm
    none).lane = none) ∧ (135 < 136 ∧ (List.replicate 1216 true).length = 1216) :=
  by decide +kernel

theorem test_PreamblesCarryTheGeometry : geo.num < 2 ^ 48 ∧ geo.kind < 16 ∧ geo.restart < 4 ∧ geo.wrap < 256 ∧
    geo.chainage < 2 ^ 32 ∧ geo.tiers < 64 ∧ geo.leftover < 4096 ∧ 255 < 256 ∧ 15 < 16 ∧ 255 < 256 ∧ geo.slots.length
    ≤ 128 ∧ (∀ n_, n_ ∈ geo.slots → n_ < 136) ∧ geo.slots.Pairwise (· < ·) ∧ geo.steps.length = geo.slots.length ∧ (∀
    x_, x_ ∈ geo.steps → x_ < 8) :=
  by decide +kernel

theorem test_BenchmarksChooseTheActiveSet : (benchDue.pe.frontier = some (64, 0) ∧ benchDue.sm.wrap = some 64) ∧
    (benchDue.serves (.fn 0) ∧ benchDue.isOwner 0 = true ∧ benchDue.fld .vcCalSel 0 0 7 0 < 136) ∧ (calNone.serves
    (.fn 0) ∧ calNone.isOwner 0 = true ∧ 136 ≤ calNone.fld .vcCalSel 0 0 7 0) :=
  by decide +kernel

theorem test_TapeReadsAreServedInOrder : (reading.pe.reads ≠ [] ∧ reading.readsMayRun = true ∧ reading.df.running =
    false) ∧ (live.pe.reads = []) ∧ ((reading.pe.reads.any fun t_ => t_.cmd == 5) = true) ∧ ((reading.pe.reads.find?
    fun t_ => reading.pe.target == some t_.cmd) = some tapeRead ∧ reading.transportDown = false) :=
  by decide +kernel

theorem test_TiersParcelsAndRecordsAreRecovered : (knownSet.geometry? 3 = some oneSlot ∧ 23 < oneSlot.tiers) ∧
    (tierLost.tier? 3 1 = some ((⟨3, 1, none⟩ : TierData)) ∧ ((⟨3, 1, none⟩ : TierData)).bytes = none ∧
    tierLost.groupPlace 3 = some (0, 0)) ∧ (tierRead.cmd? 5 = some (front tierRead) ∧ (tierRead.pe.reads.find? fun t_
    => t_.cmd == 5 && t_.dataset == 3) = some tapeRead ∧ tierRead.cipherWaits = false ∧ tierRead.noCipher = false ∧
    tierRead.parcelPlace 3 0 = some (((4096, 64 + 3 + 16) : Nat × Nat)) ∧ tierRead.payloadPart 3 (((4096, 64 + 3 + 16)
    : Nat × Nat)).1 (((4096, 64 + 3 + 16) : Nat × Nat)).2 = some onTape ∧ fieldBE onTape 0 2 = 0x50A7 ∧ fieldBE onTape
    4 1 = tierRead.tenant (front tierRead).fn ∧ streamKey (fieldBE onTape 4 1) (fieldBE onTape 8 8) = tapeRead.stream
    ∧ tierRead.keyFor (front tierRead).fn (fieldBE (onTape.take 64) 28 4) = some (zeros 32)) ∧ (∃ s ∈ [withOpened
    (opened gsfOne 11)], (s.ce.opened.find? fun o_ => o_.dataset == 3 && o_.index == 0) = some (opened gsfOne 11) ∧ 15
    < 32 ∧ s.engineUsable (32 + 15) = true ∧ s.below 4 = false ∧ (decompress (fieldBE (opened gsfOne 11).head 44 4)
    (bitOf (fieldBE (opened gsfOne 11).head 3 1) 0) (opened gsfOne 11).payload).1 = [⟨[1, 2, 3], .recEnd⟩] ∧ bitOf
    (fieldBE (opened gsfOne 11).head 3 1) 0 = false ∧ 0 = (fieldBE (opened gsfOne 11).head 16 8)) :=
  by decide +kernel

theorem test_TiersParcelsAndRecordsAreRecovered_2 : (∃ s ∈ [withOpened (opened gsfOne 2)], (s.ce.opened.find? fun o_
    => o_.dataset == 3 && o_.index == 0) = some (opened gsfOne 2) ∧ 15 < 32 ∧ s.engineUsable (32 + 15) = true ∧
    s.below 4 = false ∧ (decompress (fieldBE (opened gsfOne 2).head 44 4) (bitOf (fieldBE (opened gsfOne 2).head 3 1)
    0) (opened gsfOne 2).payload).2.2 = some ⟨2, 0⟩ ∧ (decompress (fieldBE (opened gsfOne 2).head 44 4) (bitOf
    (fieldBE (opened gsfOne 2).head 3 1) 0) (opened gsfOne 2).payload).1 = [] ∧ (fieldBE (opened gsfOne 2).head 16 8)
    ≤ 0) ∧ ((openGroup.df.groups.find? fun g_ => g_.repair == 1) = some repairing) :=
  by decide +kernel

theorem test_ServoFramesGivePositions : (0 < 6 ∧ (([60000000, 0, 0, 60000000] : List Int)).length = 4 ∧ (([90000000,
    90000000, 90000000, 90000000] : List Int)).length = 4 ∧ (readerKnown.reader 0).prevRef = some ((0 : Int)) ∧ (0 <
    (((([60000000, 0, 0, 60000000] : List Int)).getD 0 0 + (([60000000, 0, 0, 60000000] : List Int)).getD 3 0) - ((0 :
    Int))) ∧ (((readerKnown.reader 0).period).all (fun q_ => 10 * ((((([60000000, 0, 0, 60000000] : List Int)).getD 0
    0 + (([60000000, 0, 0, 60000000] : List Int)).getD 3 0) - ((0 : Int))) - q_).natAbs ≤ q_.natAbs) = true) ∧
    (lateral ((([90000000, 90000000, 90000000, 90000000] : List Int)).sum - 2 * ((([60000000, 0, 0, 60000000] : List
    Int)).getD 0 0 + (([60000000, 0, 0, 60000000] : List Int)).getD 3 0)) (((([60000000, 0, 0, 60000000] : List
    Int)).getD 0 0 + (([60000000, 0, 0, 60000000] : List Int)).getD 3 0) - ((0 : Int)))).natAbs ≤ 80000)) ∧ (0 < 6 ∧
    (([0, 0, 0, 0] : List Int)).length = 4 ∧ (([90000000, 90000000, 90000000, 90000000] : List Int)).length = 4 ∧
    (readerKnown.reader 0).prevRef = some ((0 : Int)) ∧ ¬ (0 < (((([0, 0, 0, 0] : List Int)).getD 0 0 + (([0, 0, 0, 0]
    : List Int)).getD 3 0) - ((0 : Int))) ∧ (((readerKnown.reader 0).period).all (fun q_ => 10 * ((((([0, 0, 0, 0] :
    List Int)).getD 0 0 + (([0, 0, 0, 0] : List Int)).getD 3 0) - ((0 : Int))) - q_).natAbs ≤ q_.natAbs) = true) ∧
    (lateral ((([90000000, 90000000, 90000000, 90000000] : List Int)).sum - 2 * ((([0, 0, 0, 0] : List Int)).getD 0 0
    + (([0, 0, 0, 0] : List Int)).getD 3 0)) (((([0, 0, 0, 0] : List Int)).getD 0 0 + (([0, 0, 0, 0] : List Int)).getD
    3 0) - ((0 : Int)))).natAbs ≤ 80000)) ∧ (0 < 6 ∧ ((([60000000, 0, 0, 60000000] : List Int)).length ≠ 4 ∨ (([] :
    List Int)).length ≠ 4)) :=
  by decide +kernel

theorem test_LoopSamplesStayWithinTheirLimits : (∃ s ∈ [loop 5 closed], 2 ≤ 5 ∧ 5 < 6 ∧ (s.engine 5).closed = true ∧ ¬
    (s.sm.state = 3 ∧ s.sm.tripEngine = 5)) ∧ (5 < 6 ∧ ((loop 5 closed).engine 5).closed = true) ∧ (2 ≤ 2 ∧ 2 < 6 ∧
    ((loop 5 closed).engine 2).closed = false) ∧ (∃ s ∈ [loop 5 closed], s.modeDue 5 1 = true ∧ (s.engine 5).closed =
    true) ∧ (mountedAt.ct.mounted = true ∧ 63 < 256 ∧ mountedAt.transportDown = false ∧ (mountedAt.sm.band = some (63
    / 64) ∨ 63 / 64 ∈ (([] : List Nat)).take 4)) ∧ (mountedAt.ct.mounted = true ∧ 255 < 256 ∧ mountedAt.transportDown
    = false ∧ mountedAt.sm.band ≠ some (255 / 64) ∧ 4 ≤ (([1, 1, 1, 1] : List Nat)).length ∧ 255 / 64 ∉ (([1, 1, 1, 1]
    : List Nat)).take 4) :=
  by decide +kernel

theorem test_TripsBringTheTapeToItsSafeState : ((loop 1 { closed with overruns := 3 }).sm.state < 3 ∧ 3 ≤ ((loop 1 {
    closed with overruns := 3 }).engine 1).overruns ∧ fastMissing.sm.state < 3 ∧ 64 ≤ fastMissing.sm.missing ∧ 500 <
    fastMissing.sm.speed ∧ limits.sm.state < 3 ∧ (∀ v ∈ [0, 0, 0], v < 10 * limits.fld .smLimits 0 0 15 0) ∧ (∀ v ∈
    [7, 0, 7], v = 0 ∨ v = 7) ∧ (∀ v ∈ [20001, 30000, 30000], 10 * limits.fld .smLimits 0 0 31 16 < v) ∧ live.sm.state
    < 3 ∧ live.serves (.fn 0) ∧ live.isOwner 0 = true ∧ bitOf (8#32).toNat 3 = true) ∧ (∃ s ∈ [tripped 0 1], 3 ≤
    s.sm.state ∧ 64 ≤ s.sm.missing ∧ 500 < s.sm.speed) ∧ (∃ s ∈ [tripped 1 1], s.sm.state = 3 ∧ s.sm.tripStep = 1 ∧
    s.sm.speed < 50) ∧ (∃ s ∈ [tripped 2 2], s.sm.state = 3 ∧ s.sm.tripStep = 2) ∧ (∃ s ∈ [tripped 2 2], s.sm.state =
    3 ∧ s.sm.reels = 2) :=
  by decide +kernel

theorem test_LoopEnginesOpenAndClose : (∃ s ∈ [loop 5 engine0], s.serves (.fn 0) ∧ s.isOwner 0 = true ∧ s.fld
    .smLoopSel 0 0 2 0 < 6 ∧ bitOf (1#32).toNat 0 = true ∧ (s.engine (s.fld .smLoopSel 0 0 2 0)).closed = false) ∧ (∃
    s ∈ [loop 0 closed], s.serves (.fn 0) ∧ s.isOwner 0 = true ∧ s.fld .smLoopSel 0 0 2 0 < 6 ∧ bitOf (0#32).toNat 0 =
    false ∧ (s.engine (s.fld .smLoopSel 0 0 2 0)).closed = true ∧ s.mayOpen (s.fld .smLoopSel 0 0 2 0) = true) ∧ (∃ s
    ∈ [smWith (loop 3 closed) fun m => { m with brake := false }], s.serves (.fn 0) ∧ s.isOwner 0 = true ∧ s.fld
    .smLoopSel 0 0 2 0 < 6 ∧ bitOf (0#32).toNat 0 = false ∧ (s.engine (s.fld .smLoopSel 0 0 2 0)).closed = true ∧
    s.mayOpen (s.fld .smLoopSel 0 0 2 0) = false) :=
  by decide +kernel

theorem test_LoopEnginesOpenAndClose_2 : (∃ s ∈ [loop 5 engine0], s.serves (.fn 0) ∧ s.isOwner 0 = true ∧ s.fld
    .smLoopSel 0 0 2 0 < 6 ∧ (s.engine (s.fld .smLoopSel 0 0 2 0)).closed = false ∧ (s.fld .smLoopSel 0 0 2 0) ≠ 0 ∧
    (1#32).toNat < 2 ^ 20 ∧ (1#32).toNat ≤ maxRate (s.fld .smLoopSel 0 0 2 0) ∧ (1#32).toNat * (600 + 2 * s.loopCycles
    (s.fld .smLoopSel 0 0 2 0)) ≤ 1000000000) ∧ (∃ s ∈ [loop 5 engine0], s.serves (.fn 0) ∧ s.isOwner 0 = true ∧ s.fld
    .smLoopSel 0 0 2 0 < 6 ∧ (s.engine (s.fld .smLoopSel 0 0 2 0)).closed = false ∧ (s.fld .smLoopSel 0 0 2 0) ≠ 0 ∧
    (0xFFFFF#32).toNat < 2 ^ 20 ∧ (maxRate (s.fld .smLoopSel 0 0 2 0) < (0xFFFFF#32).toNat ∨ 1000000000 <
    (0xFFFFF#32).toNat * (600 + 2 * s.loopCycles (s.fld .smLoopSel 0 0 2 0)))) ∧ (∃ s ∈ [loop 5 engine0], s.serves
    (.fn 0) ∧ s.isOwner 0 = true ∧ s.fld .smLoopSel 0 0 2 0 < 6 ∧ (s.engine (s.fld .smLoopSel 0 0 2 0)).closed = false
    ∧ s.fld .smCoefAddr 0 0 5 0 < 60) :=
  by decide +kernel

theorem test_InjectionsAndCapturesStartAndEnd : (∃ s ∈ [loop 2 closed], s.serves (.fn 0) ∧ s.isOwner 0 = true ∧ bitOf
    (0xAFFFFFFF#32).toNat 31 = true ∧ s.sm.inject = none ∧ (s.engine (bitsOf (0xAFFFFFFF#32).toNat 30 28)).closed =
    true ∧ bitsOf (0xAFFFFFFF#32).toNat 23 0 ≠ 0 ∧ s.sm.state < 3) ∧ (injecting.sm.inject = some ((⟨2, 0, 0, 0, 3, 1⟩
    : Inject)) ∧ ((⟨2, 0, 0, 0, 3, 1⟩ : Inject)).left = 0) ∧ (captured.sm.cap.armed = true ∧ captured.sm.cap.left =
    some 0) :=
  by decide +kernel

theorem test_CartridgesAreMountedAndUnmounted : (∃ s ∈ [loaded (inDrive (holding 0x01 [(24, 64)]))], s.holds 5 0x01
    (front s) ∧ (front s).buffer (([] : List BufPiece)) = some (([⟨0, 64⟩] : List BufPiece)) ∧ s.ct.leaving = false ∧
    s.sessionRuns = false ∧ s.ct.mounted = true ∧ s.ct.removed = false) ∧ (∃ s ∈ [holding 0x01 [(24, 64)]], s.holds 5
    0x01 (front s) ∧ (front s).buffer (([] : List BufPiece)) = some (([⟨0, 64⟩] : List BufPiece)) ∧ s.ct.leaving =
    false ∧ s.sessionRuns = false ∧ (s.ct.mounted = false ∨ s.ct.removed = true) ∧ (s.senses 0 = false ∨ s.senses 1 =
    false)) :=
  by decide +kernel

theorem test_CartridgesAreMountedAndUnmounted_2 : ∃ s ∈ [inDrive (holding 0x01 [(24, 64)])], s.holds 5 0x01 (front s)
    ∧ (front s).buffer (([] : List BufPiece)) = some (([⟨0, 64⟩] : List BufPiece)) ∧ s.ct.leaving = false ∧
    s.sessionRuns = false ∧ (s.ct.mounted = false ∨ s.ct.removed = true) ∧ s.senses 0 = true ∧ s.senses 1 = true ∧
    s.senses 4 = true ∧ mediaBlank.cm = some cmBlank ∧ mediaBlank.tension = true ∧ ((s.progress? mediaBlank.cm).bind
    fun b_ => if fieldBE b_ 4 1 = 0 then none else some b_) = none ∧ foreign mediaBlank = false ∧ labelRead mediaBlank
    = none ∧ formatSeen mediaBlank = false :=
  by decide +kernel

theorem test_CartridgesAreMountedAndUnmounted_3 : (∃ s ∈ [inDrive (holding 0x01 [(24, 64)])], s.holds 5 0x01 (front s)
    ∧ (front s).buffer (([] : List BufPiece)) = some (([⟨0, 64⟩] : List BufPiece)) ∧ s.ct.leaving = false ∧
    s.sessionRuns = false ∧ (s.ct.mounted = false ∨ s.ct.removed = true) ∧ s.senses 0 = true ∧ s.senses 1 = true ∧
    s.senses 4 = true ∧ mediaFormatted.cm = some cmFormatted ∧ mediaFormatted.tension = true ∧ ((s.progress?
    mediaFormatted.cm).bind fun b_ => if fieldBE b_ 4 1 = 0 then none else some b_) = none ∧ foreign mediaFormatted =
    false ∧ labelRead mediaFormatted = some (label0, datum0) ∧ s.knowsLabel label0 = true ∧ summaryOfCm cmFormatted =
    some summary0 ∧ fieldBE summary0 8 1 = 0 ∧ rootOf (part summary0 16 64) = some root0 ∧ rootBook root0 = none ∧ (∀
    q_, newer 4 (datum0.rootA.bind rootOf) (datum0.rootB.bind rootOf) = some q_ → ¬ fieldBE root0 8 6 < fieldBE q_ 8
    6)) ∧ (∃ s ∈ [unmounting 2], s.holds 5 0x02 (front s) ∧ s.sessionRuns = false ∧ s.ct.mounted = true ∧
    s.streamsOpen = 0 ∧ s.ct.written = false) :=
  by decide +kernel

theorem test_CartridgesAreMountedAndUnmounted_4 : (unmountWritten.holds 5 0x02 (front unmountWritten) ∧
    unmountWritten.sessionRuns = false ∧ unmountWritten.ct.mounted = true ∧ unmountWritten.streamsOpen = 0 ∧
    unmountWritten.ct.written = true ∧ unmountWritten.writeBlock = none ∧ unmountWritten.bookOwed = false ∧
    unmountWritten.pe.bookDue = false ∧ unmountWritten.df.datasets = [] ∧ unmountWritten.df.restartDue = [] ∧
    unmountWritten.df.groups = [] ∧ unmountWritten.df.voidDue = 0 ∧ (∀ x_ ∈ unmountWritten.pe.streams.vals, x_.seqEnd
    ≤ x_.durable)) ∧ (unmountOpen.holds 5 0x02 (front unmountOpen) ∧ unmountOpen.sessionRuns = false ∧
    unmountOpen.ct.mounted = true ∧ 0 < unmountOpen.streamsOpen) ∧ (∃ s ∈ [loaded (inDrive (holding 0x01 [(24,
    64)]))], s.ct.mounted = true ∧ s.ct.removed = false ∧ s.senses 0 = true ∧ s.senses 1 = true ∧ s.senses 4 = true ∧
    (bitOf (Nat.xor (0xEF % 256) (s.fld .ctSensePol 0 0 7 0)) 0 = false ∨ bitOf (Nat.xor (0xEF % 256) (s.fld
    .ctSensePol 0 0 7 0)) 1 = false ∨ bitOf (Nat.xor (0xEF % 256) (s.fld .ctSensePol 0 0 7 0)) 4 = false)) :=
  by decide +kernel

theorem test_MediaSessionsRunAndEnd : (∃ s ∈ [inDrive (holding 0x40 [(24, 64)])], s.holds 5 0x40 (front s) ∧ (front
    s).buffer (([] : List BufPiece)) = some (([⟨0, 64⟩] : List BufPiece)) ∧ (s.ct.session.any fun x_ => x_.cmd == some
    5) = false ∧ s.sessionBlock = none ∧ formatCheck mediaBlank = none) ∧ (∃ s ∈ [holding 0x40 [(24, 64)]], s.holds 5
    0x40 (front s) ∧ (front s).buffer (([] : List BufPiece)) = some (([⟨0, 64⟩] : List BufPiece)) ∧ (s.ct.session.any
    fun x_ => x_.cmd == some 5) = false ∧ (s.sessionBlock = some (stNoMedia, 1) ∨ (s.sessionBlock = none ∧ formatCheck
    mediaBlank = some (stNoMedia, 1)))) ∧ (∃ s ∈ [inDrive (holding 0x41 [])], s.holds 5 0x41 (front s) ∧ bitOf
    (entFlags (front s).entry) 1 = false ∧ (s.ct.session.any fun x_ => x_.cmd == some 5) = false ∧ s.sessionBlock =
    none ∧ formatCheck mediaBlank = none) ∧ (∃ s ∈ [holding 0x41 []], s.holds 5 0x41 (front s) ∧ bitOf (entFlags
    (front s).entry) 1 = false ∧ (s.ct.session.any fun x_ => x_.cmd == some 5) = false ∧ s.sessionBlock = some
    (stNoMedia, 1)) :=
  by decide +kernel

theorem test_MediaSessionsRunAndEnd_2 : (∃ s ∈ [loaded (inDrive (holding 0x41 [(1, 2), (24, 1)]))], s.holds 5 0x41
    (front s) ∧ bitOf (entFlags (front s).entry) 1 = true ∧ (front s).buffer (([] : List BufPiece)) = some (([⟨0, 1⟩]
    : List BufPiece)) ∧ s.isOwner (front s).fn = true ∧ s.mediaCheck = none ∧ s.streamsOpen = 0 ∧ s.ct.readOnly =
    false ∧ s.writeBlock = none ∧ (s.ct.session.any fun x_ => x_.cmd == some 5) = false) ∧ (∃ s ∈ [sessionRuns 1],
    s.ct.session = some session0 ∧ session0.state = 1 ∧ session0.cmd = some 5 ∧ s.cmd? 5 = some (front s) ∧
    s.hi.ownerNext = none ∧ isWriteClass (entOpcode (front s).entry) = false ∧ (session0.kind = 1 ∨ session0.kind = 2)
    ∧ true = true) ∧ (∃ s ∈ [sessionRuns 1], s.ct.session = some session0 ∧ session0.state = 1 ∧ session0.cmd = some 5
    ∧ s.cmd? 5 = some (front s) ∧ s.hi.ownerNext = none ∧ isWriteClass (entOpcode (front s).entry) = false ∧ false =
    false) :=
  by decide +kernel

theorem test_StreamsOpenCloseAndSync : (∃ s ∈ [opAt 0x03 0 [] { openStream with opening := true }], s.holds 5 0x03
    (front s) ∧ (front s).stream = some k1 ∧ s.stream? k1 = some (strmOf s)) ∧ (∃ s ∈ [opAt 0x16 3 [] (recordsTo 4
    3)], s.holds 5 0x16 (front s) ∧ (front s).stream = some k1 ∧ s.stream? k1 = some (strmOf s) ∧ ((strmOf s).write =
    false ∨ (strmOf s).settled (front s).first = true)) ∧ (∃ s ∈ [opAt 0x16 3 [] (recordsTo 4 2)], s.holds 5 0x16
    (front s) ∧ (front s).stream = some k1 ∧ s.stream? k1 = some (strmOf s) ∧ (strmOf s).write = true ∧ (strmOf
    s).settled (front s).first = false) ∧ (bookWritten.holds 5 0x04 (front bookWritten) ∧ (front bookWritten).stream =
    some k1 ∧ bookWritten.stream? k1 = some (strmOf bookWritten) ∧ ((strmOf bookWritten).write = false ∨ (min (front
    bookWritten).first (strmOf bookWritten).seqEnd ≤ (strmOf bookWritten).durable ∧ (front bookWritten).count ≠ 0 ∧
    bookWritten.bookVerified ((front bookWritten).count - 1) = true ∧ (strmOf bookWritten).truncPending = false))) :=
  by decide +kernel

theorem test_StreamsOpenCloseAndSync_2 : ∃ s ∈ [opAt 0x04 3 [] (closing (recordsTo 3 3))], s.holds 5 0x04 (front s) ∧
    (front s).stream = some k1 ∧ s.stream? k1 = some (strmOf s) ∧ (strmOf s).write = true ∧ (strmOf s).pendingDetail =
    none ∧ min (front s).first (strmOf s).seqEnd ≤ (strmOf s).durable ∧ (front s).count = 0 :=
  by decide +kernel

theorem test_RecordsAreReadAndPositionsMove : (∃ s ∈ [opAt 0x11 4 [(24, 100)] readable], s.holds 5 0x11 (front s) ∧
    (front s).stream = some k1 ∧ s.stream? k1 = some (strmOf s) ∧ bitOf (entFlags (front s).entry) 0 = false ∧
    entCountM1 (front s).entry = 0 ∧ (strmOf s).readPlace (front s) = ⟨4, 0⟩ ∧ (strmOf s).seqEnd = 4) ∧ (∃ s ∈ [opAt
    0x11 5 [(24, 100)] readable], s.holds 5 0x11 (front s) ∧ (front s).stream = some k1 ∧ s.stream? k1 = some (strmOf
    s) ∧ bitOf (entFlags (front s).entry) 0 = false ∧ entCountM1 (front s).entry = 0 ∧ (strmOf s).readPlace (front s)
    = ⟨5, 0⟩ ∧ (strmOf s).seqEnd < 5) :=
  by decide +kernel

theorem test_RecordsAreReadAndPositionsMove_2 : (∃ s ∈ [opAt 0x11 1 [(24, 3)] readable], s.holds 5 0x11 (front s) ∧
    (front s).stream = some k1 ∧ s.stream? k1 = some (strmOf s) ∧ bitOf (entFlags (front s).entry) 0 = false ∧
    entCountM1 (front s).entry = 0 ∧ (strmOf s).readPlace (front s) = ⟨1, 0⟩ ∧ 1 < (strmOf s).seqEnd ∧ s.look k1
    (strmOf s) 1 = some ((⟨k1, 1, none, [7, 8, 9], none, none⟩ : Decoded)) ∧ ((⟨k1, 1, none, [7, 8, 9], none, none⟩ :
    Decoded)).fail = none ∧ ((⟨k1, 1, none, [7, 8, 9], none, none⟩ : Decoded)).peg = none ∧ ((⟨k1, 1, none, [7, 8, 9],
    none, none⟩ : Decoded)).data ≠ [] ∧ ((⟨k1, 1, none, [7, 8, 9], none, none⟩ : Decoded)).data.length ≤ entLen (front
    s).entry) ∧ (∃ s ∈ [opAt 0x11 2 [(24, 100)] readable], s.holds 5 0x11 (front s) ∧ (front s).stream = some k1 ∧
    s.stream? k1 = some (strmOf s) ∧ bitOf (entFlags (front s).entry) 0 = false ∧ entCountM1 (front s).entry = 0 ∧
    (strmOf s).readPlace (front s) = ⟨2, 0⟩ ∧ 2 < (strmOf s).seqEnd ∧ s.look k1 (strmOf s) 2 = some ((⟨k1, 2, some 3,
    [], none, none⟩ : Decoded)) ∧ ((⟨k1, 2, some 3, [], none, none⟩ : Decoded)).fail = none ∧ ((⟨k1, 2, some 3, [],
    none, none⟩ : Decoded)).peg = some 3) :=
  by decide +kernel

theorem test_RecordsAreReadAndPositionsMove_3 : (failedRecord.holds 5 0x11 (front failedRecord) ∧ (front
    failedRecord).stream = some k1 ∧ failedRecord.stream? k1 = some (strmOf failedRecord) ∧ bitOf (entFlags (front
    failedRecord).entry) 0 = false ∧ entCountM1 (front failedRecord).entry = 0 ∧ (strmOf failedRecord).readPlace
    (front failedRecord) = ⟨0, 0⟩ ∧ 0 < (strmOf failedRecord).seqEnd ∧ failedRecord.look k1 (strmOf failedRecord) 0 =
    some ((⟨k1, 0, none, [], none, some (0x22, 0x13)⟩ : Decoded)) ∧ ((⟨k1, 0, none, [], none, some (0x22, 0x13)⟩ :
    Decoded)).fail = some ((0x22, 0x13))) ∧ (onTapeOnly.holds 5 0x11 (front onTapeOnly) ∧ (front onTapeOnly).stream =
    some k1 ∧ onTapeOnly.stream? k1 = some (strmOf onTapeOnly) ∧ bitOf (entFlags (front onTapeOnly).entry) 0 = false ∧
    entCountM1 (front onTapeOnly).entry = 0 ∧ (strmOf onTapeOnly).readPlace (front onTapeOnly) = ⟨0, 0⟩ ∧ 0 < (strmOf
    onTapeOnly).seqEnd ∧ onTapeOnly.look k1 (strmOf onTapeOnly) 0 = none ∧ onTapeOnly.tapeTarget k1 0 = .inr 0 ∧ (∀ q_
    ∈ onTapeOnly.pe.reads, q_.cmd ≠ (front onTapeOnly).id)) ∧ (∃ s ∈ [opAt 0x12 0 [] readable], s.holds 5 0x12 (front
    s) ∧ (front s).stream = some k1 ∧ s.stream? k1 = some (strmOf s) ∧ (strmOf s).partialRead = false) :=
  by decide +kernel

theorem test_RecordsAreReadAndPositionsMove_4 : (∃ s ∈ [opAt 0x12 0 [] { readable with partialRead := true, pos := ⟨1,
    2⟩ }], s.holds 5 0x12 (front s) ∧ (front s).stream = some k1 ∧ s.stream? k1 = some (strmOf s) ∧ (strmOf
    s).partialRead = true ∧ s.look k1 (strmOf s) (strmOf s).pos.record = some ((⟨k1, 1, none, [7, 8, 9], none, none⟩ :
    Decoded)) ∧ ((⟨k1, 1, none, [7, 8, 9], none, none⟩ : Decoded)).fail = none) ∧ (∃ s ∈ [opAt 0x14 6 [] readable],
    s.holds 5 0x14 (front s) ∧ (front s).stream = some k1 ∧ s.stream? k1 = some (strmOf s) ∧ (strmOf s).endNum <
    (front s).first) ∧ (∃ s ∈ [opAt 0x14 5 [] readable], s.holds 5 0x14 (front s) ∧ (front s).stream = some k1 ∧
    s.stream? k1 = some (strmOf s) ∧ (front s).first ≤ (strmOf s).endNum ∧ ((s.look k1 (strmOf s) (front
    s).first).isSome = true ∨ (front s).first = (strmOf s).endNum)) ∧ (∃ s ∈ [opAt 0x15 0 [(8, 0)] readable], s.holds
    5 0x15 (front s) ∧ (front s).stream = some k1 ∧ s.stream? k1 = some (strmOf s) ∧ entRecord (front s).entry = 0) ∧
    (∃ s ∈ [opAt 0x15 0 [(8, 4)] readable], s.holds 5 0x15 (front s) ∧ (front s).stream = some k1 ∧ s.stream? k1 =
    some (strmOf s) ∧ entRecord (front s).entry ≠ 0 ∧ s.spaceWalk (front s) k1 (strmOf s) = .stop 5 4 0) :=
  by decide +kernel

theorem test_RecordsAreReadAndPositionsMove_5 : (∃ s ∈ [opAt 0x15 0 [(8, 4)] readable], s.holds 5 0x15 (front s) ∧
    (front s).stream = some k1 ∧ s.stream? k1 = some (strmOf s) ∧ bitOf (entFlags (front s).entry) 1 = false ∧ 0 <
    signed 64 (entRecord (front s).entry) ∧ (strmOf s).pos.record + (signed 64 (entRecord (front s).entry)).toNat ≤
    (strmOf s).endNum) ∧ (∃ s ∈ [opAt 0x15 0 [(8, 5)] readable], s.holds 5 0x15 (front s) ∧ (front s).stream = some k1
    ∧ s.stream? k1 = some (strmOf s) ∧ bitOf (entFlags (front s).entry) 1 = false ∧ 0 < signed 64 (entRecord (front
    s).entry) ∧ (strmOf s).endNum < (strmOf s).pos.record + (signed 64 (entRecord (front s).entry)).toNat) ∧ (∃ s ∈
    [opAt 0x15 0 [(8, 2 ^ 64 - 1)] readable], s.holds 5 0x15 (front s) ∧ (front s).stream = some k1 ∧ s.stream? k1 =
    some (strmOf s) ∧ bitOf (entFlags (front s).entry) 1 = false ∧ signed 64 (entRecord (front s).entry) < 0 ∧
    (-signed 64 (entRecord (front s).entry)).toNat ≤ (strmOf s).pos.record) ∧ (∃ s ∈ [opAt 0x15 0 [(8, 2 ^ 64 - 2)]
    readable], s.holds 5 0x15 (front s) ∧ (front s).stream = some k1 ∧ s.stream? k1 = some (strmOf s) ∧ bitOf
    (entFlags (front s).entry) 1 = false ∧ signed 64 (entRecord (front s).entry) < 0 ∧ (strmOf s).pos.record <
    (-signed 64 (entRecord (front s).entry)).toNat) :=
  by decide +kernel

theorem test_QueriesAnswer : (∃ s ∈ [opAt 0x20 0 [(24, 64)] readable], bitOf (entFlags (front s).entry) 0 = false ∧
    s.holds 5 0x20 (front s) ∧ (front s).stream = some k1 ∧ s.stream? k1 = some (strmOf s) ∧ (strmOf s).pendingDetail
    = none ∧ 64 ≤ entLen (front s).entry) ∧ (∃ s ∈ [opAt 0x22 0 [(24, 40)] readable], bitOf (entFlags (front s).entry)
    0 = false ∧ s.holds 5 0x22 (front s) ∧ (front s).stream = some k1 ∧ s.stream? k1 = some (strmOf s)) ∧ (bitOf
    (entFlags (front (holding 0x21 [(24, 200), (30, 1)])).entry) 0 = false ∧ (holding 0x21 [(24, 200), (30, 1)]).holds
    5 0x21 (front (holding 0x21 [(24, 200), (30, 1)]))) ∧ (bitOf (entFlags (front (holding 0x32 [(24, 32), (4,
    3)])).entry) 0 = false ∧ (holding 0x32 [(24, 32), (4, 3)]).holds 5 0x32 (front (holding 0x32 [(24, 32), (4, 3)]))
    ∧ bitOf (entFlags (front (holding 0x32 [(24, 32), (4, 3)])).entry) 1 = false ∧ 32 ≤ entLen (front (holding 0x32
    [(24, 32), (4, 3)])).entry) ∧ (bitOf (entFlags (front (holding 0x32 [(1, 2)])).entry) 0 = false ∧ (holding 0x32
    [(1, 2)]).holds 5 0x32 (front (holding 0x32 [(1, 2)])) ∧ bitOf (entFlags (front (holding 0x32 [(1, 2)])).entry) 1
    = true) :=
  by decide +kernel

theorem test_KeysAreInstalledAndErased : (∃ s ∈ [slot3 { keySlot0 with retiring := true } (keyed 0x30 [(24, 56), (4,
    3)])], s.holds 5 0x30 (front s) ∧ (front s).buffer (([] : List BufPiece)) = some (([⟨0, 56⟩] : List BufPiece)) ∧
    bitOf (entFlags (front s).entry) 1 = false ∧ (s.slot (s.slotOf (front s))).retiring = true) ∧ (∃ s ∈ [holding 0x30
    [(24, 56), (4, 3)]], s.holds 5 0x30 (front s) ∧ (front s).buffer (([] : List BufPiece)) = some (([⟨0, 56⟩] : List
    BufPiece)) ∧ bitOf (entFlags (front s).entry) 1 = false ∧ (s.slot (s.slotOf (front s))).retiring = false ∧ (s.kek
    (front s).fn).key = none) ∧ (∃ s ∈ [keyed 0x30 [(1, 4), (24, 56), (4, 3)]], s.holds 5 0x30 (front s) ∧ (front
    s).buffer (([] : List BufPiece)) = some (([⟨0, 56⟩] : List BufPiece)) ∧ bitOf (entFlags (front s).entry) 1 = false
    ∧ (s.slot (s.slotOf (front s))).retiring = false ∧ (s.kek (front s).fn).key = some (zeros 32) ∧ s.blobBad (front
    s) (s.slotOf (front s)) (fit 56 (([] : Bytes))) = false ∧ ((bitOf (entFlags (front s).entry) 2) && s.slotNamed
    (front s).fn (entHandle (front s).entry)) = false) ∧ ((holding 0x30 [(1, 2), (24, 144)]).holds 5 0x30 (front
    (holding 0x30 [(1, 2), (24, 144)])) ∧ (front (holding 0x30 [(1, 2), (24, 144)])).buffer (([] : List BufPiece)) =
    some (([⟨0, 144⟩] : List BufPiece)) ∧ bitOf (entFlags (front (holding 0x30 [(1, 2), (24, 144)])).entry) 1 = true ∧
    (((fit 144 (List.replicate 144 1)).drop 97).take 7).any (· != 0) = true) ∧ ((holding 0x30 [(1, 2), (24,
    144)]).holds 5 0x30 (front (holding 0x30 [(1, 2), (24, 144)])) ∧ (front (holding 0x30 [(1, 2), (24, 144)])).buffer
    (([] : List BufPiece)) = some (([⟨0, 144⟩] : List BufPiece)) ∧ bitOf (entFlags (front (holding 0x30 [(1, 2), (24,
    144)])).entry) 1 = true ∧ (((fit 144 (([] : Bytes))).drop 97).take 7).any (· != 0) = false) :=
  by decide +kernel

theorem test_KeysAreInstalledAndErased_2 : ((keyed 0x31 [(1, 2)]).holds 5 0x31 (front (keyed 0x31 [(1, 2)])) ∧ bitOf
    (entFlags (front (keyed 0x31 [(1, 2)])).entry) 1 = true) ∧ ((keyed 0x31 [(4, 3)]).holds 5 0x31 (front (keyed 0x31
    [(4, 3)])) ∧ bitOf (entFlags (front (keyed 0x31 [(4, 3)])).entry) 1 = false) ∧ (4095 < 4096) :=
  by decide +kernel

theorem test_CiphersSealAndOpen : (∃ s ∈ [holding 0x38 [(24, 5)]], s.holds 5 0x38 (front s) ∧ (front s).buffer (([] :
    List BufPiece)) = some (([⟨0, 5⟩] : List BufPiece)) ∧ s.cipherWaits = false ∧ ((entLen (front s).entry) = 0 ∨
    (entLen (front s).entry) % 16 ≠ 0)) ∧ (∃ s ∈ [holding 0x38 [(24, 16)]], s.holds 5 0x38 (front s) ∧ (front
    s).buffer (([] : List BufPiece)) = some (([⟨0, 16⟩] : List BufPiece)) ∧ s.cipherWaits = false ∧ (entLen (front
    s).entry) ≠ 0 ∧ (entLen (front s).entry) % 16 = 0 ∧ (s.slot (s.slotOf (front s))).shown = 0) ∧ (∃ s ∈ [slot3
    aeadSlot (holding 0x38 [(4, 3), (24, 16)])], s.holds 5 0x38 (front s) ∧ (front s).buffer (([] : List BufPiece)) =
    some (([⟨0, 16⟩] : List BufPiece)) ∧ s.cipherWaits = false ∧ (entLen (front s).entry) ≠ 0 ∧ (entLen (front
    s).entry) % 16 = 0 ∧ (s.slot (s.slotOf (front s))).shown ≠ 0 ∧ (s.slot (s.slotOf (front s))).raw = false) ∧ (∃ s ∈
    [slot3 { rawSlot with state := 3 } (holding 0x38 [(4, 3), (24, 16)])], s.holds 5 0x38 (front s) ∧ (front s).buffer
    (([] : List BufPiece)) = some (([⟨0, 16⟩] : List BufPiece)) ∧ s.cipherWaits = false ∧ (entLen (front s).entry) ≠ 0
    ∧ (entLen (front s).entry) % 16 = 0 ∧ (s.slot (s.slotOf (front s))).shown = 3 ∧ (s.slot (s.slotOf (front s))).raw
    = true) :=
  by decide +kernel

theorem test_CiphersSealAndOpen_2 : (∃ s ∈ [slot3 rawSlot (holding 0x38 [(4, 3), (24, 16)])], s.holds 5 0x38 (front s)
    ∧ (front s).buffer (([] : List BufPiece)) = some (([⟨0, 16⟩] : List BufPiece)) ∧ s.cipherWaits = false ∧ (entLen
    (front s).entry) ≠ 0 ∧ (entLen (front s).entry) % 16 = 0 ∧ (s.slot (s.slotOf (front s))).shown ≠ 0 ∧ (s.slot
    (s.slotOf (front s))).raw = true ∧ (s.slot (s.slotOf (front s))).state ≠ 3 ∧ s.cipherFault = none) ∧ (∃ s ∈
    [holding 0x39 [(24, 67108864)]], s.holds 5 0x39 (front s) ∧ (front s).buffer (([] : List BufPiece)) = some (([⟨0,
    67108864⟩] : List BufPiece)) ∧ s.cipherWaits = false ∧ entLen (front s).entry ≤ 67108864 ∧ entryField (front
    s).entry 48 4 ≤ 65536 ∧ (s.slot (s.slotOf (front s))).shown = 0) ∧ (∃ s ∈ [slot3 rawSlot (holding 0x39 [(4, 3),
    (24, 20)])], s.holds 5 0x39 (front s) ∧ (front s).buffer (([] : List BufPiece)) = some (([⟨0, 20⟩] : List
    BufPiece)) ∧ s.cipherWaits = false ∧ entLen (front s).entry ≤ 67108864 ∧ entryField (front s).entry 48 4 ≤ 65536 ∧
    (s.slot (s.slotOf (front s))).shown ≠ 0 ∧ (s.slot (s.slotOf (front s))).raw = true) :=
  by decide +kernel

theorem test_CiphersSealAndOpen_3 : (∃ s ∈ [slot3 { aeadSlot with state := 3 } (holding 0x39 [(4, 3), (24, 20)])],
    s.holds 5 0x39 (front s) ∧ (front s).buffer (([] : List BufPiece)) = some (([⟨0, 20⟩] : List BufPiece)) ∧
    s.cipherWaits = false ∧ entLen (front s).entry ≤ 67108864 ∧ entryField (front s).entry 48 4 ≤ 65536 ∧ (s.slot
    (s.slotOf (front s))).shown ≠ 0 ∧ (s.slot (s.slotOf (front s))).raw = false ∧ s.cipherFault = none ∧ bitOf
    (entFlags (front s).entry) 1 = false ∧ (s.slot (s.slotOf (front s))).state = 3) ∧ (∃ s ∈ [slot3 aeadSlot (holding
    0x39 [(4, 3), (24, 20)])], s.holds 5 0x39 (front s) ∧ (front s).buffer (([] : List BufPiece)) = some (([⟨0, 20⟩] :
    List BufPiece)) ∧ s.cipherWaits = false ∧ entLen (front s).entry ≤ 67108864 ∧ entryField (front s).entry 48 4 ≤
    65536 ∧ (s.slot (s.slotOf (front s))).shown ≠ 0 ∧ (s.slot (s.slotOf (front s))).raw = false ∧ s.cipherFault = none
    ∧ bitOf (entFlags (front s).entry) 1 = false ∧ (s.slot (s.slotOf (front s))).state ≠ 3) :=
  by decide +kernel

theorem test_CiphersSealAndOpen_4 : ∃ s ∈ [slot3 aeadSlot (holding 0x39 [(1, 2), (4, 3), (24, 20)])], s.holds 5 0x39
    (front s) ∧ (front s).buffer (([] : List BufPiece)) = some (([⟨0, 20⟩] : List BufPiece)) ∧ s.cipherWaits = false ∧
    entLen (front s).entry ≤ 67108864 ∧ entryField (front s).entry 48 4 ≤ 65536 ∧ (s.slot (s.slotOf (front s))).shown
    ≠ 0 ∧ (s.slot (s.slotOf (front s))).raw = false ∧ s.cipherFault = none ∧ bitOf (entFlags (front s).entry) 1 = true
    :=
  by decide +kernel

theorem test_UnitsAreTestedRetiredAndReturned : (∃ s ∈ [holding 0x50 [(4, unitNum 2 7), (30, 1)]], s.holds 5 0x50
    (front s) ∧ s.testBlocked (entUnitType (front s).entry) = false) ∧ (∃ s ∈ [loaded (holding 0x50 [(4, unitNum 1
    0)])], (s.holds 5 0x50 (front s) ∨ (s.holds 5 0x52 (front s) ∧ entAux (front s).entry = 2)) ∧ s.testBlocked
    (entUnitType (front s).entry) = true) ∧ (∃ s ∈ [holding 0x52 [(4, unitNum 2 95), (30, 1)]], s.holds 5 0x52 (front
    s) ∧ entAux (front s).entry = 1 ∧ (entUnitType (front s).entry) ∈ [1, 2, 3, 4, 5, 7] ∧ (entUnitNum (front
    s).entry) < s.present (entUnitType (front s).entry) ∧ s.isRetired (entUnitType (front s).entry) (entUnitNum (front
    s).entry) = false) ∧ (∃ s ∈ [holding 0x52 [(4, unitNum 6 7), (30, 1)]], s.holds 5 0x52 (front s) ∧ entAux (front
    s).entry = 1 ∧ (entUnitType (front s).entry) = 6 ∧ (s.pair ((entUnitNum (front s).entry) / 2)).pendingRetire =
    false ∧ (s.pair ((entUnitNum (front s).entry) / 2)).retired = false) ∧ (∃ s ∈ [holding 0x52 [(4, unitNum 2 7),
    (30, 2)]], s.holds 5 0x52 (front s) ∧ entAux (front s).entry = 2 ∧ s.testBlocked (entUnitType (front s).entry) =
    false ∧ (testRead []).failed.filter (testNamed (entUnitType (front s).entry) (some (entUnitNum (front s).entry)))
    = []) ∧ (∃ s ∈ [burning 3 512], s.holds 5 0x52 (front s) ∧ entAux (front s).entry = 3 ∧ (s.ms.soft.get 0
    (entHandle (front s).entry)) ≤ s.ms.fuseLeft) :=
  by decide +kernel

theorem test_UnitsAreTestedRetiredAndReturned_2 : (∃ s ∈ [burning 3 2], s.holds 5 0x52 (front s) ∧ entAux (front
    s).entry = 3 ∧ s.ms.fuseLeft < (s.ms.soft.get 0 (entHandle (front s).entry))) ∧ (∃ s ∈ [live.setReg .msBistCfg 0 0
    2], s.ms.phase = 2 ∧ s.ms.quiescent = false ∧ s.qe.leaving = false ∧ s.fld .msBistCfg 0 0 1 1 = 1 ∧ s.ms.slice =
    none ∧ s.ms.power < 2 ∧ s.sliceNext = some (((2, 0) : Nat × Nat)) ∧ s.unitIdle (((2, 0) : Nat × Nat)) = true) ∧
    (slicing.ms.slice = some (((2, 7) : Nat × Nat)) ∧ (((2, 7) : Nat × Nat)).1 ∈ [2, 3, 4, 5] ∧ (((2, 7) : Nat ×
    Nat)).2 < slicing.present (((2, 7) : Nat × Nat)).1) :=
  by decide +kernel

theorem test_ThePartLeavesService : (∃ s ∈ [holding 0x51 []], s.holds 5 0x51 (front s) ∧ s.sessionRuns = false ∧
    (s.streamsOpen = 0 ∨ bitOf (entFlags (front s).entry) 1 = true) ∧ (s.ct.mounted = false ∨ s.ct.written = false)) ∧
    (unmountOpen51.holds 5 0x51 (front unmountOpen51) ∧ unmountOpen51.sessionRuns = false ∧ 0 <
    unmountOpen51.streamsOpen ∧ bitOf (entFlags (front unmountOpen51).entry) 1 = false) ∧ (∃ s ∈ [holding 0x51 []],
    s.ms.phase = 2 ∧ s.ms.quiescent = false ∧ s.ms.wakeBuf = []) ∧ (shutDue.ms.shutDue ≠ 0 ∧ shutDue.ms.phase = 2 ∧
    shutDue.ms.quiescent = false ∧ (shutDue.sm.state = 0 ∨ shutDue.sm.state = 4)) ∧ (∃ s ∈ [holding 0x51 []], 24 < 25
    ∧ s.ms.phase = 2 ∧ s.ms.quiescent = false ∧ ((1840 : Int)) ≤ 1840) ∧ (∃ s ∈ [holding 0x51 []], 24 < 25 ∧
    s.ms.phase = 2 ∧ s.ms.quiescent = false ∧ 1840 < ((1841 : Int)) ∧ s.ms.wakeBuf = []) :=
  by decide +kernel

theorem test_ThePartLeavesService_2 : (∃ s ∈ [holding 0x51 []], s.serves ((.fn 0 : Port)) ∧ s.sees ((.fn 0 : Port))
    .ms = true ∧ (0x5C#32).toNat % 256 = 0x5C ∧ s.ct.mounted = false ∧ (s.sm.state = 0 ∨ s.sm.state = 4)) ∧ (∃ s ∈
    [loaded live], s.serves ((.fn 0 : Port)) ∧ s.sees ((.fn 0 : Port)) .ms = true ∧ (0x5C#32).toNat % 256 = 0x5C ∧
    (s.ct.mounted = true ∨ (s.sm.state ≠ 0 ∧ s.sm.state ≠ 4))) ∧ (∃ s ∈ [holding 0x51 []], s.serves ((.fn 0 : Port)) ∧
    s.sees ((.fn 0 : Port)) .ms = true ∧ (0#32).toNat % 256 ≠ 0x5C ∧ s.ct.mounted = false ∧ s.sm.state = 0) :=
  by decide +kernel

theorem test_ImagesAreUpdated : (∃ s ∈ [holding 0x60 []], s.holds 5 0x60 (front s) ∧ s.updLocked = false ∧ s.ms.upd =
    none ∧ s.ms.pointer.trial = false) ∧ (∃ s ∈ [(holding 0x60 []).setReg .msUpdLock 0 0 1], s.holds 5 0x60 (front s)
    ∧ s.updLocked = true) ∧ (∃ s ∈ [updating 0x60 [] none], s.holds 5 0x60 (front s) ∧ s.updLocked = false ∧
    (s.ms.upd.isSome = true ∨ s.ms.pointer.trial = true)) ∧ (∃ s ∈ [holding 0x61 [(24, 4096)]], s.holds 5 0x61 (front
    s) ∧ (front s).buffer [] = some [⟨0, 4096⟩] ∧ s.updOpen = false) ∧ (∃ s ∈ [updating 0x61 [(24, 100)] none],
    s.holds 5 0x61 (front s) ∧ (front s).buffer [] = some [⟨0, 100⟩] ∧ s.updOpen = true ∧ ((entRecord (front s).entry)
    % 4096 ≠ 0 ∨ (entLen (front s).entry) % 4096 ≠ 0 ∨ (entLen (front s).entry) < 4096 ∨ 1048576 < (entLen (front
    s).entry) ∨ 8388608 < (entRecord (front s).entry) + (entLen (front s).entry))) ∧ (∃ s ∈ [updating 0x61 [(24,
    4096), (8, 8384512)] none], s.holds 5 0x61 (front s) ∧ (front s).buffer [] = some [⟨0, 4096⟩] ∧ s.updOpen = true ∧
    (entRecord (front s).entry) % 4096 = 0 ∧ (entLen (front s).entry) % 4096 = 0 ∧ 4096 ≤ (entLen (front s).entry) ∧
    (entLen (front s).entry) ≤ 1048576 ∧ (entRecord (front s).entry) + (entLen (front s).entry) ≤ 8388608) :=
  by decide +kernel

theorem test_ImagesAreUpdated_2 : (∃ s ∈ [updating 0x62 [] none], s.holds 5 0x62 (front s) ∧ s.updOpen = true) ∧ (∃ s
    ∈ [updating 0x63 [] (some image1)], s.holds 5 0x63 (front s) ∧ s.updOpen = true ∧ s.updLocked = false ∧
    s.ms.upd.bind (·.verified) = some image1 ∧ s.sm.state ≠ 2 ∧ s.sm.state ≠ 3) ∧ (∃ s ∈ [smWith (updating 0x63 []
    (some image1)) fun m => { m with state := 2 }], s.holds 5 0x63 (front s) ∧ s.updOpen = true ∧ s.updLocked = false
    ∧ s.ms.upd.bind (·.verified) = some image1 ∧ (s.sm.state = 2 ∨ s.sm.state = 3)) ∧ (∃ s ∈ [onTrial 0x64], s.holds 5
    0x64 (front s) ∧ s.ms.pointer.trial = true) ∧ (∃ s ∈ [holding 0x64 []], s.holds 5 0x64 (front s) ∧
    s.ms.pointer.trial = false) ∧ (∃ s ∈ [onTrial 0x65], s.holds 5 0x65 (front s) ∧ s.ms.pointer.trial = true ∧
    s.updLocked = false ∧ s.sm.state ≠ 2 ∧ s.sm.state ≠ 3) :=
  by decide +kernel

theorem test_ImagesAreUpdated_3 : (∃ s ∈ [updating 0x65 [] none], s.holds 5 0x65 (front s) ∧ s.ms.pointer.trial =
    false ∧ s.ms.upd.isSome = true) ∧ (∃ s ∈ [holding 0x65 []], s.holds 5 0x65 (front s) ∧ s.ms.pointer.trial = false
    ∧ s.ms.upd = none) ∧ ((updating 0x60 [] none).updOpen = true) ∧ ((holding 0x60 []).updOpen = false) :=
  by decide +kernel

theorem test_LoopTestsStartAndEnd : (∃ s ∈ [looping 0x61 0], s.holds 5 0x70 (front s) ∧ (s.ms.loops.any fun l_ =>
    l_.cmd == (front s).id) = false ∧ (((.loopTestNvFlash 5 : Instr)), true) ∈ [(.loopTestHost 5, decide ((entAux
    (front s).entry) ≤ 3)), (.loopTestDescriptorEcho 5, (entAux (front s).entry) == 0x10), (.loopTestLpddr5x 5, decide
    (0x20 ≤ (entAux (front s).entry) ∧ (entAux (front s).entry) ≤ 0x22)), (.loopTestDecoder 5, decide (0x30 ≤ (entAux
    (front s).entry) ∧ (entAux (front s).entry) ≤ 0x32)), (.loopTestServo 5, (entAux (front s).entry) == 0x40),
    (.loopTestMotion 5, (entAux (front s).entry) == 0x50), (.loopTestCartridgeSpi 5, (entAux (front s).entry) ==
    0x60), (.loopTestNvFlash 5, (entAux (front s).entry) == 0x61)] ∧ s.loopBlock (front s) = none ∧ (s.ms.loops.any
    fun l_ => l_.samePath (entAux (front s).entry) (entHandle (front s).entry)) = false) ∧ (∃ s ∈ [looping 0x10 3],
    s.holds 5 0x70 (front s) ∧ (s.ms.loops.any fun l_ => l_.cmd == (front s).id) = false ∧ (((.loopTestDescriptorEcho
    5 : Instr)), true) ∈ [(.loopTestHost 5, decide ((entAux (front s).entry) ≤ 3)), (.loopTestDescriptorEcho 5,
    (entAux (front s).entry) == 0x10), (.loopTestLpddr5x 5, decide (0x20 ≤ (entAux (front s).entry) ∧ (entAux (front
    s).entry) ≤ 0x22)), (.loopTestDecoder 5, decide (0x30 ≤ (entAux (front s).entry) ∧ (entAux (front s).entry) ≤
    0x32)), (.loopTestServo 5, (entAux (front s).entry) == 0x40), (.loopTestMotion 5, (entAux (front s).entry) ==
    0x50), (.loopTestCartridgeSpi 5, (entAux (front s).entry) == 0x60), (.loopTestNvFlash 5, (entAux (front s).entry)
    == 0x61)] ∧ s.loopBlock (front s) = some (stInvalidField, 4)) ∧ (∃ s ∈ [inDrive (looping 0x33 0)], s.holds 5 0x70
    (front s) ∧ (s.ms.loops.any fun l_ => l_.cmd == (front s).id) = false ∧ entAux (front s).entry = 0x33 ∧
    s.loopBlock (front s) = none ∧ (s.ms.loops.any fun l_ => l_.samePath 0x33 (entHandle (front s).entry)) = false) ∧
    (∃ s ∈ [holding 0x70 [(30, 0x33)]], s.holds 5 0x70 (front s) ∧ (s.ms.loops.any fun l_ => l_.cmd == (front s).id) =
    false ∧ entAux (front s).entry = 0x33 ∧ s.loopBlock (front s) = some (stNoMedia, 1)) :=
  by decide +kernel

theorem test_LoopTestsStartAndEnd_2 : (∃ s ∈ [loopRuns 0x20 0], s.holds 5 0x70 (front s) ∧ (s.ms.loops.find? fun l_ =>
    l_.cmd == 5) = some ((⟨5, 0x20, 0, 1000⟩ : LoopRun)) ∧ bitOf (entFlags (front s).entry) 0 = false ∧ 0x10 < ((⟨5,
    0x20, 0, 1000⟩ : LoopRun)).aux ∧ (((⟨5, 0x20, 0, 1000⟩ : LoopRun)).aux ≠ 0x30 ∨ s.injectCount = 0)) ∧ (∃ s ∈
    [loopRuns 0x10 3], s.holds 5 0x70 (front s) ∧ (s.ms.loops.find? fun l_ => l_.cmd == 5) = some ((⟨5, 0x10, 3, 1000⟩
    : LoopRun)) ∧ bitOf (entFlags (front s).entry) 0 = false ∧ ((⟨5, 0x10, 3, 1000⟩ : LoopRun)).aux = 0x10) ∧ (∃ s ∈
    [loopRuns 1 1], s.holds 5 0x70 (front s) ∧ (s.ms.loops.find? fun l_ => l_.cmd == 5) = some ((⟨5, 1, 1, 1000⟩ :
    LoopRun)) ∧ bitOf (entFlags (front s).entry) 0 = false ∧ ((⟨5, 1, 1, 1000⟩ : LoopRun)).aux < 0x10 ∧
    s.hi.perst.contains ((⟨5, 1, 1, 1000⟩ : LoopRun)).handle = false) :=
  by decide +kernel

theorem test_RandomNumbersEpochsAndBlocksAreReserved : (live.ce.failed = false ∧ live.ce.retesting = false) ∧ ((ceWith
    fun e => { e with retesting := true }).ce.retesting = true) ∧ (∃ s ∈ [ceWith fun e => { e with retesting := true
    }], s.ce.retesting = true ∧ s.ce.retests < 2) ∧ (∃ s ∈ [ceWith fun e => { e with retesting := true, retests := 2
    }], s.ce.retesting = true ∧ 2 ≤ s.ce.retests) ∧ (65536 ≤ (ceWith fun e => { e with drbgUses := 65536
    }).ce.drbgUses) ∧ (live.ce.drbgUses < 65536) ∧ (live.ce.epochBound ≤ live.ce.epoch) ∧ (∃ s ∈ [ceWith fun e => { e
    with epochBound := 2 }], s.ce.epoch < s.ce.epochBound) ∧ (live.ms.seqBound ≤ live.ms.seq) ∧ (∃ s ∈ [msWith live
    fun m => { m with seqBound := 1 }], s.ms.seq < s.ms.seqBound) ∧ (3 * journalArea ≤ 4 * (msWith live fun m => { m
    with journal := 10 ^ 8 }).ms.journal) ∧ (4 * live.ms.journal < 3 * journalArea) :=
  by decide +kernel

theorem test_TheSidebandAnswers : (live.serves .sideband ∧ true = true ∧ 65532 % 4 = 0 ∧ 65532 < 65536) ∧ (live.serves
    .sideband ∧ (true = false ∨ 2 % 4 ≠ 0)) ∧ ((msWith live fun m => { m with alert := true }).ms.alert = true) ∧
    (live.ms.alert = false) :=
  by decide +kernel

theorem test_WhatPowerAndResetsLeave : (live.ms.phase ≠ 0) ∧ (devrstWindow.canStart ∧ devrstWindow.holds 5 0x53 (front
    devrstWindow) ∧ (front devrstWindow).ring = windowRing) ∧ (∃ s ∈ [holding 0x53 []], s.canStart ∧ s.holds 5 0x53
    (front s) ∧ (front s).ring < windowRing ∧ s.qe.ready = [] ∧ s.cqRoom (front s).fn (s.boundCq (front s).fn (front
    s).ring) = true) ∧ (live.canStart ∧ live.serves .sideband ∧ (0xD5#32).toNat % 256 = 0xD5) ∧ (live.canStart ∧
    live.serves .sideband ∧ (1#32).toNat % 256 ≠ 0xD5) ∧ (held.ms.phase = 1 ∧ { held with board := { board0 with
    partSel := held.board.partSel, ownerSel := held.board.ownerSel, lite := held.board.lite } }.canStart) ∧
    (off.ms.phase = 0 ∧ { off with board := board0 }.canStart ∧ off.ms.clean = true) :=
  by decide +kernel

theorem test_PowerStatesMove : (∃ s ∈ [idle 0 false], (1, ((.idleT1Expiry : Instr))) ∈ [(1, Instr.idleT1Expiry), (2,
    .idleT2Expiry), (3, .idleT3Expiry)] ∧ s.ms.power + 1 = 1 ∧ s.mayEnter 1 = true ∧ s.reg .msIdleT1 0 0 ≠ 0 ∧ (2 ≤ 1
    → s.reg .msIdleT2 0 0 ≠ 0) ∧ (3 ≤ 1 → s.reg .msIdleT3 0 0 ≠ 0)) ∧ ((1, ((.idleT1Expiry : Instr))) ∈ [(1,
    Instr.idleT1Expiry), (2, .idleT2Expiry), (3, .idleT3Expiry)] ∧ (idle 2 false).mayEnter 1 = false) ∧ (∃ s ∈ [idle 0
    false], s.serves ((.fn 0 : Port)) ∧ s.sees ((.fn 0 : Port)) .ms = true ∧ bitOf (3#32).toNat 8 = false ∧ s.mayEnter
    ((3#32).toNat % 4) = true) ∧ (∃ s ∈ [idle 0 false], s.serves ((.fn 0 : Port)) ∧ s.sees ((.fn 0 : Port)) .ms = true
    ∧ bitOf (0#32).toNat 8 = false ∧ s.mayEnter ((0#32).toNat % 4) = false) ∧ (∃ s ∈ [idle 2 false], s.ms.phase = 2 ∧
    s.ms.quiescent = false ∧ s.ms.moving = false ∧ s.ms.power ≠ 0 ∧ (0x100#32).toNat % 4 = 0 ∧ bitOf (0x100#32).toNat
    8 = true) :=
  by decide +kernel

theorem test_PowerStatesMove_2 : (∃ s ∈ [idle 2 false], s.ms.phase = 2 ∧ s.ms.quiescent = false ∧ s.ms.moving = false
    ∧ s.ms.power ≠ 0 ∧ 1 ≤ 6 ∧ 6 ≤ 6) ∧ (∃ s ∈ [idle 1 true], s.ms.moving = true ∧ (s.ms.power = 1 ∨ s.ms.power = 2))
    ∧ (∃ s ∈ [idle 3 true], s.ms.moving = true ∧ s.ms.power = 3 ∧ s.ms.wakeBuf = []) ∧ (∃ s ∈ [idle 0 false],
    s.ms.phase = 2 ∧ 0 < s.parts ∧ s.hi.perst.contains 0 = false ∧ (s.ms.loops.any fun x_ => decide (x_.aux < 16) &&
    x_.handle == 0) = false) ∧ (∃ s ∈ [holding 0x16 []], s.cmd? 5 = some (front s) ∧ (front s).phase ≠ .staged ∧
    s.hi.ownerNext = none ∧ 1 ≤ 4 ∧ 4 ≤ 4) :=
  by decide +kernel

theorem test_TagsAreUniquePerRing : (∃ u ∈ [(sqHeld).pickFn.1], sqHeld.pickFn = (u, some 0) ∧ u.pickRing 0 = some 3 ∧
    3 < windowRing ∧ u.fetchLen 0 3 1 = 1 ∧ sqHeld.qe.leaving = false ∧ (sqHeld.sq 0 3).echo = false) ∧
    ((sqResetting.sq 0 3).resetting = true ∧ sqResetting.resetQuiet 0 3 = true ∧ sqResetting.cqRoom 0
    (sqResetting.boundCq 0 3) = true ∧ (sqResetting.qe.ready.all fun x_ => x_.fn != 0 || x_.cq != sqResetting.boundCq
    0 3) = true) :=
  by decide +kernel

theorem test_LaterTripsAreOnlyLogged : ((inTrip ((loop 1 { closed with overruns := 3 }))).sm.state = 3 ∧ 3 ≤ ((inTrip
    ((loop 1 { closed with overruns := 3 }))).engine 1).overruns ∧ (inTrip (fastMissing)).sm.state = 3 ∧ 64 ≤ (inTrip
    (fastMissing)).sm.missing ∧ 500 < (inTrip (fastMissing)).sm.speed ∧ (inTrip (limits)).sm.state = 3 ∧ (∀ v ∈ [0, 0,
    0], v < 10 * (inTrip (limits)).fld .smLimits 0 0 15 0) ∧ (∀ v ∈ [7, 0, 7], v = 0 ∨ v = 7) ∧ (∀ v ∈ [20001, 30000,
    30000], 10 * (inTrip (limits)).fld .smLimits 0 0 31 16 < v) ∧ (inTrip (live)).sm.state = 3 ∧ (inTrip
    (live)).serves (.fn 0) ∧ (inTrip (live)).isOwner 0 = true ∧ bitOf (8#32).toNat 3 = true) ∧ (trippedFault.sm.state
    = 3 ∧ trippedFault.wc.triggers.contains 3 = true ∧ trippedFault.wc.wfault = false) :=
  by decide +kernel

theorem test_PartialReadsClearNothing : live.portOpen (.fn 0) = true ∧ live.sees (.fn 0) ((.qeBadDb :
    RegName)).info.blk = true ∧ live.instOk ((.qeBadDb : RegName)).info.blk 0 = true ∧ ((.qeBadDb : RegName)).info.blk
    ∉ [.klt, .msix] ∧ regAt ((.qeBadDb : RegName)).info.blk ((.qeBadDb : RegName)).info.off = some (((.qeBadDb :
    RegName)), 0) ∧ live.regPlace (.fn 0) ((.qeBadDb : RegName)) 0 0 = some (((0, 0) : Nat × Nat)) ∧ ((.qeBadDb :
    RegName)) ≠ .blockId ∧ highWord ((.qeBadDb : RegName)) = none ∧ lowWord ((.qeBadDb : RegName)) = none ∧ ((.qeBadDb
    : RegName)).info.rc ≠ 0 ∧ ((.qeBadDb : RegName)).info.off % 4 = 0 ∧ ((.qeBadDb : RegName)).info.off ≤
    (RegName.qeBadDb.info.off + 1) ∧ (RegName.qeBadDb.info.off + 1) + 2 ≤ ((.qeBadDb : RegName)).info.off + 4 ∧ 0 < 2
    ∧ Nat.land ((.qeBadDb : RegName)).info.rc (0xFFFFFFFF - byteMask ((RegName.qeBadDb.info.off + 1) - ((.qeBadDb :
    RegName)).info.off) (((RegName.qeBadDb.info.off + 1) - ((.qeBadDb : RegName)).info.off) + 2)) ≠ 0 :=
  by decide +kernel

theorem test_PartialReadsClearNothing_2 : live.portOpen (.fn 0) = true ∧ live.sees (.fn 0) ((.qeBadDb :
    RegName)).info.blk = true ∧ live.instOk ((.qeBadDb : RegName)).info.blk 0 = true ∧ ((.qeBadDb : RegName)).info.blk
    ∉ [.klt, .msix] ∧ regAt ((.qeBadDb : RegName)).info.blk ((.qeBadDb : RegName)).info.off = some (((.qeBadDb :
    RegName)), 0) ∧ live.regPlace (.fn 0) ((.qeBadDb : RegName)) 0 0 = some (((0, 0) : Nat × Nat)) ∧ ((.qeBadDb :
    RegName)) ≠ .blockId ∧ highWord ((.qeBadDb : RegName)) = none ∧ lowWord ((.qeBadDb : RegName)) = none ∧ ((.qeBadDb
    : RegName)).info.rc ≠ 0 ∧ ((.qeBadDb : RegName)).info.off % 4 = 0 ∧ ((.qeBadDb : RegName)).info.off ≤
    RegName.qeBadDb.info.off ∧ RegName.qeBadDb.info.off + 4 ≤ ((.qeBadDb : RegName)).info.off + 4 ∧ 0 < 4 ∧ Nat.land
    ((.qeBadDb : RegName)).info.rc (0xFFFFFFFF - byteMask (RegName.qeBadDb.info.off - ((.qeBadDb : RegName)).info.off)
    ((RegName.qeBadDb.info.off - ((.qeBadDb : RegName)).info.off) + 4)) = 0 :=
  by decide +kernel

end Sys2Proof.Tests
end

section
/-! The queue of waiting commands (log entry 1): no command reaches it, and a step takes only its front. -/

namespace Sys2Proof.Machine

/-- Every part of the state but the queue of waiting commands. -/
def Part.offQueue : List Part :=
  [.board, .regs, .latch, .pendWord, .hi, .klt, .qe, .pe, .bm, .mc, .cx, .ce, .df, .wc, .rc, .ed, .vc, .sm, .ct, .ms,
    .out, .fresh]

/-- A frame off the queue says just that the queue is the same. -/
theorem frame_offQueue_iff {s t : State} : Frame Part.offQueue s t ↔ t.pending = s.pending := by
  constructor
  · intro h
    exact h .pending rfl
  · intro h p hp
    cases p with
    | pending => exact h
    | _ => exact absurd hp (by decide)

/-- An operation whose frame does not name the queue works off the queue. -/
theorem Frame.offQueue {l : List Part} {s t : State} (h : Frame l s t) (hl : l.contains .pending = false := by rfl) :
    Frame Part.offQueue s t := frame_offQueue_iff.mpr (h .pending hl)

/-- Running a command with its buffer list brought in (R108). -/
theorem Frame.offQueue_withBuffer {u : State} {c : Cmd} {ps : List BufPiece} {run : State → List BufPiece → State}
    (h : ∀ u qs, Frame Part.offQueue u (run u qs)) : Frame Part.offQueue u (u.withBuffer c ps run) :=
  State.withBuffer_frame rfl h

/-- Taking up a command's data, with the releases and the near-end warning that may follow (R119, R158, R167). -/
theorem Frame.offQueue_sequence {u : State} {id : Nat} {data : Bytes} :
    Frame Part.offQueue u (u.sequence id data).releaseAllDue.nearEnd :=
  (State.sequence_frame.offQueue.trans State.releaseAllDue_frame.offQueue).trans State.nearEnd_frame.offQueue

/-- Where the outcome is a next state, that state has the queue of `s`. -/
def KeepsQueue (s : State) (o : Host.Outcome State Fault Refusal) : Prop := ∀ t, o = .next t → t.pending = s.pending

namespace KeepsQueue

theorem next {s t : State} (h : Frame Part.offQueue s t) : KeepsQueue s (.next t) := by
  rintro _ ⟨⟩
  exact frame_offQueue_iff.mp h

theorem same {s : State} : KeepsQueue s (.next s) := next Frame.refl

theorem fault {s : State} {f : Fault} : KeepsQueue s (.fault f) := by
  rintro _ ⟨⟩

/-! ### The ways in: a doorbell, a register write, a command of a ring, a command of a stream, a loop-back -/

theorem hostWrite {s : State} {w : HeldWrite} {run : State → State} (h : ∀ u, Frame Part.offQueue u (run u)) :
    KeepsQueue s (.next (s.hostWrite w run)) := next (State.hostWrite_frame rfl h)

theorem regWrite {s : State} {src : Port} {r : RegName} {inst : Nat} {v : Word} {run : State → Nat → State}
    (h : ∀ u n, Frame Part.offQueue u (run u n)) : KeepsQueue s (.next (s.regWrite src r inst v run)) :=
  next (State.regWrite_frame rfl h)

theorem onCommand {s : State} {id op : Nat} {run : State → Cmd → State}
    (h : ∀ u c, Frame Part.offQueue u (run u c)) :
    KeepsQueue s (.next (s.onCommand id op run)) := next (State.onCommand_frame rfl h)

theorem onStream {s : State} {id op : Nat} {run : State → Cmd → Nat → Stream → State}
    (h : ∀ u c k x, Frame Part.offQueue u (run u c k x)) : KeepsQueue s (.next (s.onStream id op run)) :=
  next (State.onStream_frame rfl h)

theorem loopStart {s : State} {id : Nat} {mine : Nat → Bool} {before : State → Cmd → State × Bool}
    (h : ∀ u c, FrameP Part.offQueue u (before u c)) : KeepsQueue s (.next (s.loopStart id mine before)) :=
  next (State.loopStart_frame rfl h)

/-! ### Commands that decide before they act -/

theorem openStream {s : State} {id : Nat} : KeepsQueue s (execOpenStream id s) := by
  have hin : Frame Part.offQueue s (s.bringIn id) := State.bringIn_frame.offQueue
  unfold execOpenStream
  extract_lets u
  split
  next =>
    split
    · refine next (Frame.trans (Frame.trans ?_ State.tellCredit_frame.offQueue) State.finishCmd_frame.offQueue)
      exact hin.trans State.modStream_frame.offQueue
    · exact next hin
  next => exact next hin

theorem benchmarkTrain {s : State} {rs : List BenchRead} : KeepsQueue s (execBenchmarkTrain rs s) := by
  unfold execBenchmarkTrain
  split
  · exact next (Frame.ite State.benchmark_frame.offQueue Frame.refl)
  · exact same

theorem marginProbe {s : State} {place : FramePos} {pass : Bool} : KeepsQueue s (execMarginProbe place pass s) := by
  have hprobe : Frame Part.offQueue s (s.bump .vcProbes 0 0) := State.bump_frame.offQueue
  unfold execMarginProbe
  split
  · exact same
  · extract_lets f tierFrame u v
    split
    · exact next ((Frame.ite hprobe (hprobe.trans State.bump_frame.offQueue)).trans State.setTally_frame.offQueue)
    · exact same

theorem dmaCompletionError {s : State} {id detail : Nat} : KeepsQueue s (execDmaCompletionError id detail s) := by
  unfold execDmaCompletionError
  split
  · exact next (Frame.ite State.endCmd_frame.offQueue Frame.refl)
  · exact same

theorem cqModerationTimer {s : State} {fn cq : Nat} : KeepsQueue s (execCqModerationTimer fn cq s) := by
  unfold execCqModerationTimer
  extract_lets q
  split
  · exact next (State.setCq_frame.offQueue.trans State.signal_frame.offQueue)
  · exact same

/-- Sealing (R249, R250) stops, seals under the key of all zeros, defers an error, or seals under the stream's key. -/
theorem parcelSeal {s : State} {ds i : Nat} : KeepsQueue s (s.sealParcel ds i) := by
  unfold State.sealParcel
  split
  · exact same
  split
  · exact same
  split
  · split
    · exact fault
    · refine next (Frame.trans ?_ State.setParcel_frame.offQueue)
      exact (Frame.ce Frame.refl rfl).trans State.coreWork_frame.offQueue
  · extract_lets f g k u
    split
    · exact next State.deferError_frame.offQueue
    split
    · exact next State.deferError_frame.offQueue
    · have hseal : Frame Part.offQueue s u := State.coreWork_frame.offQueue.trans State.setParcel_frame.offQueue
      exact next ((hseal.trans State.takeInvocation_frame.offQueue).trans State.settleRetiring_frame.offQueue)

end KeepsQueue

open KeepsQueue in
/-- No command reaches the queue: each is the work of operations whose frames do not name it. -/
theorem exec_keepsQueue (c : Instr) (s : State) : KeepsQueue s (exec c s) := by
  cases c with
  | sqDoorbell | cqDoorbell => exact hostWrite fun _ => State.bellWrite_frame.offQueue
  | qePealCommit => exact regWrite fun _ _ => State.pealCommit_frame.offQueue
  | entryFetch => exact next State.fetch_frame.offQueue
  | entryResolve => exact next State.resolveId_frame.offQueue
  | lockGrant => exact next State.grantId_frame.offQueue
  | dataTransferStart => exact next State.startTransfer_frame.offQueue
  | dataSequenced => exact next Frame.offQueue_sequence
  | completionPost => exact next (State.postOne_frame.offQueue.trans State.settleDevrst_frame.offQueue)
  | cqModerationTimer => exact cqModerationTimer
  | chimePost => exact next (State.chimePost_frame.offQueue.trans State.settleDevrst_frame.offQueue)
  | msixEnable =>
    exact next (Frame.ite (State.modFctx_frame.offQueue.trans State.signalAll_frame.offQueue)
      State.modFctx_frame.offQueue)
  | qeSqReset => exact regWrite fun _ _ => State.writeSqReset_frame.offQueue
  | resetDone => exact next State.resetDone_frame.offQueue
  | sqEnable | sqDisable => exact regWrite fun _ _ => State.writeSqCtrl_frame.offQueue
  | cqEnable | cqDisable => exact regWrite fun _ _ => State.writeCqCtrl_frame.offQueue
  | taskGoStart | taskGoAbort => exact regWrite fun _ _ => State.taskGo_frame.offQueue
  | ringContextUe => exact next State.failRing_frame.offQueue
  | hiFnTenantWrite => exact regWrite fun _ _ => State.writeTenant_frame.offQueue
  | hiVfQuotaWrite => exact regWrite fun _ _ => State.writeQuota_frame.offQueue
  | hiFnAllocWrite => exact regWrite fun _ _ => State.writeAlloc_frame.offQueue
  | msSbOwnerWrite => exact regWrite fun _ _ => State.writeSbOwner_frame.offQueue
  | kltRebuild => exact next State.kltEnd_frame.offQueue
  | registerWrite => exact hostWrite fun _ => State.writeAccess_frame.offQueue
  | readClear | lowWordRead => exact next State.hostRead_frame.offQueue
  | perstNAssert => exact next State.perst_frame.offQueue
  | perstNDeassert => exact next State.perstEnd_frame.offQueue
  | flr => exact next (State.flr_frame.offQueue.trans State.settleDevrst_frame.offQueue)
  | vfCountChange => exact next State.vfCount_frame.offQueue
  | bufferAllocate => exact next (State.allocate_frame.offQueue.trans State.releaseAllDue_frame.offQueue)
  | bufferWaitGrant => exact next (State.waitGrant_frame.offQueue.trans State.releaseAllDue_frame.offQueue)
  | bufferFree => exact next State.freeBuffer_frame.offQueue
  | bufferTransfer => exact next State.transferBuffer_frame.offQueue
  | bmPoolSplitWrite => exact regWrite fun _ _ => State.writePoolSplit_frame.offQueue
  | bmStreamWinWrite => exact regWrite fun _ _ => State.writeStreamWin_frame.offQueue
  | bmWmCfgWrite => exact regWrite fun _ _ => State.writeWmCfg_frame.offQueue
  | bmFcwCfgWrite => exact regWrite fun _ _ => State.writeFcwCfg_frame.offQueue
  | crossingDbe => exact next (State.logEv_frame.offQueue.trans State.dropItem_frame.offQueue)
  | mcUe => exact next State.mcUe_frame.offQueue
  | patrolScrub =>
    exact next (Frame.ite Frame.refl (State.bumpBy_frame.offQueue.trans State.bumpBy_frame.offQueue))
  | mcCorrLimit => exact next (Frame.ite State.schedulePair_frame.offQueue Frame.refl)
  | holdMaxExpiry => exact next State.releaseStream_frame.offQueue
  | datasetForm => exact next State.formNext_frame.offQueue
  | backhitchResume => exact next State.resumeBackhitch_frame.offQueue
  | parcelCompress => exact next State.parcelCompress_frame.offQueue
  | compressorWaitSave => exact next State.waitSave_frame.offQueue
  | contextRestore => exact next State.contextRestore_frame.offQueue
  | parcelSeal => exact parcelSeal
  | tierEncode => exact next State.tierEncode_frame.offQueue
  | writeRunStart => exact next State.startRun_frame.offQueue
  | writeRunEnd => exact next State.endRun_frame.offQueue
  | frameDecode => exact next State.decodeFrame_frame.offQueue
  | frameGrade => exact next State.gradeFrame_frame.offQueue
  | marginProbe => exact marginProbe
  | preambleDecode => exact next State.preamble_frame.offQueue
  | lossOfLock | timingLockReacquire => exact next State.modChan_frame.offQueue
  | shockN | wfaultN => exact next State.raiseTrigger_frame.offQueue
  | shockNDeassert | wfaultNDeassert => exact next State.clearTrigger_frame.offQueue
  | accRead =>
    exact next (Frame.ite Frame.refl (Frame.ite State.raiseTrigger_frame.offQueue State.clearTrigger_frame.offQueue))
  | wfaultPersist => exact next State.wfaultPersist_frame.offQueue
  | gateResume => exact next State.resumeGates_frame.offQueue
  | benchmarkTrain => exact benchmarkTrain
  | wrapChange => exact next State.wrapChange_frame.offQueue
  | readTargetSelect => exact next State.selectTarget_frame.offQueue
  | readWaitExpiry => exact next State.waitExpiry_frame.offQueue
  | locateLanding => exact next State.land_frame.offQueue
  | tierDecode => exact next State.decodeTier_frame.offQueue
  | c3Recover => exact next State.c3Recover_frame.offQueue
  | parcelOpen => exact next State.parcelOpen_frame.offQueue
  | parcelDecompress => exact next State.parcelDecompress_frame.offQueue
  | c3GroupClose => exact next State.groupClose_frame.offQueue
  | servoFrame => exact next State.servoFrame_frame.offQueue
  | loopSample => exact next State.loopSample_frame.offQueue
  | overrunTrip | missingSampleTrip | vmotUndervoltage | hallCodeFault | overcurrent =>
    exact next (Frame.ite State.trip_frame.offQueue Frame.refl)
  | loopModeSwitch => exact next State.switchMode_frame.offQueue
  | tripTapeStopped => exact next State.tripStopped_frame.offQueue
  | safeHoldExpiry => exact next State.tripSafe_frame.offQueue
  | reelBrakeEngage => exact next State.reelBrake_frame.offQueue
  | smTransportSafeReq => exact regWrite fun _ _ => Frame.ite State.trip_frame.offQueue Frame.refl
  | smLoopClose => exact regWrite fun _ _ => State.closeLoop_frame.offQueue
  | smLoopOpen => exact regWrite fun _ _ => State.openLoop_frame.offQueue
  | smLoopRateWrite => exact regWrite fun _ _ => State.writeRate_frame.offQueue
  | smCoefDataWrite => exact regWrite fun _ _ => State.writeCoef_frame.offQueue
  | smInjStart => exact regWrite fun _ _ => State.writeInject_frame.offQueue
  | injectionEnd => exact next State.injectEnd_frame.offQueue
  | smCapArm => exact regWrite fun _ _ => State.writeCapture_frame.offQueue
  | captureFull => exact next State.captureFull_frame.offQueue
  | senseChange => exact next State.senseChange_frame.offQueue
  | mediaSessionEnd => exact next State.sessionEnd_frame.offQueue
  | mount => exact onCommand fun _ _ => Frame.offQueue_withBuffer fun _ _ => State.mount_frame.offQueue
  | unmount => exact onCommand fun _ _ => State.unmount_frame.offQueue
  | openStream => exact openStream
  | closeStream => exact onStream fun _ _ _ _ => State.close_frame.offQueue
  | writeRecords | writePeg =>
    refine next (Frame.trans ?_ Frame.offQueue_sequence)
    exact State.bringIn_frame.offQueue.trans State.startTransfer_frame.offQueue
  | readRecords => exact onStream fun _ _ _ _ => State.readRecords_frame.offQueue
  | discardRemainder => exact onStream fun _ _ _ _ => State.discardRest_frame.offQueue
  | locate => exact onStream fun _ _ _ _ => State.locate_frame.offQueue
  | space => exact onStream fun _ _ _ _ => State.space_frame.offQueue
  | sync => exact onStream fun _ _ _ _ => State.sync_frame.offQueue
  | queryStream => exact onStream fun _ _ _ _ => State.query_frame.offQueue
  | getFieldBookExtent => exact onStream fun _ _ _ _ => State.extentQuery_frame.offQueue
  | getLog => exact onCommand fun _ _ => Frame.offQueue_withBuffer fun _ _ => State.getLog_frame.offQueue
  | keyInstall =>
    exact onCommand fun _ _ =>
      Frame.ite Frame.refl (Frame.offQueue_withBuffer fun _ _ => State.installKey_frame.offQueue)
  | keyInstallKek =>
    exact onCommand fun _ _ =>
      Frame.ite (Frame.offQueue_withBuffer fun _ _ => State.installKek_frame.offQueue) Frame.refl
  | keyErase => exact onCommand fun _ _ => State.keyErase_frame.offQueue
  | keyQuery =>
    exact onCommand fun _ _ =>
      Frame.ite Frame.refl (Frame.offQueue_withBuffer fun _ _ => State.keyQuery_frame.offQueue)
  | keyQueryIdentity =>
    exact onCommand fun _ _ =>
      Frame.ite (Frame.offQueue_withBuffer fun _ _ => State.keyQuery_frame.offQueue) Frame.refl
  | cipherRaw =>
    exact onCommand fun _ _ =>
      Frame.ite Frame.refl (Frame.offQueue_withBuffer fun _ _ => State.cipherRaw_frame.offQueue)
  | cipherAead =>
    exact onCommand fun _ _ =>
      Frame.ite Frame.refl (Frame.offQueue_withBuffer fun _ _ => State.cipherAead_frame.offQueue)
  | format =>
    exact onCommand fun _ _ =>
      Frame.ite Frame.refl (Frame.offQueue_withBuffer fun _ _ => State.format_frame.offQueue)
  | sanitizeOverwrite => exact onCommand fun _ _ => Frame.ite Frame.refl State.overwrite_frame.offQueue
  | sanitizeCrypto =>
    exact onCommand fun _ _ =>
      Frame.ite Frame.refl (Frame.offQueue_withBuffer fun _ _ => State.crypto_frame.offQueue)
  | selfTest => exact onCommand fun _ _ => State.selfTest_frame.offQueue
  | shutdownPrep => exact onCommand fun _ _ => State.shutdownPrep_frame.offQueue
  | unitCtrlRetire =>
    exact onCommand fun _ _ =>
      Frame.ite (State.retireUnit_frame.offQueue.trans State.finishCmd_frame.offQueue) Frame.refl
  | unitCtrlReturn => exact onCommand fun _ _ => Frame.ite State.unitReturn_frame.offQueue Frame.refl
  | unitCtrlBurn => exact onCommand fun _ _ => Frame.ite State.unitBurn_frame.offQueue Frame.refl
  | devrst =>
    refine onCommand fun _ _ => Frame.trans ?_ State.settleDevrst_frame.offQueue
    exact State.finishCmd_frame.offQueue.trans (Frame.ite (Frame.qe Frame.refl rfl) State.postRing_frame.offQueue)
  | updateOpen => exact onCommand fun _ _ => State.updateOpen_frame.offQueue
  | updateBlock => exact onCommand fun _ _ => Frame.offQueue_withBuffer fun _ _ => State.updateBlock_frame.offQueue
  | updateVerify => exact onCommand fun _ _ => State.updateVerify_frame.offQueue
  | updateActivate => exact onCommand fun _ _ => State.updateActivate_frame.offQueue
  | updateConfirm => exact onCommand fun _ _ => State.updateConfirm_frame.offQueue
  | updateRevert => exact onCommand fun _ _ => State.updateRevert_frame.offQueue
  | updateSessionTimeout => exact next State.abandonUpdate_frame.offQueue
  | loopTestHost | loopTestDescriptorEcho | loopTestLpddr5x | loopTestDecoder | loopTestServo | loopTestMotion |
    loopTestCartridgeSpi | loopTestNvFlash => exact loopStart fun _ _ => loopReady_frame.offQueue
  | loopTestHeadTape => exact loopStart fun _ _ => State.loopThread_frame.offQueue
  | loopTestDurationEnd => exact next State.loopEnd_frame.offQueue
  | sliceTestStart => exact next State.sliceStart_frame.offQueue
  | sliceTestEnd => exact next State.sliceEnd_frame.offQueue
  | trngHealthFail => exact next (Frame.ite Frame.refl (Frame.ce Frame.refl rfl))
  | trngRetestEnd => exact next State.retestEnd_frame.offQueue
  | drbgReseed => exact next (Frame.ite (Frame.ce State.draw_frame.offQueue rfl) Frame.refl)
  | keyStoreUe =>
    exact next (Frame.ite (State.eraseSlot_frame.offQueue.trans State.logEv_frame.offQueue) Frame.refl)
  | epochBatchReserve => exact next State.reserveEpochs_frame.offQueue
  | eventLogBlockReserve => exact next State.reserveLog_frame.offQueue
  | journalCompact => exact next State.compact_frame.offQueue
  | vcCalCtrlWrite => exact regWrite fun _ _ => State.writeCalCtrl_frame.offQueue
  | msDbgCtrlUnlock => exact regWrite fun _ _ => State.unlock_frame.offQueue
  | smbBlockWrite =>
    refine next (Frame.ite Frame.refl (State.wake_frame.offQueue.trans (Frame.ite State.emit_frame.offQueue ?_)))
    exact State.writeWord_frame.offQueue.trans State.emit_frame.offQueue
  | smbBlockRead =>
    refine next (Frame.ite Frame.refl (State.wake_frame.offQueue.trans (Frame.ite State.emit_frame.offQueue ?_)))
    exact State.readWord_frame.offQueue.trans State.emit_frame.offQueue
  | alertResponse => exact next (Frame.ite ((Frame.ms Frame.refl rfl).trans State.emit_frame.offQueue) Frame.refl)
  | msSbDevrstWrite => exact regWrite fun _ _ => Frame.ite State.deviceReset_frame.offQueue Frame.refl
  | powerOn =>
    refine next (Frame.ite Frame.refl (Frame.trans ?_ State.start_frame.offQueue))
    exact Frame.ms (Frame.board Frame.refl rfl) rfl
  | powerLoss => exact next (Frame.ite (Frame.ms Frame.refl rfl) (Frame.ms State.hardReset_frame.offQueue rfl))
  | resetNAssert =>
    exact next (Frame.ite Frame.refl (State.hardReset_frame.offQueue.trans State.setFld_frame.offQueue))
  | resetNDeassert => exact next (Frame.ite Frame.refl ((Frame.board Frame.refl rfl).trans State.start_frame.offQueue))
  | pwrWarnN => exact next (Frame.ite Frame.refl (Frame.ms State.powerWarn_frame.offQueue rfl))
  | shutdownSelfTest => exact next State.shutdownTest_frame.offQueue
  | thermalLimit =>
    refine next (Frame.ite Frame.refl ((Frame.ms Frame.refl rfl).trans (Frame.ite Frame.refl ?_)))
    exact (Frame.ite Frame.refl State.powerWarn_frame.offQueue).trans State.quiet_frame.offQueue
  | idleT1Expiry | idleT2Expiry | idleT3Expiry => exact next State.idleExpire_frame.offQueue
  | msPwrReqEnter | msPwrReqWake => exact regWrite fun _ _ => Frame.ite State.writePwrReq_frame.offQueue Frame.refl
  | wake => exact next (Frame.ite State.wake_frame.offQueue Frame.refl)
  | a3ExitComplete => exact next (Frame.ite State.wakeUp_frame.offQueue Frame.refl)
  | msixVectorUnmask =>
    exact next (Frame.ite (State.modFctx_frame.offQueue.trans State.emit_frame.offQueue) State.modFctx_frame.offQueue)
  | linkStateChange => exact next State.linkChange_frame.offQueue
  | vddIoUp => exact next (Frame.ite (Frame.ms Frame.refl rfl) Frame.refl)
  | exitLatencyEnd => exact next (Frame.ite State.awake_frame.offQueue Frame.refl)
  | dmaCompletionError => exact dmaCompletionError

/-- With a command waiting, a step is that command's `exec` on the state with the queue's rest. -/
theorem step_of_pending_cons {s : State} {c : Instr} {rest : List Instr} (h : s.pending = c :: rest) :
    step s = exec c { s with pending := rest } := by
  simp only [step, h]

/-- Settles O3: the operations each command is made of all have frames off the queue. -/
theorem noCommandTouchesTheQueue : Obligations.NoCommandTouchesTheQueue :=
  fun c s => exec_keepsQueue c s

/-- Settles O1, by the equation of `step` for a queue that is not empty. -/
theorem stepRunsTheFrontCommand : Obligations.StepRunsTheFrontCommand :=
  fun _ _ _ => step_of_pending_cons rfl

end Sys2Proof.Machine
end

section
/-! Registers apart from those an operation writes, the event log, and the channel pairs of the memory controllers (R202 to
R204, R492). -/

namespace Sys2Proof.Machine

-- One theorem at a time: run ahead of the kernel, each would hold a thread and its stack.
set_option Elab.async false

/-! ### Registers that an operation leaves alone -/

theorem State.regsBut_refl {l : List RegName} {s : State} : State.regsBut l s s := fun _ _ _ _ => rfl

theorem State.regsBut_trans {l : List RegName} {s t u : State} (h1 : State.regsBut l s t) (h2 : State.regsBut l t u) :
    State.regsBut l s u := fun r i k hr => (h2 r i k hr).trans (h1 r i k hr)

/-- Leaving out more registers says less. -/
theorem State.regsBut_mono {l l' : List RegName} {s t : State} (h : State.regsBut l s t) (hl : l ⊆ l') :
    State.regsBut l' s t := by
  intro r i k hr
  refine h r i k ?_
  simp only [List.contains_eq_mem, decide_eq_false_iff_not] at hr ⊢
  exact fun hm => hr (hl hm)

theorem State.regsBut_setReg {l : List RegName} {s : State} {r : RegName} {i k v : Nat} (hr : r ∈ l) :
    State.regsBut l s (s.setReg r i k v) := by
  intro r' i' k' hn
  refine State.reg_setReg_ne s v ?_
  rintro ⟨⟩
  simp [hr] at hn

theorem State.regsBut_bumpBy {l : List RegName} {s : State} {r : RegName} {i k n : Nat} (hr : r ∈ l) :
    State.regsBut l s (s.bumpBy r i k n) := State.regsBut_setReg hr

/-- Registers are read from the register store and the board alone. -/
theorem State.regsBut_of_frame {l : List Part} {l' : List RegName} {s t : State} (h : Frame l s t)
    (hr : l.contains .regs = false := by rfl) (hb : l.contains .board = false := by rfl) : State.regsBut l' s t := by
  intro r i k _
  rw [State.reg_congr (h .regs hr) (h .board hb)]

/-! ### The event log (R492) -/

/-- Reserving sequence numbers writes the bound and the NV summary. -/
theorem State.reserveLog_ms (s : State) :
    ∃ b n q c, s.reserveLog.ms = { s.ms with seqBound := b, nvSummary := n, nvSeq := q, nvLost := c } := by
  unfold State.reserveLog
  split
  · exact ⟨_, _, _, _, rfl⟩
  · exact ⟨_, _, _, _, rfl⟩

/-- Storing an entry writes the ring. -/
theorem State.storeLog_ms (s : State) (e : LogEntry) : ∃ g, (s.storeLog e).ms = { s.ms with log := g } := by
  unfold State.storeLog
  extract_lets full u
  split <;> exact ⟨_, rfl⟩

/-- The sequence number of an event is taken, from a bound reserved where that was due. -/
def State.takeSeq (s : State) : State :=
  { s.reserveLog with ms := { s.reserveLog.ms with seq := s.reserveLog.ms.seq + 1 } }

/-- An event takes its number, and where its severity counts it is stored. -/
theorem State.logEv_cases (s : State) (ev : Ev) (tenant unit value : Nat) :
    s.logEv ev tenant unit value = s.takeSeq ∨ ∃ e, s.logEv ev tenant unit value = s.takeSeq.storeLog e := by
  by_cases h : ev.code.2 < s.takeSeq.fld .msLogCfg 0 0 1 0
  · exact .inl (if_pos h)
  · exact .inr ⟨_, if_neg h⟩

/-- Logging takes one sequence number and writes nothing of MS beyond the ring, the bound and the NV summary. -/
theorem State.logEv_ms (s : State) (ev : Ev) (tenant unit value : Nat) :
    ∃ b n q c g, (s.logEv ev tenant unit value).ms =
      { s.ms with seq := s.ms.seq + 1, seqBound := b, nvSummary := n, nvSeq := q, nvLost := c, log := g } := by
  obtain ⟨b, n, q, c, hr⟩ := s.reserveLog_ms
  have ht : s.takeSeq.ms =
      { s.ms with seq := s.ms.seq + 1, seqBound := b, nvSummary := n, nvSeq := q, nvLost := c } := by
    simp only [State.takeSeq, hr]
  obtain h | ⟨e, h⟩ := s.logEv_cases ev tenant unit value
  · exact ⟨b, n, q, c, _, h ▸ ht⟩
  · obtain ⟨g, hg⟩ := s.takeSeq.storeLog_ms e
    exact ⟨b, n, q, c, g, by rw [h, hg, ht]⟩

theorem State.logEv_seq (s : State) (ev : Ev) (tenant unit value : Nat) :
    (s.logEv ev tenant unit value).ms.seq = s.ms.seq + 1 := by
  obtain ⟨b, n, q, c, g, h⟩ := s.logEv_ms ev tenant unit value
  rw [h]

/-- Storing an entry writes no register but the count of entries overwritten. -/
theorem State.storeLog_regsBut {s : State} {e : LogEntry} : State.regsBut [.msLogLost] s (s.storeLog e) := by
  unfold State.storeLog
  extract_lets full src u
  have hu : State.regsBut [.msLogLost] s u := State.regsBut_of_frame (Frame.ms (l := [.ms]) Frame.refl rfl)
  split
  · exact State.regsBut_trans hu (State.regsBut_bumpBy (List.mem_singleton_self _))
  · exact hu

/-- Logging writes no register but the count of entries overwritten. -/
theorem State.logEv_regsBut {s : State} {ev : Ev} {tenant unit value : Nat} :
    State.regsBut [.msLogLost] s (s.logEv ev tenant unit value) := by
  have ht : State.regsBut [.msLogLost] s s.takeSeq := State.regsBut_of_frame (Frame.ms State.reserveLog_frame rfl)
  obtain h | ⟨e, h⟩ := s.logEv_cases ev tenant unit value
  · exact h ▸ ht
  · exact h ▸ State.regsBut_trans ht State.storeLog_regsBut

/-! ### Channel pairs (R23, R203, R204) -/

theorem State.pair_congr {s t : State} (h : t.mc = s.mc) : t.pair = s.pair := by
  funext n
  simp only [State.pair, h]

@[simp] theorem State.pair_setPair_self (s : State) (n : Nat) (p : McPair) : (s.setPair n p).pair n = p := by
  simp [State.pair, State.setPair]

theorem State.pair_setPair_ne (s : State) {n m : Nat} (p : McPair) (h : m ≠ n) : (s.setPair n p).pair m = s.pair m := by
  simp [State.pair, State.setPair, Tab.get_set_ne _ _ _ h]

theorem State.pair_tellRetired (s : State) (t n : Nat) : (s.tellRetired t n).pair = s.pair :=
  State.pair_congr (State.tellRetired_frame .mc rfl)

/-- A pair that is neither retired nor due to be is scheduled, and the owner is told. -/
theorem State.schedulePair_of_standing {s : State} {n unit : Nat} (hp : (s.pair n).pendingRetire = false)
    (hr : (s.pair n).retired = false) :
    s.schedulePair n unit = (s.setPair n { s.pair n with pendingRetire := true }).tellRetired 6 unit := by
  simp [State.schedulePair, hp, hr]

/-- A pair that is not retired waits for its retirement once it has been scheduled. -/
theorem State.schedulePair_pending {s : State} {n unit : Nat} (hr : (s.pair n).retired = false) :
    ((s.schedulePair n unit).pair n).pendingRetire = true := by
  by_cases hp : (s.pair n).pendingRetire = true
  · simp [State.schedulePair, hp]
  · rw [State.schedulePair_of_standing (by simpa using hp) hr, State.pair_tellRetired, State.pair_setPair_self]

/-! ### Uncorrectable blocks (R203, R204) -/

/-- What MC_UE does before it looks at the pair: the block at `a` is counted, latched and logged. -/
def State.noteUe (s : State) (n a : Nat) : State :=
  (((s.bump .mcUncorr n 0).setReg .mcUeAddrLo n 0 (a % 2 ^ 32)).setReg .mcUeAddrHi n 0 (2 ^ 31 + a / 2 ^ 32)).logEv
    .mcUe 0 n a

/-- An address seen before schedules the pair of a free block; another one is noted. -/
theorem State.mcUe_free (s : State) (n : Nat) {addr : Nat} (h : addr < 2 ^ 37) :
    s.mcUe n addr .free =
      if (s.pair n).ueSeen.contains (addr / 64 * 64) then (s.noteUe n (addr / 64 * 64)).schedulePair n (2 * n)
      else (s.noteUe n (addr / 64 * 64)).setPair n
        { (s.noteUe n (addr / 64 * 64)).pair n with
          ueSeen := addr / 64 * 64 :: ((s.noteUe n (addr / 64 * 64)).pair n).ueSeen } := by
  unfold State.mcUe
  rw [Nat.mod_eq_of_lt h]
  rfl

theorem State.noteUe_frame {s : State} {n a : Nat} : Frame [.regs, .ms] s (s.noteUe n a) := by
  have hregs : Frame [.regs, .ms] s
      (((s.bump .mcUncorr n 0).setReg .mcUeAddrLo n 0 (a % 2 ^ 32)).setReg .mcUeAddrHi n 0 (2 ^ 31 + a / 2 ^ 32)) :=
    (State.bump_frame.trans (State.setReg_frame.trans State.setReg_frame)).mono rfl
  exact hregs.trans State.logEv_frame

theorem State.pair_noteUe (s : State) (n a : Nat) : (s.noteUe n a).pair = s.pair :=
  State.pair_congr (State.noteUe_frame .mc rfl)

theorem State.noteUe_seq (s : State) (n a : Nat) : (s.noteUe n a).ms.seq = s.ms.seq + 1 := State.logEv_seq ..

theorem State.noteUe_regsBut {s : State} {n a : Nat} :
    State.regsBut [.mcUncorr, .mcUeAddrLo, .mcUeAddrHi, .msLogLost] s (s.noteUe n a) := by
  unfold State.noteUe
  refine State.regsBut_trans ?_ (State.regsBut_mono State.logEv_regsBut (by simp))
  refine State.regsBut_trans ?_ (State.regsBut_setReg (by simp))
  exact State.regsBut_trans (State.regsBut_bumpBy (by simp)) (State.regsBut_setReg (by simp))

/-- The three registers of an uncorrectable block: the count, the low word of the address, the high word with its valid bit. -/
theorem State.noteUe_regs (s : State) (n a : Nat) (ha : a < 2 ^ 37) :
    (s.noteUe n a).reg .mcUncorr n 0 = min (s.reg .mcUncorr n 0 + 1) 0xFFFFFFFF ∧
      (s.noteUe n a).reg .mcUeAddrLo n 0 = a % 2 ^ 32 ∧ (s.noteUe n a).reg .mcUeAddrHi n 0 = 2 ^ 31 + a / 2 ^ 32 := by
  unfold State.noteUe
  refine ⟨?_, ?_, ?_⟩ <;> rw [State.logEv_regsBut _ _ _ (by decide)]
  · rw [State.reg_setReg_ne _ _ (by simp), State.reg_setReg_ne _ _ (by simp)]
    exact State.reg_bumpBy_self ..
  · rw [State.reg_setReg_ne _ _ (by simp), State.reg_setReg_self, Nat.mod_mod]
  · rw [State.reg_setReg_self, Nat.mod_eq_of_lt (by omega)]

/-! ### Parcels and crossings (R18) -/

/-- What a corrupted parcel loses lies in PE and CE; no decoder is touched. -/
theorem State.dropItem_parcel_frame {s : State} {ds i : Nat} : Frame [.pe, .ce] s (s.dropItem (.parcel ds i)) := by
  intro p hp
  by_cases he : p = .ed
  · subst he
    rfl
  · refine State.dropItem_frame p ?_
    simp_all

/-- A corrupted parcel that is not verified is sealed again from its data (R18). -/
theorem State.parcel_dropItem {s : State} {ds i : Nat} {p : Parcel} (h : s.parcel? ds i = some p)
    (hv : p.verified = false) : (s.dropItem (.parcel ds i)).parcel? ds i = some { p with sealedText := none } := by
  have hp : p.dataset = ds ∧ p.index = i := by simpa using List.find?_some h
  unfold State.parcel? at h ⊢
  unfold State.dropItem
  dsimp only
  rw [List.find?_map, ← List.find?_congr (p₁ := fun p : Parcel => p.dataset == ds && p.index == i), h]
  · simp [hp, hv]
  · intro q _
    dsimp only [Function.comp]
    split <;> rfl

theorem State.parcel_congr {s t : State} (h : t.pe = s.pe) : t.parcel? = s.parcel? := by
  funext ds i
  simp only [State.parcel?, h]

/-! ### The four commands -/

/-- MC_UE of a free block at a fresh address: counted, latched, logged, and noted in the pair. -/
theorem mcUe_free_fresh {s : State} {n addr : Nat} (ha : addr < 2 ^ 37)
    (hs : (s.pair n).ueSeen.contains (addr / 64 * 64) = false) :
    ∃ t, exec (.mcUe n addr .free) s = .next t ∧ t.reg .mcUncorr n 0 = min (s.reg .mcUncorr n 0 + 1) 0xFFFFFFFF ∧
      t.reg .mcUeAddrLo n 0 = addr / 64 * 64 % 2 ^ 32 ∧ t.reg .mcUeAddrHi n 0 = 2 ^ 31 + addr / 64 * 64 / 2 ^ 32 ∧
      t.ms.seq = s.ms.seq + 1 ∧ (t.pair n).ueSeen = addr / 64 * 64 :: (s.pair n).ueSeen ∧
      (t.pair n).pendingRetire = (s.pair n).pendingRetire ∧
      State.regsBut [.mcUncorr, .mcUeAddrLo, .mcUeAddrHi, .msLogLost] s t ∧ Frame [.regs, .mc, .ms] s t := by
  obtain ⟨hcount, hlo, hhi⟩ := s.noteUe_regs n (addr / 64 * 64) (by omega)
  refine ⟨_, congrArg Host.Outcome.next (s.mcUe_free n ha), ?_⟩
  rw [if_neg (by simp only [hs, Bool.false_eq_true, not_false_eq_true]), State.pair_noteUe]
  refine ⟨hcount, hlo, hhi, State.noteUe_seq .., ?_, ?_, ?_, ?_⟩
  · rw [State.pair_setPair_self]
  · rw [State.pair_setPair_self]
  · exact State.regsBut_trans State.noteUe_regsBut (State.regsBut_of_frame State.setPair_frame)
  · exact (State.noteUe_frame.mono rfl).step State.setPair_frame rfl

/-- MC_UE at an address seen before sets the retirement of the pair pending. -/
theorem mcUe_free_again {s : State} {n addr : Nat} (ha : addr < 2 ^ 37)
    (hs : (s.pair n).ueSeen.contains (addr / 64 * 64) = true) (hr : (s.pair n).retired = false) :
    ∃ t, exec (.mcUe n addr .free) s = .next t ∧ (t.pair n).pendingRetire = true ∧
      Frame [.regs, .hi, .klt, .qe, .mc, .ms, .out] s t := by
  refine ⟨_, congrArg Host.Outcome.next (s.mcUe_free n ha), ?_⟩
  rw [if_pos hs]
  refine ⟨State.schedulePair_pending (by rw [State.pair_noteUe]; exact hr), ?_⟩
  exact (State.noteUe_frame.mono rfl).step State.schedulePair_frame rfl

/-- PATROL_SCRUB adds its corrections to the counters of the two channels. -/
theorem patrolScrub_counts {s : State} {n : Nat} (a b : Nat) (h : s.fld .mcScrub n 0 7 0 ≠ 0) :
    ∃ t, exec (.patrolScrub n a b) s = .next t ∧
      t.reg .mcCorr0 n 0 = min (s.reg .mcCorr0 n 0 + a) 0xFFFFFFFF ∧
      t.reg .mcCorr1 n 0 = min (s.reg .mcCorr1 n 0 + b) 0xFFFFFFFF ∧ State.regsBut [.mcCorr0, .mcCorr1] s t ∧
      Frame [.regs] s t := by
  refine ⟨_, congrArg Host.Outcome.next (if_neg h), ?_, ?_, ?_, State.bumpBy_frame.trans State.bumpBy_frame⟩
  · rw [State.reg_bumpBy_ne _ _ (by simp), State.reg_bumpBy_self]
  · rw [State.reg_bumpBy_self, State.reg_bumpBy_ne _ _ (by simp)]
  · exact State.regsBut_trans (State.regsBut_bumpBy (by simp)) (State.regsBut_bumpBy (by simp))

/-- MC_CORR_LIMIT sets the retirement pending exactly where the limit is passed. -/
theorem mcCorrLimit_schedules {s : State} {n : Nat} (k : Nat) (h0 : s.fld .mcCorrLimit n 0 15 0 ≠ 0)
    (hr : (s.pair n).retired = false) :
    (s.fld .mcCorrLimit n 0 15 0 < k → ∃ t, exec (.mcCorrLimit n k) s = .next t ∧ (t.pair n).pendingRetire = true ∧
      Frame [.regs, .hi, .klt, .qe, .mc, .ms, .out] s t) ∧
    (k ≤ s.fld .mcCorrLimit n 0 15 0 → exec (.mcCorrLimit n k) s = .next s) := by
  constructor
  · intro hk
    exact ⟨_, congrArg Host.Outcome.next (if_pos ⟨h0, hk⟩), State.schedulePair_pending hr, State.schedulePair_frame⟩
  · intro hk
    exact congrArg Host.Outcome.next (if_neg fun h => absurd h.2 (by omega))

/-- CROSSING_DBE on a parcel that is not verified logs the event and drops the sealed text. -/
theorem crossingDbe_parcel {s : State} {ds i : Nat} {p : Parcel} (a b : Nat) (h : s.parcel? ds i = some p)
    (hv : p.verified = false) :
    ∃ t, exec (.crossingDbe a b (.parcel ds i)) s = .next t ∧ t.ms.seq = s.ms.seq + 1 ∧
      t.parcel? ds i = some { p with sealedText := none } ∧ State.regsBut [.msLogLost] s t ∧
      Frame [.regs, .pe, .ce, .ms] s t := by
  refine ⟨_, rfl, ?_, ?_, ?_, ?_⟩
  · rw [State.dropItem_parcel_frame .ms rfl, State.logEv_seq]
  · refine State.parcel_dropItem ?_ hv
    rwa [State.parcel_congr (State.logEv_frame .pe rfl)]
  · exact State.regsBut_trans State.logEv_regsBut (State.regsBut_of_frame State.dropItem_parcel_frame)
  · exact (State.logEv_frame.mono rfl).step State.dropItem_parcel_frame rfl

/-- Settles O25: one lemma for each of the four commands. -/
theorem memoryAndCrossingErrorsAreHandled : Obligations.MemoryAndCrossingErrorsAreHandled :=
  ⟨fun _ _ _ ha hs => mcUe_free_fresh ha hs, fun _ _ _ ha hs hr => mcUe_free_again ha hs hr,
    fun _ _ a b h => patrolScrub_counts a b h, fun _ _ k h0 hr => mcCorrLimit_schedules k h0 hr,
    fun _ a b _ _ _ h hv => crossingDbe_parcel a b h hv⟩

end Sys2Proof.Machine
end

section
/-! What the part's work on its own units leaves standing (R22, R25, R481 to R486): commands that end, errors deferred,
datasets restarted, trips and retirements never bring a unit back, end a rebuild of the KLT or touch the test results. -/

namespace Sys2Proof

/-- A change of every entry shows at each key. -/
theorem Tab.find_each {α : Type} (t : Tab α) (f : Nat → α → α) (q : Nat) :
    (t.each f).find q = (t.find q).map (f q) := by
  induction t with
  | nil => rfl
  | cons e t ih =>
    obtain ⟨k, w⟩ := e
    by_cases hk : k = q
    · simp [Tab.each, Tab.find, hk]
    · simpa [Tab.each, Tab.find, hk] using ih

namespace Machine

-- One theorem at a time: run ahead of the kernel, each would hold a thread and its stack.
set_option Elab.async false

/-- The registers that ends of commands, deferred errors, restarts, trips and retirements may write. -/
def workRegs : List RegName :=
  [.msLogLost, .qeEvtLost, .taskParam, .taskStatus, .smTrip, .msSliceYields, .dfInhPes, .dfInhShock, .dfInhWfault,
    .dfBadWrap, .dfBadChain, .dfAbandoned]

/-- What such work leaves standing between two states. -/
structure State.Upholds (s t : State) : Prop where
  board : t.board = s.board
  regs : State.regsBut workRegs s t
  /-- No change of owner comes up. -/
  ownerNext : s.hi.ownerNext = none → t.hi.ownerNext = none
  /-- A rebuild of the KLT goes on. -/
  rebuild : s.klt.running ≠ [] → t.klt.running ≠ []
  /-- No command comes into flight. -/
  gone : ∀ id, s.cmd? id = none → t.cmd? id = none
  seq : s.ms.seq ≤ t.ms.seq
  test : t.ms.test = s.ms.test
  /-- No slice test starts. -/
  slice : s.ms.slice = none → t.ms.slice = none
  sliceLast : t.ms.sliceLast = s.ms.sliceLast
  /-- No unit returns to service. -/
  retired : ∀ k n, s.isRetired k n = true → t.isRetired k n = true

/-- The parts that hold the records of retirement. -/
def Part.units : List Part := [.mc, .cx, .ce, .wc, .ed, .sm]

theorem State.isRetired_congr {s t : State} (h : ∀ p ∈ Part.units, s.agree t p) : t.isRetired = s.isRetired := by
  have hmc : t.mc = s.mc := h .mc (by simp [Part.units])
  have hcx : t.cx = s.cx := h .cx (by simp [Part.units])
  have hce : t.ce = s.ce := h .ce (by simp [Part.units])
  have hwc : t.wc = s.wc := h .wc (by simp [Part.units])
  have hed : t.ed = s.ed := h .ed (by simp [Part.units])
  have hsm : t.sm = s.sm := h .sm (by simp [Part.units])
  funext k n
  unfold State.isRetired
  rw [hmc, hcx, hce, hwc, hed, hsm]

/-- A frame that names no part with records of retirement. -/
theorem State.isRetired_of_frame {l : List Part} {s t : State} (h : Frame l s t)
    (hl : (Part.units.all fun p => !l.contains p) = true := by rfl) : t.isRetired = s.isRetired :=
  State.isRetired_congr fun p hp => h p (by simpa using List.all_eq_true.mp hl p hp)

/-- Commands in flight are looked up in QE's list alone. -/
theorem State.cmd?_congr {s t : State} (h : t.qe.cmds = s.qe.cmds) : t.cmd? = s.cmd? := by
  funext id
  simp only [State.cmd?, h]

/-- A compressor or decompressor is retired; decompressors count from 32. -/
def State.engineRetired (s : State) (q : Nat) : Bool := ((s.cx.engines.find q).map (·.retired)).getD false

/-- A channel pair is retired. -/
def State.pairRetired (s : State) (q : Nat) : Bool := ((s.mc.pairs.find q).map (·.retired)).getD false

/-- Units stay retired where no record of a kind is taken back. -/
theorem State.isRetired_mono {s t : State}
    (tracks : ∀ n ∈ s.wc.retired, n ∈ t.wc.retired := by exact fun _ h => h)
    (lanes : ∀ n ∈ s.ed.retired, n ∈ t.ed.retired := by exact fun _ h => h)
    (engines : ∀ q, s.engineRetired q = true → t.engineRetired q = true := by exact fun _ h => h)
    (cores : ∀ n ∈ s.ce.retired, n ∈ t.ce.retired := by exact fun _ h => h)
    (pairs : ∀ q, s.pairRetired q = true → t.pairRetired q = true := by exact fun _ h => h)
    (readers : ∀ n ∈ s.sm.readersRetired, n ∈ t.sm.readersRetired := by exact fun _ h => h) (k n : Nat) :
    s.isRetired k n = true → t.isRetired k n = true := by
  unfold State.isRetired
  split
  · simpa using tracks n
  · simpa using lanes n
  · exact engines n
  · exact engines (32 + n)
  · simpa using cores n
  · exact pairs (n / 2)
  · simpa using readers n
  · exact id

theorem mem_insBy {α : Type} {key : α → Nat} {a b : α} {l : List α} : b ∈ insBy key a l ↔ b = a ∨ b ∈ l := by
  induction l with
  | nil => simp [insBy]
  | cons c l ih =>
    unfold insBy
    split
    · simp
    · simp only [List.mem_cons, ih]
      tauto

theorem mem_insBy_of_mem {α : Type} {key : α → Nat} {a b : α} {l : List α} (h : b ∈ l) : b ∈ insBy key a l :=
  mem_insBy.mpr (.inr h)

@[simp] theorem State.engineRetired_dropEngine_self (s : State) (n : Nat) : (s.dropEngine n).engineRetired n = true := by
  simp [State.engineRetired, State.dropEngine]

theorem State.engineRetired_dropEngine_ne {s : State} {n q : Nat} (h : q ≠ n) :
    (s.dropEngine n).engineRetired q = s.engineRetired q := by
  simp [State.engineRetired, State.dropEngine, Tab.find_set_ne _ _ h]

namespace State.Upholds

variable {s t u : State}

theorem refl : s.Upholds s := ⟨rfl, State.regsBut_refl, id, id, fun _ h => h, le_rfl, rfl, id, rfl, fun _ _ h => h⟩

theorem trans (h1 : s.Upholds t) (h2 : t.Upholds u) : s.Upholds u where
  board := h2.board.trans h1.board
  regs := State.regsBut_trans h1.regs h2.regs
  ownerNext h := h2.ownerNext (h1.ownerNext h)
  rebuild h := h2.rebuild (h1.rebuild h)
  gone id h := h2.gone id (h1.gone id h)
  seq := h1.seq.trans h2.seq
  test := h2.test.trans h1.test
  slice h := h2.slice (h1.slice h)
  sliceLast := h2.sliceLast.trans h1.sliceLast
  retired k n h := h2.retired k n (h1.retired k n h)

theorem ite {c : Prop} [Decidable c] (h1 : s.Upholds t) (h2 : s.Upholds u) : s.Upholds (if c then t else u) := by
  split
  · exact h1
  · exact h2

theorem fold {α : Type} {f : State → α → State} (h : ∀ u a, State.Upholds u (f u a)) (xs : List α) :
    s.Upholds (xs.foldl f s) := by
  induction xs generalizing s with
  | nil => exact refl
  | cons a xs ih => exact (h s a).trans ih

/-! ### Steps that touch one thing -/

/-- A step that leaves registers, MS, the KLT, the pending owner and the commands as they are, and returns no unit. -/
theorem of_eq (hb : t.board = s.board := by rfl) (hr : t.regs = s.regs := by rfl)
    (hh : t.hi.ownerNext = s.hi.ownerNext := by rfl) (hk : t.klt = s.klt := by rfl)
    (hq : ∀ id, s.cmd? id = none → t.cmd? id = none := by exact fun _ h => h) (hm : t.ms = s.ms := by rfl)
    (hu : ∀ k n, s.isRetired k n = true → t.isRetired k n = true := by exact fun _ _ h => h) : s.Upholds t where
  board := hb
  regs r i k _ := by rw [State.reg_congr hr hb]
  ownerNext h := hh.trans h
  rebuild h := by rwa [hk]
  gone := hq
  seq := by rw [hm]
  test := by rw [hm]
  slice h := by rwa [hm]
  sliceLast := by rw [hm]
  retired := hu

/-- The parts that nothing of the relation speaks of. -/
def plain : List Part := [.latch, .pendWord, .pe, .bm, .df, .rc, .vc, .ct, .out, .fresh, .pending]

theorem of_frame {l : List Part} (h : Frame l s t) (hl : l.all (plain.contains ·) = true := by rfl) : s.Upholds t := by
  have hp : Frame plain s t := h.mono hl
  refine of_eq (hp .board rfl) (hp .regs rfl) ?_ (hp .klt rfl) (fun id h => ?_) (hp .ms rfl) ?_
  · rw [hp .hi rfl]
  · rwa [State.cmd?_congr (congrArg QeState.cmds (hp .qe rfl))]
  · rw [State.isRetired_of_frame hp]
    exact fun _ _ h => h

theorem setReg {r : RegName} {i k v : Nat} (hr : r ∈ workRegs) : s.Upholds (s.setReg r i k v) :=
  ⟨rfl, State.regsBut_setReg hr, id, id, fun _ h => h, le_rfl, rfl, id, rfl, fun _ _ h => h⟩

theorem bump {r : RegName} {i k : Nat} (hr : r ∈ workRegs) : s.Upholds (s.bump r i k) := setReg hr

theorem ms {x : MsState} (hseq : x.seq = s.ms.seq) (htest : x.test = s.ms.test)
    (hslice : s.ms.slice = none → x.slice = none) (hlast : x.sliceLast = s.ms.sliceLast) :
    s.Upholds { s with ms := x } :=
  ⟨rfl, State.regsBut_of_frame (Frame.ms (l := [.ms]) Frame.refl rfl), id, id, fun _ h => h, hseq.ge, htest, hslice, hlast,
    fun _ _ h => h⟩

theorem modFctx {f : Fn} {g : FnCtx → FnCtx} : s.Upholds (s.modFctx f g) := of_eq

theorem setCq {f c : Nat} {q : CqCtx} : s.Upholds (s.setCq f c q) := of_eq

theorem setSq {f r : Nat} {q : SqCtx} : s.Upholds (s.setSq f r q) := of_eq

theorem emit {o : Out} : s.Upholds (s.emit o) := of_frame State.emit_frame

/-- A trigger starts a rebuild, or waits for the next one while one runs (R41). -/
theorem kltTrigger {scope : KltScope} {reset : Bool} : s.Upholds (s.kltTrigger scope reset) where
  board := State.kltTrigger_frame .board rfl
  regs := State.regsBut_of_frame State.kltTrigger_frame
  ownerNext h := by rwa [State.kltTrigger_frame .hi rfl]
  rebuild h := by
    unfold State.kltTrigger
    extract_lets k
    split
    · exact List.cons_ne_nil _ _
    · exact h
  gone id h := by rwa [State.cmd?_congr (congrArg QeState.cmds (State.kltTrigger_frame .qe rfl))]
  seq := by rw [State.kltTrigger_frame .ms rfl]
  test := by rw [State.kltTrigger_frame .ms rfl]
  slice h := by rwa [State.kltTrigger_frame .ms rfl]
  sliceLast := by rw [State.kltTrigger_frame .ms rfl]
  retired k n h := by rwa [State.isRetired_of_frame State.kltTrigger_frame]

theorem logEv {ev : Ev} {tenant unit value : Nat} : s.Upholds (s.logEv ev tenant unit value) := by
  obtain ⟨b, n, q, c, g, hms⟩ := s.logEv_ms ev tenant unit value
  refine ⟨State.logEv_frame .board rfl, State.regsBut_mono State.logEv_regsBut (by simp [workRegs]), ?_, ?_, ?_, ?_, ?_, ?_,
    ?_, ?_⟩
  · rw [State.logEv_frame .hi rfl]
    exact id
  · rw [State.logEv_frame .klt rfl]
    exact id
  · rw [State.cmd?_congr (congrArg QeState.cmds (State.logEv_frame .qe rfl))]
    exact fun _ h => h
  · exact (State.logEv_seq ..).ge.trans' (Nat.le_succ _)
  · rw [hms]
  · rw [hms]
    exact id
  · rw [hms]
  · rw [State.isRetired_of_frame State.logEv_frame]
    exact fun _ _ h => h

/-! ### Chimes and completions (R87 to R94, R103) -/

theorem signal {f c : Nat} : s.Upholds (s.signal f c) := by
  unfold State.signal
  extract_lets q v u
  have hu : s.Upholds u := setCq
  exact ite (ite (hu.trans modFctx) (hu.trans emit)) refl

theorem moderate {f c : Nat} : s.Upholds (s.moderate f c) := by
  unfold State.moderate
  extract_lets q cnt tim u
  exact ite refl (setCq.trans signal)

theorem postEntry {f c w0 w1 w2 w3 : Nat} : s.Upholds (s.postEntry f c w0 w1 w2 w3) := by
  unfold State.postEntry
  extract_lets q w3' u last v
  exact (emit.trans setCq).trans moderate

theorem loseChime {f : Fn} : s.Upholds (s.loseChime f) := modFctx.trans (bump (by simp [workRegs]))

theorem chime {f : Fn} {code arg arg2 seq : Nat} : s.Upholds (s.chime f code arg arg2 seq) := by
  have hkept (m : Chime) : s.Upholds
      ((if (s.fctx f).chimes.any (·.code == code) then s.loseChime f else s).modFctx f
        fun x => { x with chimes := insertChime m x.chimes }) := (ite loseChime refl).trans modFctx
  unfold State.chime
  refine ite refl (ite refl (ite loseChime ?_))
  extract_lets m
  split
  · exact ite postEntry (hkept m)
  · exact hkept m

theorem chimeOwner {code arg arg2 seq : Nat} : s.Upholds (s.chimeOwner code arg arg2 seq) := by
  unfold State.chimeOwner
  split
  · exact chime
  · exact refl

theorem windowDone {f status detail result : Nat} : s.Upholds (s.windowDone f status detail result) := by
  unfold State.windowDone
  extract_lets u v w
  exact ((setReg (by simp [workRegs])).trans (setReg (by simp [workRegs]))).trans
    ((setReg (by simp [workRegs])).trans chime)

theorem makeReady {f ring tag status detail result : Nat} {devrst : Bool} :
    s.Upholds (s.makeReady f ring tag status detail result devrst) := by
  have hqe {x : QeState} (hx : x.cmds = s.qe.cmds) : s.Upholds { s with qe := x } := by
    refine of_eq (hq := fun id h => ?_)
    rwa [State.cmd?_congr hx]
  unfold State.makeReady
  extract_lets u q
  exact ite (ite (hqe rfl) refl) (ite (windowDone.trans setSq) (hqe rfl))

/-! ### A change of owner (R64) -/

theorem abandonUpdate {reason : Nat} : s.Upholds (s.abandonUpdate reason) := by
  unfold State.abandonUpdate
  extract_lets x v
  have hv : s.Upholds v := ms rfl rfl id rfl
  exact ite refl (hv.trans chimeOwner)

theorem changeOwner {next : Option Nat} : s.Upholds (s.changeOwner next) := by
  have hhi {x : HiState} (hx : x.ownerNext = none) : s.Upholds { s with hi := x } :=
    ⟨rfl, State.regsBut_of_frame (Frame.hi (l := [.hi]) Frame.refl rfl), fun _ => hx, id, fun _ h => h, le_rfl, rfl, id, rfl,
      fun _ _ h => h⟩
  unfold State.changeOwner
  extract_lets old h s1 s2 pfs s3 s4 m s5 m'
  have h1 : s.Upholds s1 := hhi rfl
  have h4 : s.Upholds s4 := ((h1.trans abandonUpdate).trans kltTrigger).trans (fold (fun _ _ => chime) _)
  have h5 : s.Upholds s5 := by
    unfold s5
    split
    · refine (h4.trans ?_).trans chimeOwner
      exact ms rfl rfl id rfl
    · exact h4
  refine ite ?_ (h5.trans ?_)
  · exact hhi rfl
  · exact ms rfl rfl id rfl

theorem settleOwner : s.Upholds s.settleOwner := by
  unfold State.settleOwner
  split
  · exact refl
  · exact ite refl changeOwner

/-! ### The end of a command, and errors deferred (R87, R132) -/

theorem dropCmd {id : Nat} : s.Upholds (s.dropCmd id) := by
  refine of_eq (hq := fun j h => ?_)
  rw [State.cmd?, List.find?_eq_none] at h ⊢
  exact fun c hc => h c (List.mem_filter.mp hc).1

theorem countReset {f ring tag : Nat} : s.Upholds (s.countReset f ring tag) := by
  unfold State.countReset
  extract_lets q
  exact ite setSq refl

theorem finishCmd {c : Cmd} {status detail result : Nat} : s.Upholds (s.finishCmd c status detail result) := by
  unfold State.finishCmd
  extract_lets wc s1 res s2 s3 s4
  have h1 : s.Upholds s1 := by
    unfold s1
    split
    · exact ite refl (of_frame State.giveBack_frame)
    · exact refl
  have h2 : s1.Upholds s2 := by
    unfold s2
    split
    · exact ite (of_frame State.tellCredit_frame) refl
    · exact refl
  exact ((h1.trans h2).trans (dropCmd.trans countReset)).trans (makeReady.trans settleOwner)

theorem recredit : s.Upholds s.recredit := by
  refine fold (fun u k => ?_) _
  unfold State.creditChime
  split
  · extract_lets v
    have hv : u.Upholds v := of_frame State.setStream_frame
    refine ite ?_ refl
    split
    · exact hv.trans chime
    · exact hv
  · exact refl

/-- A truncation takes jobs off compressors, and leaves their retirement as it is (R121). -/
theorem truncate {k r : Nat} : s.Upholds (s.truncate k r) := by
  unfold State.truncate
  split
  · exact refl
  extract_lets hit gone back killed tapeEnd dropped cx s1 pe s2 s3
  have h1 : s.Upholds s1 := by
    refine of_eq (hu := ?_)
    refine State.isRetired_mono (engines := fun q h => ?_)
    unfold State.engineRetired at h ⊢
    rw [← h, Tab.find_each]
    cases s.cx.engines.find q with
    | none => rfl
    | some e =>
      dsimp only [Option.map]
      split <;> rfl
  have h2 : s1.Upholds s2 := of_frame (Frame.pe (l := [.pe]) Frame.refl rfl)
  exact ((h1.trans h2).trans (of_frame State.setStream_frame)).trans (of_frame State.giveBack_frame)

theorem logDeferred {k : Nat} : s.Upholds (s.logDeferred k) := by
  unfold State.logDeferred
  split
  · split
    · exact ite ((of_frame State.setStream_frame).trans logEv) refl
    · exact refl
  · exact refl

theorem modStream {k : Nat} {g : Stream → Stream} : s.Upholds (s.modStream k g) := of_frame State.modStream_frame

theorem deferError {k l detail : Nat} : s.Upholds (s.deferError k l detail) := by
  unfold State.deferError
  split
  · exact refl
  extract_lets e s1 hit s2 s3 s4 s5 s6
  have h3 : s.Upholds s3 := ((of_frame State.setStream_frame).trans truncate).trans modStream
  have h4 : s.Upholds s4 := h3.trans (fold (fun _ _ => finishCmd) _)
  have h5 : s4.Upholds s5 := ite refl modStream
  have h6 : s5.Upholds s6 := ite logDeferred refl
  exact ((h4.trans h5).trans h6).trans recredit

theorem cutOff : s.Upholds s.cutOff := fold (fun _ _ => deferError) _

/-! ### Frames written again (R22, R331, R332) -/

theorem abandon {d : Dataset} : s.Upholds (s.abandon d) := by
  unfold State.abandon
  extract_lets hit streams s1 s2 pe qe df s3 s4
  have h2 : s.Upholds s2 := by
    refine (of_frame State.modDataset_frame).trans (fold (fun u k => ?_) _)
    split
    · exact deferError
    · exact refl
  have h3 : s2.Upholds s3 := by
    refine of_eq (hq := fun id h => ?_)
    rw [State.cmd?, List.find?_eq_none] at h ⊢
    intro x hx
    obtain ⟨c, hc, rfl⟩ := List.mem_map.mp (show x ∈ List.map _ s2.qe.cmds from hx)
    split
    · exact h c hc
    · exact h c hc
  have h4 : s3.Upholds s4 := (setReg (by simp [workRegs])).trans (setReg (by simp [workRegs]))
  exact ((h2.trans h3).trans h4).trans ((bump (by simp [workRegs])).trans logEv)

theorem restart {ds : Nat} : s.Upholds (s.restart ds) := by
  unfold State.restart
  split
  · exact refl
  extract_lets s1 s2 df s3
  have h1 : s.Upholds s1 := of_frame (Frame.df (l := [.df]) Frame.refl rfl)
  have h3 : s1.Upholds s3 := (of_frame State.modDataset_frame).trans (of_frame (Frame.df (l := [.df]) Frame.refl rfl))
  exact ite refl (ite (h1.trans abandon) ((h1.trans h3).trans logEv))

theorem needRewrite {d : Dataset} {t i slot : Nat} : s.Upholds (s.needRewrite d t i slot) := by
  unfold State.needRewrite
  extract_lets s1 most r df
  have h1 : s.Upholds s1 := of_frame State.modDataset_frame
  refine ite refl (ite (h1.trans restart) (h1.trans ?_))
  exact (of_frame (Frame.df (l := [.df]) Frame.refl rfl)).trans (of_frame State.noteRewrites_frame)

theorem loseFrame {p : FramePos} : s.Upholds (s.loseFrame p) := by
  unfold State.loseFrame
  split
  · exact refl
  extract_lets s1
  have h1 : s.Upholds s1 := of_frame State.modDataset_frame
  split
  · exact h1.trans needRewrite
  · split
    · exact h1.trans (of_frame State.modRewrite_frame)
    · exact h1
  · exact h1

theorem rewriteSlot {slot : Nat} : s.Upholds (s.rewriteSlot slot) :=
  fold (fun _ _ => fold (fun _ _ => ite refl loseFrame) _) _

/-! ### Trips (R25, R406) -/

theorem raiseTrigger {k : Nat} : s.Upholds (s.raiseTrigger k) := by
  unfold State.raiseTrigger
  extract_lets new s1 wc
  have h1 : s.Upholds s1 := by
    unfold s1
    split
    case h_1 r hr =>
      refine ite (bump ?_) refl
      unfold triggerCounter at hr
      split at hr <;> simp_all [workRegs]
    · exact refl
  exact h1.trans of_eq

theorem trip {cause engine : Nat} : s.Upholds (s.trip cause engine) := by
  unfold State.trip
  extract_lets s1 s2 s3 wc df sm
  have h1 : s.Upholds s1 := logEv
  have h2 : s1.Upholds s2 := ite (setReg (by simp [workRegs])) refl
  have h3 : s2.Upholds s3 := raiseTrigger
  refine ite h1 (((h1.trans h2).trans h3).trans ?_)
  exact of_eq

theorem readersTrip : s.Upholds s.readersTrip := ite trip refl

/-! ### Units (R22, R25, R484) -/

theorem yieldUnit {k n : Nat} : s.Upholds (s.yieldUnit k n) := by
  unfold State.yieldUnit
  extract_lets m
  refine ite (Upholds.trans ?_ (bump ?_)) refl
  · exact ms rfl rfl (fun _ => rfl) rfl
  · simp [workRegs]

theorem dropEngine {n : Nat} : s.Upholds (s.dropEngine n) := by
  refine of_eq (hu := ?_)
  refine State.isRetired_mono (engines := fun q h => ?_)
  by_cases hq : q = n
  · rw [hq, State.engineRetired_dropEngine_self]
  · rwa [State.engineRetired_dropEngine_ne hq]

theorem dropUnit {k n : Nat} : s.Upholds (s.dropUnit k n) := by
  unfold State.dropUnit
  split
  · refine (Upholds.trans ?_ yieldUnit).trans rewriteSlot
    exact of_eq (hu := State.isRetired_mono (tracks := fun _ h => mem_insBy_of_mem h))
  · exact of_eq (hu := State.isRetired_mono (lanes := fun _ h => mem_insBy_of_mem h))
  · exact dropEngine
  · exact dropEngine
  · exact of_eq (hu := State.isRetired_mono (cores := fun _ h => mem_insBy_of_mem h))
  · refine Upholds.trans ?_ readersTrip
    exact of_eq (hu := State.isRetired_mono (readers := fun _ h => mem_insBy_of_mem h))
  · exact refl

theorem tellRetired {k n : Nat} : s.Upholds (s.tellRetired k n) := (logEv.trans chimeOwner).trans kltTrigger

theorem newlyBelow {k : Nat} {was : Bool} : s.Upholds (s.newlyBelow k was) := ite cutOff refl

theorem schedulePair {n unit : Nat} : s.Upholds (s.schedulePair n unit) := by
  refine ite refl (Upholds.trans ?_ tellRetired)
  refine of_eq (hu := ?_)
  refine State.isRetired_mono (pairs := fun q h => ?_)
  rw [State.pairRetired] at h ⊢
  by_cases hq : q = n
  · subst hq
    cases hp : s.mc.pairs.find q with
    | none => simp [hp] at h
    | some p => simpa [State.setPair, State.pair, Tab.get, hp] using h
  · rwa [State.setPair, Tab.find_set_ne _ _ hq]

theorem retireUnit {k n : Nat} : s.Upholds (s.retireUnit k n) := by
  unfold State.retireUnit
  extract_lets was m s1
  have h1 : s.Upholds s1 := ite (ms rfl rfl (fun _ => rfl) rfl) refl
  exact ite schedulePair (ite refl ((h1.trans dropUnit).trans (tellRetired.trans newlyBelow)))

end State.Upholds
end Machine

end Sys2Proof
end

section
/-! SELF_TEST, UNIT_CTRL and the slice tests (R22, R23, R481 to R486): how a command in hand ends, what a retirement and a
return do to their unit, and what a run of tests records. -/

namespace Sys2Proof.Machine

-- One theorem at a time: run ahead of the kernel, each would hold a thread and its stack.
set_option Elab.async false

/-! ### A command that is ready, and its end (R87, R97) -/

/-- A command that is ready runs at once: nothing is left to resolve or to grant. -/
theorem State.bringIn_of_holds {s : State} {id op : Nat} {c : Cmd} (h : s.holds id op c) : s.bringIn id = s := by
  obtain ⟨hc, hp, -, -⟩ := h
  have hr : s.resolveId id = s := by simp [State.resolveId, hc, State.mayResolve, hp]
  simp [State.bringIn, hr, State.grantId, hc, State.grantCmd, hp]

theorem State.onCommand_of_holds {s : State} {id op : Nat} {c : Cmd} (h : s.holds id op c) (run : State → Cmd → State) :
    s.onCommand id op run = run s c := by
  have hb := State.bringIn_of_holds h
  obtain ⟨hc, hp, ho, -⟩ := h
  simp [State.onCommand, hb, hc, hp, ho]

/-- With no change of owner waiting, the end of a command that is not of the write class is its leaving, and its completion
made ready. -/
theorem State.finishCmd_of_settled {s : State} (c : Cmd) (status detail result : Nat) (hn : s.hi.ownerNext = none)
    (hw : isWriteClass (entOpcode c.entry) = false) :
    ∃ (u : State) (d : Bool), Frame [.qe, .pe, .bm] s u ∧ u.cmd? c.id = none ∧
      s.finishCmd c status detail result = u.makeReady c.fn c.ring (entTag c.entry) status detail result d := by
  unfold State.finishCmd
  extract_lets wc s1 res s2 s3 s4
  have h1 : Frame [.qe, .pe, .bm] s s1 := by
    unfold s1
    split
    · exact Frame.ite Frame.refl (State.giveBack_frame.mono rfl)
    · exact Frame.refl
  have h2 : s2 = s1 := by
    unfold s2 wc
    rw [hw]
    split <;> rfl
  have h3 : Frame [.qe, .pe, .bm] s s3 := (h2 ▸ h1).step State.dropCmd_frame rfl
  have h4 : Frame [.qe, .pe, .bm] s s4 := h3.step State.countReset_frame rfl
  have hgone : s4.cmd? c.id = none := by
    refine State.Upholds.countReset.gone _ ?_
    simp [s3, State.dropCmd, State.cmd?]
  have hres : res = result := if_neg (by simp [wc, hw])
  refine ⟨s4, entOpcode c.entry == 0x53 && status == stSuccess, h4, hgone, ?_⟩
  rw [hres, State.settleOwner, State.Upholds.makeReady.ownerNext]
  rw [h4 .hi rfl]
  exact hn

theorem State.finishCmd_frame_of_settled {s : State} {c : Cmd} {status detail result : Nat} (hn : s.hi.ownerNext = none)
    (hw : isWriteClass (entOpcode c.entry) = false) :
    Frame [.regs, .hi, .qe, .pe, .bm, .out] s (s.finishCmd c status detail result) := by
  obtain ⟨u, d, hu, -, he⟩ := s.finishCmd_of_settled c status detail result hn hw
  rw [he]
  exact (hu.mono rfl).step State.makeReady_frame rfl

/-- The completion ring of a ring is a field of a register that only QE's rings write. -/
theorem State.boundCq_congr {s t : State} (h : t.reg .qeSqCfg = s.reg .qeSqCfg) : t.boundCq = s.boundCq := by
  funext f ring
  simp only [State.boundCq, State.fld, h]

/-- On a host ring a completion that is made ready waits for the ring's completion ring (R88). -/
theorem State.makeReady_of_host {s : State} {f ring tag status detail result : Nat} {d : Bool} (h : ring < windowRing) :
    (s.makeReady f ring tag status detail result d).qe.ready =
      s.qe.ready ++ [⟨f, s.boundCq f ring, ring, 0, min result 0xFFFFFFFF, status, detail, tag, d⟩] := by
  have hg : ring ≠ goneRing := (h.trans (by decide)).ne
  rw [State.makeReady, if_neg hg, if_neg h.ne]

/-- The end of a command tells its outcome, also after work that left the rings' settings alone. -/
theorem State.told_finishCmd {s u : State} {c : Cmd} {status detail result : Nat} (hn : u.hi.ownerNext = none)
    (hb : u.reg .qeSqCfg = s.reg .qeSqCfg) (hw : isWriteClass (entOpcode c.entry) = false) :
    s.told (u.finishCmd c status detail result) c status detail result := by
  obtain ⟨v, d, hv, hgone, he⟩ := u.finishCmd_of_settled c status detail result hn hw
  rw [he]
  refine ⟨State.Upholds.makeReady.gone _ hgone, fun hring => ?_⟩
  have hcq : v.boundCq = s.boundCq :=
    State.boundCq_congr ((congrFun (State.reg_congr (hv .regs rfl) (hv .board rfl)) _).trans hb)
  refine ⟨⟨c.fn, v.boundCq c.fn c.ring, c.ring, 0, min result 0xFFFFFFFF, status, detail, entTag c.entry, d⟩, ?_, rfl, ?_,
    rfl, rfl, rfl, rfl, rfl⟩
  · rw [State.makeReady_of_host hring]
    exact List.mem_append_right _ (List.mem_singleton_self _)
  · rw [hcq]

/-- What the part's work upholds, a command can end on. -/
theorem State.Upholds.told_finishCmd {s u : State} (h : s.Upholds u) {c : Cmd} {status detail result : Nat}
    (hn : s.hi.ownerNext = none) (hw : isWriteClass (entOpcode c.entry) = false) :
    s.told (u.finishCmd c status detail result) c status detail result := by
  refine State.told_finishCmd (h.ownerNext hn) ?_ hw
  funext i k
  exact h.regs .qeSqCfg i k rfl

/-! ### Retirement (R21, R22) -/

theorem State.present_congr {s t : State} (h : t.board = s.board) : t.present = s.present := by
  funext k
  simp only [State.present, State.parts, h]

theorem State.kltTrigger_running (s : State) (scope : KltScope) (reset : Bool) :
    (s.kltTrigger scope reset).klt.running ≠ [] := by
  unfold State.kltTrigger
  extract_lets k
  split
  case isTrue => exact List.cons_ne_nil _ _
  case isFalse h => exact fun he => h (List.isEmpty_iff.mpr he)

theorem State.tellRetired_running (s : State) (k n : Nat) : (s.tellRetired k n).klt.running ≠ [] :=
  State.kltTrigger_running _ _ _

/-- A retirement is logged once. -/
theorem State.tellRetired_seq (s : State) (k n : Nat) : (s.tellRetired k n).ms.seq = s.ms.seq + 1 := by
  rw [State.tellRetired, State.kltTrigger_frame .ms rfl, State.chimeOwner_frame .ms rfl, State.logEv_seq]

/-- The kinds of units that leave service at once; a memory channel waits for its pair's turn (R23). -/
def unitKinds : List Nat := [1, 2, 3, 4, 5, 7]

theorem State.isRetired_dropUnit {s : State} {k n : Nat} (hk : k ∈ unitKinds) : (s.dropUnit k n).isRetired k n = true := by
  simp only [unitKinds, List.mem_cons, List.not_mem_nil, or_false] at hk
  rcases hk with rfl | rfl | rfl | rfl | rfl | rfl
  · refine (State.Upholds.yieldUnit.trans State.Upholds.rewriteSlot).retired 1 n ?_
    simp [State.isRetired, mem_insBy]
  · simp [State.dropUnit, State.isRetired, mem_insBy]
  · exact State.engineRetired_dropEngine_self s n
  · exact State.engineRetired_dropEngine_self s (32 + n)
  · simp [State.dropUnit, State.isRetired, mem_insBy]
  · refine State.Upholds.readersTrip.retired 7 n ?_
    simp [State.isRetired, mem_insBy]

/-- What RETIRE does to a unit that is present and in service. -/
theorem State.retireUnit_of_standing {s : State} {k n : Nat} (hk : k ∈ unitKinds) (hn : n < s.present k)
    (hr : s.isRetired k n = false) :
    ∃ u, s.Upholds u ∧ s.retireUnit k n = ((u.dropUnit k n).tellRetired k n).newlyBelow k (s.below k) := by
  have h6 : k ≠ 6 := by
    rintro rfl
    exact absurd hk (by decide)
  refine ⟨if s.ms.slice = some (k, n) then { s with ms := { s.ms with slice := none } } else s, ?_, ?_⟩
  · refine State.Upholds.ite ?_ State.Upholds.refl
    exact State.Upholds.ms rfl rfl (fun _ => rfl) rfl
  · rw [State.retireUnit, if_neg h6, if_neg (by simp [hr, hn])]

theorem State.isRetired_retireUnit {s : State} {k n : Nat} (hk : k ∈ unitKinds) (hn : n < s.present k) :
    (s.retireUnit k n).isRetired k n = true := by
  cases hr : s.isRetired k n with
  | true => exact State.Upholds.retireUnit.retired k n hr
  | false =>
    obtain ⟨u, -, he⟩ := State.retireUnit_of_standing hk hn hr
    rw [he]
    exact (State.Upholds.tellRetired.trans State.Upholds.newlyBelow).retired k n (State.isRetired_dropUnit hk)

/-- The retirement of a unit in service is logged, and the KLT is rebuilt. -/
theorem State.retireUnit_tells {s : State} {k n : Nat} (hk : k ∈ unitKinds) (hn : n < s.present k)
    (hr : s.isRetired k n = false) :
    s.ms.seq + 1 ≤ (s.retireUnit k n).ms.seq ∧ (s.retireUnit k n).klt.running ≠ [] := by
  obtain ⟨u, hu, he⟩ := State.retireUnit_of_standing hk hn hr
  have hdrop : s.Upholds (u.dropUnit k n) := hu.trans State.Upholds.dropUnit
  have hlast : ((u.dropUnit k n).tellRetired k n).Upholds (s.retireUnit k n) := by
    rw [he]
    exact State.Upholds.newlyBelow
  refine ⟨?_, hlast.rebuild (State.tellRetired_running _ _ _)⟩
  calc s.ms.seq + 1 ≤ (u.dropUnit k n).ms.seq + 1 := Nat.succ_le_succ hdrop.seq
    _ = ((u.dropUnit k n).tellRetired k n).ms.seq := (State.tellRetired_seq ..).symm
    _ ≤ (s.retireUnit k n).ms.seq := hlast.seq

/-! ### Runs of tests (R480, R485) -/

/-- What the results of a run change in MS before the failed units are retired. -/
structure MsState.Noted (m : MsState) (run : Nat) (r : TestRead) (x : MsState) : Prop where
  seq : x.seq = m.seq
  slice : x.slice = m.slice
  sliceLast : x.sliceLast = m.sliceLast
  run : x.test.run = run
  islands : x.test.islands = r.islands
  testSeq : x.test.seq = m.test.seq + 1

/-- A run is noted, then its failed units are retired in turn. -/
theorem State.recordRun_eq (s : State) (run : Nat) (r : TestRead) :
    ∃ x, s.ms.Noted run r x ∧
      s.recordRun run r = r.failed.foldl (fun u f => u.retireUnit f.1 f.2) { s with ms := x } := by
  refine ⟨_, ?_, rfl⟩
  exact ⟨rfl, rfl, rfl, rfl, rfl, rfl⟩

/-- Of units retired in turn, each that is present has left service. -/
theorem State.isRetired_retireAll {s : State} {l : List (Nat × Nat)} {f : Nat × Nat} (hf : f ∈ l) (hk : f.1 ∈ unitKinds)
    (hn : f.2 < s.present f.1) : (l.foldl (fun u f => u.retireUnit f.1 f.2) s).isRetired f.1 f.2 = true := by
  induction l generalizing s with
  | nil => cases hf
  | cons a l ih =>
    rcases List.mem_cons.mp hf with rfl | hf
    · exact (State.Upholds.fold (fun _ _ => State.Upholds.retireUnit) l).retired _ _ (State.isRetired_retireUnit hk hn)
    · refine ih hf ?_
      rwa [State.present_congr State.Upholds.retireUnit.board]

/-- What a run of tests leaves: its results, every failed unit retired, and nothing else brought back. -/
theorem State.recordRun_spec (s : State) (run : Nat) (r : TestRead) :
    ∃ x, s.ms.Noted run r x ∧ State.Upholds { s with ms := x } (s.recordRun run r) ∧
      (r.failed = [] → s.recordRun run r = { s with ms := x }) ∧
      ∀ f ∈ r.failed, f.1 ∈ unitKinds → f.2 < s.present f.1 → (s.recordRun run r).isRetired f.1 f.2 = true := by
  obtain ⟨x, hx, he⟩ := s.recordRun_eq run r
  refine ⟨x, hx, ?_, fun h => ?_, fun f hf hk hn => ?_⟩
  · rw [he]
    exact State.Upholds.fold (fun _ _ => State.Upholds.retireUnit) _
  · rw [he, h]
    rfl
  · rw [he]
    exact State.isRetired_retireAll hf hk hn

/-! ### SELF_TEST (R485) -/

/-- The units that a SELF_TEST finds failed among those its entry names. -/
def Cmd.testFailed (c : Cmd) (r : TestRead) : List (Nat × Nat) :=
  r.failed.filter (testNamed (entUnitType c.entry) (if entAux c.entry = 1 then some (entUnitNum c.entry) else none))

theorem State.selfTest_of_free {s : State} {c : Cmd} (r : TestRead) (hb : s.testBlocked (entUnitType c.entry) = false) :
    s.selfTest c r = (s.recordRun 3 ⟨r.islands, c.testFailed r, r.repairs, r.ms⟩).finishCmd c
      (if c.testFailed r = [] then stSuccess else stTestFailed) 0 (c.testFailed r).length := by
  simp only [← List.length_eq_zero_iff]
  exact if_neg (by simp [hb])

/-- SELF_TEST where its units may be tested. -/
theorem selfTest_runs {s : State} {id : Nat} {c : Cmd} (r : TestRead) (h : s.holds id 0x50 c)
    (hb : s.testBlocked (entUnitType c.entry) = false) :
    ∃ t, exec (.selfTest id r) s = .next t ∧
      s.told t c (if c.testFailed r = [] then stSuccess else stTestFailed) 0 (c.testFailed r).length ∧
      t.ms.test.run = 3 ∧ t.ms.test.islands = r.islands ∧ t.ms.test.seq = s.ms.test.seq + 1 ∧
      ∀ f ∈ c.testFailed r, f.1 ∈ unitKinds → f.2 < s.present f.1 → t.isRetired f.1 f.2 = true := by
  have hexec := State.onCommand_of_holds h fun s c => s.selfTest c r
  obtain ⟨-, -, hop, hn⟩ := h
  have hw : isWriteClass (entOpcode c.entry) = false := by rw [hop]; rfl
  obtain ⟨x, hx, hup, -, hret⟩ := s.recordRun_spec 3 ⟨r.islands, c.testFailed r, r.repairs, r.ms⟩
  refine ⟨_, congrArg Host.Outcome.next (hexec.trans (State.selfTest_of_free r hb)), ?_⟩
  have hend := State.finishCmd_frame_of_settled (c := c)
    (status := if c.testFailed r = [] then stSuccess else stTestFailed) (detail := 0)
    (result := (c.testFailed r).length) (hup.ownerNext hn) hw
  rw [hend .ms rfl, State.isRetired_of_frame hend, hup.test]
  exact ⟨hup.told_finishCmd hn hw, hx.run, hx.islands, hx.testSeq, hret⟩

/-- Tests of tracks, channels and readers are refused with a cartridge mounted, on demand and for a return alike. -/
theorem unitTest_blocked {s : State} {id : Nat} {c : Cmd} (r : TestRead)
    (h : s.holds id 0x50 c ∨ (s.holds id 0x52 c ∧ entAux c.entry = 2)) (hb : s.testBlocked (entUnitType c.entry) = true) :
    ∃ t, exec (if entOpcode c.entry = 0x50 then .selfTest id r else .unitCtrlReturn id r) s = .next t ∧
      s.told t c stMediaBusy 3 0 ∧ t.ms = s.ms := by
  have hrefused (hn : s.hi.ownerNext = none) (hw : isWriteClass (entOpcode c.entry) = false) :
      s.told (s.finishCmd c stMediaBusy 3 0) c stMediaBusy 3 0 ∧ (s.finishCmd c stMediaBusy 3 0).ms = s.ms :=
    ⟨State.told_finishCmd hn rfl hw, State.finishCmd_frame_of_settled hn hw .ms rfl⟩
  rcases h with h | ⟨h, haux⟩
  · have hexec := State.onCommand_of_holds h fun s c => s.selfTest c r
    obtain ⟨-, -, hop, hn⟩ := h
    rw [if_pos hop]
    exact ⟨_, congrArg Host.Outcome.next (hexec.trans (if_pos hb)), hrefused hn (by rw [hop]; rfl)⟩
  · have hexec := State.onCommand_of_holds h fun s c => if entAux c.entry = 2 then s.unitReturn c r else s
    obtain ⟨-, -, hop, hn⟩ := h
    rw [if_neg (by rw [hop]; decide)]
    exact ⟨_, congrArg Host.Outcome.next (hexec.trans ((if_pos haux).trans (if_pos hb))), hrefused hn (by rw [hop]; rfl)⟩

/-! ### UNIT_CTRL (R22, R481, R486) -/

/-- UNIT_CTRL runs the operation that its aux field names. -/
theorem State.onUnitCtrl_of_holds {s : State} {id a : Nat} {c : Cmd} (run : State → Cmd → State) (h : s.holds id 0x52 c)
    (haux : entAux c.entry = a) :
    (s.onCommand id 0x52 fun s c => if entAux c.entry = a then run s c else s) = run s c :=
  (State.onCommand_of_holds h _).trans (if_pos haux)

/-- A UNIT_CTRL in hand is not of the write class, and no change of owner waits for it. -/
theorem State.settled_of_unitCtrl {s : State} {id : Nat} {c : Cmd} (h : s.holds id 0x52 c) :
    isWriteClass (entOpcode c.entry) = false ∧ s.hi.ownerNext = none := by
  obtain ⟨-, -, hop, hn⟩ := h
  exact ⟨by rw [hop]; rfl, hn⟩

/-- UNIT_CTRL retires a unit in service. -/
theorem unitCtrlRetire_unit {s : State} {id : Nat} {c : Cmd} (h : s.holds id 0x52 c) (haux : entAux c.entry = 1)
    (hk : entUnitType c.entry ∈ unitKinds) (hp : entUnitNum c.entry < s.present (entUnitType c.entry))
    (hr : s.isRetired (entUnitType c.entry) (entUnitNum c.entry) = false) :
    ∃ t, exec (.unitCtrlRetire id) s = .next t ∧ s.told t c stSuccess 0 0 ∧
      t.isRetired (entUnitType c.entry) (entUnitNum c.entry) = true ∧ s.ms.seq + 1 ≤ t.ms.seq ∧ t.klt.running ≠ [] := by
  obtain ⟨hw, hn⟩ := State.settled_of_unitCtrl h
  have hup : s.Upholds (s.retireUnit (entUnitType c.entry) (entUnitNum c.entry)) := State.Upholds.retireUnit
  obtain ⟨hseq, hrun⟩ := State.retireUnit_tells hk hp hr
  refine ⟨_, congrArg Host.Outcome.next (State.onUnitCtrl_of_holds _ h haux), ?_⟩
  have hend := State.finishCmd_frame_of_settled (c := c) (status := stSuccess) (detail := 0) (result := 0)
    (hup.ownerNext hn) hw
  rw [hend .ms rfl, hend .klt rfl, State.isRetired_of_frame hend]
  exact ⟨hup.told_finishCmd hn hw, State.isRetired_retireUnit hk hp, hseq, hrun⟩

/-- UNIT_CTRL schedules the pair of a memory channel, which stays in the interleave for now (R23). -/
theorem unitCtrlRetire_pair {s : State} {id : Nat} {c : Cmd} (h : s.holds id 0x52 c) (haux : entAux c.entry = 1)
    (hk : entUnitType c.entry = 6) (hp : (s.pair (entUnitNum c.entry / 2)).pendingRetire = false)
    (hr : (s.pair (entUnitNum c.entry / 2)).retired = false) :
    ∃ t, exec (.unitCtrlRetire id) s = .next t ∧ s.told t c stSuccess 0 0 ∧
      (t.pair (entUnitNum c.entry / 2)).pendingRetire = true ∧
      (t.pair (entUnitNum c.entry / 2)).active = (s.pair (entUnitNum c.entry / 2)).active ∧
      (∀ j, j ≠ entUnitNum c.entry / 2 → t.pair j = s.pair j) ∧ s.ms.seq + 1 ≤ t.ms.seq := by
  obtain ⟨hw, hn⟩ := State.settled_of_unitCtrl h
  have hup : s.Upholds (s.retireUnit (entUnitType c.entry) (entUnitNum c.entry)) := State.Upholds.retireUnit
  have hret : s.retireUnit (entUnitType c.entry) (entUnitNum c.entry) =
      (s.setPair (entUnitNum c.entry / 2) { s.pair (entUnitNum c.entry / 2) with pendingRetire := true }).tellRetired 6
        (entUnitNum c.entry) := (if_pos hk).trans (State.schedulePair_of_standing hp hr)
  refine ⟨_, congrArg Host.Outcome.next (State.onUnitCtrl_of_holds _ h haux), ?_⟩
  have hend := State.finishCmd_frame_of_settled (c := c) (status := stSuccess) (detail := 0) (result := 0)
    (hup.ownerNext hn) hw
  rw [hend .ms rfl, State.pair_congr (hend .mc rfl)]
  refine ⟨hup.told_finishCmd hn hw, ?_⟩
  rw [hret, State.pair_tellRetired, State.pair_setPair_self, State.tellRetired_seq]
  exact ⟨rfl, rfl, fun j hj => State.pair_setPair_ne s _ hj, le_rfl⟩

/-- A unit whose record has been cleared is in service. -/
theorem State.isRetired_restoreUnit (s : State) (k n : Nat) : (s.restoreUnit k n).isRetired k n = false := by
  unfold State.restoreUnit
  split
  case h_3 =>
    simp only [State.isRetired, Tab.find_each]
    cases s.cx.engines.find n <;> simp
  case h_4 =>
    simp only [State.isRetired, Tab.find_each]
    cases s.cx.engines.find (32 + n) <;> simp
  case h_8 =>
    unfold State.isRetired
    split <;> simp_all
  all_goals simp [State.isRetired, State.setPair]

/-- A return clears the unit's record, is logged once and rebuilds the KLT; test results and rings are left alone. -/
theorem State.returnUnit_spec (s : State) (k n : Nat) :
    (s.returnUnit k n).isRetired k n = false ∧ (s.returnUnit k n).ms.seq = s.ms.seq + 1 ∧
      (s.returnUnit k n).ms.test = s.ms.test ∧ (s.returnUnit k n).klt.running ≠ [] ∧
      (s.returnUnit k n).reg .qeSqCfg = s.reg .qeSqCfg := by
  have hms : (s.restoreUnit k n).ms = s.ms := State.restoreUnit_frame .ms rfl
  refine ⟨?_, ?_, ?_, State.kltTrigger_running _ _ _, ?_⟩
  · rw [State.returnUnit, State.isRetired_of_frame State.kltTrigger_frame, State.isRetired_of_frame State.logEv_frame]
    exact s.isRetired_restoreUnit k n
  · rw [State.returnUnit, State.kltTrigger_frame .ms rfl, State.logEv_seq, hms]
  · obtain ⟨b, q, e, l, g, he⟩ := (s.restoreUnit k n).logEv_ms .unitReturned 0 (k * 65536 + n) 0
    rw [State.returnUnit, State.kltTrigger_frame .ms rfl, he, hms]
  · have hregs : State.regsBut [.msLogLost] s (s.returnUnit k n) :=
      State.regsBut_trans (State.regsBut_of_frame State.restoreUnit_frame)
        (State.regsBut_trans State.logEv_regsBut (State.regsBut_of_frame State.kltTrigger_frame))
    funext i j
    exact hregs .qeSqCfg i j rfl

/-- UNIT_CTRL returns a unit that passes. -/
theorem unitCtrlReturn_passes {s : State} {id : Nat} {c : Cmd} (r : TestRead) (h : s.holds id 0x52 c)
    (haux : entAux c.entry = 2) (hb : s.testBlocked (entUnitType c.entry) = false)
    (hf : r.failed.filter (testNamed (entUnitType c.entry) (some (entUnitNum c.entry))) = []) :
    ∃ t, exec (.unitCtrlReturn id r) s = .next t ∧ s.told t c stSuccess 0 0 ∧
      t.isRetired (entUnitType c.entry) (entUnitNum c.entry) = false ∧
      s.ms.seq + 1 ≤ t.ms.seq ∧ t.klt.running ≠ [] ∧ t.ms.test.run = 3 := by
  obtain ⟨hw, hn⟩ := State.settled_of_unitCtrl h
  obtain ⟨x, hx, -, hpass, -⟩ := s.recordRun_spec 3 ⟨r.islands, [], r.repairs, r.ms⟩
  obtain ⟨hret, hseq, htest, hrun, hcq⟩ :=
    State.returnUnit_spec { s with ms := x } (entUnitType c.entry) (entUnitNum c.entry)
  have hreturn : s.unitReturn c r =
      (State.returnUnit { s with ms := x } (entUnitType c.entry) (entUnitNum c.entry)).finishCmd c stSuccess 0 0 := by
    rw [State.unitReturn, if_neg (by simp [hb]), State.testUnits, hf, hpass rfl]
    rfl
  refine ⟨_, congrArg Host.Outcome.next ((State.onUnitCtrl_of_holds _ h haux).trans hreturn), ?_⟩
  have hn' : (State.returnUnit { s with ms := x } (entUnitType c.entry) (entUnitNum c.entry)).hi.ownerNext = none := by
    rw [State.returnUnit_frame .hi rfl]
    exact hn
  have hend := State.finishCmd_frame_of_settled (c := c) (status := stSuccess) (detail := 0) (result := 0) hn' hw
  rw [hend .ms rfl, hend .klt rfl, State.isRetired_of_frame hend]
  exact ⟨State.told_finishCmd hn' hcq hw, hret, by rw [hseq, hx.seq], hrun, by rw [htest, hx.run]⟩

/-- Repairs burned, every read-back holding: the soft records go and the fuses are used (R481). -/
theorem State.unitBurn_good {s : State} {c : Cmd} (hm : s.ms.soft.get 0 (entHandle c.entry) ≤ s.ms.fuseLeft) (b : Nat) :
    s.unitBurn c true b =
      State.finishCmd { s with ms := { s.ms with
        soft := s.ms.soft.del (entHandle c.entry)
        fuseLeft := s.ms.fuseLeft - s.ms.soft.get 0 (entHandle c.entry) } } c stSuccess 0 0 :=
  if_neg (Nat.not_lt.mpr hm)

/-- A read-back fails: the fuses burned so far are used, the soft records stay (R481). -/
theorem State.unitBurn_bad {s : State} {c : Cmd} (hm : s.ms.soft.get 0 (entHandle c.entry) ≤ s.ms.fuseLeft) (b : Nat) :
    s.unitBurn c false b =
      State.finishCmd { s with ms := { s.ms with
        fuseLeft := s.ms.fuseLeft - min (s.ms.soft.get 0 (entHandle c.entry)) b } } c stTestFailed 0 0 :=
  if_neg (Nat.not_lt.mpr hm)

/-- UNIT_CTRL burns soft repairs where there are fuses enough, and says whether every read-back held. -/
theorem unitCtrlBurn_fits {s : State} {id : Nat} {c : Cmd} (h : s.holds id 0x52 c) (haux : entAux c.entry = 3)
    (hm : s.ms.soft.get 0 (entHandle c.entry) ≤ s.ms.fuseLeft) (b : Nat) :
    (∃ t, exec (.unitCtrlBurn id true b) s = .next t ∧ s.told t c stSuccess 0 0 ∧
        t.ms.fuseLeft = s.ms.fuseLeft - s.ms.soft.get 0 (entHandle c.entry) ∧
        t.ms.soft.get 0 (entHandle c.entry) = 0) ∧
      ∃ t, exec (.unitCtrlBurn id false b) s = .next t ∧ s.told t c stTestFailed 0 0 ∧
        t.ms.fuseLeft = s.ms.fuseLeft - min (s.ms.soft.get 0 (entHandle c.entry)) b ∧ t.ms.soft = s.ms.soft := by
  obtain ⟨hw, hn⟩ := State.settled_of_unitCtrl h
  have hend (x : MsState) (status : Nat) : (State.finishCmd { s with ms := x } c status 0 0).ms = x :=
    State.finishCmd_frame_of_settled (s := { s with ms := x }) hn hw .ms rfl
  constructor
  · refine ⟨_, congrArg Host.Outcome.next ((State.onUnitCtrl_of_holds _ h haux).trans (State.unitBurn_good hm b)), ?_⟩
    rw [hend]
    exact ⟨State.told_finishCmd hn rfl hw, rfl, by simp [Tab.get]⟩
  · refine ⟨_, congrArg Host.Outcome.next ((State.onUnitCtrl_of_holds _ h haux).trans (State.unitBurn_bad hm b)), ?_⟩
    rw [hend]
    exact ⟨State.told_finishCmd hn rfl hw, rfl, rfl⟩

/-- With too few fuses left UNIT_CTRL burns none. -/
theorem unitCtrlBurn_short {s : State} {id : Nat} {c : Cmd} (h : s.holds id 0x52 c) (haux : entAux c.entry = 3)
    (hm : s.ms.fuseLeft < s.ms.soft.get 0 (entHandle c.entry)) (g : Bool) (b : Nat) :
    ∃ t, exec (.unitCtrlBurn id g b) s = .next t ∧ s.told t c stTestFailed 0 0 ∧ t.ms = s.ms := by
  obtain ⟨hw, hn⟩ := State.settled_of_unitCtrl h
  refine ⟨_, congrArg Host.Outcome.next ((State.onUnitCtrl_of_holds _ h haux).trans (if_pos hm)), ?_, ?_⟩
  · exact State.told_finishCmd hn rfl hw
  · exact State.finishCmd_frame_of_settled hn hw .ms rfl

/-! ### Slice tests (R483, R484) -/

/-- A slice test takes the unit whose turn it is. -/
theorem sliceTestStart_takes {s : State} {u : Nat × Nat} (hphase : s.ms.phase = 2) (hquiet : s.ms.quiescent = false)
    (hleave : s.qe.leaving = false) (hcfg : s.fld .msBistCfg 0 0 1 1 = 1) (hslice : s.ms.slice = none)
    (hpower : s.ms.power < 2) (hnext : s.sliceNext = some u) (hidle : s.unitIdle u = true) :
    exec .sliceTestStart s = .next { s with ms := { s.ms with slice := some u, sliceLast := u } } := by
  refine congrArg Host.Outcome.next ?_
  rw [State.sliceStart, if_neg (by simp [hphase, hquiet, hleave, hcfg, hslice, hpower]), hnext]
  exact if_pos hidle

/-- A slice test is over and counted. -/
def State.sliceOver (s : State) : State := ({ s with ms := { s.ms with slice := none } }).bump .msSliceRuns 0 0

/-- A failure of the unit is counted and logged. -/
def State.sliceFailed (s : State) (u : Nat × Nat) : State :=
  (s.sliceOver.bump .msSliceFails 0 0).logEv .sliceFail 0 (u.1 * 65536 + u.2) 0

/-- What a run found of one unit. -/
def readOfUnit (r : TestRead) (u : Nat × Nat) : TestRead :=
  ⟨r.islands, r.failed.filter (testNamed u.1 (some u.2)), r.repairs, r.ms⟩

theorem mem_readOfUnit_failed {r : TestRead} {u f : Nat × Nat} : f ∈ (readOfUnit r u).failed ↔ f ∈ r.failed ∧ f = u := by
  simp only [readOfUnit, testNamed, List.mem_filter, Option.isNone_some, Bool.false_or, Bool.and_eq_true, beq_iff_eq,
    Option.some.injEq, Prod.ext_iff, eq_comm (a := u.2)]

theorem State.sliceEnd_of_failed {s : State} {u : Nat × Nat} {r : TestRead} (hs : s.ms.slice = some u)
    (hf : u ∈ r.failed) : s.sliceEnd r = (s.sliceFailed u).recordRun 3 (readOfUnit r u) := by
  have hbad : (r.failed.any fun x => x == u) = true := by simpa using hf
  simp only [State.sliceEnd, hs, hbad, if_true]
  rfl

theorem State.sliceEnd_of_passed {s : State} {u : Nat × Nat} {r : TestRead} (hs : s.ms.slice = some u)
    (hf : u ∉ r.failed) : s.sliceEnd r = s.sliceOver.recordRun 3 (readOfUnit r u) := by
  have hbad : (r.failed.any fun x => x == u) = false :=
    List.any_eq_false.mpr fun x hx he => hf (eq_of_beq he ▸ hx)
  simp only [State.sliceEnd, hs, hbad]
  rfl

/-- The count of slice tests goes up by one, whether the unit fails or passes. -/
theorem State.sliceOver_runs (s : State) :
    s.sliceOver.reg .msSliceRuns 0 0 = min (s.reg .msSliceRuns 0 0 + 1) 0xFFFFFFFF := State.reg_bumpBy_self ..

theorem State.sliceOver_fails (s : State) : s.sliceOver.reg .msSliceFails 0 0 = s.reg .msSliceFails 0 0 :=
  State.reg_bumpBy_ne _ _ (by simp)

theorem State.sliceFailed_runs (s : State) (u : Nat × Nat) :
    (s.sliceFailed u).reg .msSliceRuns 0 0 = min (s.reg .msSliceRuns 0 0 + 1) 0xFFFFFFFF := by
  rw [State.sliceFailed, State.logEv_regsBut _ _ _ (by decide), State.bump, State.reg_bumpBy_ne _ _ (by simp),
    State.sliceOver_runs]

theorem State.sliceFailed_fails (s : State) (u : Nat × Nat) :
    (s.sliceFailed u).reg .msSliceFails 0 0 = min (s.reg .msSliceFails 0 0 + 1) 0xFFFFFFFF := by
  rw [State.sliceFailed, State.logEv_regsBut _ _ _ (by decide), State.bump, State.reg_bumpBy_self, State.sliceOver_fails]

/-- The end of a slice test whose unit failed: it is counted, logged and retired. -/
theorem sliceTestEnd_failed {s : State} {u : Nat × Nat} {r : TestRead} (hs : s.ms.slice = some u) (hk : u.1 ∈ unitKinds)
    (hp : u.2 < s.present u.1) (hf : u ∈ r.failed) :
    (s.sliceEnd r).ms.slice = none ∧ (s.sliceEnd r).ms.sliceLast = s.ms.sliceLast ∧
      (s.sliceEnd r).reg .msSliceRuns 0 0 = min (s.reg .msSliceRuns 0 0 + 1) 0xFFFFFFFF ∧
      (s.sliceEnd r).isRetired u.1 u.2 = true ∧
      (s.sliceEnd r).reg .msSliceFails 0 0 = min (s.reg .msSliceFails 0 0 + 1) 0xFFFFFFFF ∧
      s.ms.seq + 1 ≤ (s.sliceEnd r).ms.seq := by
  rw [State.sliceEnd_of_failed hs hf]
  obtain ⟨b, q, e, l, g, hms⟩ :=
    (s.sliceOver.bump .msSliceFails 0 0).logEv_ms .sliceFail 0 (u.1 * 65536 + u.2) 0
  obtain ⟨x, hx, hup, -, hret⟩ := (s.sliceFailed u).recordRun_spec 3 (readOfUnit r u)
  have hslice : (s.sliceFailed u).ms.slice = none := by rw [State.sliceFailed, hms]; rfl
  have hlast : (s.sliceFailed u).ms.sliceLast = s.ms.sliceLast := by rw [State.sliceFailed, hms]; rfl
  have hseq : (s.sliceFailed u).ms.seq = s.ms.seq + 1 := State.logEv_seq ..
  have hboard : (s.sliceFailed u).board = s.board := State.logEv_frame .board rfl
  refine ⟨hup.slice (hx.slice.trans hslice), hup.sliceLast.trans (hx.sliceLast.trans hlast), ?_, ?_, ?_, ?_⟩
  · exact (hup.regs .msSliceRuns 0 0 rfl).trans (s.sliceFailed_runs u)
  · refine hret u (mem_readOfUnit_failed.mpr ⟨hf, rfl⟩) hk ?_
    rwa [State.present_congr hboard]
  · exact (hup.regs .msSliceFails 0 0 rfl).trans (s.sliceFailed_fails u)
  · calc s.ms.seq + 1 = x.seq := (hx.seq.trans hseq).symm
      _ ≤ ((s.sliceFailed u).recordRun 3 (readOfUnit r u)).ms.seq := hup.seq

/-- The end of a slice test whose unit passed: it is counted, and the unit is as before. -/
theorem sliceTestEnd_passed {s : State} {u : Nat × Nat} {r : TestRead} (hs : s.ms.slice = some u) (hf : u ∉ r.failed) :
    (s.sliceEnd r).ms.slice = none ∧ (s.sliceEnd r).ms.sliceLast = s.ms.sliceLast ∧
      (s.sliceEnd r).reg .msSliceRuns 0 0 = min (s.reg .msSliceRuns 0 0 + 1) 0xFFFFFFFF ∧
      (s.sliceEnd r).isRetired u.1 u.2 = s.isRetired u.1 u.2 ∧
      (s.sliceEnd r).reg .msSliceFails 0 0 = s.reg .msSliceFails 0 0 ∧ (s.sliceEnd r).ms.seq = s.ms.seq := by
  have hnone : (readOfUnit r u).failed = [] := by
    refine List.eq_nil_iff_forall_not_mem.mpr fun f hm => ?_
    obtain ⟨hmem, rfl⟩ := mem_readOfUnit_failed.mp hm
    exact hf hmem
  obtain ⟨x, hx, -, hpass, -⟩ := s.sliceOver.recordRun_spec 3 (readOfUnit r u)
  rw [State.sliceEnd_of_passed hs hf, hpass hnone]
  exact ⟨hx.slice, hx.sliceLast, s.sliceOver_runs, rfl, s.sliceOver_fails, hx.seq⟩

/-- A slice test ends (R484). -/
theorem sliceTestEnd_counts {s : State} {u : Nat × Nat} (r : TestRead) (hs : s.ms.slice = some u)
    (hk : u.1 ∈ [2, 3, 4, 5]) (hp : u.2 < s.present u.1) :
    ∃ t, exec (.sliceTestEnd r) s = .next t ∧ t.ms.slice = none ∧ t.ms.sliceLast = s.ms.sliceLast ∧
      t.reg .msSliceRuns 0 0 = min (s.reg .msSliceRuns 0 0 + 1) 0xFFFFFFFF ∧
      (u ∈ r.failed → t.isRetired u.1 u.2 = true ∧
        t.reg .msSliceFails 0 0 = min (s.reg .msSliceFails 0 0 + 1) 0xFFFFFFFF ∧ s.ms.seq + 1 ≤ t.ms.seq) ∧
      (u ∉ r.failed → t.isRetired u.1 u.2 = s.isRetired u.1 u.2 ∧ t.reg .msSliceFails 0 0 = s.reg .msSliceFails 0 0 ∧
        t.ms.seq = s.ms.seq) := by
  have hk' : u.1 ∈ unitKinds := by
    revert hk
    simp only [unitKinds, List.mem_cons, List.not_mem_nil, or_false]
    tauto
  refine ⟨s.sliceEnd r, rfl, ?_⟩
  by_cases hf : u ∈ r.failed
  · obtain ⟨hslice, hlast, hruns, hfail⟩ := sliceTestEnd_failed hs hk' hp hf
    exact ⟨hslice, hlast, hruns, fun _ => hfail, fun h => absurd hf h⟩
  · obtain ⟨hslice, hlast, hruns, hpass⟩ := sliceTestEnd_passed hs hf
    exact ⟨hslice, hlast, hruns, fun h => absurd h hf, fun _ => hpass⟩

/-- Settles O50: one lemma for each way that a unit is tested, retired, returned or repaired. -/
theorem unitsAreTestedRetiredAndReturned : Obligations.UnitsAreTestedRetiredAndReturned := by
  refine ⟨fun _ _ _ r h hb => selfTest_runs r h hb, fun _ _ _ r h hb => unitTest_blocked r h hb, fun s id c h => ?_,
    fun _ _ hphase hquiet hleave hcfg hslice hpower hnext hidle =>
      sliceTestStart_takes hphase hquiet hleave hcfg hslice hpower hnext hidle,
    fun _ _ r hs hk hp => sliceTestEnd_counts r hs hk hp⟩
  exact ⟨fun haux hk hp hr => unitCtrlRetire_unit h haux hk hp hr, fun haux hk hp hr => unitCtrlRetire_pair h haux hk hp hr,
    fun r haux hb hf => unitCtrlReturn_passes r h haux hb hf,
    fun haux => ⟨fun hm b => unitCtrlBurn_fits h haux hm b, fun hm g b => unitCtrlBurn_short h haux hm g b⟩⟩

end Sys2Proof.Machine
end

section
/-! Accesses that take effect at once (R436, R440), and the doorbells (R79 to R81). -/

namespace Sys2Proof.Machine

-- One theorem at a time: run ahead of the kernel, each would hold a thread and its stack.
set_option Elab.async false

/-! ### Accesses in A0 (R436, R440) -/

/-- In A0 nothing wakes the part. -/
theorem State.wake_of_a0 {s : State} (h : s.ms.power = 0) (cause : Nat) : s.wake cause = s :=
  if_pos (.inr (.inr (.inl h)))

/-- A write that reaches the part in A0 runs, whether it is one that wakes or not. -/
theorem State.hostWrite_of_serves {s : State} {w : HeldWrite} (h : s.serves (heldPort w)) (run : State → State) :
    s.hostWrite w run = run s := by
  obtain ⟨ho, hp⟩ := h
  have h3 : s.ms.power ≠ 3 := by omega
  simp [State.hostWrite, ho, h3, State.wake_of_a0 hp]

theorem State.regWrite_of_serves {s : State} {src : Port} (h : s.serves src) (r : RegName) (inst : Nat) (v : Word)
    (run : State → Nat → State) : s.regWrite src r inst v run = run s v.toNat :=
  State.hostWrite_of_serves (w := .reg src r.info.blk inst r.info.off 4 v.toNat) h _

/-! ### Fields (R46) -/

theorem State.regsBut_setFld {l : List RegName} {s : State} {r : RegName} {i k h b v : Nat} (hr : r ∈ l) :
    State.regsBut l s (s.setFld r i k h b v) := State.regsBut_setReg hr

/-! ### Doorbells (R79 to R81) -/

theorem exec_sqDoorbell {s : State} {f : Nat} (h : s.serves (.fn f)) (off w v : Nat) :
    exec (.sqDoorbell f off w v) s = .next (s.bellWrite f off w v) :=
  congrArg Host.Outcome.next (State.hostWrite_of_serves (w := .bell f off w v) h _)

theorem exec_cqDoorbell {s : State} {f : Nat} (h : s.serves (.fn f)) (off w v : Nat) :
    exec (.cqDoorbell f off w v) s = .next (s.bellWrite f off w v) :=
  congrArg Host.Outcome.next (State.hostWrite_of_serves (w := .bell f off w v) h _)

/-- A doorbell of full width and good alignment is its words, one after another. -/
theorem State.bellWrite_of_aligned {s : State} {f off w : Nat} (hf : s.hasFn f = true) (hw : 4 ≤ w) (ho : off % 4 = 0)
    (v : Nat) : s.bellWrite f off w v = s.bellWords f off v (w / 4) := by
  simp [State.bellWrite, hf, ho, Nat.not_lt.mpr hw]

theorem State.bellWrite_word {s : State} {f off v : Nat} (hf : s.hasFn f = true) (ho : off % 4 = 0) (hv : v < 65536) :
    s.bellWrite f off 4 v = s.bellWord f off v := by
  have hv' : v % 2 ^ 32 = v := Nat.mod_eq_of_lt (by omega)
  simp only [State.bellWrite_of_aligned hf le_rfl ho, Nat.reduceDiv, State.bellWords, hv']

/-- The word at offset 4i is the submission doorbell of ring i. -/
theorem State.bellWord_sq {s : State} {f i v : Nat} (hi : i < 262144) (hv : v < 65536) :
    s.bellWord f (4 * i) v = if s.sqBellOk f i v then s.publish f i v else s.dropDoorbell f 1 := by
  rw [State.bellWord, if_pos (by omega), Nat.mul_div_cancel_left _ (by omega), Nat.mod_eq_of_lt hv]
  rfl

/-- The word at offset 0x100000 + 4c is the completion doorbell of ring c. -/
theorem State.bellWord_cq {s : State} {f i v : Nat} (hi : i < 65536) (hv : v < 65536) :
    s.bellWord f (0x100000 + 4 * i) v = if s.cqBellOk f i v then s.release f i v else s.dropDoorbell f 1 := by
  rw [State.bellWord, if_neg (by omega), if_pos (by omega), Nat.add_sub_cancel_left,
    Nat.mul_div_cancel_left _ (by omega), Nat.mod_eq_of_lt hv]
  rfl

/-- A publication makes the value the ring's tail under the next stamp, and leaves every other ring alone (R80, R85). -/
theorem State.publish_spec {s : State} {f i v : Nat} (h : (s.sq f i).tail ≠ v) :
    (s.publish f i v).sq f i = { s.sq f i with tail := v, pubs := (s.sq f i).pubs ++ [(v, s.qe.stamp)] } ∧
      (s.publish f i v).qe.stamp = s.qe.stamp + 1 ∧
      (∀ g j, (g, j) ≠ (f, i) → (s.publish f i v).sq g j = s.sq g j) ∧ (s.publish f i v).qe.cqs = s.qe.cqs := by
  rw [State.publish, if_neg h]
  exact ⟨State.sq_setSq_self .., rfl, fun _ _ hne => State.sq_setSq_ne _ _ hne, rfl⟩

/-- A doorbell that is dropped counts, sets its bit of QE_STATUS, and writes nothing else (R81). -/
theorem State.dropDoorbell_spec (s : State) (f : Nat) :
    (s.dropDoorbell f 1).reg .qeBadDb f 0 = min (s.reg .qeBadDb f 0 + 1) 0xFFFFFFFF ∧
      (s.dropDoorbell f 1).fld .qeStatus f 0 1 1 = 1 ∧
      ∀ r g k, (r ≠ .qeBadDb ∧ r ≠ .qeStatus) ∨ g ≠ f → (s.dropDoorbell f 1).reg r g k = s.reg r g k := by
  unfold State.dropDoorbell
  refine ⟨?_, State.fld_setFld_self _ _ _ _ _ le_rfl (by decide), fun r g k h => ?_⟩
  · rw [State.reg_setFld_ne _ _ _ _ (by simp)]
    exact State.reg_bumpBy_self ..
  · have hst : (r, g, k) ≠ (.qeStatus, f, 0) := by
      rintro ⟨⟩
      simp at h
    have hdb : (r, g, k) ≠ (.qeBadDb, f, 0) := by
      rintro ⟨⟩
      simp at h
    rw [State.reg_setFld_ne _ _ _ _ hst]
    exact State.reg_bumpBy_ne _ _ hdb

/-- The doorbells that R81 refuses: of a ring or with a value that is not good, narrow, or misaligned. -/
theorem State.bellWrite_refused {s : State} {f i v off w : Nat} (hf : s.hasFn f = true) (hv : v < 65536)
    (h : i < 262144 ∧ s.sqBellOk f i v = false ∧ off = 4 * i ∧ w = 4 ∨
      i < 65536 ∧ s.cqBellOk f i v = false ∧ off = 0x100000 + 4 * i ∧ w = 4 ∨ w < 4 ∨ off % 4 ≠ 0) :
    s.bellWrite f off w v = s.dropDoorbell f 1 := by
  rcases h with ⟨hi, hbad, rfl, rfl⟩ | ⟨hi, hbad, rfl, rfl⟩ | hw
  · rw [State.bellWrite_word hf (by omega) hv, State.bellWord_sq hi hv, if_neg (by simp [hbad])]
  · rw [State.bellWrite_word hf (by omega) hv, State.bellWord_cq hi hv, if_neg (by simp [hbad])]
  · rw [State.bellWrite, if_neg (by simp [hf]), if_pos hw]

/-- Settles O8: a good doorbell publishes or releases, a write of 8 bytes is two words, and a bad one is dropped. -/
theorem doorbellsPublishReleaseOrAreDropped : Obligations.DoorbellsPublishReleaseOrAreDropped := by
  intro s f i v hs hf hv
  refine ⟨fun hi hok hne => ?_, fun hi hok => ?_, fun off w ho => ?_, fun off w hbad => ?_⟩
  · have hbell : s.bellWrite f (4 * i) 4 v = s.publish f i v := by
      rw [State.bellWrite_word hf (by omega) hv, State.bellWord_sq hi hv, if_pos hok]
    obtain ⟨hsq, hstamp, hother, hcqs⟩ := State.publish_spec hne
    refine ⟨s.publish f i v, ?_, hsq, hstamp, hother, hcqs, State.publish_frame⟩
    rw [exec_sqDoorbell hs, hbell]
  · rw [exec_cqDoorbell hs, State.bellWrite_word hf (by omega) hv, State.bellWord_cq hi hv, if_pos hok, State.release]
  · rw [exec_sqDoorbell hs, State.bellWrite_of_aligned hf (by decide) ho]
    rfl
  · have hdrop := State.bellWrite_refused hf hv hbad
    obtain ⟨hcount, hflag, hother⟩ := s.dropDoorbell_spec f
    refine ⟨s.dropDoorbell f 1, ?_, ?_, hcount, hflag, hother, State.dropDoorbell_frame⟩
    · rw [exec_sqDoorbell hs, hdrop]
    · rw [exec_cqDoorbell hs, hdrop]

end Sys2Proof.Machine
end

section
/-! What chimes leave of QE and HI (R91 to R94), a change of owner (R64), and the end of a rebuild of the KLT (R28,
R42). -/

namespace Sys2Proof

/-- A key whose value has been written in a run of writes reads as that write gives it. -/
theorem Tab.get_foldl_set {α : Type} {d : α} {g : Nat → α} {l : List Nat} {q : Nat} (hq : q ∈ l) (t : Tab α) :
    (l.foldl (fun t k => Tab.set t k (g k)) t).get d q = g q := by
  have hkept (l : List Nat) (t : Tab α) (h : t.get d q = g q) :
      (l.foldl (fun t k => Tab.set t k (g k)) t).get d q = g q := by
    induction l generalizing t with
    | nil => exact h
    | cons k l ih =>
      refine ih _ ?_
      by_cases hk : q = k
      · rw [hk, Tab.get_set_self]
      · rw [Tab.get_set_ne _ _ _ hk, h]
  induction l generalizing t with
  | nil => cases hq
  | cons k l ih =>
    rcases List.mem_cons.mp hq with rfl | hq
    · exact hkept l _ (Tab.get_set_self ..)
    · exact ih hq _

namespace Machine

-- One theorem at a time: run ahead of the kernel, each would hold a thread and its stack.
set_option Elab.async false

/-! ### Chimes (R91 to R94) -/

/-- What posting entries and keeping chimes pending can change of QE and HI: completion rings and the functions'
contexts. -/
structure State.Chimed (s t : State) : Prop where
  qe : ∃ l, t.qe = { s.qe with cqs := l }
  hi : ∃ l, t.hi = { s.hi with fns := l }

namespace State.Chimed

variable {s t u : State}

theorem refl : s.Chimed s := ⟨⟨_, rfl⟩, ⟨_, rfl⟩⟩

theorem trans (h1 : s.Chimed t) (h2 : t.Chimed u) : s.Chimed u := by
  obtain ⟨⟨a, ha⟩, b, hb⟩ := h1
  obtain ⟨⟨c, hc⟩, d, hd⟩ := h2
  exact ⟨⟨c, by rw [hc, ha]⟩, d, by rw [hd, hb]⟩

theorem ite {c : Prop} [Decidable c] (h1 : s.Chimed t) (h2 : s.Chimed u) : s.Chimed (if c then t else u) := by
  split
  · exact h1
  · exact h2

theorem fold {α : Type} {f : State → α → State} (h : ∀ u a, State.Chimed u (f u a)) (xs : List α) :
    s.Chimed (xs.foldl f s) := by
  induction xs generalizing s with
  | nil => exact refl
  | cons a xs ih => exact (h s a).trans ih

theorem of_frame {l : List Part} (h : Frame l s t) (hq : l.contains .qe = false := by rfl)
    (hh : l.contains .hi = false := by rfl) : s.Chimed t := ⟨⟨_, h .qe hq⟩, ⟨_, h .hi hh⟩⟩

theorem setCq {f c : Nat} {q : CqCtx} : s.Chimed (s.setCq f c q) := ⟨⟨_, rfl⟩, ⟨_, rfl⟩⟩

theorem modFctx {f : Fn} {g : FnCtx → FnCtx} : s.Chimed (s.modFctx f g) := ⟨⟨_, rfl⟩, ⟨_, rfl⟩⟩

theorem signal {f c : Nat} : s.Chimed (s.signal f c) := by
  unfold State.signal
  extract_lets q v u
  exact ite (ite (setCq.trans modFctx) (setCq.trans (of_frame State.emit_frame))) refl

theorem moderate {f c : Nat} : s.Chimed (s.moderate f c) := by
  unfold State.moderate
  extract_lets q cnt tim u
  exact ite refl (setCq.trans signal)

theorem postEntry {f c w0 w1 w2 w3 : Nat} : s.Chimed (s.postEntry f c w0 w1 w2 w3) := by
  unfold State.postEntry
  extract_lets q w3' u last v
  exact ((of_frame State.emit_frame).trans setCq).trans moderate

theorem loseChime {f : Fn} : s.Chimed (s.loseChime f) := modFctx.trans (of_frame State.bump_frame)

theorem chime {f : Fn} {code arg arg2 seq : Nat} : s.Chimed (s.chime f code arg arg2 seq) := by
  have hkept (m : Chime) : s.Chimed
      ((if (s.fctx f).chimes.any (·.code == code) then s.loseChime f else s).modFctx f
        fun x => { x with chimes := insertChime m x.chimes }) := (ite loseChime refl).trans modFctx
  unfold State.chime
  refine ite refl (ite refl (ite loseChime ?_))
  extract_lets m
  split
  · exact ite postEntry (hkept m)
  · exact hkept m

theorem chimeOwner {code arg arg2 seq : Nat} : s.Chimed (s.chimeOwner code arg arg2 seq) := by
  unfold State.chimeOwner
  split
  · exact chime
  · exact refl

theorem abandonUpdate {reason : Nat} : s.Chimed (s.abandonUpdate reason) := by
  unfold State.abandonUpdate
  extract_lets x v
  exact ite refl ((of_frame (Frame.ms (l := [.ms]) Frame.refl rfl)).trans chimeOwner)

end State.Chimed

/-! ### A change of owner (R62, R64) -/

/-- A change of owner names the new owner and leaves no change waiting; beside that, only chimes reach QE and HI. -/
theorem State.changeOwner_chimed (s : State) (next : Option Nat) :
    State.Chimed { s with hi := { s.hi with owner := next, ownerNext := none } } (s.changeOwner next) := by
  unfold State.changeOwner
  extract_lets old h s1 s2 pfs s3 s4 m s5 m'
  have h4 : s1.Chimed s4 :=
    (State.Chimed.abandonUpdate.trans (.of_frame State.kltTrigger_frame)).trans (.fold (fun _ _ => .chime) _)
  have h5 : s1.Chimed s5 := by
    unfold s5
    split
    · exact (h4.trans (.of_frame (Frame.ms (l := [.ms]) Frame.refl rfl))).trans .chimeOwner
    · exact h4
  split
  case isTrue hsame =>
    rw [← hsame]
    exact .refl
  case isFalse => exact h5.trans (.of_frame (Frame.ms (l := [.ms]) Frame.refl rfl))

/-- With no owner-only command in flight, a change of owner takes effect at once. -/
theorem State.settleOwner_of_idle {s : State} {next : Option Nat} (hn : s.hi.ownerNext = some next)
    (hc : (s.qe.cmds.all fun c => !needsOwner c.entry) = true) : s.settleOwner = s.changeOwner next := by
  have hany : (s.qe.cmds.any fun c => needsOwner c.entry) = false := by simpa using hc
  simp [State.settleOwner, hn, hany]

/-- MS_SB_OWNER as written, with its partition's PF the owner that is to come (R62). -/
def State.nameOwner (s : State) (v : Nat) : State :=
  { s.setReg .msSbOwner 0 0 (v % 8) with hi := { s.hi with ownerNext := some (some (v % 4)) } }

theorem State.writeSbOwner_of_partition {s : State} {v : Nat} (hsel : s.board.ownerSel = 3)
    (hnew : s.reg .msSbOwner 0 0 ≠ v % 8) (hv : v % 8 / 4 = 1) (hp : v % 4 < s.parts) :
    s.writeSbOwner v = (s.nameOwner v).settleOwner := by
  have hbit : bitOf (v % 8) 2 = true := by
    simp [bitOf, hv]
  have hmod : v % 8 % 4 = v % 4 := by omega
  simp only [State.writeSbOwner, if_neg hnew, hsel, ne_eq, not_true_eq_false, if_false, hbit, if_true, hmod,
    Bool.true_and, decide_eq_true_eq, Nat.not_le.mpr hp]
  rfl

/-- A change of owner through the sideband (R62, R64). -/
theorem msSbOwnerWrite_changes {s : State} {v : Word} (hs : s.serves .sideband) (hsel : s.board.ownerSel = 3)
    (hnew : s.reg .msSbOwner 0 0 ≠ v.toNat % 8) (hv : v.toNat % 8 / 4 = 1) (hp : v.toNat % 4 < s.parts)
    (hc : (s.qe.cmds.all fun c => !needsOwner c.entry) = true) :
    ∃ t, exec (.msSbOwnerWrite v) s = .next t ∧ t.hi.owner = some (v.toNat % 4) ∧ t.hi.ownerNext = none ∧
      t.reg .msSbOwner 0 0 = v.toNat % 8 ∧ t.qe.cmds = s.qe.cmds ∧ t.qe.sqs = s.qe.sqs ∧
      Frame [.regs, .hi, .klt, .qe, .ms, .out] s t := by
  refine ⟨s.writeSbOwner v.toNat, congrArg Host.Outcome.next (State.regWrite_of_serves hs _ _ _ _), ?_⟩
  have hframe : Frame [.regs, .hi, .klt, .qe, .ms, .out] s (s.writeSbOwner v.toNat) := State.writeSbOwner_frame
  rw [State.writeSbOwner_of_partition hsel hnew hv hp] at hframe ⊢
  rw [State.settleOwner_of_idle (s := s.nameOwner v.toNat) rfl hc] at hframe ⊢
  obtain ⟨⟨l, hq⟩, l', hh⟩ := (s.nameOwner v.toNat).changeOwner_chimed (some (v.toNat % 4))
  have hreg : (s.nameOwner v.toNat).reg .msSbOwner 0 0 = v.toNat % 8 :=
    (State.reg_setReg_self ..).trans (Nat.mod_eq_of_lt (by omega))
  have hkept := (State.Upholds.changeOwner (s := s.nameOwner v.toNat) (next := some (v.toNat % 4))).regs .msSbOwner 0 0
    (by decide)
  refine ⟨?_, ?_, hkept.trans hreg, ?_, ?_, hframe⟩
  · rw [hh]
  · rw [hh]
  · rw [hq]
    rfl
  · rw [hq]
    rfl

/-! ### The end of a rebuild (R28, R42) -/

/-- Of generations 1 to 0xFFFF, the one after the last is 1 again: 0 stands for a rebuild that runs. -/
theorem kltNext_ne_zero (g : BitVec 16) : kltNext g ≠ 0 := by
  unfold kltNext
  split
  case isTrue => decide
  case isFalse h =>
    intro he
    exact h (by bv_omega)

theorem State.mem_allFns {s : State} {f : Fn} (h : s.hasFn f = true) : f ∈ s.allFns := by
  obtain ⟨hp, hi⟩ : partOf f < s.parts ∧ idxOf f ≤ s.vfs (partOf f) := by
    simp only [State.hasFn, Bool.and_eq_true, decide_eq_true_eq, Bool.or_eq_true, beq_iff_eq] at h
    exact ⟨h.1, h.2.elim (fun h0 => h0 ▸ Nat.zero_le _) id⟩
  exact List.mem_flatMap.mpr ⟨partOf f, List.mem_range.mpr hp, List.mem_map.mpr ⟨idxOf f,
    List.mem_range.mpr (Nat.lt_succ_of_le hi), Nat.div_add_mod' f 256⟩⟩

/-- A view that a rebuild covers takes the records of the state at its end. -/
theorem State.get_rewriteViews {s : State} {l : List KltTrigger} {f : Fn} (hf : s.hasFn f = true)
    (hc : l.any (·.covers f) = true) : (s.rewriteViews l).get [] f = s.kltRecords f :=
  Tab.get_foldl_set (g := s.kltRecords) (List.mem_filter.mpr ⟨State.mem_allFns hf, hc⟩) _

/-- KLT_REBUILD with no trigger waiting: the next generation shows, and every view it covers has its new records. -/
theorem kltRebuild_ends {s : State} (hr : s.klt.running ≠ []) (hw : s.klt.waiting = []) (hp : s.ms.phase = 2) :
    ∃ t, exec .kltRebuild s = .next t ∧ t.klt.shown = kltNext s.klt.gen ∧ t.klt.gen = kltNext s.klt.gen ∧
      t.klt.running = [] ∧
      (∀ f, s.hasFn f = true → s.klt.running.any (·.covers f) = true → t.klt.views.get [] f = s.kltRecords f) ∧
      Frame [.regs, .hi, .klt, .qe, .out] s t := by
  have hklt : s.kltEnd.klt = { s.klt with
      views := s.rewriteViews s.klt.running, gen := kltNext s.klt.gen, running := [], waiting := []
      shown := kltNext s.klt.gen } := by
    unfold State.kltEnd
    extract_lets run g wait klt u told
    have hu : u.klt = { s.klt with
        views := s.rewriteViews run, gen := g, running := [], waiting := [], shown := g } := by
      simp [u, wait, hw]
    rw [if_neg (by simp [run, hr, hp])]
    split
    · exact hu
    · exact ((Frame.refl.fold (fun _ _ => State.chime_frame) told) .klt rfl).trans hu
  refine ⟨s.kltEnd, rfl, ?_⟩
  rw [hklt]
  exact ⟨rfl, rfl, rfl, fun f hf hc => State.get_rewriteViews hf hc, State.kltEnd_frame⟩

/-- A trigger takes the generation shown back to 0 at once (R28, R41). -/
theorem State.kltTrigger_shown {s : State} (sc : KltScope) (r : Bool) (h : s.klt.running = []) :
    (s.kltTrigger sc r).klt.shown = 0 := by
  simp [State.kltTrigger, h]

/-- Settles O20: the owner's write, the end of a rebuild, and a trigger. -/
theorem theOwnerChangesAndTheTableIsRebuilt : Obligations.TheOwnerChangesAndTheTableIsRebuilt := by
  refine ⟨fun s v hs hsel hnew hv hp hc _ => msSbOwnerWrite_changes hs hsel hnew hv hp hc, fun s hr hw hp => ?_,
    fun s sc r h => State.kltTrigger_shown sc r h⟩
  obtain ⟨t, ht, hshown, hgen, hrun, hviews, hframe⟩ := kltRebuild_ends hr hw hp
  exact ⟨t, ht, hshown, hgen, kltNext_ne_zero _, hrun, hviews, hframe⟩

end Machine

end Sys2Proof
end

section
/-! The sideband's transactions (R434, R505), and the state after reset (R28, R59, R62, R434, R442, R447). -/

namespace Sys2Proof.Machine

-- One theorem at a time: run ahead of the kernel, each would hold a thread and its stack.
set_option Elab.async false

/-! ### Block writes and reads (R505) -/

/-- In A0 a block write that is good writes its word and is acknowledged. -/
theorem exec_smbBlockWrite_good {s : State} {off : Nat} (hs : s.serves .sideband) (h4 : off % 4 = 0) (ho : off < 65536)
    (v : Word) :
    exec (.smbBlockWrite off v true) s = .next ((s.writeWord .sideband .ms 0 off v.toNat).emit (.smbus true 0)) := by
  obtain ⟨hopen, hpower⟩ := hs
  refine congrArg Host.Outcome.next ?_
  simp [State.smbusOpen, hopen, State.wake_of_a0 hpower, h4, Nat.mod_eq_of_lt ho]

/-- In A0 a block read that is good answers with its word. -/
theorem exec_smbBlockRead_good {s : State} {off : Nat} (hs : s.serves .sideband) (h4 : off % 4 = 0) (ho : off < 65536) :
    exec (.smbBlockRead off true) s = .next ((s.readWord .sideband .ms 0 off 0xFFFFFFFF).2.emit
      (.smbus true (s.readWord .sideband .ms 0 off 0xFFFFFFFF).1)) := by
  obtain ⟨hopen, hpower⟩ := hs
  refine congrArg Host.Outcome.next ?_
  simp [State.smbusOpen, hopen, State.wake_of_a0 hpower, h4, Nat.mod_eq_of_lt ho]

/-- A transaction with a bad PEC, command or offset is not acknowledged and applies nothing. -/
theorem exec_smbBlock_bad {s : State} {off : Nat} {ok : Bool} (hs : s.serves .sideband) (h : ok = false ∨ off % 4 ≠ 0)
    (v : Word) :
    exec (.smbBlockWrite off v ok) s = .next (s.emit (.smbus false 0)) ∧
      exec (.smbBlockRead off ok) s = .next (s.emit (.smbus false 0)) := by
  obtain ⟨hopen, hpower⟩ := hs
  have hclosed : ¬(!s.smbusOpen) = true := by simp [State.smbusOpen, hopen]
  have hbad : (!ok || off % 4 != 0) = true := by simpa using h
  have hwake : s.wake 4 = s := State.wake_of_a0 hpower 4
  constructor
  · exact congrArg Host.Outcome.next ((if_neg hclosed).trans (hwake.symm ▸ if_pos hbad))
  · exact congrArg Host.Outcome.next ((if_neg hclosed).trans (hwake.symm ▸ if_pos hbad))

/-! ### MS_GPIO_OUT and MS_TIME_LO -/

/-- MS_GPIO_OUT has the general rule. -/
theorem State.writeWord_gpioOut (s : State) (v : Nat) :
    s.writeWord .sideband .ms 0 RegName.msGpioOut.info.off v = s.writeFields .msGpioOut 0 0 v := by
  have hat : regAt .ms RegName.msGpioOut.info.off = some (.msGpioOut, 0) := by decide +kernel
  simp only [State.writeWord, hat]
  rfl

/-- The word that a write of `v` leaves in MS_GPIO_OUT: its upper half, and the lower half of `v`. -/
def State.gpioWord (s : State) (v : Nat) : Nat :=
  Nat.land (mergeWord (s.reg .msGpioOut 0 0) v 0xFFFF) 0xFFFFFFFF

theorem State.gpioWord_mod (s : State) (v : Nat) : s.gpioWord v % 65536 = v % 65536 := by
  change (((s.reg .msGpioOut 0 0 &&& 0xFFFF0000) ||| (v &&& 0xFFFF)) &&& 0xFFFFFFFF) % 2 ^ 16 = v % 2 ^ 16
  rw [Nat.and_mod_two_pow, Nat.or_mod_two_pow, Nat.and_mod_two_pow, Nat.and_mod_two_pow (a := v)]
  simpa using Nat.and_two_pow_sub_one_eq_mod (v % 65536) 16

theorem State.writeFields_gpioOut (s : State) (v : Nat) :
    s.writeFields .msGpioOut 0 0 v =
      if s.reg .msGpioOut 0 0 = s.gpioWord v then s else s.setReg .msGpioOut 0 0 (s.gpioWord v) := by
  have hmerge : s.mergeFields .msGpioOut 0 0 v = (s.gpioWord v, false) := by
    have hw1c : Nat.land v 0 = 0 := Nat.and_zero v
    change (Nat.land (mergeWord _ v 0xFFFF) (0xFFFFFFFF - Nat.land v 0), false) = _
    rw [hw1c]
    rfl
  have hstore (u : State) (w : Nat) (h : u.reg .msGpioOut 0 0 ≠ w) :
      (u.store .msGpioOut 0 0 w).settled .msGpioOut 0 0 = u.setReg .msGpioOut 0 0 w := by
    rw [State.store, if_neg h]
    rfl
  rw [State.writeFields, if_neg (by simp [State.dropsValue])]
  simp only [hmerge, Bool.false_eq_true, if_false]
  split
  case isTrue h => rfl
  case isFalse h => exact hstore s _ h

/-- A block write to MS_GPIO_OUT is taken, and changes no other register. -/
theorem smbBlockWrite_gpioOut {s : State} (hs : s.serves .sideband) (v : Word) :
    ∃ t, exec (.smbBlockWrite RegName.msGpioOut.info.off v true) s = .next t ∧
      t.reg .msGpioOut 0 0 % 65536 = v.toNat % 65536 ∧ State.regsBut [.msGpioOut] s t ∧
      t.out = s.out ++ [.smbus true 0] ∧ Frame [.regs, .out] s t := by
  refine ⟨_, exec_smbBlockWrite_good hs rfl (by decide) v, ?_⟩
  rw [State.writeWord_gpioOut, State.writeFields_gpioOut]
  split
  case isTrue h =>
    refine ⟨?_, State.regsBut_of_frame State.emit_frame, rfl, State.emit_frame.mono rfl⟩
    rw [← State.gpioWord_mod s v.toNat, ← h]
    rfl
  case isFalse h =>
    refine ⟨?_, ?_, rfl, ?_⟩
    · rw [← State.gpioWord_mod s v.toNat]
      change ((s.setReg .msGpioOut 0 0 (s.gpioWord v.toNat)).reg .msGpioOut 0 0) % 65536 = _
      rw [State.reg_setReg_self, Nat.mod_mod_of_dvd _ (by decide)]
    · exact State.regsBut_trans (State.regsBut_setReg (List.mem_singleton_self _))
        (State.regsBut_of_frame State.emit_frame)
    · exact (State.setReg_frame.mono rfl).step State.emit_frame rfl

/-- A read of MS_TIME_LO gives the low word of the time, and holds the high word for the port that reads (R45, R434). -/
theorem State.readWord_timeLo (s : State) :
    s.readWord .sideband .ms 0 RegName.msTimeLo.info.off 0xFFFFFFFF =
      (s.ms.time % 2 ^ 32, { s with
        latch := Tab.set s.latch (pairKey .msTimeLo 0 0 .sideband) (BitVec.ofNat 32 (s.peek .msTimeHi 0 0)) }) := by
  have hat : regAt .ms RegName.msTimeLo.info.off = some (.msTimeLo, 0) := by decide +kernel
  simp only [State.readWord, hat]
  rfl

theorem smbBlockRead_timeLo {s : State} (hs : s.serves .sideband) :
    ∃ t, exec (.smbBlockRead RegName.msTimeLo.info.off true) s = .next t ∧
      t.out = s.out ++ [.smbus true (s.ms.time % 2 ^ 32)] ∧ Frame [.latch, .out] s t := by
  refine ⟨_, exec_smbBlockRead_good hs rfl (by decide), ?_⟩
  rw [State.readWord_timeLo]
  exact ⟨rfl, (Frame.latch (l := [.latch, .out]) Frame.refl rfl).step State.emit_frame rfl⟩

/-- Settles O55: transactions in general, the two registers, and the alert response. -/
theorem theSidebandAnswers : Obligations.TheSidebandAnswers := by
  refine ⟨fun s off v ok hs => ⟨fun hok h4 ho => ?_, fun hbad => exec_smbBlock_bad hs hbad v⟩,
    fun s v hs => ⟨smbBlockWrite_gpioOut hs v, smbBlockRead_timeLo hs⟩, fun s => ⟨fun h => ?_, fun h => ?_⟩⟩
  · exact ⟨exec_smbBlockWrite_good hs h4 ho v, exec_smbBlockRead_good hs h4 ho⟩
  · exact congrArg Host.Outcome.next (if_pos h)
  · exact congrArg Host.Outcome.next (if_neg (by simp [h]))

/-! ### After reset (R442, R447) -/

/-- With no slot and no KEK listed, no key is held. -/
theorem State.keyless_of_empty {s : State} (hs : s.ce.slots = []) (hk : s.ce.keks = []) : s.keyless := by
  refine ⟨fun g => ?_, fun f => ?_⟩
  · rw [State.slot, hs]
    rfl
  · rw [State.kek, hk]
    rfl

/-- The state after reset is that of a part started again: no work, no key, the tape braked, the KLT being built. -/
theorem State.reset_restarted : State.reset.restarted :=
  ⟨rfl, rfl, rfl, rfl, rfl, rfl, State.keyless_of_empty rfl rfl, rfl, rfl, rfl, rfl, rfl, rfl⟩

/-- Settles O7: the counters stand at their bounds, and PF0 has what one partition gives it. -/
theorem resetHoldsTheCounterBounds : Obligations.ResetHoldsTheCounterBounds := by
  have hbounds : State.reset.countersBound := ⟨le_rfl, le_rfl, Nat.zero_le _⟩
  exact ⟨hbounds, State.reset_restarted, rfl, rfl, rfl, rfl, rfl, rfl, rfl, rfl, rfl, rfl, rfl⟩

end Sys2Proof.Machine
end

section
/-! What the resets of the whole part throw away and keep (R49, R254, R442 to R446). -/

namespace Sys2Proof

/-- Of entries kept by their keys, a key reads as before or not at all. -/
theorem Tab.find_keep {α : Type} (t : Tab α) (p : Nat → Bool) (q : Nat) :
    (t.keep fun k _ => p k).find q = if p q then t.find q else none := by
  induction t with
  | nil => simp [Tab.keep, Tab.find]
  | cons e t ih =>
    obtain ⟨k, w⟩ := e
    unfold Tab.keep at ih ⊢
    by_cases hk : k = q
    · subst hk
      cases hp : p k with
      | true => simp [hp, Tab.find]
      | false => simpa [hp] using ih
    · cases hp : p k with
      | true => simpa [hp, Tab.find, hk] using ih
      | false => simpa [hp, Tab.find, hk] using ih

namespace Machine

-- One theorem at a time: run ahead of the kernel, each would hold a thread and its stack.
set_option Elab.async false

/-! ### Registers that a reset clears (R49, R442) -/

@[simp] theorem keyName_regKey (r : RegName) (i k : Nat) : keyName (regKey r i k) = r := by
  simp [keyName, regKey, RegName.ofNat_ctorIdx]

@[simp] theorem keyInst_regKey (r : RegName) (i k : Nat) : keyInst (regKey r i k) = i := by
  simp [keyInst, regKey]

/-- A cleared register reads its reset value. -/
theorem State.reg_clearRegs (s : State) (f : RegName → Nat → Bool) (r : RegName) (i k : Nat) :
    (s.clearRegs f).reg r i k = if f r i then regDefault s.parts r i k else s.reg r i k := by
  unfold State.reg State.clearRegs
  rw [Tab.find_keep s.regs (fun k => !f (keyName k) (keyInst k)), keyName_regKey, keyInst_regKey]
  cases f r i with
  | true => rfl
  | false => rfl

theorem State.reg_hardReset (s : State) (por keepScan : Bool) (r : RegName) (i k : Nat) :
    (s.hardReset por keepScan).reg r i k = if clearsClass por r i then regDefault s.parts r i k else s.reg r i k := by
  rw [← State.reg_clearRegs]
  exact congrFun (congrFun (congrFun (State.reg_congr rfl rfl) r) i) k

/-- No reset of the whole part clears class N. -/
theorem State.reg_hardReset_n {s : State} {por keepScan : Bool} {r : RegName} {i k : Nat} (h : r.info.cls = .n) :
    (s.hardReset por keepScan).reg r i k = s.reg r i k := by
  rw [State.reg_hardReset, clearsClass, h]
  rfl

/-- Only a power cycle clears class A. -/
theorem State.reg_hardReset_a {s : State} {keepScan : Bool} {r : RegName} {i k : Nat} (h : r.info.cls = .a) :
    (s.hardReset false keepScan).reg r i k = s.reg r i k := by
  rw [State.reg_hardReset, clearsClass, h]
  rfl

/-- A power cycle clears every other class. -/
theorem State.reg_hardReset_por {s : State} {r : RegName} {i k : Nat} (h : r.info.cls ≠ .n) :
    (s.hardReset true).reg r i k = regDefault s.parts r i k := by
  have hc : clearsClass true r i = true := by
    unfold clearsClass
    split
    · contradiction
    · rfl
    · rfl
  rw [State.reg_hardReset, hc, if_pos rfl]

/-! ### Keys (R235, R254) -/

/-- A reset with power kept zeroises slot and KEK entries in their places: their generations stay. -/
theorem State.hardReset_keys (s : State) (keepScan : Bool) :
    (s.hardReset false keepScan).ce.slots = s.ce.slots.each (fun _ (k : KeySlot) =>
        if k.state = 0 ∧ k.retiring = false then k else { keySlot0 with gen := k.gen }) ∧
      (s.hardReset false keepScan).ce.keks = s.ce.keks.each fun _ (k : Kek) =>
        if k.key.isNone then k else { key := none, gen := k.gen } := ⟨rfl, rfl⟩

/-- Every reset of the whole part zeroises every key. -/
theorem State.hardReset_keyless (s : State) (por keepScan : Bool) : (s.hardReset por keepScan).keyless := by
  cases por with
  | true => exact State.keyless_of_empty rfl rfl
  | false =>
    obtain ⟨hslots, hkeks⟩ := s.hardReset_keys keepScan
    refine ⟨fun g => ?_, fun f => ?_⟩
    · rw [State.slot, hslots, Tab.get, Tab.find_each]
      cases s.ce.slots.find g with
      | none => rfl
      | some k =>
        dsimp only [Option.map_some, Option.getD_some]
        split
        case isTrue h => exact h.1
        case isFalse => rfl
    · rw [State.kek, hkeks, Tab.get, Tab.find_each]
      cases s.ce.keks.find f with
      | none => rfl
      | some k =>
        dsimp only [Option.map_some, Option.getD_some]
        split
        case isTrue h => exact Option.isNone_iff_eq_none.mp h
        case isFalse => rfl

/-- Keys are looked up in CE alone. -/
theorem State.keyless_congr {s t : State} (hs : t.ce.slots = s.ce.slots) (hk : t.ce.keks = s.ce.keks) (h : s.keyless) :
    t.keyless := by
  obtain ⟨hslot, hkek⟩ := h
  refine ⟨fun g => ?_, fun f => ?_⟩
  · rw [State.slot, hs]
    exact hslot g
  · rw [State.kek, hk]
    exact hkek f

/-! ### POWER_LOSS and RESET_N_ASSERT -/

/-- POWER_LOSS: the volatile state and every class but N are gone; the NV store, the flash and the fuses stay. -/
theorem powerLoss_clears {s : State} (io : Bool) (hp : s.ms.phase ≠ 0) :
    ∃ t, exec (.powerLoss io) s = .next t ∧ t.ms.phase = 0 ∧ t.ms.ioUp = io ∧ t.qe.cmds = [] ∧ t.qe.sqs = [] ∧
      t.keyless ∧ t.pe.streams = [] ∧ t.ms.log = [] ∧ t.sm.brake = true ∧ t.ms.time = 0 ∧
      (∀ r i k, r.info.cls = .n → t.reg r i k = s.reg r i k) ∧
      (∀ r i k, r.info.cls ≠ .n → t.reg r i k = regDefault s.parts r i k) ∧
      t.ms.slotA = s.ms.slotA ∧ t.ms.slotB = s.ms.slotB ∧ t.ms.pointer = s.ms.pointer ∧ t.ms.fused = s.ms.fused ∧
      t.ms.seqBound = s.ms.seqBound ∧ t.ce.epochBound = s.ce.epochBound ∧ t.ms.nvSummary = s.ms.nvSummary := by
  refine ⟨_, congrArg Host.Outcome.next (if_neg hp), rfl, rfl, rfl, rfl, ?_, rfl, rfl, rfl, rfl, ?_, ?_, rfl, rfl, rfl,
    rfl, rfl, rfl, rfl⟩
  · exact State.keyless_congr rfl rfl (s.hardReset_keyless true false)
  · exact fun r i k h => State.reg_hardReset_n (keepScan := false) h
  · exact fun r i k h => State.reg_hardReset_por h

/-- RESET_N asserted: the volatile state is gone; the log and the classes A and N stay but for the reset's cause. -/
theorem resetNAssert_clears {s : State} (hp : s.ms.phase ≠ 0) :
    ∃ t, exec .resetNAssert s = .next t ∧ t.ms.phase = 1 ∧ t.qe.cmds = [] ∧ t.qe.sqs = [] ∧ t.keyless ∧
      t.pe.streams = [] ∧ t.sm.brake = true ∧ t.ms.log = s.ms.log ∧ t.ms.time = s.ms.time ∧
      t.fld .msResetCause 0 0 1 1 = 1 ∧
      (∀ r i k, r.info.cls = .n ∨ r.info.cls = .a → r ≠ .msResetCause → t.reg r i k = s.reg r i k) ∧
      t.ms.slotA = s.ms.slotA ∧ t.ms.slotB = s.ms.slotB ∧ t.ms.pointer = s.ms.pointer ∧ t.ms.fused = s.ms.fused ∧
      t.ms.seqBound = s.ms.seqBound ∧ t.ce.epochBound = s.ce.epochBound := by
  refine ⟨_, congrArg Host.Outcome.next (if_neg hp), rfl, rfl, rfl, ?_, rfl, rfl, rfl, rfl, ?_, ?_, rfl, rfl, rfl, rfl,
    rfl, rfl⟩
  · exact State.keyless_congr rfl rfl (s.hardReset_keyless false false)
  · exact State.fld_setFld_self _ _ _ _ _ le_rfl (by decide)
  · intro r i k h hr
    rw [State.regsBut_setFld (List.mem_singleton_self _) r i k (by simpa using hr)]
    exact h.elim State.reg_hardReset_n State.reg_hardReset_a

end Machine

end Sys2Proof
end

section
/-! The start of the part (R447 to R457, R492, R495): what its steps leave standing, and the state that it ends in. -/

namespace Sys2Proof.Machine

-- One theorem at a time: run ahead of the kernel, each would hold a thread and its stack.
set_option Elab.async false

/-! ### Bits below a field that is written -/

/-- A field lies within the bits up to its top. -/
theorem bitsOf_mod_two_pow (n : Nat) {m h l : Nat} (hl : l ≤ h) (hm : h < m) :
    bitsOf (n % 2 ^ m) h l = bitsOf n h l := by
  refine Nat.eq_of_testBit_eq fun j => ?_
  simp only [bitsOf, Nat.testBit_mod_two_pow, Nat.testBit_div_two_pow]
  by_cases hj : j < h + 1 - l
  · simp only [show j + l < m by omega, decide_true, Bool.true_and]
  · simp only [hj, decide_false, Bool.false_and]

theorem State.fld_setFld_below (s : State) (r : RegName) (i k v : Nat) {h l h' l' : Nat} (hl : l' ≤ h') (hlow : h' < l)
    (hh : h' < 32) : (s.setFld r i k h l v).fld r i k h' l' = s.fld r i k h' l' := by
  have hle : 2 ^ l * bitsOf (s.reg r i k) h l ≤ s.reg r i k :=
    (Nat.mul_le_mul_left _ (Nat.mod_le _ _)).trans (Nat.mul_div_le _ _)
  unfold State.setFld State.fld
  rw [State.reg_setReg_self, bitsOf_mod _ hl hh, ← bitsOf_mod_two_pow _ hl hlow, Nat.add_mul_mod_self_right,
    Nat.mul_comm (bitsOf _ _ _), Nat.sub_mul_mod hle, bitsOf_mod_two_pow _ hl hlow]

/-! ### What the steps of a start leave standing -/

theorem State.readClean_ms (s : State) : s.readClean.ms = { s.ms with clean := false } := by
  unfold State.readClean
  split <;> rfl

/-- What steps of a start, with at most `n` events among them, leave standing between two states. -/
structure State.Boots (n : Nat) (s t : State) : Prop where
  power : t.ms.power = s.ms.power
  /-- The clean-shutdown record does not come back. -/
  unclean : s.ms.clean = false → t.ms.clean = false
  seq : s.ms.seq ≤ t.ms.seq
  /-- While the ring has room, events go behind what it holds. -/
  log : s.ms.log.length + n ≤ 4096 → ∃ l, l.length ≤ n ∧ t.ms.log = s.ms.log ++ l
  /-- The resets named as the cause (R443). -/
  cause : ∀ b < 4, t.fld .msResetCause 0 0 b b = s.fld .msResetCause 0 0 b b

namespace State.Boots

variable {s t u : State} {n m : Nat}

theorem of_eq (hr : t.reg .msResetCause 0 0 = s.reg .msResetCause 0 0) (hp : t.ms.power = s.ms.power := by rfl)
    (hc : t.ms.clean = s.ms.clean := by rfl) (hs : t.ms.seq = s.ms.seq := by rfl) (hl : t.ms.log = s.ms.log := by rfl) :
    State.Boots n s t where
  power := hp
  unclean h := hc.trans h
  seq := hs.ge
  log _ := ⟨[], Nat.zero_le _, by rw [hl, List.append_nil]⟩
  cause b _ := by rw [State.fld, hr, State.fld]

theorem of_ms (hr : t.reg .msResetCause 0 0 = s.reg .msResetCause 0 0) (hm : t.ms = s.ms) : State.Boots n s t := by
  refine of_eq hr ?_ ?_ ?_ ?_ <;> rw [hm]

theorem refl : State.Boots 0 s s := of_eq rfl

theorem trans (h1 : State.Boots n s t) (h2 : State.Boots m t u) : State.Boots (n + m) s u where
  power := h2.power.trans h1.power
  unclean h := h2.unclean (h1.unclean h)
  seq := h1.seq.trans h2.seq
  log h := by
    obtain ⟨a, ha, hta⟩ := h1.log (by omega)
    obtain ⟨b, hb, hub⟩ := h2.log (by rw [hta, List.length_append]; omega)
    refine ⟨a ++ b, ?_, by rw [hub, hta, List.append_assoc]⟩
    rw [List.length_append]
    omega
  cause b hb := (h2.cause b hb).trans (h1.cause b hb)

theorem mono (h : State.Boots n s t) (hn : n ≤ m) : State.Boots m s t where
  power := h.power
  unclean := h.unclean
  seq := h.seq
  log hm := by
    obtain ⟨l, hl, ht⟩ := h.log (by omega)
    exact ⟨l, hl.trans hn, ht⟩
  cause := h.cause

theorem ite {c : Prop} [Decidable c] (h1 : State.Boots n s t) (h2 : State.Boots n s u) :
    State.Boots n s (if c then t else u) := by
  split
  · exact h1
  · exact h2

theorem foldPair {α β : Type} {f : State × β → α → State × β} (h : ∀ a x, State.Boots 0 a.1 (f a x).1) (xs : List α)
    (a : State × β) : State.Boots 0 a.1 (xs.foldl f a).1 := by
  induction xs generalizing a with
  | nil => exact refl
  | cons x xs ih => exact (h a x).trans (ih _)

theorem of_frame {l : List Part} (h : Frame l s t) (hr : l.contains .regs = false := by rfl)
    (hb : l.contains .board = false := by rfl) (hm : l.contains .ms = false := by rfl) : State.Boots 0 s t :=
  of_ms (State.regsBut_of_frame (l' := []) h hr hb _ _ _ rfl) (h .ms hm)

/-- Storing an entry in a ring with room appends it. -/
theorem storeLog {e : LogEntry} : State.Boots 1 s (s.storeLog e) := by
  obtain ⟨g, hg⟩ := s.storeLog_ms e
  refine ⟨by rw [hg], fun h => by rw [hg]; exact h, by rw [hg], fun h => ⟨[e], le_rfl, ?_⟩, fun b _ => ?_⟩
  · have hroom : decide (4096 ≤ s.ms.log.length) = false := by
      simp only [decide_eq_false_iff_not]
      omega
    simp [State.storeLog, hroom]
  · rw [State.fld, State.storeLog_regsBut _ _ _ (by decide), State.fld]

theorem takeSeq : State.Boots 0 s s.takeSeq := by
  obtain ⟨b, n, q, c, h⟩ := s.reserveLog_ms
  have hms : s.takeSeq.ms =
      { s.ms with seq := s.ms.seq + 1, seqBound := b, nvSummary := n, nvSeq := q, nvLost := c } := by
    simp only [State.takeSeq, h]
  have hregs : State.regsBut [] s s.takeSeq := State.regsBut_of_frame (Frame.ms State.reserveLog_frame rfl)
  refine ⟨by rw [hms], fun h => by rw [hms]; exact h, by rw [hms]; exact Nat.le_succ _, fun _ => ⟨[], le_rfl, ?_⟩,
    fun b _ => ?_⟩
  · rw [hms, List.append_nil]
  · rw [State.fld, hregs _ _ _ (by decide), State.fld]

theorem logEv {ev : Ev} {tenant unit value : Nat} : State.Boots 1 s (s.logEv ev tenant unit value) := by
  obtain h | ⟨e, h⟩ := s.logEv_cases ev tenant unit value
  · exact h ▸ takeSeq.mono (Nat.zero_le _)
  · exact h ▸ takeSeq.trans storeLog

/-- A delta record of a tenant number. -/
theorem writeN {i k v : Nat} : State.Boots 0 s (s.writeN .hiFnTenant i k v) :=
  of_eq (State.reg_setReg_ne s v (by simp))

/-- Tenant numbers are given one function after another (R59). -/
theorem repairTenants : State.Boots 0 s s.repairTenants := by
  unfold State.repairTenants
  refine foldPair (fun a f => ?_) _ (s, [])
  extract_lets x n'
  split
  · exact writeN
  · exact refl

theorem chimeOwner {code arg arg2 seq : Nat} : State.Boots 0 s (s.chimeOwner code arg arg2 seq) :=
  of_ms (State.Upholds.chimeOwner.regs _ _ _ (by decide)) (State.chimeOwner_frame .ms rfl)

/-- A record not read yet is read and cleared; it sets its own bit of the cause alone (R450). -/
theorem readClean : State.Boots 0 s s.readClean := by
  have hcause : ∀ b < 4, s.readClean.fld .msResetCause 0 0 b b = s.fld .msResetCause 0 0 b b := by
    intro b hb
    unfold State.readClean
    extract_lets u
    change u.fld .msResetCause 0 0 b b = _
    unfold u
    split
    · rfl
    · exact State.fld_setFld_below _ _ _ _ _ le_rfl hb (by omega)
  have hms := s.readClean_ms
  exact ⟨by rw [hms], fun _ => by rw [hms], by rw [hms], fun _ => ⟨[], le_rfl, by rw [hms, List.append_nil]⟩, hcause⟩

end State.Boots

/-! ### Steps 4 to 6: the image (R447, R455, R456) -/

/-- The checks that a start makes of the images look at the board, the slots and the fuses alone. -/
theorem State.slotValid_congr {s t : State} (hb : t.board = s.board) (ha : t.ms.slotA = s.ms.slotA)
    (hs : t.ms.slotB = s.ms.slotB) (hf : t.ms.fused = s.ms.fused) : t.slotValid = s.slotValid := by
  funext slot
  simp only [State.slotValid, State.slotImage, hb, ha, hs, hf]

/-- The image named runs, and is not on trial. -/
def State.imageStands (s : State) : Prop := s.ms.pointer.trial = false ∧ s.slotValid s.ms.pointer.slot = true

theorem State.imageStands_congr {s t : State} (hb : t.board = s.board) (hp : t.ms.pointer = s.ms.pointer)
    (ha : t.ms.slotA = s.ms.slotA) (hs : t.ms.slotB = s.ms.slotB) (hf : t.ms.fused = s.ms.fused) (h : s.imageStands) :
    t.imageStands := by
  rw [State.imageStands, State.slotValid_congr hb ha hs hf, hp]
  exact h

/-- The image that runs: its version, and its floor in the fuses. -/
def State.takeImage (s : State) : State :=
  { s with ms := { s.ms with version := (s.activeImage.map Image.version).getD 0 } }.blowFuses

theorem State.chooseImage_of_stands {s : State} (h : s.imageStands) (por : Bool) :
    s.chooseImage por = some s.takeImage := by
  obtain ⟨ht, hv⟩ := h
  simp [State.chooseImage, ht, hv, State.takeImage]

theorem State.takeImage_frame {s : State} : Frame [.ms] s s.takeImage :=
  (Frame.ms (l := [.ms]) Frame.refl rfl).trans State.blowFuses_frame

theorem State.Boots.takeImage {s : State} : State.Boots 0 s s.takeImage := .of_eq rfl

/-- The record of the shutdown before is read, and a critical fault found before is logged (R450, R479). -/
def State.startRecords (s : State) : State :=
  if s.readClean.ms.critical then s.readClean.logEv .bistFail 0 0 0 else s.readClean

theorem State.startRecords_frame {s : State} : Frame [.regs, .ms] s s.startRecords :=
  Frame.ite (State.readClean_frame.trans State.logEv_frame) State.readClean_frame

theorem State.Boots.startRecords {s : State} : State.Boots 1 s s.startRecords :=
  .ite (.trans .readClean .logEv) (.mono .readClean (Nat.zero_le _))

theorem State.startRecords_clean (s : State) : s.startRecords.ms.clean = false := by
  have hc : s.readClean.ms.clean = false := by rw [State.readClean_ms]
  unfold State.startRecords
  split
  · exact State.Boots.logEv.unclean hc
  · exact hc

/-- Neither the record nor an event touches the images. -/
theorem State.imageStands_startRecords {s : State} (h : s.imageStands) : s.startRecords.imageStands := by
  have hc : s.readClean.imageStands := by
    have hms := s.readClean_ms
    refine State.imageStands_congr (State.readClean_frame .board rfl) ?_ ?_ ?_ ?_ h <;> rw [hms]
  unfold State.startRecords
  split
  · obtain ⟨b, n, q, c, g, hms⟩ := s.readClean.logEv_ms .bistFail 0 0 0
    refine State.imageStands_congr (State.logEv_frame .board rfl) ?_ ?_ ?_ ?_ hc <;> rw [hms]
  · exact hc

/-! ### Steps 7 to 9 (R447, R448) -/

/-- A channel pair stays in the interleave. -/
def State.pairStands (s : State) : Prop :=
  ∃ n < 4, ((s.mc.pairs.find n).map fun p => !p.retired && !p.pendingRetire) = some true

/-- Randomness, the identity key and buffer memory are there. -/
def State.bringUp (s : State) : State :=
  { s.draw.interleave with
    ce := { s.ce with healthy := s.board.trngOk, failed := !s.board.trngOk, seeds := s.ce.seeds + 1, identity := true }
    mc := { s.interleave.mc with mts := trainedRate s.board.mts } }

/-- The interleave takes the pairs that neither are retired nor are due to be (R23). -/
theorem State.pairActive_bringUp (s : State) (n : Nat) :
    (s.bringUp.mc.pairs.find n).any (·.active) = (s.mc.pairs.find n).any fun p => !(p.retired || p.pendingRetire) := by
  simp only [State.bringUp, State.interleave, Tab.find_each]
  cases s.mc.pairs.find n with
  | none => rfl
  | some p => rfl

/-- What bringing the units up finds amiss is logged (R201, R255). -/
def State.logBringUp (s : State) : State :=
  let s := if s.board.trngOk then s else (s.bump .ceTrngFail 0 0).logEv .trngFail 0 0 0
  if s.densitiesDiffer then s.logEv .mismatch 0 0 0 else s

theorem State.logBringUp_frame {s : State} : Frame [.regs, .ms] s s.logBringUp := by
  have htrng : Frame [.regs, .ms] s
      (if s.board.trngOk then s else (s.bump .ceTrngFail 0 0).logEv .trngFail 0 0 0) :=
    Frame.ite Frame.refl ((State.bump_frame.mono rfl).trans State.logEv_frame)
  exact Frame.ite (htrng.trans State.logEv_frame) htrng

theorem State.Boots.logBringUp {s : State} : State.Boots 2 s s.logBringUp := by
  have htrng : State.Boots 1 s
      (if s.board.trngOk then s else (s.bump .ceTrngFail 0 0).logEv .trngFail 0 0 0) :=
    .ite (.mono .refl (Nat.zero_le _))
      (.trans (n := 0) (.of_eq (State.reg_bumpBy_ne _ _ (by simp))) .logEv)
  exact .ite (.trans htrng .logEv) (.mono htrng (by decide))

/-- The owner is found, tenant numbers are mended, and links train (R59, R62, R448). -/
def State.setOwner (s : State) (por : Bool) : State :=
  let s := { s with hi := { s.hi with owner := s.startOwner } }
  let s := if por && s.strapBad then s.logEv .strapBad 0 (s.board.ownerSel * 4 + s.board.partSel) 0 else s
  s.repairTenants.startLinks

/-- The part runs, and the first rebuild of the KLT begins. -/
def State.beginRun (s : State) (por : Bool) : State :=
  { s with
    qe := { s.qe with window := s.fld .qeWindowEn 0 0 0 0 == 1 }
    klt := { shown := 0, gen := if por then 0 else s.klt.gen, running := [⟨.all, true⟩], waiting := []
             views := if por then [] else s.klt.views }
    ms := { s.ms with
      phase := 2, alert := s.startOwner.isNone && s.board.ownerSel == 3, rollbackDue := s.ms.rollbackDue } }

/-- A rollback not told yet is told to the owner (R470). -/
def State.tellRollback (s : State) : State :=
  match s.ms.rollbackDue with
  | some r => if s.hi.owner.isSome then ({ s with ms := { s.ms with rollbackDue := none } }).chimeOwner 0x204 r 0 else s
  | none => s

/-- With a channel pair left, steps 7 to 9 run to their end. -/
theorem State.startUp_of_pair {s : State} (h : s.pairStands) (por : Bool) :
    s.startUp por = ((s.bringUp.logBringUp.setOwner por).beginRun por).tellRollback := by
  have hpair : ¬((List.range 4).all fun n => !((s.bringUp.logBringUp.mc.pairs.find n).any (·.active))) = true := by
    obtain ⟨n, hn, hp⟩ := h
    rw [State.logBringUp_frame .mc rfl, List.all_eq_true]
    intro hall
    have hout := hall n (List.mem_range.mpr hn)
    rw [State.pairActive_bringUp] at hout
    cases hf : s.mc.pairs.find n with
    | none => simp [hf] at hp
    | some p => simp_all
  exact if_neg hpair

/-! ### A chime with no completion ring in service (R94) -/

theorem State.eventRing_of_no_rings {s : State} (h : s.qe.cqs = []) (f : Fn) : s.eventRing f = none := by
  have hoff : ∀ c, (s.cq f c).enabled = false := by
    intro c
    rw [State.cq, h]
    rfl
  simp [State.eventRing, hoff]

/-- A chime with no ring to go to is lost or waits: QE stays as it is. -/
theorem State.chime_qe_of_no_rings {s : State} (h : s.qe.cqs = []) (f : Fn) (code arg arg2 seq : Nat) :
    (s.chime f code arg arg2 seq).qe = s.qe := by
  have hlose : (s.loseChime f).qe = s.qe := State.loseChime_frame .qe rfl
  unfold State.chime
  rw [State.eventRing_of_no_rings h]
  dsimp only
  split
  · rfl
  split
  · rfl
  split
  · exact hlose
  · split
    · exact hlose
    · rfl

/-! ### The whole start -/

theorem State.setOwner_frame {s : State} {por : Bool} : Frame [.regs, .hi, .ms] s (s.setOwner por) := by
  have howner : Frame [.regs, .hi, .ms] s { s with hi := { s.hi with owner := s.startOwner } } :=
    Frame.hi Frame.refl rfl
  unfold State.setOwner
  extract_lets src u v
  have hv : Frame [.regs, .hi, .ms] s v := Frame.ite (howner.step State.logEv_frame rfl) howner
  exact (hv.step State.repairTenants_frame rfl).step State.startLinks_frame rfl

theorem State.Boots.setOwner {s : State} {por : Bool} : State.Boots 1 s (s.setOwner por) := by
  have howner : State.Boots 0 s { s with hi := { s.hi with owner := s.startOwner } } :=
    .of_frame (Frame.hi (l := [.hi]) Frame.refl rfl)
  unfold State.setOwner
  extract_lets src u v
  have hv : State.Boots 1 s v := .ite (.trans howner .logEv) (.mono howner (Nat.zero_le _))
  exact (hv.trans .repairTenants).trans (.of_frame State.startLinks_frame)

theorem State.Boots.beginRun {s : State} {por : Bool} : State.Boots 0 s (s.beginRun por) := .of_eq rfl

theorem State.Boots.tellRollback {s : State} : State.Boots 0 s s.tellRollback := by
  unfold State.tellRollback
  split
  · have hcleared : State.Boots 0 s { s with ms := { s.ms with rollbackDue := none } } := .of_eq rfl
    exact .ite (.trans hcleared .chimeOwner) .refl
  · exact .refl

theorem State.tellRollback_frame {s : State} : Frame [.regs, .hi, .qe, .ms, .out] s s.tellRollback := by
  unfold State.tellRollback
  split
  · exact Frame.ite ((Frame.ms Frame.refl rfl).step State.chimeOwner_frame rfl) Frame.refl
  · exact Frame.refl

theorem State.tellRollback_phase (s : State) : s.tellRollback.ms.phase = s.ms.phase := by
  unfold State.tellRollback
  split
  · split
    · rw [State.chimeOwner_frame .ms rfl]
    · rfl
  · rfl

theorem State.tellRollback_qe {s : State} (h : s.qe.cqs = []) : s.tellRollback.qe = s.qe := by
  unfold State.tellRollback
  split
  · split
    · unfold State.chimeOwner
      split
      · exact State.chime_qe_of_no_rings (s := { s with ms := { s.ms with rollbackDue := none } }) h ..
      · rfl
    · rfl
  · rfl

/-- What a start that goes through leaves. -/
structure State.Started (por : Bool) (s t : State) : Prop where
  phase : t.ms.phase = 2
  clean : t.ms.clean = false
  klt : t.klt = { shown := 0, gen := if por then 0 else s.klt.gen, running := [⟨.all, true⟩], waiting := []
                  views := if por then [] else s.klt.views }
  ce : t.ce = { s.ce with
    healthy := s.board.trngOk, failed := !s.board.trngOk, seeds := s.ce.seeds + 1, identity := true }
  /-- With no completion ring in service, the start leaves the rings and commands alone. -/
  qe : s.qe.cqs = [] → ∃ w, t.qe = { s.qe with window := w }
  frame : Frame [.regs, .hi, .klt, .qe, .mc, .ce, .ms, .out, .fresh] s t
  boots : State.Boots 4 s t

theorem State.bringUp_frame {s : State} : Frame [.mc, .ce, .fresh] s s.bringUp := by
  intro p hp
  cases p with
  | mc | ce | fresh => exact absurd hp (by decide)
  | _ => rfl

theorem State.beginRun_frame {s : State} {por : Bool} : Frame [.klt, .qe, .ms] s (s.beginRun por) := by
  intro p hp
  cases p with
  | klt | qe | ms => exact absurd hp (by decide)
  | _ => rfl

/-- The part as it is when it begins to run. -/
def State.booted (s : State) (por : Bool) : State := s.startRecords.takeImage.bringUp.logBringUp.setOwner por

theorem State.booted_frame {s : State} {por : Bool} : Frame [.regs, .hi, .mc, .ce, .ms, .fresh] s (s.booted por) := by
  have himg : Frame [.regs, .hi, .mc, .ce, .ms, .fresh] s s.startRecords.takeImage :=
    (State.startRecords_frame.mono rfl).step State.takeImage_frame rfl
  exact ((himg.step State.bringUp_frame rfl).step State.logBringUp_frame rfl).step State.setOwner_frame rfl

/-- Randomness and the identity key come with the start; every other part of CE is as it was. -/
theorem State.booted_ce (s : State) (por : Bool) : (s.booted por).ce =
    { s.ce with healthy := s.board.trngOk, failed := !s.board.trngOk, seeds := s.ce.seeds + 1, identity := true } := by
  have himg : Frame [.regs, .ms] s s.startRecords.takeImage :=
    State.startRecords_frame.trans (State.takeImage_frame.mono rfl)
  calc (s.booted por).ce = s.startRecords.takeImage.bringUp.ce :=
        ((State.logBringUp_frame.mono rfl).trans State.setOwner_frame : Frame [.regs, .hi, .ms] _ _) .ce rfl
    _ = _ := by
      unfold State.bringUp
      rw [himg .ce rfl, himg .board rfl]

theorem State.Boots.booted {s : State} {por : Bool} : State.Boots 3 s.startRecords (s.booted por) :=
  ((State.Boots.takeImage.trans (.of_frame State.bringUp_frame)).trans .logBringUp).trans .setOwner

/-- With the image chosen, steps 7 to 9 go through where a channel pair stands. -/
theorem State.startUp_started {s : State} {por : Bool} (hp : s.pairStands) :
    State.Started por s (s.startRecords.takeImage.startUp por) := by
  have hpair : s.startRecords.takeImage.pairStands := by
    rw [State.pairStands, State.takeImage_frame .mc rfl, State.startRecords_frame .mc rfl]
    exact hp
  have hrun : State.Boots 3 s.startRecords ((s.booted por).beginRun por).tellRollback :=
    (State.Boots.booted.trans .beginRun).trans .tellRollback
  rw [State.startUp_of_pair hpair]
  change State.Started por s ((s.booted por).beginRun por).tellRollback
  refine ⟨State.tellRollback_phase _, hrun.unclean s.startRecords_clean, ?_, ?_, fun h => ?_, ?_,
    .trans (n := 1) .startRecords hrun⟩
  · rw [State.tellRollback_frame .klt rfl, State.beginRun, State.booted_frame .klt rfl]
  · rw [State.tellRollback_frame .ce rfl, State.beginRun_frame .ce rfl, State.booted_ce]
  · have hqe : (s.booted por).qe = s.qe := State.booted_frame .qe rfl
    have hcqs : ((s.booted por).beginRun por).qe.cqs = [] := by
      rw [State.beginRun, hqe]
      exact h
    rw [State.tellRollback_qe hcqs, State.beginRun, hqe]
    exact ⟨_, rfl⟩
  · exact ((State.booted_frame.mono rfl).step State.beginRun_frame rfl).step State.tellRollback_frame rfl

/-- A start goes through where an image and a channel pair stand; a power-on without the memory test needs a clean
shutdown before it (R447, R482). -/
theorem State.start_started {s : State} {por : Bool} (mem : TestRead) (h : s.canStart)
    (hclean : por = true → s.ms.clean = true) :
    State.Started por (if por then s.replayLog else s) (s.start por mem) := by
  obtain ⟨hflash, htrial, hvalid, hpair⟩ := h
  set u := if por then s.replayLog else s with hu
  have hframe : Frame [.ms] s u := Frame.ite State.replayLog_frame Frame.refl
  have himg : u.imageStands := by
    have hs : s.imageStands := ⟨htrial, hvalid⟩
    unfold u
    split
    · exact State.imageStands_congr rfl rfl rfl rfl rfl hs
    · exact hs
  have hdirty : (por && !u.ms.clean) = false := by
    cases por with
    | false => rfl
    | true =>
      rw [Bool.true_and, hu, if_pos rfl]
      exact congrArg (!·) (hclean rfl)
  have hstart : s.start por mem = u.startRecords.takeImage.startUp por := by
    have hchosen := State.chooseImage_of_stands (State.imageStands_startRecords himg) por
    have hboard : ¬u.board.flashMib < 32 := by
      rw [hframe .board rfl]
      omega
    unfold State.start
    extract_lets dirty b c d
    change (if u.board.flashMib < 32 then u.stuck else _) = _
    have hd : d = u.startRecords := by
      refine if_neg ?_
      rw [hdirty]
      simp
    rw [if_neg hboard, hd, hchosen]
  rw [hstart]
  refine State.startUp_started ?_
  rw [State.pairStands, hframe .mc rfl]
  exact hpair

end Sys2Proof.Machine
end

section
/-! The resets that start the part again: DEVRST, the sideband's reset, RESET_N and power-on (R146, R442, R443,
R447). -/

namespace Sys2Proof.Machine

-- One theorem at a time: run ahead of the kernel, each would hold a thread and its stack.
set_option Elab.async false

/-! ### Whether a start goes through -/

/-- A start looks at the board, the images and the channel pairs alone. -/
theorem State.canStart_of_frame {l : List Part} {s t : State} (h : Frame l s t) (hs : s.canStart)
    (hb : l.contains .board = false := by rfl) (hms : l.contains .ms = false := by rfl)
    (hmc : l.contains .mc = false := by rfl) : t.canStart := by
  have hm : t.ms = s.ms := h .ms hms
  obtain ⟨hflash, htrial, hvalid, hpair⟩ := hs
  have himg : t.imageStands := by
    refine State.imageStands_congr (h .board hb) ?_ ?_ ?_ ?_ ⟨htrial, hvalid⟩ <;> rw [hm]
  refine ⟨?_, himg.1, himg.2, ?_⟩
  · rw [h .board hb]
    exact hflash
  · rw [h .mc hmc]
    exact hpair

/-- A reset of the whole part keeps the images, and the channel pairs in and out of the interleave. -/
theorem State.canStart_hardReset {s : State} {por keepScan : Bool} (h : s.canStart) :
    (s.hardReset por keepScan).canStart := by
  obtain ⟨hflash, htrial, hvalid, n, hn, hp⟩ := h
  refine ⟨hflash, htrial, hvalid, n, hn, ?_⟩
  have hpairs : (s.hardReset por keepScan).mc.pairs =
      s.mc.pairs.each fun _ (p : McPair) => { p with ueSeen := [] } := rfl
  rw [hpairs, Tab.find_each, Option.map_map]
  exact hp

/-! ### Device resets (R146, R443) -/

/-- A device reset starts the part again and names its cause. -/
theorem State.deviceReset_restarted {s : State} {bit : Nat} (h : s.canStart) (hb : bit < 4) :
    (s.deviceReset bit).restarted ∧ (s.deviceReset bit).fld .msResetCause 0 0 bit bit = 1 := by
  set u := (s.hardReset false true).setFld .msResetCause 0 0 bit bit 1 with hu
  have hcan : u.canStart := State.canStart_of_frame State.setFld_frame (State.canStart_hardReset h)
  have hstart : State.Started false u (s.deviceReset bit) := State.start_started test0 hcan (by simp)
  have hkeys : u.keyless := State.keyless_congr rfl rfl (s.hardReset_keyless false true)
  obtain ⟨w, hqe⟩ := hstart.qe rfl
  refine ⟨⟨hstart.phase, hstart.boots.power, ?_, ?_, ?_, ?_, ?_, ?_, ?_, ?_, ?_, ?_, ?_⟩, ?_⟩
  · rw [hqe]; rfl
  · rw [hqe]; rfl
  · rw [hqe]; rfl
  · rw [hqe]; rfl
  · refine State.keyless_congr ?_ ?_ hkeys <;> rw [hstart.ce]
  · rw [hstart.frame .pe rfl]; rfl
  · rw [hstart.frame .sm rfl]; rfl
  · rw [hstart.frame .sm rfl]; rfl
  · rw [hstart.frame .sm rfl]; rfl
  · rw [hstart.klt]
  · rw [hstart.klt]
  · rw [hstart.boots.cause bit hb]
    rw [hu, State.fld_setFld_self _ _ _ _ _ le_rfl (hb.trans (by decide)), Nat.add_sub_cancel_left]
    rfl

/-! ### DEVRST (R146) -/

/-- The completion that DEVRST leaves on a host ring: the reset follows its posting. -/
def State.devrstReady (s : State) (c : Cmd) : Ready :=
  ⟨c.fn, s.boundCq c.fn c.ring, c.ring, 0, 0, stSuccess, 0, entTag c.entry, true⟩

/-- A completion made ready for a host ring, with no change of owner waiting. -/
theorem State.makeReady_settled {s : State} {c : Cmd} (hn : s.hi.ownerNext = none) (hr : c.ring < windowRing) :
    (s.makeReady c.fn c.ring (entTag c.entry) stSuccess 0 0 true).settleOwner =
      { s with qe := { s.qe with ready := s.qe.ready ++ [s.devrstReady c] } } := by
  have hg : c.ring ≠ goneRing := (hr.trans (by decide)).ne
  rw [State.makeReady, if_neg hg, if_neg hr.ne]
  unfold State.settleOwner
  dsimp only
  rw [hn]
  rfl

/-- DEVRST on a host ring ends with its completion behind those that wait; the rings stay in service. -/
theorem State.finishCmd_devrst {s : State} {c : Cmd} (hop : entOpcode c.entry = 0x53) (hn : s.hi.ownerNext = none)
    (hr : c.ring < windowRing) :
    (s.finishCmd c stSuccess 0 0).qe.ready = s.qe.ready ++ [s.devrstReady c] ∧
      (s.finishCmd c stSuccess 0 0).qe.cqs = s.qe.cqs ∧ (s.finishCmd c stSuccess 0 0).regs = s.regs := by
  have hw : isWriteClass (entOpcode c.entry) = false := by rw [hop]; rfl
  unfold State.finishCmd
  extract_lets wc s1 res s2 s3 s4
  have h1 : Frame [.pe, .bm] s s1 := by
    unfold s1
    split
    · exact Frame.ite Frame.refl State.giveBack_frame
    · exact Frame.refl
  have h2 : s2 = s1 := by
    unfold s2 wc
    rw [hw]
    split <;> rfl
  have hframe : Frame [.qe, .pe, .bm] s s4 :=
    ((h2 ▸ h1.mono rfl : Frame [.qe, .pe, .bm] s s2).step State.dropCmd_frame rfl).step State.countReset_frame rfl
  have hqe : s4.qe.ready = s.qe.ready ∧ s4.qe.cqs = s.qe.cqs := by
    have hs2 : s2.qe = s.qe := h2 ▸ h1 .qe rfl
    rw [← hs2]
    unfold s4 State.countReset
    extract_lets q
    split <;> exact ⟨rfl, rfl⟩
  have hready : s4.devrstReady c = s.devrstReady c := by
    rw [State.devrstReady, State.boundCq_congr (congrFun (State.reg_congr (hframe .regs rfl) (hframe .board rfl)) _)]
    rfl
  have hres : res = 0 := if_neg (by simp [wc, hw])
  have hflag : (entOpcode c.entry == 0x53 && stSuccess == stSuccess) = true := by simp [hop]
  rw [hres, hflag, State.makeReady_settled (by rw [hframe .hi rfl]; exact hn) hr, hready]
  exact ⟨by rw [hqe.1], hqe.2, hframe .regs rfl⟩

/-- Posting a completion that carries the reset makes the reset due. -/
theorem State.postReady_devrstDue {s : State} {r : Ready} (h : r.devrst = true) :
    (s.postReady r).qe.devrstDue = true := by
  unfold State.postReady
  extract_lets q src u c v
  have hu : u.qe.devrstDue = true := by
    unfold u
    rw [if_pos h]
  split
  · exact hu
  · obtain ⟨⟨l, hl⟩, -⟩ := (State.Chimed.postEntry : u.Chimed v)
    change v.qe.devrstDue = true
    rw [hl]
    exact hu

/-- A lone completion that carries the reset is posted where its ring has room. -/
theorem State.postRing_devrst {s : State} {r : Ready} (hr : s.qe.ready = [r]) (hd : r.devrst = true)
    (hroom : s.cqRoom r.fn r.cq = true) : (s.postRing r.fn r.cq s.qe.ready.length).qe.devrstDue = true := by
  have hpost : s.canPost r = true := by simp [State.canPost, hroom]
  simp only [hr, List.length_singleton, State.postRing, takeFirst, hpost, beq_self_eq_true, Bool.and_self, if_true]
  exact State.postReady_devrstDue hd

theorem State.settleDevrst_of_due {s : State} (h : s.qe.devrstDue = true) : s.settleDevrst = s.deviceReset 2 := if_pos h

/-- What DEVRST does before its reset (R146). -/
def State.postDevrst (s : State) (c : Cmd) : State :=
  let s := s.finishCmd c stSuccess 0 0
  if c.ring = windowRing then { s with qe := { s.qe with devrstDue := true } }
  else s.postRing c.fn (s.boundCq c.fn c.ring) s.qe.ready.length

theorem exec_devrst {s : State} {id : Nat} {c : Cmd} (h : s.holds id 0x53 c) :
    exec (.devrst id) s = .next (s.postDevrst c).settleDevrst :=
  congrArg Host.Outcome.next (State.onCommand_of_holds h _)

theorem State.postDevrst_frame {s : State} {c : Cmd} (hop : entOpcode c.entry = 0x53) (hn : s.hi.ownerNext = none) :
    Frame [.regs, .hi, .qe, .pe, .bm, .out] s (s.postDevrst c) := by
  have hend : Frame [.regs, .hi, .qe, .pe, .bm, .out] s (s.finishCmd c stSuccess 0 0) :=
    State.finishCmd_frame_of_settled hn (by rw [hop]; rfl)
  exact Frame.ite (Frame.qe hend rfl) (hend.step State.postRing_frame rfl)

/-- The reset is due at once in the window, and on a ring with room once the completion is posted. -/
theorem State.postDevrst_due {s : State} {c : Cmd} (hop : entOpcode c.entry = 0x53) (hn : s.hi.ownerNext = none)
    (h : c.ring = windowRing ∨
      (c.ring < windowRing ∧ s.qe.ready = [] ∧ s.cqRoom c.fn (s.boundCq c.fn c.ring) = true)) :
    (s.postDevrst c).qe.devrstDue = true := by
  unfold State.postDevrst
  extract_lets t
  rcases h with hwin | ⟨hhost, hready, hroom⟩
  · rw [if_pos hwin]
  · obtain ⟨hr, hcqs, hregs⟩ := State.finishCmd_devrst hop hn hhost
    have hreg : t.reg = s.reg :=
      State.reg_congr hregs (State.finishCmd_frame_of_settled hn (by rw [hop]; rfl) .board rfl)
    have hcq : t.boundCq c.fn c.ring = s.boundCq c.fn c.ring := by rw [State.boundCq_congr (congrFun hreg _)]
    have hroom' : t.cqRoom c.fn (s.boundCq c.fn c.ring) = true := by
      rw [← hroom]
      simp only [State.cqRoom, State.cq, State.cqSize, State.fld, hreg, hcqs, t]
    rw [hready, List.nil_append] at hr
    rw [if_neg hhost.ne, hcq]
    exact State.postRing_devrst hr rfl hroom'

/-- DEVRST resets the part and starts it again. -/
theorem devrst_restarts {s : State} {id : Nat} {c : Cmd} (hcan : s.canStart) (h : s.holds id 0x53 c)
    (hring : c.ring = windowRing ∨
      (c.ring < windowRing ∧ s.qe.ready = [] ∧ s.cqRoom c.fn (s.boundCq c.fn c.ring) = true)) :
    ∃ t, exec (.devrst id) s = .next t ∧ t.restarted ∧ t.fld .msResetCause 0 0 2 2 = 1 := by
  have hexec := exec_devrst h
  obtain ⟨-, -, hop, hn⟩ := h
  rw [State.settleDevrst_of_due (State.postDevrst_due hop hn hring)] at hexec
  have hcan' : (s.postDevrst c).canStart := State.canStart_of_frame (State.postDevrst_frame hop hn) hcan
  exact ⟨_, hexec, State.deviceReset_restarted hcan' (by decide)⟩

/-- 0xD5 to MS_SB_DEVRST resets the part and starts it again; any other value does nothing (R443). -/
theorem msSbDevrstWrite_restarts {s : State} (hcan : s.canStart) (v : Word) (hs : s.serves .sideband) :
    (v.toNat % 256 = 0xD5 →
      ∃ t, exec (.msSbDevrstWrite v) s = .next t ∧ t.restarted ∧ t.fld .msResetCause 0 0 3 3 = 1) ∧
      (v.toNat % 256 ≠ 0xD5 → exec (.msSbDevrstWrite v) s = .next s) := by
  have hexec : exec (.msSbDevrstWrite v) s = .next (if v.toNat % 256 = 0xD5 then s.deviceReset 3 else s) :=
    congrArg Host.Outcome.next (State.regWrite_of_serves hs _ _ _ _)
  refine ⟨fun hv => ?_, fun hv => ?_⟩
  · rw [if_pos hv] at hexec
    exact ⟨_, hexec, State.deviceReset_restarted hcan (by decide)⟩
  · rw [if_neg hv] at hexec
    exact hexec

/-! ### RESET_N deasserted, and power-on (R447) -/

/-- What RESET_N samples: the board anew, but for the straps (R56). -/
def State.sampled (s : State) (b : Board) : State :=
  { s with board := { b with partSel := s.board.partSel, ownerSel := s.board.ownerSel, lite := s.board.lite } }

/-- RESET_N deasserted starts the part with the straps as sampled at power-on. -/
theorem resetNDeassert_starts {s : State} {b : Board} (hp : s.ms.phase = 1)
    (hcan : (s.sampled b).canStart) :
    ∃ t, exec (.resetNDeassert b) s = .next t ∧ t.ms.phase = 2 ∧ t.board.partSel = s.board.partSel ∧
      t.board.ownerSel = s.board.ownerSel ∧ t.board.lite = s.board.lite ∧ t.klt.shown = 0 ∧
      t.klt.running = [⟨.all, true⟩] ∧ t.ce.identity = true ∧ t.ce.healthy = b.trngOk ∧ s.ms.seq ≤ t.ms.seq := by
  have hstart := State.start_started (por := false) test0 hcan (by simp)
  have hexec : exec (.resetNDeassert b) s = .next ((s.sampled b).start false test0) :=
    congrArg Host.Outcome.next (if_neg (not_not_intro hp))
  refine ⟨_, hexec, hstart.phase, ?_, ?_, ?_, ?_, ?_, ?_, ?_, hstart.boots.seq⟩
  · rw [hstart.frame .board rfl]; rfl
  · rw [hstart.frame .board rfl]; rfl
  · rw [hstart.frame .board rfl]; rfl
  · rw [hstart.klt]
  · rw [hstart.klt]
  · rw [hstart.ce]
  · rw [hstart.ce]; rfl

/-- POWER_ON after a clean shutdown samples the board, replays the NV summary and runs. -/
theorem powerOn_starts {s : State} {b : Board} (m : TestRead) (hp : s.ms.phase = 0)
    (hcan : { s with board := b }.canStart) (hclean : s.ms.clean = true) :
    ∃ t, exec (.powerOn b m) s = .next t ∧ t.ms.phase = 2 ∧ t.board = b ∧ t.klt.shown = 0 ∧ t.klt.gen = 0 ∧
      t.klt.running = [⟨.all, true⟩] ∧ t.ce.identity = true ∧ t.ce.healthy = b.trngOk ∧ t.ms.clean = false ∧
      (s.ms.nvSummary.length ≤ 256 → ∀ e ∈ s.ms.nvSummary, { e with sev := e.sev % 128 + 128 } ∈ t.ms.log) ∧
      s.ms.seqBound ≤ t.ms.seq := by
  have hstart := State.start_started (por := true)
    (s := { s with board := b, ms := { s.ms with phase := 1, ioUp := true } }) m hcan (fun _ => hclean)
  have hexec : exec (.powerOn b m) s = .next _ := congrArg Host.Outcome.next (if_neg (not_not_intro hp))
  refine ⟨_, hexec, hstart.phase, ?_, ?_, ?_, ?_, ?_, ?_, hstart.clean, fun hlen e he => ?_, hstart.boots.seq⟩
  · rw [hstart.frame .board rfl]; rfl
  · rw [hstart.klt]
  · rw [hstart.klt]; rfl
  · rw [hstart.klt]
  · rw [hstart.ce]
  · rw [hstart.ce]; rfl
  · obtain ⟨l, -, hlog⟩ := hstart.boots.log (by
      change (List.map _ s.ms.nvSummary).length + 4 ≤ 4096
      rw [List.length_map]
      omega)
    rw [hlog]
    exact List.mem_append_left _ (List.mem_map.mpr ⟨e, he, rfl⟩)

/-- Settles O56: what power and RESET_N take, and the four ways back to a start. -/
theorem whatPowerAndResetsLeave : Obligations.WhatPowerAndResetsLeave := by
  refine ⟨fun s io hp => ⟨powerLoss_clears io hp, resetNAssert_clears hp⟩, fun s hcan => ⟨fun id c h hwin => ?_,
    fun id c h hhost hready hroom => ?_, fun v hs => msSbDevrstWrite_restarts hcan v hs⟩,
    fun s b => ⟨fun hp hcan => resetNDeassert_starts hp hcan, fun m hp hcan hclean => powerOn_starts m hp hcan hclean⟩,
    fun s hp => congrArg Host.Outcome.next (if_pos hp)⟩
  · exact devrst_restarts hcan h (.inl hwin)
  · exact devrst_restarts hcan h (.inr ⟨hhost, hready, hroom⟩)

end Sys2Proof.Machine
end

section
/-! Interrupts (R61, R91): when a completion ring signals its vector, and what MSI-X enable and mask do. -/

namespace Sys2Proof.Machine

-- One theorem at a time: run ahead of the kernel, each would hold a thread and its stack.
set_option Elab.async false

/-! ### Signalling a vector -/

/-- A completion ring's vector (R75). -/
def State.cqVector (s : State) (f c : Nat) : Nat := s.fld .qeCqCfg f c 12 0

/-- A message that a masked vector holds: its Pending Bit is set. -/
def State.holdMessage (s : State) (f v : Nat) : State :=
  s.modFctx f fun x => { x with pba := if x.pba.contains v then x.pba else v :: x.pba }

theorem State.holdMessage_pending (s : State) (f v : Nat) : ((s.holdMessage f v).fctx f).pba.contains v = true := by
  rw [State.holdMessage, State.fctx_modFctx_self]
  dsimp only
  split
  case isTrue h => exact h
  case isFalse => simp

/-- The ring's counting starts anew, as its vector is signalled. -/
def State.countAnew (s : State) (f c : Nat) : State := s.setCq f c { s.cq f c with due := false, since := 0 }

/-- A ring that is due and whose vector can be signalled counts anew, and its message is sent or held. -/
theorem State.signal_of_due {s : State} {f c : Nat} (hd : (s.cq f c).due = true) (hm : (s.fctx f).msix = true)
    (hv : s.cqVector f c < s.vecCount f) : s.signal f c =
      if (s.fctx f).masked.contains (s.cqVector f c) then (s.countAnew f c).holdMessage f (s.cqVector f c)
      else (s.countAnew f c).emit (.msix f (s.cqVector f c)) :=
  if_pos (by simpa [hd, hm, State.cqVector] using hv)

/-- Signalling a ring leaves MSI-X Enable as it is. -/
theorem State.signal_msix (s : State) (f c : Nat) (g : Fn) : ((s.signal f c).fctx g).msix = (s.fctx g).msix := by
  unfold State.signal
  extract_lets q v u
  split
  · split
    · rcases eq_or_ne g f with rfl | hg
      · rw [State.fctx_modFctx_self]
        rfl
      · rw [State.fctx_modFctx_ne _ _ hg]
        rfl
    · rfl
  · rfl

theorem State.signalAll_msix (s : State) (f g : Fn) : ((s.signalAll f).fctx g).msix = (s.fctx g).msix := by
  unfold State.signalAll
  generalize s.qe.cqs.keys.filter _ = l
  induction l generalizing s with
  | nil => rfl
  | cons k l ih => exact (ih _).trans (s.signal_msix f _ g)

/-! ### The three commands -/

/-- The end of a ring's moderation time. -/
theorem cqModerationTimer_signals {s : State} {f c : Nat} (he : (s.cq f c).enabled = true) (hs : 0 < (s.cq f c).since)
    (ht : (s.cq f c).modTime ≠ 0) (hm : (s.fctx f).msix = true) (hv : s.cqVector f c < s.vecCount f) :
    ∃ t, exec (.cqModerationTimer f c) s = .next t ∧ t.cq f c = { s.cq f c with due := false, since := 0 } ∧
      ((s.fctx f).masked.contains (s.cqVector f c) = false → t.out = s.out ++ [.msix f (s.cqVector f c)]) ∧
      ((s.fctx f).masked.contains (s.cqVector f c) = true → t.out = s.out ∧
        (t.fctx f).pba.contains (s.cqVector f c) = true) := by
  let u := s.setCq f c { s.cq f c with due := true }
  have hexec : exec (.cqModerationTimer f c) s = .next (u.signal f c) := if_pos ⟨he, hs, ht⟩
  have hu : u.cq f c = { s.cq f c with due := true } := State.cq_setCq_self ..
  have hsig := State.signal_of_due (s := u) (f := f) (c := c) (by rw [hu]) hm hv
  have hcq : (u.countAnew f c).cq f c = { s.cq f c with due := false, since := 0 } := by
    rw [State.countAnew, State.cq_setCq_self, hu]
  refine ⟨_, hexec, ?_⟩
  rw [hsig]
  split
  case isTrue hmask =>
    exact ⟨hcq, fun h => absurd (hmask.symm.trans h) (by decide), fun _ => ⟨rfl, State.holdMessage_pending ..⟩⟩
  case isFalse hmask => exact ⟨hcq, fun _ => rfl, fun h => absurd h hmask⟩

/-- The host sets a function's MSI-X Enable. -/
theorem msixEnable_enables (s : State) (f : Nat) :
    ∃ t, exec (.msixEnable f true) s = .next t ∧ (t.fctx f).msix = true ∧ Frame [.hi, .qe, .out] s t := by
  refine ⟨(s.modFctx f fun x => { x with msix := true }).signalAll f, rfl, ?_,
    (State.modFctx_frame.mono rfl).step State.signalAll_frame rfl⟩
  rw [State.signalAll_msix, State.fctx_modFctx_self]

/-- The vector's Mask bit and Pending Bit cleared. -/
def State.unmask (s : State) (f v : Nat) : State :=
  s.modFctx f fun x => { x with masked := x.masked.filter (· != v), pba := x.pba.filter (· != v) }

/-- The host unmasks a vector: a message that was held for it is sent. -/
theorem msixVectorUnmask_sends (s : State) (f v : Nat) :
    ∃ t, exec (.msixVectorUnmask f v) s = .next t ∧ (t.fctx f).masked.contains v = false ∧
      (t.fctx f).pba.contains v = false ∧ (∀ g, g ≠ f → t.fctx g = s.fctx g) ∧
      t.out = (if (s.fctx f).pba.contains v then s.out ++ [.msix f v] else s.out) ∧ Frame [.hi, .out] s t := by
  let t := if (s.fctx f).pba.contains v then (s.unmask f v).emit (.msix f v) else s.unmask f v
  have hfctx : t.fctx = (s.unmask f v).fctx := by
    unfold t
    split <;> rfl
  have hself : t.fctx f = { s.fctx f with
      masked := (s.fctx f).masked.filter (· != v), pba := (s.fctx f).pba.filter (· != v) } := by
    rw [hfctx]
    exact State.fctx_modFctx_self ..
  refine ⟨t, rfl, ?_, ?_, fun g hg => ?_, ?_, ?_⟩
  · simp [hself]
  · simp [hself]
  · rw [hfctx]
    exact State.fctx_modFctx_ne _ _ hg
  · unfold t
    split <;> rfl
  · have hu : Frame [.hi, .out] s (s.unmask f v) := State.modFctx_frame.mono rfl
    exact Frame.ite (hu.step State.emit_frame rfl) hu

/-- Settles O18: the moderation time, MSI-X Enable, and the unmasking of a vector. -/
theorem interruptsAreModeratedAndMasked : Obligations.InterruptsAreModeratedAndMasked :=
  ⟨fun _ _ _ he hs ht hm hv => cqModerationTimer_signals he hs ht hm hv, fun s f => ⟨rfl, msixEnable_enables s f⟩,
    fun s f v => msixVectorUnmask_sends s f v⟩

end Sys2Proof.Machine
end

section
/-! The owner's writes to the allocation registers, tenant numbers and VF quotas (R58, R59, R65 to R67). -/

namespace Sys2Proof.Machine

-- One theorem at a time: run ahead of the kernel, each would hold a thread and its stack.
set_option Elab.async false

/-! ### A function's registers -/

/-- The registers of two functions are two registers. -/
theorem fnReg_ne {f g : Fn} {r r' : RegName} (h : g ≠ f) : (r', partOf g, idxOf g) ≠ (r, partOf f, idxOf f) := by
  intro he
  refine h ?_
  obtain ⟨-, hp, hi⟩ : r' = r ∧ partOf g = partOf f ∧ idxOf g = idxOf f := by simpa using he
  calc g = 256 * partOf g + idxOf g := (Nat.div_add_mod g 256).symm
    _ = 256 * partOf f + idxOf f := by rw [hp, hi]
    _ = f := Nat.div_add_mod f 256

/-- What a function's allocation register reads after a write to one of them. -/
theorem State.alloc_setReg_self (s : State) (r r' : RegName) (f : Fn) (v : Nat) :
    (s.setReg r (partOf f) (idxOf f) v).alloc r' f = if r = r' then v % 2 ^ 32 else s.alloc r' f := by
  split
  case isTrue h => rw [← h, State.alloc, State.reg_setReg_self]
  case isFalse h => exact State.reg_setReg_ne s v fun he => h (Prod.mk.inj he).1.symm

theorem State.alloc_setReg_ne (s : State) (r r' : RegName) {f g : Fn} (v : Nat) (h : g ≠ f) :
    (s.setReg r (partOf f) (idxOf f) v).alloc r' g = s.alloc r' g := State.reg_setReg_ne s v (fnReg_ne h)

/-! ### Allocation writes (R65, R67) -/

theorem allocReg_width (k : AllocKind) : (allocReg k).2 ≤ 32 := by
  cases k <;> decide

theorem mod_allocReg_lt (k : AllocKind) (v : Nat) : v % 2 ^ (allocReg k).2 % 2 ^ 32 = v % 2 ^ (allocReg k).2 :=
  Nat.mod_eq_of_lt ((Nat.mod_lt _ (by positivity)).trans_le (Nat.pow_le_pow_right (by decide) (allocReg_width k)))

/-- A write that R65 lets through, on a register that it may change. -/
theorem State.writeAlloc_of_fits {s : State} {o part f v : Nat} {k : AllocKind} (ho : s.isOwner o = true)
    (hf : s.selFn part = some f) (hne : s.alloc (allocReg k).1 f ≠ v % 2 ^ (allocReg k).2)
    (hc : s.allocCond f k (v % 2 ^ (allocReg k).2) = true) (hfit : s.allocFits f k (v % 2 ^ (allocReg k).2) = true) :
    s.writeAlloc (.fn o) part k v =
      (s.setReg (allocReg k).1 (partOf f) (idxOf f) (v % 2 ^ (allocReg k).2)).allocApplied f k := by
  simp [State.writeAlloc, State.reachesBlock, ho, hf, hne, hc, hfit]

theorem State.writeAlloc_of_refused {s : State} {o part f v : Nat} {k : AllocKind} (ho : s.isOwner o = true)
    (hf : s.selFn part = some f) (hne : s.alloc (allocReg k).1 f ≠ v % 2 ^ (allocReg k).2)
    (hc : s.allocCond f k (v % 2 ^ (allocReg k).2) = true) (hfit : s.allocFits f k (v % 2 ^ (allocReg k).2) = false) :
    s.writeAlloc (.fn o) part k v = s.allocReject (allocReg k).1 part := by
  simp [State.writeAlloc, State.reachesBlock, ho, hf, hne, hc, hfit]

/-- What follows a write of a base or a count: a rebuild of the KLT, and for vectors the interrupts that waited (R41,
R91). No register changes. -/
theorem State.allocApplied_range_frame {s : State} {f : Fn} {k : AllocKind} (hk : (allocRange k).isSome = true) :
    Frame [.hi, .klt, .qe, .out] s (s.allocApplied f k) := by
  have hklt : Frame [.hi, .klt, .qe, .out] s (s.kltTrigger (.fns [f]) false) := State.kltTrigger_frame.mono rfl
  cases k with
  | weight | bufMin | bufMax => cases hk
  | vecBase | vecCount => exact hklt.step State.signalAll_frame rfl
  | _ => exact hklt

/-- A range as R65 judges a write of its base or its count: it ends within the device total and meets no other
function's. -/
theorem State.range_of_allocFits {s : State} {f : Fn} {k : AllocKind} {v total : Nat} {rb rc : RegName}
    (hk : allocRange k = some (rb, rc, total)) (hfit : s.allocFits f k v = true) :
    let b := if (allocReg k).1 = rb then v else s.alloc rb f
    let c := if (allocReg k).1 = rc then v else s.alloc rc f
    b + c ≤ total ∧ ∀ g ∈ s.allocFns, g ≠ f → overlaps b c (s.alloc rb g) (s.alloc rc g) = false := by
  simpa [State.allocFits, hk, or_iff_not_imp_left] using hfit

/-- HI_FN_ALLOC_WRITE of a base or a count that R65 lets through. -/
theorem hiFnAllocWrite_fits {s : State} {o part f : Nat} {k : AllocKind} {v : Word} (hs : s.serves (.fn o))
    (ho : s.isOwner o = true) (hf : s.selFn part = some f) (hk : (allocRange k).isSome = true)
    (hne : s.alloc (allocReg k).1 f ≠ v.toNat % 2 ^ (allocReg k).2)
    (hc : s.allocCond f k (v.toNat % 2 ^ (allocReg k).2) = true)
    (hfit : s.allocFits f k (v.toNat % 2 ^ (allocReg k).2) = true) :
    ∃ t, exec (.hiFnAllocWrite (.fn o) part k v) s = .next t ∧
      t.alloc (allocReg k).1 f = v.toNat % 2 ^ (allocReg k).2 ∧
      (∀ g, g ≠ f → t.alloc (allocReg k).1 g = s.alloc (allocReg k).1 g) ∧
      (∀ rb rc total, allocRange k = some (rb, rc, total) → t.alloc rb f + t.alloc rc f ≤ total ∧
        ∀ g, g ∈ s.allocFns → g ≠ f → overlaps (t.alloc rb f) (t.alloc rc f) (t.alloc rb g) (t.alloc rc g) = false) ∧
      State.regsBut [(allocReg k).1] s t ∧ Frame [.regs, .hi, .klt, .qe, .out] s t := by
  let u := s.setReg (allocReg k).1 (partOf f) (idxOf f) (v.toNat % 2 ^ (allocReg k).2)
  have hexec : exec (.hiFnAllocWrite (.fn o) part k v) s = .next (u.allocApplied f k) :=
    congrArg Host.Outcome.next
      ((State.regWrite_of_serves hs _ _ _ _).trans (State.writeAlloc_of_fits ho hf hne hc hfit))
  have happ : Frame [.hi, .klt, .qe, .out] u (u.allocApplied f k) := State.allocApplied_range_frame hk
  have hreg : (u.allocApplied f k).reg = u.reg := State.reg_congr (happ .regs rfl) (happ .board rfl)
  have halloc (r : RegName) (g : Fn) : (u.allocApplied f k).alloc r g = u.alloc r g := by
    simp only [State.alloc, hreg]
  have hself (r : RegName) : u.alloc r f =
      if (allocReg k).1 = r then v.toNat % 2 ^ (allocReg k).2 else s.alloc r f := by
    rw [State.alloc_setReg_self, mod_allocReg_lt]
  have hother (r : RegName) {g : Fn} (hg : g ≠ f) : u.alloc r g = s.alloc r g := State.alloc_setReg_ne s _ r _ hg
  refine ⟨_, hexec, ?_, fun g hg => ?_, fun rb rc total hr => ?_, fun r i j hr => ?_, ?_⟩
  · rw [halloc, hself, if_pos rfl]
  · rw [halloc, hother _ hg]
  · obtain ⟨htotal, hapart⟩ := State.range_of_allocFits hr hfit
    simp only [halloc, hself]
    refine ⟨htotal, fun g hmem hg => ?_⟩
    rw [hother _ hg, hother _ hg]
    exact hapart g hmem hg
  · rw [hreg]
    exact State.regsBut_setReg (List.mem_singleton_self _) r i j hr
  · exact (State.setReg_frame.mono rfl).step happ rfl

/-- A refusal by R65 sets HI_ALLOC_STATUS, and writes no register beside it and the count of log entries lost. -/
theorem State.allocReject_spec (s : State) (r : RegName) (part : Nat) :
    (s.allocReject r part).fld .hiAllocStatus part 0 0 0 = 1 ∧
      State.regsBut [.hiAllocStatus, .msLogLost] s (s.allocReject r part) := by
  let u := s.setFld .hiAllocStatus part 0 0 0 1
  have hlog : State.regsBut [.msLogLost] u (s.allocReject r part) := State.logEv_regsBut
  have hset : State.regsBut [.hiAllocStatus] s u := State.regsBut_setFld (List.mem_singleton_self _)
  refine ⟨?_, State.regsBut_trans (State.regsBut_mono hset (by simp)) (State.regsBut_mono hlog (by simp))⟩
  rw [State.fld, hlog .hiAllocStatus part 0 rfl]
  exact State.fld_setFld_self s _ _ _ _ le_rfl (by decide)

/-- HI_FN_ALLOC_WRITE of what R65 refuses. -/
theorem hiFnAllocWrite_refused {s : State} {o part f : Nat} {k : AllocKind} {v : Word} (hs : s.serves (.fn o))
    (ho : s.isOwner o = true) (hf : s.selFn part = some f)
    (hne : s.alloc (allocReg k).1 f ≠ v.toNat % 2 ^ (allocReg k).2)
    (hc : s.allocCond f k (v.toNat % 2 ^ (allocReg k).2) = true)
    (hfit : s.allocFits f k (v.toNat % 2 ^ (allocReg k).2) = false) :
    ∃ t, exec (.hiFnAllocWrite (.fn o) part k v) s = .next t ∧
      t.alloc (allocReg k).1 f = s.alloc (allocReg k).1 f ∧ t.fld .hiAllocStatus part 0 0 0 = 1 ∧
      Frame [.regs, .ms] s t := by
  have hexec : exec (.hiFnAllocWrite (.fn o) part k v) s = .next (s.allocReject (allocReg k).1 part) :=
    congrArg Host.Outcome.next
      ((State.regWrite_of_serves hs _ _ _ _).trans (State.writeAlloc_of_refused ho hf hne hc hfit))
  obtain ⟨hflag, hkept⟩ := s.allocReject_spec (allocReg k).1 part
  exact ⟨_, hexec, hkept _ _ _ (by cases k <;> rfl), hflag, State.allocReject_frame⟩

/-! ### Tenant numbers (R59) -/

/-- A write to a register of class N is read as any other. -/
theorem State.reg_writeN (s : State) (r : RegName) (i k v : Nat) : (s.writeN r i k v).reg = (s.setReg r i k v).reg :=
  rfl

theorem State.regsBut_writeN {l : List RegName} {s : State} {r : RegName} {i k v : Nat} (hr : r ∈ l) :
    State.regsBut l s (s.writeN r i k v) := State.regsBut_setReg hr

/-- The function that HI_FN_INDEX selects lies in the partition of the write (R67). -/
theorem State.partOf_of_selFn {s : State} {part f : Nat} (h : s.selFn part = some f) : partOf f = part := by
  have hidx : s.fld .hiFnIndex part 0 7 0 < 256 := Nat.mod_lt _ (by decide)
  obtain ⟨-, hf⟩ := Option.ite_none_right_eq_some.mp h
  rw [← Option.some.inj hf, partOf, fnOf, Nat.mul_comm, Nat.mul_add_div (by decide), Nat.div_eq_of_lt hidx,
    Nat.add_zero]

/-- A tenant number that is free, for a function with nothing under its old one (R59, R66). -/
theorem State.writeTenant_of_free {s : State} {o part f v : Nat} (ho : s.isOwner o = true) (hf : s.selFn part = some f)
    (hne : s.tenant f ≠ v % 256) (hopen : s.openStreams f = 0) (hkey : s.anyKey f = false) (h0 : v % 256 ≠ 0)
    (hfree : (s.quotaFns.all fun g => g == f || s.tenant g != v % 256) = true) :
    s.writeTenant (.fn o) part v = s.writeN .hiFnTenant (partOf f) (idxOf f) (v % 256) := by
  have hheld : ¬ (v % 256 = 0 ∨ (s.quotaFns.any fun g => g != f && s.tenant g == v % 256) = true) := by
    simpa [h0, or_iff_not_imp_left] using hfree
  simp only [State.writeTenant, State.reachesBlock, ho, hf, if_neg hne, if_neg hheld, hopen, hkey,
    State.partOf_of_selFn hf]
  rfl

/-- HI_FN_TENANT_WRITE of a number that no other function holds. -/
theorem hiFnTenantWrite_takes {s : State} {o part f : Nat} {v : Word} (hs : s.serves (.fn o)) (ho : s.isOwner o = true)
    (hf : s.selFn part = some f) (hne : s.tenant f ≠ v.toNat % 256) (hopen : s.openStreams f = 0)
    (hkey : s.anyKey f = false) (h0 : v.toNat % 256 ≠ 0)
    (hfree : (s.quotaFns.all fun g => g == f || s.tenant g != v.toNat % 256) = true) :
    ∃ t, exec (.hiFnTenantWrite (.fn o) part v) s = .next t ∧ t.tenant f = v.toNat % 256 ∧
      State.regsBut [.hiFnTenant] s t ∧ Frame [.regs, .ms] s t := by
  refine ⟨s.writeN .hiFnTenant (partOf f) (idxOf f) (v.toNat % 256), ?_, ?_,
    State.regsBut_writeN (List.mem_singleton_self _), State.writeN_frame⟩
  · exact congrArg Host.Outcome.next
      ((State.regWrite_of_serves hs _ _ _ _).trans (State.writeTenant_of_free ho hf hne hopen hkey h0 hfree))
  · rw [State.tenant, State.alloc, State.reg_writeN, State.reg_setReg_self]
    omega

/-! ### VF quotas (R58, R59) -/

/-- Writes that each leave the other registers alone do so together. -/
theorem State.regsBut_foldl {α : Type} {l : List RegName} {g : State → α → State} (h : ∀ u a, State.regsBut l u (g u a))
    (xs : List α) (s : State) : State.regsBut l s (xs.foldl g s) := by
  induction xs generalizing s with
  | nil => exact State.regsBut_refl
  | cons a xs ih => exact State.regsBut_trans (h s a) (ih _)

theorem State.numberVf_regsBut {s : State} {f : Fn} : State.regsBut [.hiFnTenant] s (s.numberVf f) := by
  unfold State.numberVf
  split
  · exact State.regsBut_writeN (List.mem_singleton_self _)
  · exact State.regsBut_refl

/-- A quota that fits is stored; of the registers, only tenant numbers follow it (R59). -/
theorem State.writeQuota_of_fits {s : State} {o part v : Nat} (ho : s.isOwner o = true) (hp : part < s.parts)
    (hne : v % 256 ≠ s.reg .hiVfQuota part 0 % 256) (hvfs : s.vfs part = 0)
    (hfit : (((List.range s.parts).filter (· != part)).map fun p => s.reg .hiVfQuota p 0 % 256).sum + v % 256 ≤
      (if s.parts = 4 then 251 else 252)) :
    State.regsBut [.hiFnTenant] (s.setReg .hiVfQuota part 0 (v % 256)) (s.writeQuota (.fn o) part v) := by
  have hreach : ¬ (!s.reachesBlock (.fn o) || !decide (part < s.parts)) = true := by simp [State.reachesBlock, ho, hp]
  rw [State.writeQuota, if_neg hreach, if_neg hne, if_neg (not_not_intro hvfs), if_neg (Nat.not_lt.mpr hfit)]
  split
  · exact State.regsBut_foldl (fun _ _ => State.numberVf_regsBut) _ _
  · exact State.regsBut_foldl (fun _ _ => State.regsBut_writeN (List.mem_singleton_self _)) _ _

/-- HI_VF_QUOTA_WRITE of a quota that fits, with no VF enabled. -/
theorem hiVfQuotaWrite_takes {s : State} {o part : Nat} {v : Word} (hs : s.serves (.fn o)) (ho : s.isOwner o = true)
    (hp : part < s.parts) (hne : v.toNat % 256 ≠ s.reg .hiVfQuota part 0 % 256) (hvfs : s.vfs part = 0)
    (hfit : (((List.range s.parts).filter (· != part)).map fun p => s.reg .hiVfQuota p 0 % 256).sum + v.toNat % 256 ≤
      (if s.parts = 4 then 251 else 252)) :
    ∃ t, exec (.hiVfQuotaWrite (.fn o) part v) s = .next t ∧ t.reg .hiVfQuota part 0 = v.toNat % 256 ∧
      State.regsBut [.hiVfQuota, .hiFnTenant] s t ∧ Frame [.regs, .ms] s t := by
  have hrest := State.writeQuota_of_fits ho hp hne hvfs hfit
  refine ⟨s.writeQuota (.fn o) part v.toNat, congrArg Host.Outcome.next (State.regWrite_of_serves hs _ _ _ _), ?_, ?_,
    State.writeQuota_frame⟩
  · rw [hrest .hiVfQuota part 0 rfl, State.reg_setReg_self]
    omega
  · exact State.regsBut_trans (State.regsBut_setReg (by simp)) (State.regsBut_mono hrest (by simp))

/-- Settles O19: an allocation that fits, one that R65 refuses, a tenant number, and a VF quota. -/
theorem allocationsNeverOverlap : Obligations.AllocationsNeverOverlap :=
  fun _ _ _ _ hs ho =>
    ⟨fun _ _ hf hk hne hc => ⟨hiFnAllocWrite_fits hs ho hf hk hne hc, hiFnAllocWrite_refused hs ho hf hne hc⟩,
      fun _ hf hne hopen hkey h0 hfree => hiFnTenantWrite_takes hs ho hf hne hopen hkey h0 hfree,
      fun hp hne hvfs hfit => hiVfQuotaWrite_takes hs ho hp hne hvfs hfit⟩

end Sys2Proof.Machine
end

section
/-! What the end of a command leaves of the links, of the rings' echo and of what was sent before (R87, R88, R103). -/

namespace Sys2Proof.Machine

-- One theorem at a time: run ahead of the kernel, each would hold a thread and its stack.
set_option Elab.async false

/-! ### What a completion leaves (R87, R88, R103) -/

/-- What posting entries, chimes and completions leaves standing: what was sent, the links, and the rings' echo. -/
structure State.Posts (s t : State) : Prop where
  out : s.out <+: t.out
  links : t.hi.links = s.hi.links
  echo : ∀ f r, (t.sq f r).echo = (s.sq f r).echo

namespace State.Posts

variable {s t u : State}

theorem refl : s.Posts s := ⟨List.prefix_rfl, rfl, fun _ _ => rfl⟩

theorem trans (h1 : s.Posts t) (h2 : t.Posts u) : s.Posts u :=
  ⟨h1.out.trans h2.out, h2.links.trans h1.links, fun f r => (h2.echo f r).trans (h1.echo f r)⟩

theorem ite {c : Prop} [Decidable c] (h1 : s.Posts t) (h2 : s.Posts u) : s.Posts (if c then t else u) := by
  split
  · exact h1
  · exact h2

/-- Work that reaches the submission rings, the links and what is sent in nothing. -/
theorem of_eq (ho : t.out = s.out := by rfl) (hl : t.hi.links = s.hi.links := by rfl)
    (hq : t.qe.sqs = s.qe.sqs := by rfl) : s.Posts t :=
  ⟨ho ▸ List.prefix_rfl, hl, fun f r => by rw [State.sq, hq, State.sq]⟩

theorem of_frame {l : List Part} (h : Frame l s t) (ho : l.contains .out = false := by rfl)
    (hh : l.contains .hi = false := by rfl) (hq : l.contains .qe = false := by rfl) : s.Posts t :=
  of_eq (h .out ho) (congrArg HiState.links (h .hi hh)) (congrArg QeState.sqs (h .qe hq))

theorem emit {o : Out} : s.Posts (s.emit o) := ⟨List.prefix_append .., rfl, fun _ _ => rfl⟩

theorem modFctx {f : Fn} {g : FnCtx → FnCtx} : s.Posts (s.modFctx f g) := of_eq

theorem setCq {f c : Nat} {q : CqCtx} : s.Posts (s.setCq f c q) := of_eq

/-- A ring's context changed in other than its echo. -/
theorem setSq {f r : Nat} {q : SqCtx} (h : q.echo = (s.sq f r).echo) : s.Posts (s.setSq f r q) := by
  refine ⟨List.prefix_rfl, rfl, fun g j => ?_⟩
  by_cases hk : (g, j) = (f, r)
  · obtain ⟨rfl, rfl⟩ := Prod.mk.inj hk
    rw [State.sq_setSq_self, h]
  · rw [State.sq_setSq_ne _ _ hk]

theorem signal {f c : Nat} : s.Posts (s.signal f c) := by
  unfold State.signal
  extract_lets q v u
  exact ite (ite (setCq.trans modFctx) (setCq.trans emit)) refl

theorem moderate {f c : Nat} : s.Posts (s.moderate f c) := by
  unfold State.moderate
  extract_lets q cnt tim u
  exact ite refl (setCq.trans signal)

theorem postEntry {f c w0 w1 w2 w3 : Nat} : s.Posts (s.postEntry f c w0 w1 w2 w3) := by
  unfold State.postEntry
  extract_lets q w3' u last v
  exact (emit.trans setCq).trans moderate

theorem loseChime {f : Fn} : s.Posts (s.loseChime f) := modFctx.trans (of_frame State.bump_frame)

theorem chime {f : Fn} {code arg arg2 seq : Nat} : s.Posts (s.chime f code arg arg2 seq) := by
  have hkept (m : Chime) : s.Posts
      ((if (s.fctx f).chimes.any (·.code == code) then s.loseChime f else s).modFctx f
        fun x => { x with chimes := insertChime m x.chimes }) := (ite loseChime refl).trans modFctx
  unfold State.chime
  refine ite refl (ite refl (ite loseChime ?_))
  extract_lets m
  split
  · exact ite postEntry (hkept m)
  · exact hkept m

theorem windowDone {f status detail result : Nat} : s.Posts (s.windowDone f status detail result) := by
  unfold State.windowDone
  extract_lets u v w
  exact ((of_frame State.setReg_frame).trans (of_frame State.setReg_frame)).trans
    ((of_frame State.setReg_frame).trans chime)

theorem makeReady {f ring tag status detail result : Nat} {devrst : Bool} :
    s.Posts (s.makeReady f ring tag status detail result devrst) := by
  unfold State.makeReady
  extract_lets u q
  exact ite (ite of_eq refl) (ite (windowDone.trans (setSq rfl)) of_eq)

theorem countReset {f ring tag : Nat} : s.Posts (s.countReset f ring tag) := by
  unfold State.countReset
  extract_lets q
  exact ite (setSq rfl) refl

/-- The end of a command, with no change of owner waiting for it. -/
theorem finishCmd {c : Cmd} {status detail result : Nat} (hn : s.hi.ownerNext = none) :
    s.Posts (s.finishCmd c status detail result) := by
  unfold State.finishCmd
  extract_lets wc s1 res s2 s3 s4
  have h1 : Frame [.pe, .bm] s s1 := by
    unfold s1
    split
    · exact Frame.ite Frame.refl State.giveBack_frame
    · exact Frame.refl
  have h2 : Frame [.pe, .bm] s s2 := by
    unfold s2
    split
    · exact Frame.ite (h1.step State.tellCredit_frame rfl) h1
    · exact h1
  have h4 : Frame [.qe, .pe, .bm] s s4 :=
    ((h2.mono rfl).step State.dropCmd_frame rfl).step State.countReset_frame rfl
  have hsettled : ∀ v : State, s4.Upholds v → v.settleOwner = v := fun v hv => by
    rw [State.settleOwner, hv.ownerNext (by rw [h4 .hi rfl]; exact hn)]
  rw [hsettled _ .makeReady]
  have hdrop : s2.Posts s3 := of_eq
  exact (((of_frame h2).trans hdrop).trans countReset).trans makeReady

end State.Posts

end Sys2Proof.Machine
end

section
/-! LOOP_TEST (R71, R144, R487 to R491): which loop-backs start, what they take and restore, and what they report. -/

namespace Sys2Proof.Machine

-- One theorem at a time: run ahead of the kernel, each would hold a thread and its stack.
set_option Elab.async false

/-! ### The command in hand -/

/-- A LOOP_TEST in hand is not of the write class. -/
theorem State.notWrite_of_loopTest {s : State} {id : Nat} {c : Cmd} (h : s.holds id 0x70 c) :
    isWriteClass (entOpcode c.entry) = false := by
  obtain ⟨-, -, hop, -⟩ := h
  rw [hop]
  rfl

/-- A loop-back that something keeps from starting ends its command (R71, R144, R487, R490). -/
theorem State.loopStart_of_blocked {s : State} {id st d : Nat} {c : Cmd} {mine : Nat → Bool}
    {before : State → Cmd → State × Bool} (h : s.holds id 0x70 c) (hmine : mine (entAux c.entry) = true)
    (hnew : (s.ms.loops.any fun l => l.cmd == c.id) = false) (hb : s.loopBlock c = some (st, d)) :
    s.loopStart id mine before = s.finishCmd c st d 0 := by
  rw [State.loopStart, State.onCommand_of_holds h, if_neg (by simp [hmine, hnew]), hb]

/-- One that nothing keeps, on a path that is free, does what its depth needs first, and begins where that went well. -/
theorem State.loopStart_of_free {s : State} {id : Nat} {c : Cmd} {mine : Nat → Bool}
    {before : State → Cmd → State × Bool} (h : s.holds id 0x70 c) (hmine : mine (entAux c.entry) = true)
    (hnew : (s.ms.loops.any fun l => l.cmd == c.id) = false) (hb : s.loopBlock c = none)
    (hpath : (s.ms.loops.any fun l => l.samePath (entAux c.entry) (entHandle c.entry)) = false) :
    s.loopStart id mine before = if (before s c).2 then (before s c).1.loopBegin c else (before s c).1 := by
  rw [State.loopStart, State.onCommand_of_holds h, if_neg (by simp [hmine, hnew]), hb]
  exact if_neg (by simp [hpath])

/-- A LOOP_TEST that ends with nothing started: its outcome is told, and MS and CT stay as they were. -/
theorem State.told_of_notStarted {s : State} {id st d : Nat} {c : Cmd} (h : s.holds id 0x70 c) :
    s.told (s.finishCmd c st d 0) c st d 0 ∧ (s.finishCmd c st d 0).ms = s.ms ∧ (s.finishCmd c st d 0).ct = s.ct := by
  have hw := State.notWrite_of_loopTest h
  obtain ⟨-, -, -, hn⟩ := h
  have hframe := State.finishCmd_frame_of_settled (c := c) (status := st) (detail := d) (result := 0) hn hw
  exact ⟨State.told_finishCmd hn rfl hw, hframe .ms rfl, hframe .ct rfl⟩

/-! ### The start of a loop-back (R487 to R489) -/

/-- The loop-back that a command starts. -/
def Cmd.loopRun (c : Cmd) : LoopRun := ⟨c.id, entAux c.entry, entHandle c.entry, entRecord c.entry⟩

/-- A loop-back listed as running. -/
def State.addLoop (s : State) (c : Cmd) : State :=
  { s with ms := { s.ms with loops := s.ms.loops ++ [c.loopRun] } }

/-- A host link in loop-back. -/
def linkLooped : Link := { state := 5, rate := 0, width := 0, flit := false, clk := true }

theorem State.loopBegin_of_host {s : State} {c : Cmd} (h : entAux c.entry < 0x10) :
    s.loopBegin c = { (s.addLoop c).setFld .hiLoopCtrl (entHandle c.entry) 0 1 0 (entAux c.entry) with
      hi := { s.hi with links := s.hi.links.set (entHandle c.entry) linkLooped } } := if_pos h

theorem State.loopBegin_of_echo {s : State} {c : Cmd} (h : entAux c.entry = 0x10) :
    s.loopBegin c = (s.addLoop c).setSq c.fn (entHandle c.entry)
      { s.sq c.fn (entHandle c.entry) with echo := true, echoed := 0 } :=
  (if_neg (by simp [h])).trans (if_pos h)

theorem State.loopBegin_of_inner {s : State} {c : Cmd} (h : 0x10 < entAux c.entry) : s.loopBegin c = s.addLoop c :=
  (if_neg h.le.not_gt).trans (if_neg h.ne')

/-- A loop-back that begins is listed, and its command stays in flight. -/
theorem State.loopBegin_runs (s : State) (c : Cmd) :
    (s.loopBegin c).ms.loops = s.ms.loops ++ [c.loopRun] ∧ (s.loopBegin c).cmd? = s.cmd? ∧
      (s.loopBegin c).out = s.out := by
  obtain h | h | h := lt_trichotomy (entAux c.entry) 0x10
  · rw [State.loopBegin_of_host h]
    exact ⟨rfl, rfl, rfl⟩
  · rw [State.loopBegin_of_echo h]
    exact ⟨rfl, rfl, rfl⟩
  · rw [State.loopBegin_of_inner h]
    exact ⟨rfl, rfl, rfl⟩

/-- The commands of the depths that need nothing first. -/
theorem exec_loopTest {s : State} {id aux : Nat} {i : Instr}
    (hi : (i, true) ∈ [(.loopTestHost id, decide (aux ≤ 3)), (.loopTestDescriptorEcho id, aux == 0x10),
      (.loopTestLpddr5x id, decide (0x20 ≤ aux ∧ aux ≤ 0x22)), (.loopTestDecoder id, decide (0x30 ≤ aux ∧ aux ≤ 0x32)),
      (.loopTestServo id, aux == 0x40), (.loopTestMotion id, aux == 0x50), (.loopTestCartridgeSpi id, aux == 0x60),
      (.loopTestNvFlash id, aux == 0x61)]) :
    ∃ mine : Nat → Bool, mine aux = true ∧ exec i s = .next (s.loopStart id mine loopReady) := by
  simp only [List.mem_cons, Prod.mk.injEq, List.not_mem_nil, or_false] at hi
  obtain ⟨rfl, h⟩ | ⟨rfl, h⟩ | ⟨rfl, h⟩ | ⟨rfl, h⟩ | ⟨rfl, h⟩ | ⟨rfl, h⟩ | ⟨rfl, h⟩ | ⟨rfl, h⟩ := hi <;>
    exact ⟨_, h.symm, rfl⟩

/-- What a loop-back takes as it starts: a host link goes into loop-back, a ring under echo is marked, and an inner
depth touches no register, link or ring. -/
theorem loopTest_starts {s : State} {id : Nat} {c : Cmd} {mine : Nat → Bool} (h : s.holds id 0x70 c)
    (hmine : mine (entAux c.entry) = true) (hnew : (s.ms.loops.any fun l => l.cmd == c.id) = false)
    (hb : s.loopBlock c = none)
    (hpath : (s.ms.loops.any fun l => l.samePath (entAux c.entry) (entHandle c.entry)) = false) :
    s.loopStart id mine loopReady = s.loopBegin c ∧
      (entAux c.entry ≤ 3 → (Tab.find (s.loopBegin c).hi.links (entHandle c.entry)).map (·.state) = some 5) ∧
      (entAux c.entry = 0x10 → ((s.loopBegin c).sq c.fn (entHandle c.entry)).echo = true ∧
        ((s.loopBegin c).sq c.fn (entHandle c.entry)).echoed = 0 ∧
        ((s.loopBegin c).sq c.fn (entHandle c.entry)).head = (s.sq c.fn (entHandle c.entry)).head) ∧
      (0x10 < entAux c.entry → (s.loopBegin c).regs = s.regs ∧ (s.loopBegin c).hi = s.hi ∧
        (s.loopBegin c).qe = s.qe) := by
  refine ⟨State.loopStart_of_free h hmine hnew hb hpath, fun haux => ?_, fun haux => ?_, fun haux => ?_⟩
  · rw [State.loopBegin_of_host (by omega)]
    exact congrArg (Option.map Link.state) (Tab.find_set_self ..)
  · rw [State.loopBegin_of_echo haux, State.sq_setSq_self]
    exact ⟨rfl, rfl, rfl⟩
  · rw [State.loopBegin_of_inner haux]
    exact ⟨rfl, rfl, rfl⟩

/-! ### Depth 0x33: the cartridge is threaded first (R490) -/

/-- The load that a cartridge whose hub was not seated counts (R490). -/
def State.countLoad (s : State) : State := if s.senses 4 then s else s.bump .ctLoads 0 0

/-- Threaded, and with the benchmark of the wrap where the cartridge is not formatted. -/
def State.threadLoop (s : State) (c : Cmd) (formatted : Bool) : State :=
  if formatted then s.countLoad.threadIn else s.countLoad.threadIn.emit (.benchmark (entHandle c.entry))

theorem State.loopThread_of_good (s : State) (c : Cmd) (f : Bool) :
    s.loopThread c true true f = (s.threadLoop c f, true) := if_neg (by simp)

theorem State.loopThread_of_slack (s : State) (c : Cmd) (f : Bool) :
    s.loopThread c true false f = (s.finishCmd c stReadFault 6 0, false) := if_pos (by simp)

theorem State.countLoad_frame {s : State} : Frame [.regs] s s.countLoad := Frame.ite Frame.refl State.bump_frame

theorem State.threadLoop_frame {s : State} {c : Cmd} {f : Bool} :
    Frame [.regs, .wc, .sm, .ct, .out] s (s.threadLoop c f) :=
  have h : Frame [.regs, .wc, .sm, .ct, .out] s s.countLoad.threadIn :=
    (State.countLoad_frame.mono rfl).step State.threadIn_frame rfl
  Frame.ite h (h.step State.emit_frame rfl)

/-- Threading leaves the transport holding the tape, and mounts nothing. -/
theorem State.threadLoop_holds (s : State) (c : Cmd) (f : Bool) :
    (s.threadLoop c f).ct.threaded = true ∧ (s.threadLoop c f).ct.mounted = s.ct.mounted ∧
      (s.threadLoop c f).sm.state = 1 ∧ (s.threadLoop c f).sm.brake = false ∧
      (f = false → Out.benchmark (entHandle c.entry) ∈ (s.threadLoop c f).out) := by
  have hload : s.countLoad.ct = s.ct := State.countLoad_frame .ct rfl
  unfold State.threadLoop
  rw [← hload]
  split
  case isTrue hf => exact ⟨rfl, rfl, rfl, rfl, fun h => absurd (hf.symm.trans h) (by decide)⟩
  case isFalse => exact ⟨rfl, rfl, rfl, rfl, fun _ => List.mem_append_right _ (List.mem_singleton_self _)⟩

/-- The loop-back from head to tape, with the tape threaded and under tension. -/
theorem loopTestHeadTape_starts {s : State} {id : Nat} {c : Cmd} (f : Bool) (h : s.holds id 0x70 c)
    (hnew : (s.ms.loops.any fun l => l.cmd == c.id) = false) (haux : entAux c.entry = 0x33) (hb : s.loopBlock c = none)
    (hpath : (s.ms.loops.any fun l => l.samePath 0x33 (entHandle c.entry)) = false) :
    ∃ t, exec (.loopTestHeadTape id true true f) s = .next t ∧ t.ct.threaded = true ∧ t.ct.mounted = s.ct.mounted ∧
      t.sm.state = 1 ∧ t.sm.brake = false ∧
      t.ms.loops = s.ms.loops ++ [⟨c.id, 0x33, entHandle c.entry, entRecord c.entry⟩] ∧ t.cmd? id = some c ∧
      (f = false → Out.benchmark (entHandle c.entry) ∈ t.out) := by
  have hstart := State.loopStart_of_free (mine := fun a => a == 0x33)
    (before := fun s c => s.loopThread c true true f) h (by simp [haux]) hnew hb (haux ▸ hpath)
  rw [State.loopThread_of_good s c f, if_pos rfl, State.loopBegin_of_inner (haux ▸ (by decide))] at hstart
  obtain ⟨hthreaded, hmounted, hstate, hbrake, hout⟩ := s.threadLoop_holds c f
  have hframe : Frame [.regs, .wc, .sm, .ct, .out] s (s.threadLoop c f) := State.threadLoop_frame
  obtain ⟨hc, -, -, -⟩ := h
  refine ⟨(s.threadLoop c f).addLoop c, congrArg Host.Outcome.next hstart, hthreaded, hmounted, hstate, hbrake, ?_, ?_,
    hout⟩
  · rw [← haux]
    exact congrArg (·.loops ++ [c.loopRun]) (hframe .ms rfl)
  · exact (congrFun (State.cmd?_congr (congrArg QeState.cmds (hframe .qe rfl))) id).trans hc

/-- Without tension the threading fails, and the command with it. -/
theorem loopTestHeadTape_fails {s : State} {id : Nat} {c : Cmd} (f : Bool) (h : s.holds id 0x70 c)
    (hnew : (s.ms.loops.any fun l => l.cmd == c.id) = false) (haux : entAux c.entry = 0x33) (hb : s.loopBlock c = none)
    (hpath : (s.ms.loops.any fun l => l.samePath 0x33 (entHandle c.entry)) = false) :
    exec (.loopTestHeadTape id true false f) s = .next (s.finishCmd c stReadFault 6 0) := by
  have hstart := State.loopStart_of_free (mine := fun a => a == 0x33)
    (before := fun s c => s.loopThread c true false f) h (by simp [haux]) hnew hb (haux ▸ hpath)
  rw [State.loopThread_of_slack s c f, if_neg Bool.false_ne_true] at hstart
  exact congrArg Host.Outcome.next hstart

/-! ### The end of the duration (R488 to R491) -/

@[simp] theorem bytesLE_length (n v : Nat) : (bytesLE n v).length = n := by
  induction n generalizing v with
  | zero => rfl
  | succ n ih => simp [bytesLE, ih]

/-- The report of a loop-back that lists no lanes fills 64 bytes. -/
theorem loopBytes_length {l : LoopRun} {r : LoopReport} {len : Nat} (hr : r.lanes = []) (hlen : 64 ≤ len) :
    (loopBytes l r len).length = 64 := by
  simp [loopBytes, hr, zeros, Nat.not_lt.mpr hlen]

/-- A buffer named in the entry takes what fits into it. -/
theorem State.scatter_of_fits {s : State} {c : Cmd} {data : Bytes} {addr len : Nat} (hg : c.ring ≠ goneRing)
    (h0 : data ≠ []) (hlen : data.length ≤ len) :
    s.scatter c data [⟨addr, len⟩] = s.emit (.dma c.fn addr data) := by
  simp [State.scatter, State.dmaFor, hg, h0, List.take_of_length_le hlen]

/-- Data written to a command's buffer are sent. -/
theorem State.Posts.scatter {s : State} {c : Cmd} {data : Bytes} {ps : List BufPiece} :
    s.Posts (s.scatter c data ps) := by
  induction ps generalizing s data with
  | nil => exact .refl
  | cons p ps ih => exact .ite .refl ((State.Posts.ite .refl .emit : s.Posts (s.dmaFor c p.addr _)).trans ih)

/-- A result is told in 32 bits, saturated. -/
theorem State.told_min {s t : State} {c : Cmd} {st d n : Nat} (h : s.told t c st d (min n 0xFFFFFFFF)) :
    s.told t c st d n := by
  rwa [State.told, min_assoc, min_self] at h

/-- The status with which a loop-back ends (R491). -/
def reportStatus (r : LoopReport) : Nat := if r.errors = 0 then stSuccess else stTestFailed

/-- The end of a loop-back whose buffer its entry names: what it took is restored, its report is written, and its
command ends. -/
theorem State.loopEnd_of_found {s : State} {id : Nat} {c : Cmd} {l : LoopRun} (r : LoopReport) (ps : List BufPiece)
    (hc : s.cmd? id = some c) (hl : (s.ms.loops.find? fun l => l.cmd == id) = some l)
    (hbuf : bitOf (entFlags c.entry) 0 = false) :
    s.loopEnd id ps r = ((s.loopRestore c l).scatter c (loopBytes l (s.loopCounts c l r) (entLen c.entry))
      [⟨entData c.entry, entLen c.entry⟩]).finishCmd c (reportStatus (s.loopCounts c l r)) 0
        (min (s.loopCounts c l r).errors 0xFFFFFFFF) := by
  have hpieces : c.buffer ps = some [⟨entData c.entry, entLen c.entry⟩] := if_neg (by simp [hbuf])
  simp only [State.loopEnd, hl, hc, State.withBuffer, hpieces]
  rfl

/-- A loop-back that runs no more. -/
def State.endLoop (s : State) (l : LoopRun) : State :=
  { s with ms := { s.ms with loops := s.ms.loops.filter fun x => x.cmd != l.cmd } }

theorem State.loopRestore_of_host {s : State} {c : Cmd} {l : LoopRun} (h : l.aux < 0x10)
    (hp : s.hi.perst.contains l.handle = false) :
    s.loopRestore c l = { (s.endLoop l).setFld .hiLoopCtrl l.handle 0 1 0 0 with
      hi := { s.hi with links := s.hi.links.set l.handle linkTraining } } :=
  (if_pos h).trans (if_neg (ne_true_of_eq_false hp))

theorem State.loopRestore_of_echo {s : State} {c : Cmd} {l : LoopRun} (h : l.aux = 0x10) :
    s.loopRestore c l = (s.endLoop l).setSq c.fn l.handle { s.sq c.fn l.handle with echo := false, echoed := 0 } :=
  (if_neg (by simp [h])).trans (if_pos h)

/-- The end of a loop-back takes it off the list; of the registers it writes only that of a host link. -/
theorem State.loopRestore_ends (s : State) (c : Cmd) (l : LoopRun) :
    (s.loopRestore c l).ms.loops = s.ms.loops.filter (fun x => x.cmd != l.cmd) ∧
      (s.loopRestore c l).hi.ownerNext = s.hi.ownerNext ∧ State.regsBut [.hiLoopCtrl] s (s.loopRestore c l) := by
  have hlink {x : HiState} : State.regsBut [.hiLoopCtrl] s
      { (s.endLoop l).setFld .hiLoopCtrl l.handle 0 1 0 0 with hi := x } :=
    State.regsBut_setFld (s := s.endLoop l) (List.mem_singleton_self _)
  unfold State.loopRestore
  extract_lets u v q
  split
  · split
    · exact ⟨rfl, rfl, hlink⟩
    · exact ⟨rfl, rfl, hlink⟩
  · split
    · exact ⟨rfl, rfl, fun _ _ _ _ => rfl⟩
    · exact ⟨rfl, rfl, fun _ _ _ _ => rfl⟩

/-- How LOOP_TEST ends, at every depth: what it found is told and written, and what it took stays restored. -/
theorem loopTestDurationEnd_ends {s : State} {id : Nat} {c : Cmd} {l : LoopRun} (r : LoopReport) (ps : List BufPiece)
    (h : s.holds id 0x70 c) (hl : (s.ms.loops.find? fun l => l.cmd == id) = some l)
    (hbuf : bitOf (entFlags c.entry) 0 = false) :
    ∃ t, exec (.loopTestDurationEnd id ps r) s = .next t ∧
      s.told t c (reportStatus (s.loopCounts c l r)) 0 (s.loopCounts c l r).errors ∧
      t.ms.loops = s.ms.loops.filter (fun x => x.cmd != id) ∧
      (c.ring ≠ goneRing → 64 ≤ entLen c.entry → (s.loopCounts c l r).lanes = [] →
        Out.dma c.fn (entData c.entry) (loopBytes l (s.loopCounts c l r) (entLen c.entry)) ∈ t.out) ∧
      (s.loopRestore c l).Posts t ∧ (s.loopRestore c l).Upholds t := by
  have hw := State.notWrite_of_loopTest h
  obtain ⟨hc, -, -, hn⟩ := h
  obtain ⟨hloops, hnext, hregs⟩ := s.loopRestore_ends c l
  let u := (s.loopRestore c l).scatter c (loopBytes l (s.loopCounts c l r) (entLen c.entry))
    [⟨entData c.entry, entLen c.entry⟩]
  have hu : Frame [.out] (s.loopRestore c l) u := State.scatter_frame
  have hnu : u.hi.ownerNext = none := by
    rw [hu .hi rfl, hnext]
    exact hn
  have hreg : u.reg .qeSqCfg = s.reg .qeSqCfg := by
    rw [State.reg_congr (hu .regs rfl) (hu .board rfl)]
    funext i k
    exact hregs .qeSqCfg i k rfl
  have hlcmd : l.cmd = id := by simpa using List.find?_some hl
  refine ⟨_, congrArg Host.Outcome.next (State.loopEnd_of_found r ps hc hl hbuf), ?_, ?_, fun hg hlen hlanes => ?_, ?_,
    ?_⟩
  · exact State.told_min (State.told_finishCmd hnu hreg hw)
  · rw [State.finishCmd_frame_of_settled hnu hw .ms rfl, hu .ms rfl, hloops, hlcmd]
  · have hbytes := loopBytes_length (l := l) hlanes hlen
    have hne : loopBytes l (s.loopCounts c l r) (entLen c.entry) ≠ [] := List.ne_nil_of_length_pos (by omega)
    have hsent : u = (s.loopRestore c l).emit _ := State.scatter_of_fits hg hne (hbytes.trans_le hlen)
    refine (State.Posts.finishCmd hnu).out.subset ?_
    rw [hsent]
    exact List.mem_append_right _ (List.mem_singleton_self _)
  · exact State.Posts.scatter.trans (State.Posts.finishCmd hnu)
  · exact (State.Upholds.of_frame hu).trans State.Upholds.finishCmd

/-- Echo counts what it echoed itself (R489). -/
theorem State.loopCounts_of_echo {s : State} {c : Cmd} {l : LoopRun} (r : LoopReport) (h : l.aux = 0x10) :
    s.loopCounts c l r = ⟨0, 0, (s.sq c.fn l.handle).echoed, 0, []⟩ := if_pos h

/-- At the other depths the report is what was compared, where EE_INJECT inverts no bits (R488). -/
theorem State.loopCounts_of_compared {s : State} {c : Cmd} {l : LoopRun} (r : LoopReport) (h : l.aux ≠ 0x10)
    (hinj : l.aux ≠ 0x30 ∨ s.injectCount = 0) : s.loopCounts c l r = r :=
  (if_neg h).trans (if_neg (by omega))

/-- The end of echo: the ring is marked no more, and what it echoed is reported. -/
theorem loopTestDurationEnd_echo {s : State} {id : Nat} {c : Cmd} {l : LoopRun} (r : LoopReport) (ps : List BufPiece)
    (h : s.holds id 0x70 c) (hl : (s.ms.loops.find? fun l => l.cmd == id) = some l)
    (hbuf : bitOf (entFlags c.entry) 0 = false) (haux : l.aux = 0x10) :
    ∃ t, exec (.loopTestDurationEnd id ps r) s = .next t ∧ s.told t c stSuccess 0 0 ∧
      (t.sq c.fn l.handle).echo = false ∧ t.ms.loops = s.ms.loops.filter (fun x => x.cmd != id) ∧
      (c.ring ≠ goneRing → 64 ≤ entLen c.entry → Out.dma c.fn (entData c.entry)
        (loopBytes l ⟨0, 0, (s.sq c.fn l.handle).echoed, 0, []⟩ (entLen c.entry)) ∈ t.out) := by
  obtain ⟨t, hexec, htold, hloops, hdma, hposts, -⟩ := loopTestDurationEnd_ends r ps h hl hbuf
  rw [State.loopCounts_of_echo r haux] at htold hdma
  refine ⟨t, hexec, htold, ?_, hloops, fun hg hlen => hdma hg hlen rfl⟩
  rw [hposts.echo, State.loopRestore_of_echo haux, State.sq_setSq_self]

/-- The end at a host depth: the link trains again. -/
theorem loopTestDurationEnd_host {s : State} {id : Nat} {c : Cmd} {l : LoopRun} (r : LoopReport) (ps : List BufPiece)
    (h : s.holds id 0x70 c) (hl : (s.ms.loops.find? fun l => l.cmd == id) = some l)
    (hbuf : bitOf (entFlags c.entry) 0 = false) (haux : l.aux < 0x10) (hp : s.hi.perst.contains l.handle = false) :
    ∃ t, exec (.loopTestDurationEnd id ps r) s = .next t ∧ s.told t c (reportStatus r) 0 r.errors ∧
      Tab.find t.hi.links l.handle = some linkTraining ∧ t.fld .hiLoopCtrl l.handle 0 1 0 = 0 := by
  obtain ⟨t, hexec, htold, -, -, hposts, hup⟩ := loopTestDurationEnd_ends r ps h hl hbuf
  rw [State.loopCounts_of_compared r (by omega) (.inl (by omega))] at htold
  refine ⟨t, hexec, htold, ?_, ?_⟩
  · rw [hposts.links, State.loopRestore_of_host haux hp]
    exact Tab.find_set_self ..
  · rw [State.fld, hup.regs .hiLoopCtrl _ _ (by decide), State.loopRestore_of_host haux hp]
    exact (s.endLoop l).fld_setFld_self _ _ _ _ (by decide) (by decide)

/-- The end at an inner depth: what was compared is told and written. -/
theorem loopTestDurationEnd_inner {s : State} {id : Nat} {c : Cmd} {l : LoopRun} (r : LoopReport) (ps : List BufPiece)
    (h : s.holds id 0x70 c) (hl : (s.ms.loops.find? fun l => l.cmd == id) = some l)
    (hbuf : bitOf (entFlags c.entry) 0 = false) (haux : 0x10 < l.aux) (hinj : l.aux ≠ 0x30 ∨ s.injectCount = 0) :
    ∃ t, exec (.loopTestDurationEnd id ps r) s = .next t ∧ s.told t c (reportStatus r) 0 r.errors ∧
      t.ms.loops = s.ms.loops.filter (fun x => x.cmd != id) ∧
      (c.ring ≠ goneRing → 64 ≤ entLen c.entry → r.lanes = [] →
        Out.dma c.fn (entData c.entry) (loopBytes l r (entLen c.entry)) ∈ t.out) := by
  obtain ⟨t, hexec, htold, hloops, hdma, -, -⟩ := loopTestDurationEnd_ends r ps h hl hbuf
  rw [State.loopCounts_of_compared r haux.ne' hinj] at htold hdma
  exact ⟨t, hexec, htold, hloops, hdma⟩

/-- Settles O53: the depths that need nothing first, the loop-back from head to tape, and the end of each. -/
theorem loopTestsStartAndEnd : Obligations.LoopTestsStartAndEnd := by
  refine ⟨fun s id c i h hnew hi => ?_, fun s id c f h hnew haux => ⟨fun hb hpath => ⟨?_, ?_⟩, fun st d hb => ?_⟩,
    fun s id c l r ps h hl hbuf => ⟨loopTestDurationEnd_inner r ps h hl hbuf, loopTestDurationEnd_echo r ps h hl hbuf,
      loopTestDurationEnd_host r ps h hl hbuf⟩⟩
  · obtain ⟨mine, hmine, hexec⟩ := exec_loopTest hi
    refine ⟨fun hb hpath => ?_, fun st d hb => ?_⟩
    · obtain ⟨hstart, htakes⟩ := loopTest_starts h hmine hnew hb hpath
      obtain ⟨hloops, hcmds, hout⟩ := s.loopBegin_runs c
      have hc : s.cmd? id = some c := h.1
      exact ⟨_, hexec.trans (congrArg Host.Outcome.next hstart), hloops, (congrFun hcmds id).trans hc, hout, htakes⟩
    · obtain ⟨htold, hms, -⟩ := State.told_of_notStarted (st := st) (d := d) h
      exact ⟨_, hexec.trans (congrArg Host.Outcome.next (State.loopStart_of_blocked h hmine hnew hb)), htold,
        congrArg MsState.loops hms⟩
  · exact loopTestHeadTape_starts f h hnew haux hb hpath
  · obtain ⟨htold, hms, hct⟩ := State.told_of_notStarted (st := stReadFault) (d := 6) h
    exact ⟨_, loopTestHeadTape_fails f h hnew haux hb hpath, htold, congrArg MsState.loops hms, hct⟩
  · obtain ⟨htold, hms, hct⟩ := State.told_of_notStarted (st := st) (d := d) h
    exact ⟨_, congrArg Host.Outcome.next (State.loopStart_of_blocked h (by simp [haux]) hnew hb), htold,
      congrArg MsState.loops hms, hct⟩

end Sys2Proof.Machine
end

section
/-! Posting (R88, R91 to R94): the entry that a completion ring takes, its tail and phase, and which of the rings'
contexts moderation and chimes leave as they are. -/

namespace Sys2Proof.Machine

-- One theorem at a time: run ahead of the kernel, each would hold a thread and its stack.
set_option Elab.async false

/-! ### Completion rings but for their moderation (R91) -/

/-- A completion ring's context with its moderation cycle left out. -/
def CqCtx.unmoderated (q : CqCtx) : CqCtx := { q with since := 0, due := false, modCount := 0, modTime := 0 }

theorem State.cq_setCq (s : State) (f c : Nat) (q : CqCtx) (g j : Nat) :
    (s.setCq f c q).cq g j = if (g, j) = (f, c) then q else s.cq g j := by
  split
  case isTrue h =>
    obtain ⟨rfl, rfl⟩ := Prod.mk.inj h
    exact State.cq_setCq_self ..
  case isFalse h => exact State.cq_setCq_ne _ _ h

/-- Writing a context that differs in its moderation alone. -/
theorem State.unmoderated_setCq {s : State} {f c : Nat} {q : CqCtx} (h : q.unmoderated = (s.cq f c).unmoderated)
    (g j : Nat) : ((s.setCq f c q).cq g j).unmoderated = (s.cq g j).unmoderated := by
  rw [State.cq_setCq]
  split
  case isTrue hk =>
    obtain ⟨rfl, rfl⟩ := Prod.mk.inj hk
    exact h
  case isFalse => rfl

theorem State.unmoderated_signal (s : State) (f c g j : Nat) :
    ((s.signal f c).cq g j).unmoderated = (s.cq g j).unmoderated := by
  unfold State.signal
  extract_lets q v u
  have hu : (u.cq g j).unmoderated = (s.cq g j).unmoderated := State.unmoderated_setCq (by rfl) g j
  split
  · split
    · exact hu
    · exact hu
  · rfl

theorem State.unmoderated_moderate (s : State) (f c g j : Nat) :
    ((s.moderate f c).cq g j).unmoderated = (s.cq g j).unmoderated := by
  unfold State.moderate
  extract_lets q cnt tim u
  split
  · rfl
  · exact (State.unmoderated_signal ..).trans (State.unmoderated_setCq (by rfl) g j)

/-! ### One entry (R88) -/

/-- An entry takes the tail's slot: the tail advances, and at the wrap it is 0 again and the phase toggles. -/
def CqCtx.posted (q : CqCtx) (size : Nat) : CqCtx :=
  { q with tail := if size ≤ q.tail + 1 then 0 else q.tail + 1, phase := q.phase != decide (size ≤ q.tail + 1) }

theorem State.unmoderated_postEntry (s : State) (f c w0 w1 w2 w3 g j : Nat) :
    ((s.postEntry f c w0 w1 w2 w3).cq g j).unmoderated =
      ((s.setCq f c ((s.cq f c).posted (s.cqSize f c))).cq g j).unmoderated := by
  have hctx : (s.cq f c).posted (s.cqSize f c) = { s.cq f c with
      tail := if decide (s.cqSize f c ≤ (s.cq f c).tail + 1) then 0 else (s.cq f c).tail + 1
      phase := (s.cq f c).phase != decide (s.cqSize f c ≤ (s.cq f c).tail + 1) } := by
    simp only [CqCtx.posted, decide_eq_true_eq]
  rw [hctx]
  exact State.unmoderated_moderate ..

theorem State.cq_tail_postEntry (s : State) (f c w0 w1 w2 w3 : Nat) :
    ((s.postEntry f c w0 w1 w2 w3).cq f c).tail =
      if s.cqSize f c ≤ (s.cq f c).tail + 1 then 0 else (s.cq f c).tail + 1 := by
  have h := congrArg CqCtx.tail (s.unmoderated_postEntry f c w0 w1 w2 w3 f c)
  rw [State.cq_setCq_self] at h
  exact h

theorem State.cq_phase_postEntry (s : State) (f c w0 w1 w2 w3 : Nat) :
    ((s.postEntry f c w0 w1 w2 w3).cq f c).phase =
      ((s.cq f c).phase != decide (s.cqSize f c ≤ (s.cq f c).tail + 1)) := by
  have h := congrArg CqCtx.phase (s.unmoderated_postEntry f c w0 w1 w2 w3 f c)
  rw [State.cq_setCq_self] at h
  exact h

/-- Posting takes no completion ring out of service. -/
theorem State.cq_failed_postEntry (s : State) (f c w0 w1 w2 w3 g j : Nat) :
    ((s.postEntry f c w0 w1 w2 w3).cq g j).failed = (s.cq g j).failed := by
  have h := congrArg CqCtx.failed (s.unmoderated_postEntry f c w0 w1 w2 w3 g j)
  rw [State.cq_setCq] at h
  refine h.trans ?_
  split
  case isTrue hk =>
    obtain ⟨rfl, rfl⟩ := Prod.mk.inj hk
    rfl
  case isFalse => rfl

/-- The entry goes by DMA to the slot of the tail, its last word with the ring's phase. -/
theorem State.dma_mem_postEntry (s : State) (f c w0 w1 w2 w3 : Nat) :
    Out.dma f (s.cqBase f c + 16 * (s.cq f c).tail)
      (bytesLE 4 w0 ++ bytesLE 4 w1 ++ bytesLE 4 w2 ++ bytesLE 4 (w3 + natOf (s.cq f c).phase * 2 ^ 31)) ∈
        (s.postEntry f c w0 w1 w2 w3).out := by
  unfold State.postEntry
  extract_lets q w3' u last v
  have hsent : v.out <+: (v.moderate f c).out := State.Posts.moderate.out
  exact hsent.subset (List.mem_append_right _ (List.mem_singleton_self _))

/-! ### What chimes leave of the rings (R92 to R94) -/

theorem State.cq_failed_chime (s : State) (f : Fn) (code arg arg2 seq g j : Nat) :
    ((s.chime f code arg arg2 seq).cq g j).failed = (s.cq g j).failed := by
  have hkept (m : Chime) :
      (((if (s.fctx f).chimes.any (·.code == code) then s.loseChime f else s).modFctx f
        fun x => { x with chimes := insertChime m x.chimes }).cq g j).failed = (s.cq g j).failed := by
    split <;> rfl
  unfold State.chime
  split
  · rfl
  split
  · rfl
  split
  · rfl
  extract_lets m
  split
  · split
    · exact State.cq_failed_postEntry ..
    · exact hkept m
  · exact hkept m

namespace State.Chimed

variable {s t : State}

/-- Chimes leave the submission rings, the commands in flight, the completions that wait and a reset that is due. -/
theorem kept (h : s.Chimed t) : t.qe.sqs = s.qe.sqs ∧ t.qe.cmds = s.qe.cmds ∧ t.qe.ready = s.qe.ready ∧
    t.qe.devrstDue = s.qe.devrstDue := by
  obtain ⟨⟨l, hq⟩, -⟩ := h
  rw [hq]
  exact ⟨rfl, rfl, rfl, rfl⟩

theorem sqs (h : s.Chimed t) : t.qe.sqs = s.qe.sqs := by
  obtain ⟨hsqs, -, -, -⟩ := h.kept
  exact hsqs

theorem cmds (h : s.Chimed t) : t.qe.cmds = s.qe.cmds := by
  obtain ⟨-, hcmds, -, -⟩ := h.kept
  exact hcmds

theorem ready (h : s.Chimed t) : t.qe.ready = s.qe.ready := by
  obtain ⟨-, -, hready, -⟩ := h.kept
  exact hready

theorem devrstDue (h : s.Chimed t) : t.qe.devrstDue = s.qe.devrstDue := by
  obtain ⟨-, -, -, hdue⟩ := h.kept
  exact hdue

theorem sq (h : s.Chimed t) : t.sq = s.sq := by
  funext f r
  rw [State.sq, h.sqs, State.sq]

end State.Chimed

end Sys2Proof.Machine
end

section
/-! COMPLETION_POST and the end of a command (R87, R88), and CHIME_POST (R94). -/

namespace Sys2Proof.Machine

-- One theorem at a time: run ahead of the kernel, each would hold a thread and its stack.
set_option Elab.async false

/-- With no device reset due, what is posted is all that happens. -/
theorem State.settleDevrst_of_none {s : State} (h : s.qe.devrstDue = false) : s.settleDevrst = s := by
  rw [State.settleDevrst, h]
  rfl

/-- A completion ring with room is in service (R88). -/
theorem State.inService_of_cqRoom {s : State} {f c : Nat} (h : s.cqRoom f c = true) :
    (s.cq f c).enabled = true ∧ (s.cq f c).failed = false := by
  simp only [State.cqRoom, Bool.and_eq_true, Bool.not_eq_true'] at h
  exact h.1

/-! ### COMPLETION_POST (R88) -/

/-- A completion as it is written to its ring, its submission ring keeping the tag. -/
def State.writeReady (s : State) (r : Ready) : State :=
  (s.postEntry r.fn r.cq r.result (r.status + 65536 * r.detail) (r.tag + 65536 * (s.sq r.fn r.ring).head) r.ring).setSq
    r.fn r.ring { s.sq r.fn r.ring with lastTag := some r.tag }

theorem State.postReady_of_room {s : State} {r : Ready} (hroom : s.cqRoom r.fn r.cq = true) (hd : r.devrst = false) :
    s.postReady r = s.writeReady r := by
  obtain ⟨he, hf⟩ := State.inService_of_cqRoom hroom
  unfold State.postReady
  rw [hd]
  exact if_neg (by simp [he, hf])

/-- The first completion of the list is posted where its ring has room. -/
theorem State.postOne_of_room {s : State} {r : Ready} {rest : List Ready} (hr : s.qe.ready = r :: rest)
    (hroom : s.cqRoom r.fn r.cq = true) :
    s.postOne = { s with qe := { s.qe with ready := rest } }.postReady r := by
  have hpost : s.canPost r = true := by simp [State.canPost, hroom]
  simp [State.postOne, hr, takeFirst, hpost]

theorem completionPost_writes {s : State} {r : Ready} {rest : List Ready} (hr : s.qe.ready = r :: rest)
    (hroom : s.cqRoom r.fn r.cq = true) (hd : r.devrst = false) (hdue : s.qe.devrstDue = false) :
    ∃ t, exec .completionPost s = .next t ∧ t.qe.ready = rest ∧
      (t.cq r.fn r.cq).tail =
        (if s.cqSize r.fn r.cq ≤ (s.cq r.fn r.cq).tail + 1 then 0 else (s.cq r.fn r.cq).tail + 1) ∧
      (t.cq r.fn r.cq).phase =
        ((s.cq r.fn r.cq).phase != decide (s.cqSize r.fn r.cq ≤ (s.cq r.fn r.cq).tail + 1)) ∧
      Out.dma r.fn (s.cqBase r.fn r.cq + 16 * (s.cq r.fn r.cq).tail)
        (bytesLE 4 r.result ++ bytesLE 4 (r.status + 65536 * r.detail) ++
         bytesLE 4 (r.tag + 65536 * (s.sq r.fn r.ring).head) ++
         bytesLE 4 (r.ring + natOf (s.cq r.fn r.cq).phase * 2 ^ 31)) ∈ t.out ∧
      (t.sq r.fn r.ring).lastTag = some r.tag ∧ Frame [.hi, .qe, .out] s t := by
  let u : State := { s with qe := { s.qe with ready := rest } }
  have hone : s.postOne = u.writeReady r := (State.postOne_of_room hr hroom).trans (State.postReady_of_room hroom hd)
  have hposted {w0 w1 w2 w3 : Nat} : u.Chimed (u.postEntry r.fn r.cq w0 w1 w2 w3) := .postEntry
  have hexec : exec .completionPost s = .next (u.writeReady r) := by
    refine congrArg Host.Outcome.next ?_
    rw [hone]
    exact State.settleDevrst_of_none (hposted.devrstDue.trans hdue)
  refine ⟨_, hexec, hposted.ready, State.cq_tail_postEntry .., State.cq_phase_postEntry .., State.dma_mem_postEntry ..,
    ?_, hone ▸ State.postOne_frame⟩
  rw [State.writeReady, State.sq_setSq_self]

/-! ### The end of a command (R87) -/

/-- A command of no stream and not of the write class leaves, and its completion is made ready. -/
theorem State.finishCmd_of_streamless {s : State} {c : Cmd} (st d res : Nat) (hn : s.hi.ownerNext = none)
    (hs : c.stream = none) (hw : isWriteClass (entOpcode c.entry) = false) :
    s.finishCmd c st d res = ((s.dropCmd c.id).countReset c.fn c.ring (entTag c.entry)).makeReady c.fn c.ring
      (entTag c.entry) st d res (entOpcode c.entry == 0x53 && st == stSuccess) := by
  have hsettled (v : State) (hv : s.Upholds v) : v.settleOwner = v := by rw [State.settleOwner, hv.ownerNext hn]
  unfold State.finishCmd
  rw [hs, hw]
  exact hsettled _ (State.Upholds.dropCmd.trans (State.Upholds.countReset.trans .makeReady))

theorem State.countReset_ready (s : State) (f ring tag : Nat) : (s.countReset f ring tag).qe.ready = s.qe.ready := by
  unfold State.countReset
  extract_lets q
  split <;> rfl

theorem State.windowDone_chimed {s : State} {f st d res : Nat} : s.Chimed (s.windowDone f st d res) := by
  unfold State.windowDone
  extract_lets u v w
  exact ((State.Chimed.of_frame State.setReg_frame).trans (.of_frame State.setReg_frame)).trans
    ((State.Chimed.of_frame State.setReg_frame).trans .chime)

/-- A window command's completion goes to the window, not to a ring (R103). -/
theorem State.makeReady_of_window {s : State} {f ring tag st d res : Nat} {b : Bool} (h : ring = windowRing) :
    (s.makeReady f ring tag st d res b).qe.ready = s.qe.ready := by
  rw [State.makeReady, if_neg (by rw [h]; decide), if_pos h]
  exact State.windowDone_chimed.ready

/-- A command whose function has been reset tells nobody (R70, R100). -/
theorem State.makeReady_of_gone {s : State} {f ring tag st d res : Nat} {b : Bool} (h : ring = goneRing) :
    (s.makeReady f ring tag st d res b).qe.ready = s.qe.ready ∧ (s.makeReady f ring tag st d res b).out = s.out := by
  rw [State.makeReady, if_pos h]
  split <;> exact ⟨rfl, rfl⟩

theorem finishCmd_lists {s : State} {c : Cmd} (st d res : Nat) (hn : s.hi.ownerNext = none) (hs : c.stream = none)
    (hw : isWriteClass (entOpcode c.entry) = false) :
    (s.finishCmd c st d res).cmd? c.id = none ∧
    (c.ring < windowRing → (s.finishCmd c st d res).qe.ready = s.qe.ready ++
      [⟨c.fn, s.boundCq c.fn c.ring, c.ring, 0, min res 0xFFFFFFFF, st, d, entTag c.entry,
        entOpcode c.entry == 0x53 && st == stSuccess⟩]) ∧
    (c.ring = windowRing → (s.finishCmd c st d res).qe.ready = s.qe.ready) ∧
    (c.ring = goneRing → (s.finishCmd c st d res).qe.ready = s.qe.ready ∧ (s.finishCmd c st d res).out = s.out) := by
  let u := (s.dropCmd c.id).countReset c.fn c.ring (entTag c.entry)
  have hframe : Frame [.qe, .pe] s u := State.dropCmd_frame.step State.countReset_frame rfl
  have hready : u.qe.ready = s.qe.ready := State.countReset_ready ..
  have hcq : u.boundCq = s.boundCq :=
    State.boundCq_congr (congrFun (State.reg_congr (hframe .regs rfl) (hframe .board rfl)) _)
  have hgone : u.cmd? c.id = none := State.Upholds.countReset.gone _ (by simp [State.dropCmd, State.cmd?])
  rw [State.finishCmd_of_streamless st d res hn hs hw]
  refine ⟨State.Upholds.makeReady.gone _ hgone, fun hr => ?_, fun hr => ?_, fun hr => ?_⟩
  · rw [State.makeReady_of_host hr, ← hready, ← hcq]
  · exact (State.makeReady_of_window hr).trans hready
  · obtain ⟨hq, ho⟩ := State.makeReady_of_gone (s := u) hr
    exact ⟨hq.trans hready, ho.trans (hframe .out rfl)⟩

/-- Settles O16: COMPLETION_POST, and the completion that the end of a command lists. -/
theorem completionsArePosted : Obligations.CompletionsArePosted :=
  ⟨fun _ _ _ hr hroom hd hdue => completionPost_writes hr hroom hd hdue,
    fun _ _ st d res hn hs hw => finishCmd_lists st d res hn hs hw⟩

/-! ### CHIME_POST (R94) -/

/-- The one chime that is pending goes out where its ring has room, and none is pending any more. -/
theorem State.postChimes_of_room {s : State} {f c : Nat} {m : Chime} (h : s.cqRoom f c = true) :
    s.postChimes f c [m] = (s.postChime f c m).modFctx f fun x => { x with chimes := [] } :=
  if_pos h

/-- With no completion waiting and no chime lost, CHIME_POST comes to the pending chimes. -/
theorem State.chimePost_of_pending {s : State} {f c : Nat} (hen : s.fld .qeEvtCfg f 0 31 31 = 1)
    (hring : s.eventRing f = some c) (hready : s.qe.ready = []) (hlost : (s.fctx f).lost = 0) :
    s.chimePost f = s.postChimes f c (s.fctx f).chimes := by
  simp [State.chimePost, hen, hring, hready, State.postRing, hlost]

/-- Settles O17: the pending chime is posted, and posting writes no more than the entry. -/
theorem chimesWaitAndGo : Obligations.ChimesWaitAndGo := by
  intro s f c m hen hring hroom hready hlost hm hdue
  let t := (s.postChime f c m).modFctx f fun x => { x with chimes := [] }
  have hpost : s.chimePost f = t := by
    rw [State.chimePost_of_pending hen hring hready hlost, hm, State.postChimes_of_room hroom]
  have hposted : s.Chimed t := State.Chimed.postEntry.trans .modFctx
  have hexec : exec (.chimePost f) s = .next t := by
    refine congrArg Host.Outcome.next ?_
    rw [hpost]
    exact State.settleDevrst_of_none (hposted.devrstDue.trans hdue)
  refine ⟨t, hexec, ?_, State.dma_mem_postEntry .., hposted.sqs, hposted.cmds, hpost ▸ State.chimePost_frame⟩
  simp [t]

end Sys2Proof.Machine
end

section
/-! Rings in and out of service: enables and disables (R76, R77), the start of a reset (R98), and failure (R101). -/

namespace Sys2Proof.Machine

-- One theorem at a time: run ahead of the kernel, each would hold a thread and its stack.
set_option Elab.async false

/-! ### Ring failure (R101, R492) -/

/-- What tells of a ring that has failed: QE_STATUS.ring_failed, the event log, and the function's chime. -/
def State.tellFailure (s : State) (f ring kind : Nat) : State :=
  ((s.setFld .qeStatus f 0 4 4 1).logEv .ctxUe ((s.setFld .qeStatus f 0 4 4 1).tenant f) ring kind).chime f 4 ring kind
    s.ms.seq

theorem State.tellFailure_chimed {s : State} {f ring kind : Nat} : s.Chimed (s.tellFailure f ring kind) :=
  ((State.Chimed.of_frame State.setFld_frame).trans (.of_frame State.logEv_frame)).trans .chime

theorem State.tellFailure_flag (s : State) (f ring kind : Nat) :
    (s.tellFailure f ring kind).fld .qeStatus f 0 4 4 = 1 := by
  have hkept : (s.setFld .qeStatus f 0 4 4 1).Upholds (s.tellFailure f ring kind) :=
    State.Upholds.logEv.trans State.Upholds.chime
  rw [State.fld, hkept.regs .qeStatus f 0 (by decide)]
  exact State.fld_setFld_self _ _ _ _ _ le_rfl (by decide)

theorem State.tellFailure_seq (s : State) (f ring kind : Nat) :
    (s.tellFailure f ring kind).ms.seq = s.ms.seq + 1 := by
  rw [State.tellFailure, State.chime_frame .ms rfl, State.logEv_seq]
  rfl

/-- Telling of a failure fails no other completion ring. -/
theorem State.tellFailure_failed (s : State) (f ring kind g j : Nat) :
    ((s.tellFailure f ring kind).cq g j).failed = (s.cq g j).failed := by
  rw [State.tellFailure, State.cq_failed_chime]
  rw [State.cq, State.logEv_frame .qe rfl]
  rfl

/-- A submission ring in service that fails. -/
theorem State.failRing_sq {s : State} {f r : Nat} (he : (s.sq f r).enabled = true) (hf : (s.sq f r).failed = false) :
    s.failRing false f r = (s.setSq f r { s.sq f r with failed := true }).tellFailure f r 0 :=
  (if_neg Bool.false_ne_true).trans (if_neg (by simp [he, hf]))

/-- A completion ring in service that fails: the completions that wait for it go. -/
def State.failCq (s : State) (f r : Nat) : State :=
  { s.setCq f r { s.cq f r with failed := true } with
    qe := { (s.setCq f r { s.cq f r with failed := true }).qe with
      ready := s.qe.ready.filter fun x => !(x.fn == f && x.cq == r) } }

theorem State.failRing_cq {s : State} {f r : Nat} (he : (s.cq f r).enabled = true) (hf : (s.cq f r).failed = false) :
    s.failRing true f r = (s.failCq f r).tellFailure f r 1 :=
  (if_pos rfl).trans (if_neg (by simp [he, hf]))

theorem ringContextUe_sq {s : State} {f r : Nat} (he : (s.sq f r).enabled = true) (hf : (s.sq f r).failed = false) :
    ∃ t, exec (.ringContextUe false f r) s = .next t ∧ t.sq f r = { s.sq f r with failed := true } ∧
      (∀ g j, (g, j) ≠ (f, r) → t.sq g j = s.sq g j) ∧ t.fld .qeStatus f 0 4 4 = 1 ∧ t.ms.seq = s.ms.seq + 1 ∧
      t.qe.ready = s.qe.ready ∧ Frame [.regs, .hi, .qe, .ms, .out] s t := by
  let u := s.setSq f r { s.sq f r with failed := true }
  have htold : u.Chimed (u.tellFailure f r 0) := State.tellFailure_chimed
  have hfail : s.failRing false f r = u.tellFailure f r 0 := State.failRing_sq he hf
  refine ⟨u.tellFailure f r 0, congrArg Host.Outcome.next hfail, ?_, fun g j hne => ?_, State.tellFailure_flag ..,
    State.tellFailure_seq .., htold.ready, hfail ▸ State.failRing_frame⟩
  · rw [htold.sq]
    exact State.sq_setSq_self ..
  · rw [htold.sq]
    exact State.sq_setSq_ne _ _ hne

theorem ringContextUe_cq {s : State} {f r : Nat} (he : (s.cq f r).enabled = true) (hf : (s.cq f r).failed = false) :
    ∃ t, exec (.ringContextUe true f r) s = .next t ∧ (t.cq f r).failed = true ∧ t.qe.sqs = s.qe.sqs ∧
      (∀ g j, (g, j) ≠ (f, r) → (t.cq g j).failed = (s.cq g j).failed) ∧
      t.qe.ready = s.qe.ready.filter (fun x => !(x.fn == f && x.cq == r)) ∧ t.fld .qeStatus f 0 4 4 = 1 ∧
      t.ms.seq = s.ms.seq + 1 := by
  have htold : (s.failCq f r).Chimed ((s.failCq f r).tellFailure f r 1) := State.tellFailure_chimed
  have hcq (g j : Nat) : (s.failCq f r).cq g j = (s.setCq f r { s.cq f r with failed := true }).cq g j := rfl
  refine ⟨_, congrArg Host.Outcome.next (State.failRing_cq he hf), ?_, htold.sqs, fun g j hne => ?_, htold.ready,
    State.tellFailure_flag .., State.tellFailure_seq ..⟩
  · rw [State.tellFailure_failed, hcq, State.cq_setCq_self]
  · rw [State.tellFailure_failed, hcq, State.cq_setCq_ne _ _ hne]

/-- Settles O13: a submission ring, then a completion ring. -/
theorem ringsFailOnContextErrors : Obligations.RingsFailOnContextErrors :=
  fun _ _ _ => ⟨fun he hf => ringContextUe_sq he hf, fun he hf => ringContextUe_cq he hf⟩

/-! ### What the end of commands leaves of the host's rings (R97 to R99) -/

/-- A submission ring's context with the counts of its reset left out (R99). -/
def SqCtx.uncounted (q : SqCtx) : SqCtx := { q with completed := 0, highTag := 0 }

/-- Every submission ring of the host is the same in both states but for the counts of its reset. -/
def State.KeepsRings (s t : State) : Prop := ∀ f r, r ≠ windowRing → (t.sq f r).uncounted = (s.sq f r).uncounted

namespace State.KeepsRings

variable {s t u : State}

theorem refl : s.KeepsRings s := fun _ _ _ => rfl

theorem trans (h1 : s.KeepsRings t) (h2 : t.KeepsRings u) : s.KeepsRings u :=
  fun f r hr => (h2 f r hr).trans (h1 f r hr)

theorem ite {c : Prop} [Decidable c] (h1 : s.KeepsRings t) (h2 : s.KeepsRings u) :
    s.KeepsRings (if c then t else u) := by
  split
  · exact h1
  · exact h2

theorem fold {α : Type} {f : State → α → State} (h : ∀ u a, State.KeepsRings u (f u a)) (xs : List α) :
    s.KeepsRings (xs.foldl f s) := by
  induction xs generalizing s with
  | nil => exact refl
  | cons a xs ih => exact (h s a).trans ih

theorem of_sqs (h : t.qe.sqs = s.qe.sqs := by rfl) : s.KeepsRings t := fun f r _ => by rw [State.sq, h, State.sq]

theorem of_frame {l : List Part} (h : Frame l s t) (hq : l.contains .qe = false := by rfl) : s.KeepsRings t :=
  of_sqs (congrArg QeState.sqs (h .qe hq))

theorem of_chimed (h : s.Chimed t) : s.KeepsRings t := of_sqs h.sqs

theorem countReset {f ring tag : Nat} : s.KeepsRings (s.countReset f ring tag) := by
  unfold State.countReset
  extract_lets q
  refine ite (fun g j _ => ?_) refl
  by_cases hk : (g, j) = (f, ring)
  · obtain ⟨rfl, rfl⟩ := Prod.mk.inj hk
    rw [State.sq_setSq_self]
    rfl
  · rw [State.sq_setSq_ne _ _ hk]

/-- A completion made ready writes the window's hidden ring at most. -/
theorem makeReady {f ring tag status detail result : Nat} {devrst : Bool} :
    s.KeepsRings (s.makeReady f ring tag status detail result devrst) := by
  unfold State.makeReady
  extract_lets src u q
  have hu : s.KeepsRings u := of_chimed State.windowDone_chimed
  refine ite (ite of_sqs refl) (ite (hu.trans fun g j hj => ?_) of_sqs)
  have hne : (g, j) ≠ (f, windowRing) := fun he => hj (Prod.mk.inj he).2
  rw [State.sq_setSq_ne _ _ hne]

theorem changeOwner {next : Option Nat} : s.KeepsRings (s.changeOwner next) :=
  fun f r hr => of_chimed (s.changeOwner_chimed next) f r hr

theorem settleOwner : s.KeepsRings s.settleOwner := by
  unfold State.settleOwner
  split
  · exact refl
  · exact ite refl changeOwner

theorem giveBack {k n : Nat} : s.KeepsRings (s.giveBack k n) := of_frame State.giveBack_frame

theorem finishCmd {c : Cmd} {status detail result : Nat} : s.KeepsRings (s.finishCmd c status detail result) := by
  unfold State.finishCmd
  extract_lets wc s1 res s2 s3 s4
  have h1 : s.KeepsRings s1 := by
    unfold s1
    split
    · exact ite refl giveBack
    · exact refl
  have h2 : s1.KeepsRings s2 := by
    unfold s2
    split
    · exact ite (of_frame State.tellCredit_frame) refl
    · exact refl
  have h3 : s2.KeepsRings s3 := of_sqs
  exact ((h1.trans h2).trans (h3.trans countReset)).trans (makeReady.trans settleOwner)

theorem renumber {k first order : Nat} : s.KeepsRings (s.renumber k first order) := by
  unfold State.renumber
  extract_lets later u
  refine (of_frame State.modStream_frame).trans (fold (fun v c => ?_) _)
  split
  · exact ite (of_frame State.setStream_frame) finishCmd
  · exact refl

theorem recredit : s.KeepsRings s.recredit := by
  refine fold (fun u k => ?_) _
  unfold State.creditChime
  split
  · extract_lets v
    have hv : u.KeepsRings v := of_frame State.setStream_frame
    refine ite ?_ refl
    split
    · exact hv.trans (of_chimed .chime)
    · exact hv
  · exact refl

theorem abandonCmd {c : Cmd} : s.KeepsRings (s.abandonCmd c) := by
  unfold State.abandonCmd
  extract_lets s1 s2
  have h1 : s.KeepsRings s1 := by
    unfold s1
    split
    · exact giveBack
    · exact refl
  have h2 : s.KeepsRings s2 := h1.trans of_sqs
  refine ite ?_ (h2.trans settleOwner)
  split
  · exact (h2.trans renumber).trans (recredit.trans settleOwner)
  · exact h2

end State.KeepsRings

/-- A reset that starts on a ring of the host (R98 steps 1 and 2). -/
theorem State.resetRing_starts {s : State} {f r : Nat} (d : Bool) (he : (s.sq f r).enabled = true)
    (hr : (s.sq f r).resetting = false) (hw : r ≠ windowRing) :
    ((s.resetRing f r d).sq f r).resetting = true ∧ ((s.resetRing f r d).sq f r).disabling = d ∧
      ((s.resetRing f r d).sq f r).enabled = true ∧ ((s.resetRing f r d).sq f r).pubs = [] := by
  unfold State.resetRing
  extract_lets q gone n u
  rw [if_neg (by simp [q, he, hr])]
  have hkept : u.KeepsRings ((gone.foldl (fun s c => s.abandonCmd c) u).freeParty (.ring f r)) :=
    (State.KeepsRings.fold (fun _ _ => .abandonCmd) gone).trans (.of_frame State.freeParty_frame)
  have hctx := hkept f r hw
  rw [State.sq_setSq_self] at hctx
  exact ⟨congrArg SqCtx.resetting hctx, congrArg SqCtx.disabling hctx, (congrArg SqCtx.enabled hctx).trans he,
    congrArg SqCtx.pubs hctx⟩

/-! ### Submission rings (R76, R77) -/

/-- The submission ring that QE_SQ_SEL selects (R75). -/
abbrev State.selSq (s : State) (f : Nat) : Nat := s.fld .qeSqSel f 0 17 0

/-- The completion ring that QE_CQ_SEL selects (R75). -/
abbrev State.selCq (s : State) (f : Nat) : Nat := s.fld .qeCqSel f 0 15 0

/-- The selector has 18 bits: it never names the window's hidden ring (R103). -/
theorem State.selSq_ne_window (s : State) (f : Nat) : s.selSq f ≠ windowRing :=
  (show s.selSq f < windowRing from Nat.mod_lt _ (by decide)).ne

/-- The priority of a ring as a write to QE_SQ_CTRL gives it. -/
abbrev State.setPrio (s : State) (f v : Nat) : State := s.setFld .qeSqCtrl f (s.selSq f) 3 2 (bitsOf v 3 2)

theorem exec_sqEnable {s : State} {f : Nat} (h : s.serves (.fn f)) (v : Word) :
    exec (.sqEnable f v) s = .next (s.writeSqCtrl f v.toNat) :=
  congrArg Host.Outcome.next (State.regWrite_of_serves h _ _ _ _)

theorem exec_sqDisable {s : State} {f : Nat} (h : s.serves (.fn f)) (v : Word) :
    exec (.sqDisable f v) s = .next (s.writeSqCtrl f v.toNat) :=
  congrArg Host.Outcome.next (State.regWrite_of_serves h _ _ _ _)

/-- QE_SQ_CTRL with enable set, on a ring that is not enabled. -/
theorem State.writeSqCtrl_enable {s : State} {f v : Nat} (hr : s.selSq f < s.sqCount f)
    (he : (s.sq f (s.selSq f)).enabled = false) (hv : bitOf v 0 = true) :
    s.writeSqCtrl f v = if (s.setPrio f v).sqEnableOk f (s.selSq f) then
      ((s.setPrio f v).setFld .qeSqCtrl f (s.selSq f) 0 0 1).setSq f (s.selSq f)
        { sqCtx0 with enabled := true, echo := (s.sq f (s.selSq f)).echo, echoed := (s.sq f (s.selSq f)).echoed }
      else (s.setPrio f v).refuseEnable f := by
  have he' : ((s.setPrio f v).sq f (s.selSq f)).enabled = false := he
  exact (if_neg (by simpa using hr)).trans ((if_pos hv).trans (if_neg (by simpa using he')))

/-- QE_SQ_CTRL with enable clear, on an enabled ring: its reset starts, as a disable. -/
theorem State.writeSqCtrl_disable {s : State} {f v : Nat} (hr : s.selSq f < s.sqCount f)
    (he : (s.sq f (s.selSq f)).enabled = true) (hv : bitOf v 0 = false) :
    s.writeSqCtrl f v = ((s.setPrio f v).setFld .qeSqCtrl f (s.selSq f) 0 0 0).resetRing f (s.selSq f) true := by
  have he' : ((s.setPrio f v).sq f (s.selSq f)).enabled = true := he
  exact (if_neg (by simpa using hr)).trans ((if_neg (by simp [hv])).trans (if_pos he'))

theorem sqEnable_enables {s : State} {f : Nat} {v : Word} (h : s.serves (.fn f)) (hr : s.selSq f < s.sqCount f)
    (he : (s.sq f (s.selSq f)).enabled = false) (hv : bitOf v.toNat 0 = true)
    (hok : (s.setPrio f v.toNat).sqEnableOk f (s.selSq f) = true) :
    ∃ t, exec (.sqEnable f v) s = .next t ∧ (t.sq f (s.selSq f)).enabled = true ∧ (t.sq f (s.selSq f)).head = 0 ∧
      (t.sq f (s.selSq f)).tail = 0 ∧ t.fld .qeSqCtrl f (s.selSq f) 0 0 = 1 ∧
      (∀ g j, (g, j) ≠ (f, s.selSq f) → t.sq g j = s.sq g j) ∧ Frame [.regs, .qe] s t := by
  have hexec := exec_sqEnable h v
  rw [State.writeSqCtrl_enable hr he hv, if_pos hok] at hexec
  have hframe : Frame [.regs, .qe] s ((s.setPrio f v.toNat).setFld .qeSqCtrl f (s.selSq f) 0 0 1) :=
    (State.setFld_frame.mono rfl).step State.setFld_frame rfl
  refine ⟨_, hexec, ?_, ?_, ?_, State.fld_setFld_self _ _ _ _ _ le_rfl (by decide), fun g j hne => ?_,
    hframe.step State.setSq_frame rfl⟩
  · rw [State.sq_setSq_self]
  · rw [State.sq_setSq_self]
    rfl
  · rw [State.sq_setSq_self]
    rfl
  · rw [State.sq_setSq_ne _ _ hne]
    rfl

/-- A refused enable sets its flag and writes no more than registers (R76). -/
theorem State.refuseEnable_flag (s : State) (f : Nat) : (s.refuseEnable f).fld .qeStatus f 0 3 3 = 1 :=
  State.fld_setFld_self _ _ _ _ _ le_rfl (by decide)

theorem sqEnable_refused {s : State} {f : Nat} {v : Word} (h : s.serves (.fn f)) (hr : s.selSq f < s.sqCount f)
    (he : (s.sq f (s.selSq f)).enabled = false) (hv : bitOf v.toNat 0 = true)
    (hok : (s.setPrio f v.toNat).sqEnableOk f (s.selSq f) = false) :
    ∃ t, exec (.sqEnable f v) s = .next t ∧ t.fld .qeStatus f 0 3 3 = 1 ∧ Frame [.regs] s t := by
  have hexec := exec_sqEnable h v
  rw [State.writeSqCtrl_enable hr he hv, if_neg (by simp [hok])] at hexec
  exact ⟨_, hexec, State.refuseEnable_flag .., State.setFld_frame.trans State.refuseEnable_frame⟩

theorem sqDisable_resets {s : State} {f : Nat} {v : Word} (h : s.serves (.fn f)) (hr : s.selSq f < s.sqCount f)
    (he : (s.sq f (s.selSq f)).enabled = true) (hq : (s.sq f (s.selSq f)).resetting = false)
    (hv : bitOf v.toNat 0 = false) :
    ∃ t, exec (.sqDisable f v) s = .next t ∧ (t.sq f (s.selSq f)).resetting = true ∧
      (t.sq f (s.selSq f)).disabling = true ∧ (t.sq f (s.selSq f)).enabled = true ∧ (t.sq f (s.selSq f)).pubs = [] := by
  have hexec := exec_sqDisable h v
  rw [State.writeSqCtrl_disable hr he hv] at hexec
  exact ⟨_, hexec, State.resetRing_starts true he hq (s.selSq_ne_window f)⟩

/-! ### Completion rings (R76) -/

theorem exec_cqEnable {s : State} {f : Nat} (h : s.serves (.fn f)) (v : Word) :
    exec (.cqEnable f v) s = .next (s.writeCqCtrl f v.toNat) :=
  congrArg Host.Outcome.next (State.regWrite_of_serves h _ _ _ _)

theorem exec_cqDisable {s : State} {f : Nat} (h : s.serves (.fn f)) (v : Word) :
    exec (.cqDisable f v) s = .next (s.writeCqCtrl f v.toNat) :=
  congrArg Host.Outcome.next (State.regWrite_of_serves h _ _ _ _)

theorem State.writeCqCtrl_enable {s : State} {f v : Nat} (hc : s.selCq f < s.cqCount f)
    (he : (s.cq f (s.selCq f)).enabled = false) (hv : bitOf v 0 = true) :
    s.writeCqCtrl f v = if s.cqEnableOk f (s.selCq f) then
      (s.setFld .qeCqCtrl f (s.selCq f) 0 0 1).setCq f (s.selCq f) { cqCtx0 with enabled := true }
      else s.refuseEnable f :=
  (if_neg (by simpa using hc)).trans ((if_pos hv).trans (if_neg (by simpa using he)))

theorem State.writeCqCtrl_disable {s : State} {f v : Nat} (hc : s.selCq f < s.cqCount f)
    (he : (s.cq f (s.selCq f)).enabled = true) (hv : bitOf v 0 = false) :
    s.writeCqCtrl f v = if s.cqBusy f (s.selCq f) then s.refuseEnable f
      else (s.setFld .qeCqCtrl f (s.selCq f) 0 0 0).setCq f (s.selCq f)
        { cqCtx0 with phase := (s.cq f (s.selCq f)).phase, tail := (s.cq f (s.selCq f)).tail } :=
  (if_neg (by simpa using hc)).trans ((if_neg (by simp [hv])).trans (if_pos he))

/-- A completion ring's context and its enable bit, as QE_CQ_CTRL writes them. -/
theorem State.setCqCtrl_spec (s : State) (f c b : Nat) (q : CqCtx) :
    (∀ g j, (g, j) ≠ (f, c) → ((s.setFld .qeCqCtrl f c 0 0 b).setCq f c q).cq g j = s.cq g j) ∧
      ((s.setFld .qeCqCtrl f c 0 0 b).setCq f c q).qe.sqs = s.qe.sqs ∧
      Frame [.regs, .qe] s ((s.setFld .qeCqCtrl f c 0 0 b).setCq f c q) :=
  ⟨fun _ _ hne => State.cq_setCq_ne _ _ hne, rfl, (State.setFld_frame.mono rfl).step State.setCq_frame rfl⟩

theorem cqEnable_enables {s : State} {f : Nat} {v : Word} (h : s.serves (.fn f)) (hc : s.selCq f < s.cqCount f)
    (he : (s.cq f (s.selCq f)).enabled = false) (hv : bitOf v.toNat 0 = true)
    (hok : s.cqEnableOk f (s.selCq f) = true) :
    ∃ t, exec (.cqEnable f v) s = .next t ∧ (t.cq f (s.selCq f)).enabled = true ∧ (t.cq f (s.selCq f)).tail = 0 ∧
      (t.cq f (s.selCq f)).phase = true ∧ (∀ g j, (g, j) ≠ (f, s.selCq f) → t.cq g j = s.cq g j) ∧
      t.qe.sqs = s.qe.sqs ∧ Frame [.regs, .qe] s t := by
  have hexec := exec_cqEnable h v
  rw [State.writeCqCtrl_enable hc he hv, if_pos hok] at hexec
  refine ⟨_, hexec, ?_, ?_, ?_, State.setCqCtrl_spec ..⟩
  · rw [State.cq_setCq_self]
  · rw [State.cq_setCq_self]
    rfl
  · rw [State.cq_setCq_self]
    rfl

theorem cqEnable_refused {s : State} {f : Nat} {v : Word} (h : s.serves (.fn f)) (hc : s.selCq f < s.cqCount f)
    (he : (s.cq f (s.selCq f)).enabled = false) (hv : bitOf v.toNat 0 = true)
    (hok : s.cqEnableOk f (s.selCq f) = false) :
    ∃ t, exec (.cqEnable f v) s = .next t ∧ t.fld .qeStatus f 0 3 3 = 1 ∧ Frame [.regs] s t := by
  have hexec := exec_cqEnable h v
  rw [State.writeCqCtrl_enable hc he hv, if_neg (by simp [hok])] at hexec
  exact ⟨_, hexec, State.refuseEnable_flag .., State.refuseEnable_frame⟩

theorem cqDisable_disables {s : State} {f : Nat} {v : Word} (h : s.serves (.fn f)) (hc : s.selCq f < s.cqCount f)
    (he : (s.cq f (s.selCq f)).enabled = true) (hv : bitOf v.toNat 0 = false)
    (hb : s.cqBusy f (s.selCq f) = false) :
    ∃ t, exec (.cqDisable f v) s = .next t ∧ (t.cq f (s.selCq f)).enabled = false ∧
      (∀ g j, (g, j) ≠ (f, s.selCq f) → t.cq g j = s.cq g j) ∧ t.qe.sqs = s.qe.sqs ∧ Frame [.regs, .qe] s t := by
  have hexec := exec_cqDisable h v
  rw [State.writeCqCtrl_disable hc he hv, if_neg (by simp [hb])] at hexec
  refine ⟨_, hexec, ?_, State.setCqCtrl_spec ..⟩
  rw [State.cq_setCq_self]
  rfl

theorem cqDisable_refused {s : State} {f : Nat} {v : Word} (h : s.serves (.fn f)) (hc : s.selCq f < s.cqCount f)
    (he : (s.cq f (s.selCq f)).enabled = true) (hv : bitOf v.toNat 0 = false)
    (hb : s.cqBusy f (s.selCq f) = true) :
    ∃ t, exec (.cqDisable f v) s = .next t ∧ t.fld .qeStatus f 0 3 3 = 1 ∧ Frame [.regs] s t := by
  have hexec := exec_cqDisable h v
  rw [State.writeCqCtrl_disable hc he hv, if_pos hb] at hexec
  exact ⟨_, hexec, State.refuseEnable_flag .., State.refuseEnable_frame⟩

/-- Settles O11: submission rings enabled and disabled, then completion rings. -/
theorem ringsAreEnabledAndDisabled : Obligations.RingsAreEnabledAndDisabled := by
  intro s f v h
  exact ⟨fun hr he hv => ⟨fun hok => sqEnable_enables h hr he hv hok, fun hok => sqEnable_refused h hr he hv hok⟩,
    fun hr he hq hv => sqDisable_resets h hr he hq hv,
    fun hc he hv => ⟨fun hok => cqEnable_enables h hc he hv hok, fun hok => cqEnable_refused h hc he hv hok⟩,
    fun hc he hv => ⟨fun hb => cqDisable_disables h hc he hv hb, fun hb => cqDisable_refused h hc he hv hb⟩⟩

end Sys2Proof.Machine
end

section
/-! Peal commits (R83). -/

namespace Sys2Proof.Machine

-- One theorem at a time: run ahead of the kernel, each would hold a thread and its stack.
set_option Elab.async false

/-- The number of pairs that a page's QE_PEAL_COUNT asks for (R83). -/
def State.pealCount (s : State) (f page : Nat) : Nat := s.reg .qePealCount f (pealSel page 0) % 1024

theorem exec_qePealCommit {s : State} {f page : Nat} {seq : Word} (hs : s.serves (.fn f)) :
    exec (.qePealCommit f page seq) s = .next (s.pealCommit f page seq.toNat) :=
  congrArg Host.Outcome.next (State.regWrite_of_serves hs _ _ _ _)

/-- A count in range: the pairs apply, and QE_PEAL_STATUS takes the sequence with the pairs rejected. -/
theorem State.pealCommit_of_count {s : State} {f page : Nat} (seq : Nat) (hf : s.hasFn f = true) (hp : page < 64)
    (h1 : 1 ≤ s.pealCount f page) (h2 : s.pealCount f page ≤ 510) :
    s.pealCommit f page seq =
      (s.applyPairs f page (List.range (s.pealCount f page))).1.setReg .qePealStatus f (pealSel page 0)
        (seq % 65536 * 65536 + (s.applyPairs f page (List.range (s.pealCount f page))).2) :=
  (if_neg (by simp [hf, hp])).trans (if_neg (show ¬(s.pealCount f page = 0 ∨ 510 < s.pealCount f page) by omega))

/-- A peal commit that applies nothing: peal_reject, and 1,023 pairs rejected. -/
def State.rejectPeal (s : State) (f page seq : Nat) : State :=
  (s.setFld .qeStatus f 0 2 2 1).setReg .qePealStatus f (pealSel page 0) (seq % 65536 * 65536 + 1023)

theorem State.pealCommit_of_bad_count {s : State} {f page : Nat} (seq : Nat) (hf : s.hasFn f = true) (hp : page < 64)
    (h : s.pealCount f page = 0 ∨ 510 < s.pealCount f page) : s.pealCommit f page seq = s.rejectPeal f page seq :=
  (if_neg (by simp [hf, hp])).trans (if_pos h)

theorem State.rejectPeal_spec (s : State) (f page seq : Nat) :
    (s.rejectPeal f page seq).fld .qeStatus f 0 2 2 = 1 ∧
      (s.rejectPeal f page seq).reg .qePealStatus f (pealSel page 0) = seq % 65536 * 65536 + 1023 ∧
      Frame [.regs] s (s.rejectPeal f page seq) := by
  refine ⟨?_, ?_, State.setFld_frame.trans State.setReg_frame⟩
  · rw [State.fld, State.rejectPeal, State.reg_setReg_ne _ _ (by simp)]
    exact State.fld_setFld_self _ _ _ _ _ le_rfl (by decide)
  · rw [State.rejectPeal, State.reg_setReg_self]
    omega

/-- Settles O9: a count in range, a count out of range, and what one pair does. -/
theorem pealCommitAppliesEveryPair : Obligations.PealCommitAppliesEveryPair := by
  intro s f page seq hs hf hp
  refine ⟨fun h1 h2 => ?_, fun h => ?_, fun _ _ _ => rfl⟩
  · rw [exec_qePealCommit hs, State.pealCommit_of_count _ hf hp h1 h2]
    rfl
  · have hexec := (exec_qePealCommit (page := page) (seq := seq) hs).trans
      (congrArg Host.Outcome.next (State.pealCommit_of_bad_count _ hf hp h))
    exact ⟨_, hexec, s.rejectPeal_spec f page seq.toNat⟩

end Sys2Proof.Machine
end

section
/-! Commands from the fetch of their entries to their locks (R84, R85, R112, R136). -/

namespace Sys2Proof.Machine

-- One theorem at a time: run ahead of the kernel, each would hold a thread and its stack.
set_option Elab.async false

/-! ### Taking one entry (R84, R112) -/

/-- QE moves past an entry: the ring's head is one slot on, and no other ring moves. -/
theorem State.advance_spec (s : State) (f r : Nat) :
    ((s.advance f r).sq f r).head = ((s.sq f r).head + 1) % s.sqSize f r ∧
      ((s.advance f r).sq f r).echo = (s.sq f r).echo ∧
      (∀ g j, (g, j) ≠ (f, r) → (s.advance f r).sq g j = s.sq g j) ∧ (s.advance f r).qe.cmds = s.qe.cmds ∧
      (s.advance f r).qe.ready = s.qe.ready := by
  unfold State.advance
  extract_lets q h
  rw [State.sq_setSq_self]
  exact ⟨rfl, rfl, fun _ _ hne => State.sq_setSq_ne _ _ hne, rfl, rfl⟩

/-- A fetched entry as it is staged (R86). -/
def State.stagedCmd (s : State) (f r : Nat) (e : Entry) : Cmd :=
  { id := s.qe.nextId, fn := f, ring := r, entry := e, stamp := (s.sq f r).headStamp, phase := .staged, lock := none,
    stream := none, first := 0, count := 0, truncates := false, held := 0, overdraft := 0, recs := [], order := 0 }

/-- An entry that passes the checks is staged behind the commands in flight. -/
theorem State.takeEntry_of_passed {s : State} {f r : Nat} {e : Entry} (he : (s.sq f r).echo = false)
    (hc : fetchCheck (s.advance f r) f r e = none) :
    s.takeEntry f r e = { s.advance f r with qe := { (s.advance f r).qe with
      nextId := s.qe.nextId + 1, cmds := s.qe.cmds ++ [s.stagedCmd f r e] } } := by
  obtain ⟨-, hecho, -⟩ := s.advance_spec f r
  unfold State.takeEntry
  extract_lets stamp u q
  rw [if_neg (by simp [u, hecho, he]), hc]
  rfl

/-- An entry that fails a check completes at once with what the check says. -/
theorem State.takeEntry_of_failed {s : State} {f r st d : Nat} {e : Entry} (he : (s.sq f r).echo = false)
    (hc : fetchCheck (s.advance f r) f r e = some (st, d)) :
    s.takeEntry f r e = (s.advance f r).makeReady f r (entTag e) st d 0 := by
  obtain ⟨-, hecho, -⟩ := s.advance_spec f r
  unfold State.takeEntry
  extract_lets stamp u q
  rw [if_neg (by simp [u, hecho, he]), hc]

theorem takeEntries_stages {s : State} {f r : Nat} {e : Entry} (he : (s.sq f r).echo = false)
    (hc : fetchCheck (s.advance f r) f r e = none) :
    ∃ t, s.takeEntries f r [e] = t ∧ (t.sq f r).head = ((s.sq f r).head + 1) % s.sqSize f r ∧
      (∀ g j, (g, j) ≠ (f, r) → t.sq g j = s.sq g j) ∧ t.qe.cmds.length = s.qe.cmds.length + 1 ∧
      ∃ c, t.qe.cmds = s.qe.cmds ++ [c] ∧ c.entry = e ∧ c.fn = f ∧ c.ring = r ∧ c.phase = .staged ∧
        c.id = s.qe.nextId := by
  obtain ⟨hhead, -, hother, -⟩ := s.advance_spec f r
  exact ⟨_, State.takeEntry_of_passed he hc, hhead, hother, List.length_append,
    s.stagedCmd f r e, rfl, rfl, rfl, rfl, rfl, rfl⟩

/-! ### Fetching (R84) -/

/-- The function's turn and ring as one fetch counts them. -/
def State.served (s : State) (f r n : Nat) : State :=
  s.modFctx f fun x => { x with deficit := x.deficit - (n : Nat), lastRing := r }

/-- A fetch takes from the ring that is picked as many entries as it may. -/
theorem State.fetch_of_picked {s u : State} {f r : Nat} (es : List Entry) (hf : s.pickFn = (u, some f))
    (hr : u.pickRing f = some r) : s.fetch es =
      (u.served f r (u.fetchLen f r (if r = windowRing then [u.windowEntry f] else es).length)).takeEntries f r
        ((if r = windowRing then [u.windowEntry f] else es).take
          (u.fetchLen f r (if r = windowRing then [u.windowEntry f] else es).length)) := by
  rw [State.fetch, hf]
  dsimp only
  rw [hr]
  rfl

/-! ### Resolving and granting (R85, R112, R136) -/

theorem State.id_of_cmd? {s : State} {id : Nat} {c : Cmd} (h : s.cmd? id = some c) : c.id = id := by
  simpa using List.find?_some h

/-- A command as it was last written is the one in flight under its number. -/
theorem State.cmd?_setCmd_self {s : State} {c d : Cmd} (h : s.cmd? d.id = some c) :
    (s.setCmd d).cmd? d.id = some d := by
  have hid : c.id = d.id := State.id_of_cmd? h
  have hcomp : ((·.id == d.id) ∘ fun x : Cmd => if x.id = d.id then d else x) = (·.id == d.id) := by
    funext x
    by_cases hx : x.id = d.id
    · simp [hx]
    · simp [hx]
  rw [State.cmd?] at h
  rw [State.cmd?, State.setCmd, List.find?_map, hcomp, h, Option.map_some, if_pos hid]

/-- A command as it resolves: it waits for its locks, in its place of the order (R85). -/
def Cmd.resolved (c : Cmd) (order : Nat) : Cmd :=
  { c with phase := .waiting, stream := none, lock := none, first := 0, count := 0, truncates := false, order := order }

/-- A command that waits with nothing before it is handed over. -/
theorem State.grantCmd_of_free {s : State} {c : Cmd} (hp : c.phase = .waiting) (hl : s.lockBlocked c = false)
    (ho : s.openBlocked c = false) : s.grantCmd c = s.setCmd { c with phase := .ready } :=
  if_pos (by simp [hp, hl, ho])

/-- A command that names no stream resolves without a lock, and is ready at once. -/
theorem entryResolve_readies {s : State} {id : Nat} {c : Cmd} (hc : s.cmd? id = some c) (hm : s.mayResolve c = true)
    (hop : entOpcode c.entry ≠ 0x03) (hh : usesHandle (entOpcode c.entry) = false) :
    ∃ t, exec (.entryResolve id) s = .next t ∧
      (∃ d, t.cmd? id = some d ∧ d.phase = .ready ∧ d.entry = c.entry ∧ d.order = s.qe.resolved) ∧
      t.qe.resolved = s.qe.resolved + 1 ∧ Frame [.qe] s t := by
  obtain rfl : c.id = id := State.id_of_cmd? hc
  let d := c.resolved s.qe.resolved
  let granted : Cmd := { d with phase := .ready }
  let u := s.placeResolved c none none 0 0 false
  have hres : s.resolveCmd c = u := by simp [State.resolveCmd, hop, hh, u]
  have hd : u.cmd? c.id = some d := State.cmd?_setCmd_self (d := d) hc
  have hgrant : u.grantCmd d = u.setCmd granted :=
    State.grantCmd_of_free rfl rfl (if_neg hop)
  have hexec : exec (.entryResolve c.id) s = .next (u.setCmd granted) := by
    refine congrArg Host.Outcome.next ?_
    rw [State.resolveId, hc]
    dsimp only
    rw [if_pos hm, hres, hd, ← hgrant]
  exact ⟨_, hexec, ⟨granted, State.cmd?_setCmd_self (d := granted) hd, rfl, rfl, rfl⟩, rfl,
    State.placeResolved_frame.trans State.setCmd_frame⟩

theorem lockGrant_grants {s : State} {id : Nat} {c : Cmd} (hc : s.cmd? id = some c) (hp : c.phase = .waiting)
    (hl : s.lockBlocked c = false) (ho : s.openBlocked c = false) :
    exec (.lockGrant id) s = .next (s.setCmd { c with phase := .ready }) := by
  refine congrArg Host.Outcome.next ?_
  rw [State.grantId, hc]
  exact State.grantCmd_of_free hp hl ho

/-- Settles O14: one entry taken, the fetch, the resolution, and the lock. -/
theorem fetchResolveAndLock : Obligations.FetchResolveAndLock :=
  ⟨fun _ _ _ _ _ he hc => takeEntries_stages he hc,
    fun _ _ _ _ es hf hr => congrArg Host.Outcome.next (State.fetch_of_picked es hf hr),
    fun _ _ _ hc hm hop hh => entryResolve_readies hc hm hop hh,
    fun _ _ _ hc hp hl ho => lockGrant_grants hc hp hl ho⟩

end Sys2Proof.Machine
end

section
/-! Tags (R95): a duplicate is refused as its entry is fetched, and RESET_DONE frees every tag of its ring. -/

namespace Sys2Proof.Machine

-- One theorem at a time: run ahead of the kernel, each would hold a thread and its stack.
set_option Elab.async false

/-! ### Who holds a tag (R95) -/

/-- An uncompleted command of the ring, or a completion of it not yet written, holds the tag (log entry 23). -/
def State.holdsTag (s : State) (f r tag : Nat) : Prop :=
  (∃ c ∈ s.qe.cmds, c.fn = f ∧ c.ring = r ∧ entTag c.entry = tag) ∨
    ∃ q ∈ s.qe.ready, q.fn = f ∧ q.ring = r ∧ q.kind = 0 ∧ q.tag = tag

theorem State.holdsTag_congr {s t : State} (hc : t.qe.cmds = s.qe.cmds) (hr : t.qe.ready = s.qe.ready) :
    t.holdsTag = s.holdsTag := by
  unfold State.holdsTag
  rw [hc, hr]

/-- The tag check of the fetch phase, as a test on the two lists. -/
theorem State.tagUsed_iff (s : State) (f r : Nat) (e : Entry) :
    ((s.qe.cmds.any fun c => c.fn == f && c.ring == r && entTag c.entry == entTag e) ||
      s.qe.ready.any fun q => q.fn == f && q.ring == r && q.kind == 0 && q.tag == entTag e) = true ↔
      s.holdsTag f r (entTag e) := by
  simp only [Bool.or_eq_true, List.any_eq_true, Bool.and_eq_true, beq_iff_eq, and_assoc, State.holdsTag]

theorem fetchCheck_of_held {s : State} {f r : Nat} {e : Entry} (hl : s.qe.leaving = false)
    (h : s.holdsTag f r (entTag e)) : fetchCheck s f r e = some (stTagInUse, 0) := by
  unfold fetchCheck
  extract_lets used
  rw [if_neg (by simp [hl]), if_pos ((s.tagUsed_iff f r e).mpr h)]

/-- No other check of the fetch phase answers TAG_IN_USE. -/
theorem fetchCheck_of_free {s : State} {f r st d : Nat} {e : Entry} (h : ¬ s.holdsTag f r (entTag e))
    (hc : fetchCheck s f r e = some (st, d)) : st ≠ stTagInUse := by
  unfold fetchCheck at hc
  extract_lets used at hc
  rw [if_neg (mt (s.tagUsed_iff f r e).mp h)] at hc
  split at hc
  · cases hc
    decide
  split at hc
  · cases hc
    decide
  split at hc
  · cases hc
    decide
  split at hc
  · cases hc
    decide
  · obtain ⟨off, -, hfield⟩ := Option.map_eq_some_iff.mp hc
    cases hfield
    decide

/-- The checks of the fetch phase never answer TAG_IN_USE with a tag that is free. -/
theorem fetchCheck_ne_tagInUse {s : State} {f r d : Nat} {e : Entry} (h : ¬ s.holdsTag f r (entTag e)) :
    fetchCheck s f r e ≠ some (stTagInUse, d) := fun hc => fetchCheck_of_free h hc rfl

/-! ### The choice of a function (R84) -/

/-- What the round robin over functions leaves of QE: rings, commands, completions, and whether the part is leaving
service. -/
structure State.Turned (s t : State) : Prop where
  sqs : t.qe.sqs = s.qe.sqs
  cmds : t.qe.cmds = s.qe.cmds
  ready : t.qe.ready = s.qe.ready
  leaving : t.qe.leaving = s.qe.leaving

theorem State.Turned.trans {s t u : State} (h1 : s.Turned t) (h2 : t.Turned u) : s.Turned u :=
  ⟨h2.sqs.trans h1.sqs, h2.cmds.trans h1.cmds, h2.ready.trans h1.ready, h2.leaving.trans h1.leaving⟩

theorem State.drr_turned (s : State) (n : Nat) : s.Turned (s.drr n).1 := by
  induction n generalizing s with
  | zero => exact ⟨rfl, rfl, rfl, rfl⟩
  | succ n ih =>
    unfold State.drr
    split
    case h_1 f rest _ =>
      extract_lets src u d v
      have hv : s.Turned v := ⟨rfl, rfl, rfl, rfl⟩
      split
      · split
        · exact ⟨rfl, rfl, rfl, rfl⟩
        · exact hv.trans (ih v)
      · refine State.Turned.trans ?_ (ih _)
        exact ⟨rfl, rfl, rfl, rfl⟩
    case h_2 =>
      extract_lets order
      clear_value order
      split
      · exact ⟨rfl, rfl, rfl, rfl⟩
      · refine State.Turned.trans ?_ (ih _)
        exact ⟨rfl, rfl, rfl, rfl⟩

theorem State.pickFn_turned (s : State) : s.Turned s.pickFn.1 := by
  unfold State.pickFn
  split
  · exact ⟨rfl, rfl, rfl, rfl⟩
  split
  · split
    · exact ⟨rfl, rfl, rfl, rfl⟩
    · refine State.Turned.trans ?_ (State.drr_turned _ _)
      split <;> exact ⟨rfl, rfl, rfl, rfl⟩
  · exact s.drr_turned _

/-! ### One entry fetched (R84, R95) -/

/-- The choice of a function and its turn leave the rings, the commands and the completion rings bound as they are. -/
theorem State.served_spec {s u : State} {f : Nat} (hf : s.pickFn = (u, some f)) (r n : Nat) :
    s.Turned (u.served f r n) ∧ (u.served f r n).boundCq = s.boundCq := by
  have hframe : Frame [.hi, .qe] s u := Frame.ofPair hf State.pickFn_frame rfl
  have hturned := s.pickFn_turned
  rw [hf] at hturned
  exact ⟨⟨hturned.sqs, hturned.cmds, hturned.ready, hturned.leaving⟩,
    State.boundCq_congr (congrFun (State.reg_congr (t := u.served f r n) (hframe .regs rfl) (hframe .board rfl)) _)⟩

/-- A fetch of one entry from a ring of the host takes it in a state with the same rings, commands and completions. -/
theorem entryFetch_takes {s u : State} {f r : Nat} (e : Entry) (hf : s.pickFn = (u, some f))
    (hr : u.pickRing f = some r) (hw : r < windowRing) (hn : u.fetchLen f r 1 = 1) :
    ∃ v, exec (.entryFetch [e]) s = .next (v.takeEntry f r e) ∧ s.Turned v ∧ v.boundCq = s.boundCq := by
  refine ⟨u.served f r 1, congrArg Host.Outcome.next ?_, State.served_spec hf r 1⟩
  rw [State.fetch_of_picked [e] hf hr, if_neg hw.ne]
  simp only [List.length_singleton, hn]
  rfl

theorem entTag_lt (e : Entry) : entTag e < 65536 := Nat.mod_lt _ (by decide)

/-- Once QE has moved past the entry, commands and completions still hold the tags they held. -/
theorem State.Turned.advance {s v : State} (h : s.Turned v) (f r : Nat) :
    (v.advance f r).holdsTag = s.holdsTag ∧ (v.advance f r).qe.cmds = s.qe.cmds ∧
      (v.advance f r).qe.ready = s.qe.ready := by
  obtain ⟨-, -, -, hcmds, hready⟩ := v.advance_spec f r
  exact ⟨State.holdsTag_congr (hcmds.trans h.cmds) (hready.trans h.ready), hcmds.trans h.cmds, hready.trans h.ready⟩

/-- A duplicate of a tag that is held completes at once, and the commands in flight stay as they are. -/
theorem takeEntry_of_held {s v : State} {f r : Nat} {e : Entry} (hv : s.Turned v) (hb : v.boundCq = s.boundCq)
    (hw : r < windowRing) (hl : s.qe.leaving = false) (he : (s.sq f r).echo = false)
    (h : s.holdsTag f r (entTag e)) :
    (v.takeEntry f r e).qe.cmds = s.qe.cmds ∧ (v.takeEntry f r e).qe.ready =
      s.qe.ready ++ [⟨f, s.boundCq f r, r, 0, 0, stTagInUse, 0, entTag e, false⟩] := by
  obtain ⟨htags, hcmds, hready⟩ := hv.advance f r
  have hecho : (v.sq f r).echo = false := by rwa [State.sq, hv.sqs]
  have hcheck : fetchCheck (v.advance f r) f r e = some (stTagInUse, 0) :=
    fetchCheck_of_held (hv.leaving.trans hl) (htags ▸ h)
  have hcq : (v.advance f r).boundCq = s.boundCq := hb
  rw [State.takeEntry_of_failed hecho hcheck]
  refine ⟨?_, ?_⟩
  · rw [State.makeReady, if_neg (hw.trans (by decide)).ne, if_neg hw.ne]
    exact hcmds
  · rw [State.makeReady_of_host hw, hcq, hready]
    rfl

/-- An entry whose tag is free adds no TAG_IN_USE to the completions that wait. -/
theorem takeEntry_of_free {s v : State} {f r : Nat} {e : Entry} (hv : s.Turned v) (hw : r < windowRing)
    (he : (s.sq f r).echo = false) (h : ¬ s.holdsTag f r (entTag e)) :
    ∀ q ∈ (v.takeEntry f r e).qe.ready, q ∈ s.qe.ready ∨ q.status ≠ stTagInUse := by
  obtain ⟨htags, -, hready⟩ := hv.advance f r
  have hecho : (v.sq f r).echo = false := by rwa [State.sq, hv.sqs]
  cases hc : fetchCheck (v.advance f r) f r e with
  | none =>
    rw [State.takeEntry_of_passed hecho hc]
    exact fun q hq => .inl (hready ▸ hq)
  | some x =>
    obtain ⟨st, d⟩ := x
    have hst : st ≠ stTagInUse := fetchCheck_of_free (htags ▸ h) hc
    rw [State.takeEntry_of_failed hecho hc, State.makeReady_of_host hw, hready]
    intro q hq
    rcases List.mem_append.mp hq with hq | hq
    · exact .inl hq
    · exact .inr (List.mem_singleton.mp hq ▸ hst)

/-! ### RESET_DONE (R98, R99) -/

/-- A reset whose completion ring is in service, has room and is waited for by nothing (R98 step 4). -/
theorem State.resetDone_posts {s : State} {f r : Nat} (hr : (s.sq f r).resetting = true)
    (hq : s.resetQuiet f r = true) (hroom : s.cqRoom f (s.boundCq f r) = true)
    (hwait : (s.qe.ready.all fun x => x.fn != f || x.cq != s.boundCq f r) = true) :
    ((s.resetDone f r).sq f r).resetting = false ∧ (s.resetDone f r).qe.cmds = s.qe.cmds ∧
      (s.resetDone f r).qe.ready = s.qe.ready := by
  obtain ⟨-, hfailed⟩ := State.inService_of_cqRoom hroom
  have hany : (s.qe.ready.any fun x => x.fn == f && x.cq == s.boundCq f r) = false := by
    simpa [List.any_eq_false, List.all_eq_true, imp_iff_not_or] using hwait
  unfold State.resetDone
  extract_lets q c last src u
  have hposted {w0 w1 w2 w3 : Nat} : u.Chimed (u.postEntry f c w0 w1 w2 w3) := .postEntry
  have hu : (u.cq f c).failed = false := hfailed
  rw [if_neg (by simp [q, hr, hq]), if_neg (by simp [c, hroom, hany]), if_neg (by simp [hu])]
  refine ⟨?_, hposted.cmds, hposted.ready⟩
  rw [hposted.sq, State.sq_setSq_self]
  rfl

/-- A quiet ring holds no tag (R98 step 4). -/
theorem State.not_holdsTag_of_quiet {s : State} {f r : Nat} (hq : s.resetQuiet f r = true) (tag : Nat) :
    ¬ s.holdsTag f r tag := by
  simp only [State.resetQuiet, Bool.and_eq_true, Bool.not_eq_true', List.any_eq_false, Bool.and_eq_true, beq_iff_eq,
    not_and] at hq
  obtain ⟨hcmds, hready⟩ := hq
  rintro (⟨c, hc, hf, hr, -⟩ | ⟨q, hq, hf, hr, -⟩)
  · exact hcmds c hc hf hr
  · exact hready q hq hf hr

/-- Settles O58: a tag that is held, a tag that is free, and RESET_DONE. -/
theorem tagsAreUniquePerRing : Obligations.TagsAreUniquePerRing := by
  refine ⟨fun s u f r e hf hr hw hn hl he => ⟨entTag_lt e, fun h => ?_, fun h => ?_⟩, fun s f r hr hq hroom hwait => ?_⟩
  · obtain ⟨v, hexec, hv, hb⟩ := entryFetch_takes e hf hr hw hn
    exact ⟨_, hexec, takeEntry_of_held hv hb hw hl he h⟩
  · obtain ⟨v, hexec, hv, -⟩ := entryFetch_takes e hf hr hw hn
    exact ⟨_, hexec, takeEntry_of_free hv hw he h⟩
  · obtain ⟨hreset, hcmds, hready⟩ := State.resetDone_posts hr hq hroom hwait
    have htags : (s.resetDone f r).holdsTag = s.holdsTag := State.holdsTag_congr hcmds hready
    exact ⟨_, rfl, hreset, fun e => fetchCheck_ne_tagInUse (htags ▸ State.not_holdsTag_of_quiet hq (entTag e))⟩

end Sys2Proof.Machine
end

section
/-! What the end of a stream's command leaves of its stream, and OPEN_STREAM, SYNC and CLOSE_STREAM (R116, R118, R129 to
R133, R168). -/

namespace Sys2Proof.Machine

-- One theorem at a time: run ahead of the kernel, each would hold a thread and its stack.
set_option Elab.async false

/-! ### A stream's command in hand, and what its end leaves of the stream (R87, R97) -/

/-- A command in hand that names a stream runs on it at once. -/
theorem State.onStream_of_holds {s : State} {id op k : Nat} {c : Cmd} {x : Stream} (h : s.holds id op c)
    (hk : c.stream = some k) (hx : s.stream? k = some x) (run : State → Cmd → Nat → Stream → State) :
    s.onStream id op run = run s c k x := by
  have hb := State.bringIn_of_holds h
  obtain ⟨hc, hp, hop, -⟩ := h
  simp only [State.onStream, hb, hc, hp, hop, BEq.rfl, Bool.and_self, if_true, hk, hx]

/-- Streams are looked up in PE alone. -/
theorem State.stream?_congr {s t : State} (h : t.pe.streams = s.pe.streams) : t.stream? = s.stream? := by
  funext k
  simp only [State.stream?, h]

/-- A stream with other held bytes. -/
def Stream.holding (x : Stream) (held overdraft : Nat) : Stream := { x with held := held, overdraft := overdraft }

/-- Bytes given back change what the stream holds, and no other stream. -/
theorem State.stream?_giveBack {s : State} {k : Nat} {x : Stream} (n : Nat) (hx : s.stream? k = some x) :
    (∃ a b, (s.giveBack k n).stream? k = some (x.holding a b)) ∧
      ∀ j, j ≠ k → (s.giveBack k n).stream? j = s.stream? j := by
  simp only [State.giveBack, hx]
  exact ⟨⟨_, _, State.stream_setStream_self ..⟩, fun j hj => State.stream_setStream_ne s _ hj⟩

theorem State.modStream_of_some {s : State} {k : Nat} {x : Stream} (hx : s.stream? k = some x) (g : Stream → Stream) :
    s.modStream k g = s.setStream k (g x) := by
  simp only [State.modStream, hx]

/-- The end of a command of a stream changes what that stream holds, and no other stream. -/
theorem State.stream?_finishCmd {s : State} {c : Cmd} {k : Nat} {x : Stream} (status detail result : Nat)
    (hn : s.hi.ownerNext = none) (hw : isWriteClass (entOpcode c.entry) = false) (hk : c.stream = some k)
    (hx : s.stream? k = some x) :
    (∃ a b, (s.finishCmd c status detail result).stream? k = some (x.holding a b)) ∧
      ∀ j, j ≠ k → (s.finishCmd c status detail result).stream? j = s.stream? j := by
  unfold State.finishCmd
  rw [hk, hw]
  extract_lets wc s1 res s2 s3 s4
  have h1 : (∃ a b, s1.stream? k = some (x.holding a b)) ∧ ∀ j, j ≠ k → s1.stream? j = s.stream? j := by
    unfold s1
    dsimp only
    split
    · exact ⟨⟨_, _, hx⟩, fun _ _ => rfl⟩
    · exact State.stream?_giveBack _ hx
  have hs1 : Frame [.qe, .pe, .bm] s s1 := Frame.ite Frame.refl (State.giveBack_frame.mono rfl)
  have hs4 : Frame [.qe, .pe, .bm] s s4 := (hs1.step State.dropCmd_frame rfl).step State.countReset_frame rfl
  have hend {b : Bool} : (s4.makeReady c.fn c.ring (entTag c.entry) status detail res b).settleOwner =
      s4.makeReady c.fn c.ring (entTag c.entry) status detail res b := by
    rw [State.settleOwner, State.Upholds.makeReady.ownerNext (by rw [hs4 .hi rfl, hn])]
  have hpe {b : Bool} : (s4.makeReady c.fn c.ring (entTag c.entry) status detail res b).pe.streams = s1.pe.streams := by
    rw [State.makeReady_frame .pe rfl, State.countReset_frame .pe rfl]
    rfl
  rw [hend, State.stream?_congr hpe]
  exact h1

/-- On a host ring the end of a command writes no register and sends nothing: its completion waits (R88). -/
theorem State.finishCmd_frame_of_host {s : State} {c : Cmd} (status detail result : Nat) (hn : s.hi.ownerNext = none)
    (hw : isWriteClass (entOpcode c.entry) = false) (hr : c.ring < windowRing) :
    Frame [.qe, .pe, .bm] s (s.finishCmd c status detail result) := by
  obtain ⟨u, d, hu, -, he⟩ := s.finishCmd_of_settled c status detail result hn hw
  have hg : c.ring ≠ goneRing := (hr.trans (by decide)).ne
  rw [he, State.makeReady, if_neg hg, if_neg hr.ne]
  exact hu.qe rfl

/-- How a command of a stream ends: its outcome is told, the stream is as given but for the bytes that it holds, and no
other stream has changed. -/
structure State.EndsOn (s t : State) (c : Cmd) (k : Nat) (y : Stream) (status detail result : Nat) : Prop where
  told : s.told t c status detail result
  stream : ∃ a b, t.stream? k = some (y.holding a b)
  others : ∀ j, j ≠ k → t.stream? j = s.stream? j
  frame : Frame [.regs, .hi, .qe, .pe, .bm, .out] s t

/-- A read position or a flag of the stream on which a command has ended. -/
theorem State.EndsOn.map {s t : State} {c : Cmd} {k : Nat} {y : Stream} {st d r : Nat} {α : Type} {g : Stream → α}
    (h : s.EndsOn t c k y st d r) (hg : ∀ a b, g (y.holding a b) = g y := by intros; rfl) :
    (t.stream? k).map g = some (g y) := by
  obtain ⟨a, b, hy⟩ := h.stream
  rw [hy, Option.map_some, hg]

/-- The end of a command of a stream, after work on its stream and on what is sent. -/
theorem State.endsOn_finishCmd {s u : State} {id op k : Nat} {c : Cmd} {y : Stream} (status detail result : Nat)
    (h : s.holds id op c) (hw : isWriteClass op = false) (hk : c.stream = some k) (hu : Frame [.pe, .out] s u)
    (hy : u.stream? k = some y) (ho : ∀ j, j ≠ k → u.stream? j = s.stream? j) :
    s.EndsOn (u.finishCmd c status detail result) c k y status detail result := by
  obtain ⟨-, -, rfl, hn⟩ := h
  have hnu : u.hi.ownerNext = none := by rw [hu .hi rfl, hn]
  obtain ⟨hstream, hothers⟩ := State.stream?_finishCmd status detail result hnu hw hk hy
  refine ⟨State.told_finishCmd hnu ?_ hw, hstream, fun j hj => (hothers j hj).trans (ho j hj),
    (hu.mono rfl).trans (State.finishCmd_frame_of_settled hnu hw)⟩
  rw [State.reg_congr (hu .regs rfl) (hu .board rfl)]

/-! ### OPEN_STREAM (R116) -/

/-- Telling a credit leaves a mark on its stream. -/
theorem State.stream?_tellCredit {s : State} {k : Nat} {x : Stream} (hx : s.stream? k = some x) :
    (∃ z, (s.tellCredit k).stream? k = some { x with zeroTold := z }) ∧
      ∀ j, j ≠ k → (s.tellCredit k).stream? j = s.stream? j := by
  unfold State.tellCredit
  split
  · rw [State.modStream_of_some hx]
    exact ⟨⟨_, State.stream_setStream_self ..⟩, fun j hj => State.stream_setStream_ne s _ hj⟩
  · exact ⟨⟨_, hx⟩, fun _ _ => rfl⟩

theorem execOpenStream_of_holds {s : State} {id k : Nat} {c : Cmd} {x : Stream} (h : s.holds id 0x03 c)
    (hk : c.stream = some k) (hx : s.stream? k = some x) :
    exec (.openStream id) s = .next (((s.setStream k { x with opening := false }).tellCredit k).finishCmd c stSuccess 0
      (satCredit ((s.setStream k { x with opening := false }).creditOf k))) := by
  have hb := State.bringIn_of_holds h
  obtain ⟨hc, hp, hop, -⟩ := h
  show execOpenStream id s = _
  simp only [execOpenStream, hb, hc, hp, hop, hk, BEq.rfl, Bool.and_self, if_true, Option.getD_some,
    State.modStream_of_some hx]

/-- The credit of a stream as it stands. -/
theorem State.creditOf_of_some {s : State} {k : Nat} {x : Stream} (hx : s.stream? k = some x) :
    s.creditOf k = s.credit x := by
  rw [State.creditOf, hx]
  rfl

theorem openStream_ends {s : State} {id k : Nat} {c : Cmd} {x : Stream} (h : s.holds id 0x03 c)
    (hk : c.stream = some k) (hx : s.stream? k = some x) :
    ∃ t z, exec (.openStream id) s = .next t ∧ s.EndsOn t c k { x with opening := false, zeroTold := z } stSuccess 0
      (satCredit ((s.setStream k { x with opening := false }).credit { x with opening := false })) := by
  let u := s.setStream k { x with opening := false }
  have hu : u.stream? k = some { x with opening := false } := State.stream_setStream_self ..
  obtain ⟨⟨z, hz⟩, hothers⟩ := State.stream?_tellCredit hu
  have hframe : Frame [.pe, .out] s (u.tellCredit k) := (State.setStream_frame.mono rfl).step State.tellCredit_frame rfl
  refine ⟨_, z, execOpenStream_of_holds h hk hx, ?_⟩
  rw [State.creditOf_of_some hu]
  refine State.endsOn_finishCmd _ _ _ h rfl hk hframe hz fun j hj => ?_
  rw [hothers j hj, State.stream_setStream_ne s _ hj]

/-! ### SYNC and CLOSE_STREAM (R118, R130, R133) -/

/-- A stream once a command has reported its deferred error, where one was pending (R133). -/
def Stream.afterReport (x : Stream) : Stream := if x.pendingDetail.isSome then x.reported else x

theorem Stream.pendingDetail_reported (x : Stream) : x.reported.pendingDetail = none := by
  rw [Stream.pendingDetail, Stream.reported]
  cases x.err <;> rfl

@[simp] theorem Stream.pendingDetail_afterReport (x : Stream) : x.afterReport.pendingDetail = none := by
  unfold Stream.afterReport
  split
  case isTrue => exact x.pendingDetail_reported
  case isFalse h => simpa using h

/-- A report touches the stream's error alone. -/
theorem Stream.afterReport_eq (x : Stream) : ∃ e, x.afterReport = { x with err := e } := by
  unfold Stream.afterReport
  split
  · exact ⟨_, rfl⟩
  · exact ⟨_, rfl⟩

/-- A command that reports deferred errors ends with DEFERRED where one is pending, and clears it (R133). -/
theorem State.endsOn_finishReporting {s u : State} {id op k : Nat} {c : Cmd} {y : Stream} (result : Nat)
    (h : s.holds id op c) (hw : isWriteClass op = false) (hk : c.stream = some k) (hu : Frame [.pe, .out] s u)
    (hy : u.stream? k = some y) (ho : ∀ j, j ≠ k → u.stream? j = s.stream? j) :
    s.EndsOn (u.finishReporting c k result) c k y.afterReport (if y.pendingDetail.isSome then stDeferred else stSuccess)
      (y.pendingDetail.getD 0) result := by
  unfold State.finishReporting Stream.afterReport
  rw [hy, Option.bind_some]
  cases y.pendingDetail with
  | none => exact State.endsOn_finishCmd _ _ _ h hw hk hu hy ho
  | some d =>
    dsimp only
    rw [State.modStream_of_some hy]
    refine State.endsOn_finishCmd _ _ _ h hw hk (hu.step State.setStream_frame rfl) (State.stream_setStream_self ..)
      fun j hj => ?_
    rw [State.stream_setStream_ne u _ hj, ho j hj]

theorem State.sync_of_settled {s : State} {c : Cmd} {k : Nat} {x : Stream}
    (h : x.write = false ∨ x.settled c.first = true) :
    s.sync c k x = s.finishReporting c k 0 := by
  rcases h with h | h <;> simp [State.sync, h]

/-- A change of the stream alone, after its command has ended. -/
theorem State.EndsOn.modStream {s t : State} {c : Cmd} {k : Nat} {y : Stream} {st d r : Nat} {g : Stream → Stream}
    (h : s.EndsOn t c k y st d r) (hg : ∀ a b, g (y.holding a b) = (g y).holding a b := by intros; rfl) :
    s.EndsOn (t.modStream k g) c k (g y) st d r := by
  obtain ⟨a, b, hy⟩ := h.stream
  rw [State.modStream_of_some hy, hg]
  refine ⟨h.told, ⟨a, b, State.stream_setStream_self ..⟩, fun j hj => ?_, h.frame.step State.setStream_frame rfl⟩
  rw [State.stream_setStream_ne t _ hj, h.others j hj]

/-- A close that nothing holds back (R118, R168). -/
theorem State.close_of_verified {s : State} {c : Cmd} {k : Nat} {x : Stream}
    (h : x.write = false ∨ (min c.first x.seqEnd ≤ x.durable ∧ c.count ≠ 0 ∧ s.bookVerified (c.count - 1) = true ∧
      x.truncPending = false)) : s.close c k x = (s.finishReporting c k 0).modStream k Stream.closed := by
  rcases h with h | ⟨hdurable, hcount, hbook, htrunc⟩
  · simp [State.close, h]
  · simp only [State.close, decide_eq_true hdurable, if_neg hcount, hbook, htrunc]
    split
    · rfl
    · split <;> rfl

/-- A close whose data are durable asks for its book dataset first (R168). -/
theorem State.close_of_unasked {s : State} {c : Cmd} {k : Nat} {x : Stream} (hwrite : x.write = true)
    (herr : x.pendingDetail = none) (hdurable : min c.first x.seqEnd ≤ x.durable) (hcount : c.count = 0) :
    s.close c k x = { s with pe := { s.pe with bookDue := true } } := by
  simp only [State.close, hwrite, herr, decide_eq_true hdurable, if_pos hcount]
  rfl

/-- Settles O45: OPEN_STREAM, then SYNC, then CLOSE_STREAM, each by how it ends on its stream. -/
theorem streamsOpenCloseAndSync : Obligations.StreamsOpenCloseAndSync := by
  refine ⟨fun s id k c x h hk hx => ?_, fun s id k c x h hk hx => ⟨fun hset => ?_, fun hwrite hset => ?_⟩,
    fun s id k c x h hk hx => ⟨fun hdone => ?_, fun hwrite herr hdurable hcount => ?_⟩⟩
  · obtain ⟨t, z, hexec, hend⟩ := openStream_ends h hk hx
    obtain ⟨a, b, hy⟩ := hend.stream
    exact ⟨t, _, hexec, hy, State.told_min hend.told, rfl, rfl, rfl, hend.others, hend.frame⟩
  · have hend := State.endsOn_finishReporting 0 h rfl hk Frame.refl hx fun _ _ => rfl
    have hexec := (State.onStream_of_holds h hk hx State.sync).trans (State.sync_of_settled hset)
    obtain ⟨a, b, hy⟩ := hend.stream
    obtain ⟨e, he⟩ := x.afterReport_eq
    refine ⟨_, _, congrArg Host.Outcome.next hexec, hy, hend.told, x.pendingDetail_afterReport, ?_, ?_, hend.others,
      hend.frame⟩
    · rw [he]; rfl
    · rw [he]; rfl
  · refine congrArg Host.Outcome.next ((State.onStream_of_holds h hk hx State.sync).trans (if_neg ?_))
    simp [hwrite, hset]
  · have hend := (State.endsOn_finishReporting 0 h rfl hk Frame.refl hx fun _ _ => rfl).modStream (g := Stream.closed)
    have hexec := (State.onStream_of_holds h hk hx State.close).trans (State.close_of_verified hdone)
    obtain ⟨a, b, hy⟩ := hend.stream
    obtain ⟨e, he⟩ := x.afterReport_eq
    refine ⟨_, _, congrArg Host.Outcome.next hexec, hy, hend.told, rfl, rfl, rfl, x.pendingDetail_afterReport, ?_,
      hend.others, hend.frame⟩
    rw [he]
    rfl
  · exact congrArg Host.Outcome.next ((State.onStream_of_holds h hk hx State.close).trans
      (State.close_of_unasked hwrite herr hdurable hcount))

end Sys2Proof.Machine
end

section
/-! READ_RECORDS, DISCARD_REMAINDER, LOCATE and SPACE (R107, R109, R123, R124, R126, R127). -/

namespace Sys2Proof.Machine

-- One theorem at a time: run ahead of the kernel, each would hold a thread and its stack.
set_option Elab.async false

/-! ### What a read of one record delivers (R109, R123) -/

section
variable {look : Nat → Option Decoded} {fin r room : Nat} {d : Decoded}

/-- A whole record that fits. -/
theorem deliver_of_whole (hr : r < fin) (hd : look r = some d) (hfail : d.fail = none) (hpeg : d.peg = none)
    (h0 : d.data ≠ []) (hlen : d.data.length ≤ room) :
    deliver look fin 1 room ⟨r, 0⟩ = ⟨[listEntry d.data.length d.crc false false false 0], d.data, ⟨r + 1, 0⟩,
      some (stSuccess, if fin ≤ r + 1 then 4 else 0)⟩ := by
  have hpos : 0 < d.data.length := List.length_pos_iff.mpr h0
  simp only [deliver, if_neg (Nat.not_le.mpr hr), hd, hfail, hpeg, Nat.sub_zero, lt_self_iff_false, decide_false,
    if_neg (show ¬ room = 0 by omega), if_neg (show ¬ room < d.data.length by omega), List.drop_zero]
  split
  · simp
  · simp [Delivery.before]

/-- A peg ends the read after it. -/
theorem deliver_of_peg {cls : Nat} (hr : r < fin) (hd : look r = some d) (hfail : d.fail = none)
    (hpeg : d.peg = some cls) :
    deliver look fin 1 room ⟨r, 0⟩ = ⟨[listEntry 0 none false true false cls], [], ⟨r + 1, 0⟩,
      some (stSuccess, if fin ≤ r + 1 then 4 else 3)⟩ := by
  simp only [deliver, if_neg (Nat.not_le.mpr hr), hd, hfail, hpeg]

/-- A record that failed ends the read before it. -/
theorem deliver_of_failed {e : Nat × Nat} (hr : r < fin) (hd : look r = some d) (hfail : d.fail = some e) :
    deliver look fin 1 room ⟨r, 0⟩ = ⟨[], [], ⟨r, 0⟩, some e⟩ := by
  simp only [deliver, if_neg (Nat.not_le.mpr hr), hd, hfail]

/-- A record out of reach leaves the read without an ending. -/
theorem deliver_of_absent (hr : r < fin) (hd : look r = none) :
    deliver look fin 1 room ⟨r, 0⟩ = ⟨[], [], ⟨r, 0⟩, none⟩ := by
  simp only [deliver, if_neg (Nat.not_le.mpr hr), hd]

end

/-! ### The read position moves (R124) -/

/-- A stream with its read position moved. -/
def Stream.movedTo (x : Stream) (p : Place) : Stream := { x with pos := p, partialRead := decide (0 < p.off) }

theorem State.stream?_movePos {s : State} {k : Nat} {x : Stream} (p : Place) (hx : s.stream? k = some x) :
    (s.movePos k p).stream? k = some (x.movedTo p) ∧ ∀ j, j ≠ k → (s.movePos k p).stream? j = s.stream? j := by
  unfold State.movePos
  rw [State.modStream_of_some hx]
  exact ⟨State.stream_setStream_self .., fun j hj => State.stream_setStream_ne s _ hj⟩

/-- A command that moves its stream's read position, ends its tape reads and completes, after it has sent its data. -/
theorem State.endsOn_movePos {s u : State} {id op k : Nat} {c : Cmd} {x : Stream} (p : Place) (st d r : Nat)
    (h : s.holds id op c) (hw : isWriteClass op = false) (hk : c.stream = some k) (hx : s.stream? k = some x)
    (hu : Frame [.out] s u) :
    s.EndsOn (((u.movePos k p).endTape c.id).finishCmd c st d r) c k (x.movedTo p) st d r := by
  have hpe : u.stream? = s.stream? := State.stream?_congr (congrArg PeState.streams (hu .pe rfl))
  obtain ⟨hself, hothers⟩ := State.stream?_movePos (s := u) p (by rwa [hpe])
  refine State.endsOn_finishCmd st d r h hw hk ?_ hself fun j hj => (hothers j hj).trans (by rw [hpe])
  exact ((hu.mono rfl).step State.movePos_frame rfl).step State.endTape_frame rfl

/-- What was sent before a command moves its stream and ends has still been sent. -/
theorem State.out_movePos_finishCmd {u : State} {k st d r : Nat} {c : Cmd} {p : Place} (hn : u.hi.ownerNext = none) :
    u.out <+: (((u.movePos k p).endTape c.id).finishCmd c st d r).out := by
  have hpe : Frame [.pe] u ((u.movePos k p).endTape c.id) := State.movePos_frame.trans State.endTape_frame
  rw [← hpe .out rfl]
  exact (State.Posts.finishCmd (by rw [hpe .hi rfl, hn])).out

/-! ### READ_RECORDS (R123) -/

/-- The data and the record list of a read, as they go to host memory. -/
def State.sendRead (s : State) (c : Cmd) (ps : List BufPiece) (d : Delivery) : State :=
  if d.entries.isEmpty then s.scatter c d.data ps
  else (s.scatter c d.data ps).dmaFor c (entList c.entry) d.entries.flatten

theorem State.endRead_eq (s : State) (c : Cmd) (k : Nat) (ps : List BufPiece) (d : Delivery) (e : Nat × Nat) :
    s.endRead c k ps d e =
      (((s.sendRead c ps d).movePos k d.place).endTape c.id).finishCmd c e.1 e.2 d.entries.length := rfl

theorem State.sendRead_frame {s : State} {c : Cmd} {ps : List BufPiece} {d : Delivery} :
    Frame [.out] s (s.sendRead c ps d) :=
  Frame.ite State.scatter_frame (State.scatter_frame.trans State.dmaFor_frame)

/-- A write to host memory for a function that stands (R70). -/
theorem State.dmaFor_of_standing {s : State} {c : Cmd} (hg : c.ring ≠ goneRing) (addr : Nat) (data : Bytes) :
    s.dmaFor c addr data = s.emit (.dma c.fn addr data) := if_neg hg

/-- A read whose buffer is in the entry itself (R108). -/
theorem Cmd.buffer_of_entry {c : Cmd} (ps : List BufPiece) (h : bitOf (entFlags c.entry) 0 = false) :
    c.buffer ps = some [⟨entData c.entry, entLen c.entry⟩] := if_neg (by simp [h])

/-- A read of one record that lies below the stream's end and has an ending. -/
theorem State.readRecords_of_ending {s : State} {c : Cmd} {k r : Nat} {x : Stream} {ps : List BufPiece} {d : Delivery}
    {e : Nat × Nat} (hflag : bitOf (entFlags c.entry) 0 = false) (hcount : entCountM1 c.entry = 0)
    (hplace : x.readPlace c = ⟨r, 0⟩) (hr : r < x.seqEnd)
    (hd : deliver (s.look k x) x.seqEnd 1 (entLen c.entry) ⟨r, 0⟩ = d) (he : d.ending = some e) :
    s.readRecords c k x ps = s.endRead c k [⟨entData c.entry, entLen c.entry⟩] d e := by
  simp only [State.readRecords, Cmd.buffer_of_entry ps hflag, hplace, hcount, Nat.zero_add, if_neg hr.not_gt,
    if_neg hr.ne', hd, he]

theorem execReadRecords_of_holds {s : State} {id k : Nat} {c : Cmd} {x : Stream} (ps : List BufPiece)
    (h : s.holds id 0x11 c) (hk : c.stream = some k) (hx : s.stream? k = some x) :
    exec (.readRecords id ps) s = .next (s.readRecords c k x ps) :=
  congrArg Host.Outcome.next (State.onStream_of_holds h hk hx fun s c k x => s.readRecords c k x ps)

/-- A read that ends: what it delivered is told and sent, and the read position stands after it. -/
theorem readRecords_ends {s : State} {id k r : Nat} {ps : List BufPiece} {c : Cmd} {x : Stream} {d : Delivery}
    {e : Nat × Nat} (h : s.holds id 0x11 c) (hk : c.stream = some k) (hx : s.stream? k = some x)
    (hflag : bitOf (entFlags c.entry) 0 = false) (hcount : entCountM1 c.entry = 0) (hplace : x.readPlace c = ⟨r, 0⟩)
    (hr : r < x.seqEnd) (hd : deliver (s.look k x) x.seqEnd 1 (entLen c.entry) ⟨r, 0⟩ = d) (he : d.ending = some e) :
    ∃ t, exec (.readRecords id ps) s = .next t ∧ s.told t c e.1 e.2 d.entries.length ∧
      (t.stream? k).map (·.pos) = some d.place ∧
      (s.sendRead c [⟨entData c.entry, entLen c.entry⟩] d).out <+: t.out ∧
      (c.ring < windowRing → t.out = (s.sendRead c [⟨entData c.entry, entLen c.entry⟩] d).out) := by
  have hexec := (execReadRecords_of_holds ps h hk hx).trans
    (congrArg Host.Outcome.next (State.readRecords_of_ending hflag hcount hplace hr hd he))
  have hend := State.endsOn_movePos (u := s.sendRead c [⟨entData c.entry, entLen c.entry⟩] d) d.place e.1 e.2
    d.entries.length h rfl hk hx State.sendRead_frame
  obtain ⟨-, -, hop, hn⟩ := h
  have hnu : (s.sendRead c [⟨entData c.entry, entLen c.entry⟩] d).hi.ownerNext = none := by
    rw [State.sendRead_frame .hi rfl, hn]
  refine ⟨_, hexec, hend.told, hend.map, State.out_movePos_finishCmd hnu, fun hring => ?_⟩
  let v := ((s.sendRead c [⟨entData c.entry, entLen c.entry⟩] d).movePos k d.place).endTape c.id
  have hv : Frame [.pe] (s.sendRead c [⟨entData c.entry, entLen c.entry⟩] d) v :=
    State.movePos_frame.trans State.endTape_frame
  rw [State.endRead_eq, State.finishCmd_frame_of_host (s := v) _ _ _ (by rw [hv .hi rfl, hnu]) (by rw [hop]; rfl) hring
    .out rfl, hv .out rfl]

/-- A read that ends before it has delivered anything (R123). -/
theorem readRecords_refused {s : State} {id k st d : Nat} (ps : List BufPiece) {c : Cmd} {x : Stream}
    (h : s.holds id 0x11 c) (hk : c.stream = some k) (hx : s.stream? k = some x)
    (he : s.readRecords c k x ps = s.finishCmd c st d 0) :
    ∃ t, exec (.readRecords id ps) s = .next t ∧ s.told t c st d 0 ∧ (t.stream? k).map (·.pos) = some x.pos := by
  have hend := State.endsOn_finishCmd st d 0 h rfl hk Frame.refl hx fun _ _ => rfl
  exact ⟨_, (execReadRecords_of_holds ps h hk hx).trans (congrArg Host.Outcome.next he), hend.told, hend.map⟩

/-- A command with no tape read registered yet waits for its record's dataset (R174, R176). -/
theorem State.awaitTape_spec {s : State} {c : Cmd} (k r ds : Nat) (h : ∀ q ∈ s.pe.reads, q.cmd ≠ c.id) :
    (⟨c.id, k, r, ds, false, false, false⟩ : TapeRead) ∈ (s.awaitTape c k r ds).pe.reads ∧
      (s.awaitTape c k r ds).pe.streams = s.pe.streams := by
  have hnew : ¬ (s.pe.reads.any fun t => t.cmd == c.id && t.record == r) = true := by
    simpa using fun q hq he => absurd he (h q hq)
  rw [State.awaitTape, if_neg hnew]
  refine ⟨List.mem_append_right _ (List.mem_singleton_self _), ?_⟩
  show (s.touchLeg ds).pe.streams = s.pe.streams
  unfold State.touchLeg
  split
  · rfl
  · dsimp only
    split <;> rfl

/-- A record on tape makes the read wait for its dataset. -/
theorem readRecords_waits {s : State} {id k r ds : Nat} (ps : List BufPiece) {c : Cmd} {x : Stream}
    (h : s.holds id 0x11 c) (hk : c.stream = some k) (hx : s.stream? k = some x)
    (hflag : bitOf (entFlags c.entry) 0 = false) (hcount : entCountM1 c.entry = 0) (hplace : x.readPlace c = ⟨r, 0⟩)
    (hr : r < x.seqEnd) (hlook : s.look k x r = none) (hds : s.tapeTarget k r = .inr ds)
    (hnone : ∀ q ∈ s.pe.reads, q.cmd ≠ c.id) :
    ∃ t, exec (.readRecords id ps) s = .next t ∧
      (⟨c.id, k, r, ds, false, false, false⟩ : TapeRead) ∈ t.pe.reads ∧ t.cmd? id = some c ∧ t.stream? k = some x ∧
      t.out = s.out := by
  have hwait : s.readRecords c k x ps = s.awaitTape c k r ds := by
    simp only [State.readRecords, Cmd.buffer_of_entry ps hflag, hplace, hcount, Nat.zero_add, if_neg hr.not_gt,
      if_neg hr.ne', deliver_of_absent hr hlook, hds]
  have hframe : Frame [.regs, .pe] s (s.awaitTape c k r ds) := State.awaitTape_frame
  obtain ⟨hread, hstreams⟩ := State.awaitTape_spec k r ds hnone
  have hexec := (execReadRecords_of_holds ps h hk hx).trans (congrArg Host.Outcome.next hwait)
  obtain ⟨hc, -, -, -⟩ := h
  refine ⟨_, hexec, hread, ?_, ?_, hframe .out rfl⟩
  · rwa [State.cmd?_congr (congrArg QeState.cmds (hframe .qe rfl))]
  · rwa [State.stream?_congr hstreams]

/-- A read of one whole record that fits goes to host memory with its list entry. -/
theorem readRecords_whole {s : State} {id k r : Nat} (ps : List BufPiece) {c : Cmd} {x : Stream} {d : Decoded}
    (h : s.holds id 0x11 c) (hk : c.stream = some k) (hx : s.stream? k = some x)
    (hflag : bitOf (entFlags c.entry) 0 = false) (hcount : entCountM1 c.entry = 0) (hplace : x.readPlace c = ⟨r, 0⟩)
    (hr : r < x.seqEnd) (hlook : s.look k x r = some d) (hfail : d.fail = none) (hpeg : d.peg = none)
    (h0 : d.data ≠ []) (hlen : d.data.length ≤ entLen c.entry) :
    ∃ t, exec (.readRecords id ps) s = .next t ∧ s.told t c stSuccess (if x.seqEnd ≤ r + 1 then 4 else 0) 1 ∧
      (t.stream? k).map (·.pos) = some ⟨r + 1, 0⟩ ∧
      (c.ring ≠ goneRing → Out.dma c.fn (entData c.entry) d.data ∈ t.out ∧
        Out.dma c.fn (entList c.entry) (listEntry d.data.length d.crc false false false 0) ∈ t.out) := by
  obtain ⟨t, hexec, htold, hpos, hout, -⟩ := readRecords_ends (ps := ps) h hk hx hflag hcount hplace hr
    (deliver_of_whole hr hlook hfail hpeg h0 hlen) rfl
  refine ⟨t, hexec, htold, hpos, fun hg => ?_⟩
  have hsent : ∀ o ∈ [Out.dma c.fn (entData c.entry) d.data,
      Out.dma c.fn (entList c.entry) (listEntry d.data.length d.crc false false false 0)], o ∈ t.out := by
    intro o ho
    refine hout.subset ?_
    simp only [State.sendRead, State.scatter_of_fits hg h0 hlen, State.dmaFor_of_standing hg, List.isEmpty_cons,
      Bool.false_eq_true, if_false, List.flatten_cons, List.flatten_nil, List.append_nil]
    simp only [State.emit, List.append_assoc, List.cons_append, List.nil_append]
    exact List.mem_append_right _ ho
  exact ⟨hsent _ (by simp), hsent _ (by simp)⟩

/-- No data leave the buffer untouched. -/
theorem State.scatter_nil (s : State) (c : Cmd) (ps : List BufPiece) : s.scatter c [] ps = s := by
  cases ps <;> rfl

/-- A peg ends the read after it, with its list entry. -/
theorem readRecords_peg {s : State} {id k r cls : Nat} (ps : List BufPiece) {c : Cmd} {x : Stream} {d : Decoded}
    (h : s.holds id 0x11 c) (hk : c.stream = some k) (hx : s.stream? k = some x)
    (hflag : bitOf (entFlags c.entry) 0 = false) (hcount : entCountM1 c.entry = 0) (hplace : x.readPlace c = ⟨r, 0⟩)
    (hr : r < x.seqEnd) (hlook : s.look k x r = some d) (hfail : d.fail = none) (hpeg : d.peg = some cls) :
    ∃ t, exec (.readRecords id ps) s = .next t ∧ s.told t c stSuccess (if x.seqEnd ≤ r + 1 then 4 else 3) 1 ∧
      (t.stream? k).map (·.pos) = some ⟨r + 1, 0⟩ ∧
      (c.ring ≠ goneRing → Out.dma c.fn (entList c.entry) (listEntry 0 none false true false cls) ∈ t.out) := by
  obtain ⟨t, hexec, htold, hpos, hout, -⟩ := readRecords_ends (ps := ps) h hk hx hflag hcount hplace hr
    (deliver_of_peg hr hlook hfail hpeg) rfl
  refine ⟨t, hexec, htold, hpos, fun hg => hout.subset ?_⟩
  simp [State.sendRead, State.scatter_nil, State.dmaFor_of_standing hg, State.emit]

/-- A record that failed gives the read its status, and nothing is delivered. -/
theorem readRecords_failed {s : State} {id k r : Nat} (ps : List BufPiece) {c : Cmd} {x : Stream} {d : Decoded}
    {e : Nat × Nat} (h : s.holds id 0x11 c) (hk : c.stream = some k) (hx : s.stream? k = some x)
    (hflag : bitOf (entFlags c.entry) 0 = false) (hcount : entCountM1 c.entry = 0) (hplace : x.readPlace c = ⟨r, 0⟩)
    (hr : r < x.seqEnd) (hlook : s.look k x r = some d) (hfail : d.fail = some e) :
    ∃ t, exec (.readRecords id ps) s = .next t ∧ s.told t c e.1 e.2 0 ∧ (t.stream? k).map (·.pos) = some ⟨r, 0⟩ ∧
      (c.ring < windowRing → t.out = s.out) := by
  obtain ⟨t, hexec, htold, hpos, -, hout⟩ := readRecords_ends (ps := ps) h hk hx hflag hcount hplace hr
    (deliver_of_failed hr hlook hfail) rfl
  exact ⟨t, hexec, htold, hpos, fun hring => (hout hring).trans (by simp [State.sendRead, State.scatter_nil])⟩

/-! ### DISCARD_REMAINDER and LOCATE (R124, R126) -/

theorem State.discardRest_of_partial {s : State} {c : Cmd} {k : Nat} {x : Stream} {d : Decoded}
    (hp : x.partialRead = true) (hlook : s.look k x x.pos.record = some d) (hfail : d.fail = none) :
    s.discardRest c k x = ((s.movePos k ⟨x.pos.record + 1, 0⟩).endTape c.id).finishCmd c stSuccess 0
      (d.data.length - x.pos.off) := by
  simp only [State.discardRest, hp, hlook, hfail]
  rfl

theorem State.locate_of_known {s : State} {c : Cmd} {k : Nat} {x : Stream} (hend : c.first ≤ x.endNum)
    (hknown : (s.look k x c.first).isSome = true ∨ c.first = x.endNum) :
    s.locate c k x = ((s.movePos k ⟨c.first, 0⟩).endTape c.id).finishCmd c stSuccess 0 0 := by
  unfold State.locate
  extract_lets r done
  rw [if_neg (Nat.not_lt.mpr hend), if_pos]
  rcases hknown with hknown | hknown
  · exact .inr (.inl hknown)
  · exact .inl hknown.symm

/-! ### SPACE (R127) -/

/-- Where SPACE tells its position, if its entry asks for that. -/
def State.tellPlace (s : State) (c : Cmd) (r : Nat) : State :=
  if entData c.entry = 0 then s else s.dmaFor c (entData c.entry) (bytesLE 8 r)

theorem State.tellPlace_frame {s : State} {c : Cmd} {r : Nat} : Frame [.out] s (s.tellPlace c r) :=
  Frame.ite Frame.refl State.dmaFor_frame

theorem State.space_of_zero {s : State} {c : Cmd} {k : Nat} {x : Stream} (h : entRecord c.entry = 0) :
    s.space c k x = (s.tellPlace c x.pos.record).finishCmd c stSuccess 0 0 := if_pos h

theorem State.space_of_stop {s : State} {c : Cmd} {k r m d : Nat} {x : Stream} (h : entRecord c.entry ≠ 0)
    (hwalk : s.spaceWalk c k x = .stop r m d) :
    s.space c k x = (((s.movePos k ⟨r, 0⟩).tellPlace c r).endTape c.id).finishCmd c stSuccess d m := by
  simp only [State.space, if_neg h, hwalk]
  rfl

theorem execSpace_of_holds {s : State} {id k : Nat} {c : Cmd} {x : Stream} (h : s.holds id 0x15 c)
    (hk : c.stream = some k) (hx : s.stream? k = some x) : exec (.space id) s = .next (s.space c k x) :=
  congrArg Host.Outcome.next (State.onStream_of_holds h hk hx State.space)

/-- A move that stops ends the command where it stops, and tells that place where the entry asks for it. -/
theorem space_stops {s : State} {id k r m d : Nat} {c : Cmd} {x : Stream} (h : s.holds id 0x15 c)
    (hk : c.stream = some k) (hx : s.stream? k = some x) (h0 : entRecord c.entry ≠ 0)
    (hwalk : s.spaceWalk c k x = .stop r m d) :
    ∃ t, exec (.space id) s = .next t ∧ s.told t c stSuccess d m ∧ (t.stream? k).map (·.pos) = some ⟨r, 0⟩ ∧
      (entData c.entry ≠ 0 → c.ring ≠ goneRing → Out.dma c.fn (entData c.entry) (bytesLE 8 r) ∈ t.out) := by
  have hmoved := State.stream?_movePos ⟨r, 0⟩ hx
  let u := (s.movePos k ⟨r, 0⟩).tellPlace c r
  have htell : Frame [.out] (s.movePos k ⟨r, 0⟩) u := State.tellPlace_frame
  have hv : Frame [.pe, .out] s (u.endTape c.id) :=
    ((State.movePos_frame.mono rfl).step htell rfl).step State.endTape_frame rfl
  have hstream (j : Nat) : (u.endTape c.id).stream? j = (s.movePos k ⟨r, 0⟩).stream? j :=
    congrFun (State.stream?_congr (congrArg PeState.streams (htell .pe rfl))) j
  have hend := State.endsOn_finishCmd stSuccess d m h rfl hk hv ((hstream k).trans hmoved.1) fun j hj =>
    (hstream j).trans (hmoved.2 j hj)
  refine ⟨_, (execSpace_of_holds h hk hx).trans (congrArg Host.Outcome.next (State.space_of_stop h0 hwalk)), hend.told,
    hend.map, fun hdata hg => ?_⟩
  obtain ⟨-, -, -, hsettled⟩ := h
  have hn : (u.endTape c.id).hi.ownerNext = none := by rw [hv .hi rfl, hsettled]
  refine (State.Posts.finishCmd hn).out.subset ?_
  show _ ∈ u.out
  simp [u, State.tellPlace, hdata, State.dmaFor_of_standing hg, State.emit]

/-- A move over records ends within the stream's bounds. -/
theorem State.spaceWalk_records {s : State} {c : Cmd} {k : Nat} {x : Stream} (h : bitOf (entFlags c.entry) 1 = false) :
    s.spaceWalk c k x =
      if 0 < signed 64 (entRecord c.entry) then
        if x.endNum < x.pos.record + (signed 64 (entRecord c.entry)).toNat then
          .stop x.endNum (x.endNum - x.pos.record) 4
        else .stop (x.pos.record + (signed 64 (entRecord c.entry)).toNat) (signed 64 (entRecord c.entry)).toNat 0
      else if x.pos.record < (-signed 64 (entRecord c.entry)).toNat then .stop 0 x.pos.record 5
      else .stop (x.pos.record - (-signed 64 (entRecord c.entry)).toNat) (-signed 64 (entRecord c.entry)).toNat 0 := by
  simp only [State.spaceWalk, h]
  rfl

/-- Settles O46: a read by what it finds at its place, then the three commands that move the read position. -/
theorem recordsAreReadAndPositionsMove : Obligations.RecordsAreReadAndPositionsMove := by
  refine ⟨fun s id k r ps c x h hk hx hflag hcount hplace => ⟨fun hr => ?_, fun hr => ?_, fun d hr hlook =>
      ⟨readRecords_whole ps h hk hx hflag hcount hplace hr hlook,
        fun cls => readRecords_peg ps h hk hx hflag hcount hplace hr hlook,
        fun e => readRecords_failed ps h hk hx hflag hcount hplace hr hlook⟩,
      fun ds => readRecords_waits ps h hk hx hflag hcount hplace⟩,
    fun s id k c x h hk hx => ⟨fun hp => ?_, fun d hp hlook hfail => ?_⟩,
    fun s id k c x h hk hx => ⟨fun hr => ?_, fun hr hknown => ?_⟩,
    fun s id k c x h hk hx => ⟨fun h0 => ?_, fun r m d h0 => space_stops h hk hx h0, fun hflag => ?_⟩⟩
  · refine readRecords_refused ps h hk hx ?_
    simp [State.readRecords, Cmd.buffer_of_entry ps hflag, hplace, hr]
  · refine readRecords_refused ps h hk hx ?_
    simp [State.readRecords, Cmd.buffer_of_entry ps hflag, hplace, hr]
  · have hexec := (State.onStream_of_holds h hk hx State.discardRest).trans (if_pos (by simp [hp]))
    have hend := State.endsOn_finishCmd stSuccess 0 0 h rfl hk Frame.refl hx fun _ _ => rfl
    exact ⟨_, congrArg Host.Outcome.next hexec, hend.told, hend.map⟩
  · have hexec := (State.onStream_of_holds h hk hx State.discardRest).trans
      (State.discardRest_of_partial hp hlook hfail)
    have hend := State.endsOn_movePos ⟨x.pos.record + 1, 0⟩ stSuccess 0 (d.data.length - x.pos.off) h rfl hk hx
      Frame.refl
    exact ⟨_, congrArg Host.Outcome.next hexec, hend.told, hend.map, hend.map⟩
  · have hexec := (State.onStream_of_holds h hk hx State.locate).trans (if_pos hr)
    have hend := State.endsOn_finishCmd stNotFound 2 0 h rfl hk Frame.refl hx fun _ _ => rfl
    exact ⟨_, congrArg Host.Outcome.next hexec, hend.told, hend.map⟩
  · have hexec := (State.onStream_of_holds h hk hx State.locate).trans (State.locate_of_known hr hknown)
    have hend := State.endsOn_movePos ⟨c.first, 0⟩ stSuccess 0 0 h rfl hk hx Frame.refl
    exact ⟨_, congrArg Host.Outcome.next hexec, hend.told, hend.map, hend.map⟩
  · have htell : Frame [.out] s (s.tellPlace c x.pos.record) := State.tellPlace_frame
    have hstream : (s.tellPlace c x.pos.record).stream? = s.stream? :=
      State.stream?_congr (congrArg PeState.streams (htell .pe rfl))
    have hend := State.endsOn_finishCmd stSuccess 0 0 h rfl hk (htell.mono rfl) (hstream ▸ hx)
      fun j _ => by rw [hstream]
    exact ⟨_, (execSpace_of_holds h hk hx).trans (congrArg Host.Outcome.next (State.space_of_zero h0)), hend.told,
      hend.map⟩
  · rw [State.spaceWalk_records hflag]
    refine ⟨fun hn hle => ?_, fun hn hlt => ?_, fun hn hle => ?_, fun hn hlt => ?_⟩
    · rw [if_pos hn, if_neg hle.not_gt]
    · rw [if_pos hn, if_pos hlt]
    · rw [if_neg hn.not_gt, if_neg hle.not_gt]
    · rw [if_neg hn.not_gt, if_pos hlt]

end Sys2Proof.Machine
end

section
/-! The commands that report: QUERY_STREAM, GET_FIELD_BOOK_EXTENT, GET_LOG and KEY_QUERY (R137 to R140, R241, R285,
R496). -/

namespace Sys2Proof.Machine

-- One theorem at a time: run ahead of the kernel, each would hold a thread and its stack.
set_option Elab.async false

/-! ### Lengths of what is reported -/

@[simp] theorem bytesBE_length (n v : Nat) : (bytesBE n v).length = n := by simp [bytesBE]

@[simp] theorem zeros_length (n : Nat) : (zeros n).length = n := List.length_replicate ..

@[simp] theorem State.queryBytes_length (s : State) (k : Nat) (x : Stream) : (s.queryBytes k x).length = 64 := by
  simp [State.queryBytes]

@[simp] theorem Parcel.bookRecord_length (p : Parcel) : p.bookRecord.length = 40 := by simp [Parcel.bookRecord]

@[simp] theorem State.slotStatus_length (s : State) (c : Cmd) : (s.slotStatus c).length = 32 := by
  simp [State.slotStatus]

/-- GET_LOG never writes more than the entry's length (R138). -/
theorem State.logBytes_length_le (s : State) (c : Cmd) : (s.logBytes c).length ≤ entLen c.entry := by
  unfold State.logBytes
  extract_lets off len
  split
  · exact List.length_take_le ..
  all_goals exact List.length_take_le ..

/-! ### A report goes to the buffer, and its command ends -/

/-- A command that is not of the write class ends, after work that has sent things and nothing else. -/
theorem State.told_of_sent {s u : State} {id op : Nat} {c : Cmd} (st d r : Nat) (h : s.holds id op c)
    (hw : isWriteClass op = false) (hu : Frame [.out] s u) :
    s.told (u.finishCmd c st d r) c st d r ∧ u.out <+: (u.finishCmd c st d r).out ∧
      Frame [.regs, .hi, .qe, .pe, .bm, .out] s (u.finishCmd c st d r) := by
  obtain ⟨-, -, rfl, hn⟩ := h
  have hnu : u.hi.ownerNext = none := by rw [hu .hi rfl, hn]
  refine ⟨State.told_finishCmd hnu ?_ hw, (State.Posts.finishCmd hnu).out, ?_⟩
  · rw [State.reg_congr (hu .regs rfl) (hu .board rfl)]
  · exact (hu.mono rfl).trans (State.finishCmd_frame_of_settled hnu hw)

/-- Bytes written to the data buffer that a command's entry names (R108). -/
def State.toBuffer (s : State) (c : Cmd) (data : Bytes) : State := s.scatter c data [⟨entData c.entry, entLen c.entry⟩]

theorem State.toBuffer_frame {s : State} {c : Cmd} {data : Bytes} : Frame [.out] s (s.toBuffer c data) :=
  State.scatter_frame

/-- Bytes written to the buffer that the entry names are sent where the command's function stands and they fit. -/
theorem State.mem_out_toBuffer {s : State} {c : Cmd} {data : Bytes} (hg : c.ring ≠ goneRing) (h0 : data ≠ [])
    (hlen : data.length ≤ entLen c.entry) :
    Out.dma c.fn (entData c.entry) data ∈ (s.toBuffer c data).out := by
  rw [State.toBuffer, State.scatter_of_fits hg h0 hlen]
  exact List.mem_append_right _ (List.mem_singleton_self _)

theorem State.withBuffer_of_entry {s : State} {c : Cmd} (ps : List BufPiece) (h : bitOf (entFlags c.entry) 0 = false)
    (run : State → List BufPiece → State) :
    s.withBuffer c ps run = run s [⟨entData c.entry, entLen c.entry⟩] := by
  rw [State.withBuffer, Cmd.buffer_of_entry ps h]

/-! ### QUERY_STREAM and GET_FIELD_BOOK_EXTENT (R137, R139, R285) -/

theorem State.query_of_entry {s : State} {c : Cmd} {k : Nat} {x : Stream} (ps : List BufPiece)
    (h : bitOf (entFlags c.entry) 0 = false) :
    s.query c k x ps = ((s.toBuffer c (s.queryBytes k x)).tellCredit k).finishReporting
      c k (satCredit ((s.toBuffer c (s.queryBytes k x)).creditOf k)) := by
  rw [State.query, Cmd.buffer_of_entry ps h]
  rfl

/-- Writing to a buffer adds to what is sent, and does nothing else. -/
theorem State.scatter_eq (s : State) (c : Cmd) (data : Bytes) (ps : List BufPiece) :
    ∃ o, s.scatter c data ps = { s with out := o } := by
  induction ps generalizing s data with
  | nil => exact ⟨_, rfl⟩
  | cons p ps ih =>
    unfold State.scatter
    split
    · exact ⟨_, rfl⟩
    · obtain ⟨o, ho⟩ := ih (s.dmaFor c p.addr (data.take p.len)) (data.drop p.len)
      refine ⟨o, ho.trans ?_⟩
      unfold State.dmaFor
      split <;> rfl

theorem State.creditOf_toBuffer (s : State) (c : Cmd) (data : Bytes) (k : Nat) :
    (s.toBuffer c data).creditOf k = s.creditOf k := by
  obtain ⟨o, ho⟩ := s.scatter_eq c data _
  rw [State.toBuffer, ho]
  rfl

/-- QUERY_STREAM of a stream with no deferred error pending. -/
theorem queryStream_reports {s : State} {id k : Nat} {c : Cmd} {x : Stream} (ps : List BufPiece) (h : s.holds id 0x20 c)
    (hflag : bitOf (entFlags c.entry) 0 = false) (hk : c.stream = some k) (hx : s.stream? k = some x)
    (herr : x.pendingDetail = none) (hlen : 64 ≤ entLen c.entry) :
    ∃ t, exec (.queryStream id ps) s = .next t ∧ s.told t c stSuccess 0 (satCredit (s.creditOf k)) ∧
      (c.ring ≠ goneRing → Out.dma c.fn (entData c.entry) (s.queryBytes k x) ∈ t.out) ∧
      (t.stream? k).map (·.pos) = some x.pos ∧ Frame [.regs, .hi, .qe, .pe, .bm, .out] s t := by
  let u := s.toBuffer c (s.queryBytes k x)
  have hu : Frame [.out] s u := State.toBuffer_frame
  have hstream (j : Nat) : u.stream? j = s.stream? j :=
    congrFun (State.stream?_congr (congrArg PeState.streams (hu .pe rfl))) j
  obtain ⟨⟨z, hz⟩, hothers⟩ := State.stream?_tellCredit ((hstream k).trans hx)
  have hframe : Frame [.pe, .out] s (u.tellCredit k) := (hu.mono rfl).step State.tellCredit_frame rfl
  have hfinish : (u.tellCredit k).finishReporting c k (satCredit (s.creditOf k)) =
      (u.tellCredit k).finishCmd c stSuccess 0 (satCredit (s.creditOf k)) := by
    have hnone : ({ x with zeroTold := z } : Stream).pendingDetail = none := herr
    simp only [State.finishReporting, hz, Option.bind_some, hnone]
  have hexec := (State.onStream_of_holds h hk hx fun s c k x => s.query c k x ps).trans (State.query_of_entry ps hflag)
  rw [State.creditOf_toBuffer, hfinish] at hexec
  have hend := State.endsOn_finishCmd stSuccess 0 (satCredit (s.creditOf k)) h rfl hk hframe hz
    fun j hj => (hothers j hj).trans (hstream j)
  refine ⟨_, congrArg Host.Outcome.next hexec, hend.told, fun hg => ?_, hend.map, hend.frame⟩
  obtain ⟨-, -, -, hn⟩ := h
  have hlength := s.queryBytes_length k x
  refine (State.Posts.finishCmd (by rw [hframe .hi rfl, hn])).out.subset ?_
  rw [State.tellCredit_frame .out rfl]
  exact State.mem_out_toBuffer hg (List.ne_nil_of_length_pos (by omega)) (by omega)

/-- GET_FIELD_BOOK_EXTENT writes as many field-book records as fit (R139). -/
theorem getFieldBookExtent_reports {s : State} {id k : Nat} {c : Cmd} {x : Stream} (ps : List BufPiece)
    (h : s.holds id 0x22 c) (hflag : bitOf (entFlags c.entry) 0 = false) (hk : c.stream = some k)
    (hx : s.stream? k = some x) :
    let l := s.extentList k c.first
    let n := min (entCountM1 c.entry + 1) (entLen c.entry / 40)
    ∃ t, exec (.getFieldBookExtent id ps) s = .next t ∧
      s.told t c stSuccess (if l.length ≤ n then 4 else 0) (min n l.length) ∧
      (c.ring ≠ goneRing → l ≠ [] → 0 < n →
        Out.dma c.fn (entData c.entry) ((l.take n).map Parcel.bookRecord).flatten ∈ t.out) ∧
      Frame [.regs, .hi, .qe, .pe, .bm, .out] s t := by
  intro l n
  let data := ((l.take n).map Parcel.bookRecord).flatten
  have hlength : data.length = 40 * min n l.length := by
    simp [data, List.length_flatten, Function.comp_def, Nat.mul_comm]
  have hexec : s.onStream id 0x22 (fun s c k _ => s.extentQuery c k ps) =
      (s.toBuffer c data).finishCmd c stSuccess (if l.length ≤ n then 4 else 0)
        (min n l.length) := by
    rw [State.onStream_of_holds h hk hx, State.extentQuery, Cmd.buffer_of_entry ps hflag, ← List.length_take]
    rfl
  obtain ⟨htold, hout, hframe⟩ := State.told_of_sent (u := s.toBuffer c data) stSuccess
    (if l.length ≤ n then 4 else 0) (min n l.length) h rfl State.toBuffer_frame
  refine ⟨_, congrArg Host.Outcome.next hexec, htold, fun hg hl hn => hout.subset ?_, hframe⟩
  have hsome : 0 < min n l.length := lt_min hn (List.length_pos_iff.mpr hl)
  have hfit : n ≤ entLen c.entry / 40 := min_le_right ..
  exact State.mem_out_toBuffer hg (List.ne_nil_of_length_pos (by omega)) (by omega)

/-! ### GET_LOG and KEY_QUERY (R138, R140, R241, R496) -/

/-- A report of at most the entry's length, from a command that works on no stream. -/
theorem State.reports_of_onCommand {s : State} {id op : Nat} {c : Cmd} {data : Bytes} (r : Nat) (h : s.holds id op c)
    (hw : isWriteClass op = false) (hlen : data.length ≤ entLen c.entry) :
    let t := (s.toBuffer c data).finishCmd c stSuccess 0 r
    s.told t c stSuccess 0 r ∧
      (c.ring ≠ goneRing → data ≠ [] → Out.dma c.fn (entData c.entry) data ∈ t.out) ∧
      Frame [.regs, .hi, .qe, .pe, .bm, .out] s t := by
  obtain ⟨htold, hout, hframe⟩ := State.told_of_sent (u := s.toBuffer c data) stSuccess
    0 r h hw State.toBuffer_frame
  exact ⟨htold, fun hg h0 => hout.subset (State.mem_out_toBuffer hg h0 hlen), hframe⟩

/-- GET_LOG draws a free value for page 2 alone (R429). -/
def State.drawForLog (s : State) (c : Cmd) : State := if entAux c.entry = 2 then s.draw else s

theorem State.drawForLog_frame {s : State} {c : Cmd} : Frame [.fresh] s (s.drawForLog c) :=
  Frame.ite State.draw_frame Frame.refl

theorem getLog_reports {s : State} {id : Nat} {c : Cmd} (ps : List BufPiece) (h : s.holds id 0x21 c)
    (hflag : bitOf (entFlags c.entry) 0 = false) :
    ∃ t, exec (.getLog id ps) s = .next t ∧ s.told t c stSuccess 0 (s.logBytes c).length ∧
      (s.logBytes c).length ≤ entLen c.entry ∧
      (c.ring ≠ goneRing → s.logBytes c ≠ [] → Out.dma c.fn (entData c.entry) (s.logBytes c) ∈ t.out) ∧
      (c.ring < windowRing → t.regs = s.regs) ∧ Frame [.regs, .hi, .qe, .pe, .bm, .out, .fresh] s t := by
  let u := s.drawForLog c
  have hu : Frame [.fresh] s u := State.drawForLog_frame
  have hhold : u.holds id 0x21 c := by
    obtain ⟨hc, hp, hop, hn⟩ := h
    refine ⟨?_, hp, hop, by rw [hu .hi rfl, hn]⟩
    rwa [State.cmd?_congr (congrArg QeState.cmds (hu .qe rfl))]
  obtain ⟨htold, hsent, hframe⟩ := State.reports_of_onCommand (s.logBytes c).length hhold rfl (s.logBytes_length_le c)
  have hexec : exec (.getLog id ps) s =
      .next ((u.toBuffer c (s.logBytes c)).finishCmd c stSuccess 0 (s.logBytes c).length) :=
    congrArg Host.Outcome.next ((State.onCommand_of_holds h _).trans (State.withBuffer_of_entry ps hflag _))
  have hcq : u.boundCq = s.boundCq := State.boundCq_congr (by rw [State.reg_congr (hu .regs rfl) (hu .board rfl)])
  refine ⟨_, hexec, ?_, s.logBytes_length_le c, hsent, fun hring => ?_, (hu.mono rfl).trans (hframe.mono rfl)⟩
  · rwa [State.told, hcq] at htold
  · have hscatter : Frame [.out] u (u.toBuffer c (s.logBytes c)) := State.toBuffer_frame
    obtain ⟨-, -, hop, hn⟩ := hhold
    rw [State.finishCmd_frame_of_host _ _ _ (by rw [hscatter .hi rfl, hn]) (by rw [hop]; rfl) hring .regs rfl,
      hscatter .regs rfl, hu .regs rfl]

theorem keyQuery_reports {s : State} {id : Nat} {c : Cmd} (ps : List BufPiece) (h : s.holds id 0x32 c)
    (hflag : bitOf (entFlags c.entry) 0 = false) (hform : bitOf (entFlags c.entry) 1 = false)
    (hlen : 32 ≤ entLen c.entry) :
    ∃ t, exec (.keyQuery id ps) s = .next t ∧ s.told t c stSuccess 0 (s.slot (s.slotOf c)).shown ∧
      (c.ring ≠ goneRing → Out.dma c.fn (entData c.entry) (s.slotStatus c) ∈ t.out) ∧
      Frame [.regs, .hi, .qe, .pe, .bm, .out] s t := by
  have hlength := s.slotStatus_length c
  obtain ⟨htold, hsent, hframe⟩ := State.reports_of_onCommand (data := s.slotStatus c) (s.slot (s.slotOf c)).shown h rfl
    (by omega)
  have hexec : exec (.keyQuery id ps) s =
      .next ((s.toBuffer c (s.slotStatus c)).finishCmd c stSuccess 0 (s.slot (s.slotOf c)).shown) := by
    refine congrArg Host.Outcome.next ((State.onCommand_of_holds h _).trans ?_)
    rw [hform, if_neg Bool.false_ne_true, State.withBuffer_of_entry ps hflag, State.keyQuery, hform,
      if_neg Bool.false_ne_true]
    rfl
  exact ⟨_, hexec, htold, fun hg => hsent hg (List.ne_nil_of_length_pos (by omega)), hframe⟩

/-- The certificate as KEY_QUERY gives it (R236). -/
def shownCertificate : Bytes := Config.certificate.take 2048

theorem keyQueryIdentity_reports {s : State} {id : Nat} {c : Cmd} (ps : List BufPiece) (h : s.holds id 0x32 c)
    (hflag : bitOf (entFlags c.entry) 0 = false) (hform : bitOf (entFlags c.entry) 1 = true) :
    ∃ t, exec (.keyQueryIdentity id ps) s = .next t ∧ s.told t c stSuccess 0 shownCertificate.length ∧
      Frame [.regs, .hi, .qe, .pe, .bm, .out] s t := by
  obtain ⟨htold, -, hframe⟩ := State.reports_of_onCommand (data := shownCertificate.take (entLen c.entry))
    shownCertificate.length h rfl (List.length_take_le ..)
  have hexec : exec (.keyQueryIdentity id ps) s = .next
      ((s.toBuffer c (shownCertificate.take (entLen c.entry))).finishCmd c stSuccess 0 shownCertificate.length) := by
    refine congrArg Host.Outcome.next ((State.onCommand_of_holds h _).trans ?_)
    rw [if_pos hform, State.withBuffer_of_entry ps hflag, State.keyQuery, if_pos hform]
    rfl
  exact ⟨_, hexec, htold, hframe⟩

/-- Settles O47: the two queries of a stream, the log pages, and the two forms of KEY_QUERY. -/
theorem queriesAnswer : Obligations.QueriesAnswer :=
  fun _ _ ps _ hflag =>
    ⟨fun _ _ h hk hx herr hlen => queryStream_reports ps h hflag hk hx herr hlen,
      fun _ _ h hk hx => getFieldBookExtent_reports ps h hflag hk hx, fun h => getLog_reports ps h hflag,
      fun h hform hlen => keyQuery_reports ps h hflag hform hlen,
      fun h hform => keyQueryIdentity_reports ps h hflag hform⟩

end Sys2Proof.Machine
end

section
/-! CIPHER_AEAD under a key of no bytes: the seal has no ciphertext to write (R142, R248). -/

namespace Sys2Proof.Machine

-- One theorem at a time: run ahead of the kernel, each would hold a thread and its stack.
set_option Elab.async false

/-! ### A state that the statement covers; no slot that KEY_INSTALL fills holds a key of no bytes (R239) -/

/-- A CIPHER_AEAD of function 0 on ring 3, handed over: slot 3, 20 bytes to seal, the ciphertext to go to 0x1000. -/
def emptyKeySeal : Cmd :=
  { id := 5, fn := 0, ring := 3, entry := BitVec.ofNat 512 (0x39 + 3 * 2 ^ 32 + 20 * 2 ^ 192 + 0x1000 * 2 ^ 256)
    stamp := 0, phase := .ready, lock := none, stream := none, first := 0, count := 0, truncates := false, held := 0
    overdraft := 0, recs := [], order := 0 }

/-- An AEAD slot with invocations left and a key of no bytes. -/
def emptyKeySlot : KeySlot := { keySlot0 with state := 2, limit := 9 }

def emptyKeyState : State :=
  { State.reset.setSlot 3 emptyKeySlot with qe := { qe0 with cmds := [emptyKeySeal] } }

/-- What is sent to an address of host memory. -/
def Out.toAddress (addr : Nat) : Out → Bool
  | .dma _ a _ => a == addr
  | _ => false

/-- The seal runs to its end and writes nothing at 0x1000: every round key is empty, and with it every block of
ciphertext. -/
theorem emptyKeyState_sends_nothing :
    ((emptyKeyState.cipherAead emptyKeySeal [] [] []).out.any (Out.toAddress 0x1000)) = false := by decide +kernel

theorem emptyKeyState_meets :
    emptyKeyState.holds 5 0x39 emptyKeySeal ∧ emptyKeySeal.buffer [] = some [⟨0, 20⟩] ∧
      emptyKeyState.cipherWaits = false ∧ entLen emptyKeySeal.entry = 20 ∧ entryField emptyKeySeal.entry 48 4 = 0 ∧
      emptyKeyState.slot (emptyKeyState.slotOf emptyKeySeal) = emptyKeySlot ∧ emptyKeyState.cipherFault = none ∧
      bitOf (entFlags emptyKeySeal.entry) 1 = false ∧ entList emptyKeySeal.entry = 0x1000 := by decide +kernel

theorem exec_emptyKeySeal :
    exec (.cipherAead 5 [] [] [] []) emptyKeyState = .next (emptyKeyState.cipherAead emptyKeySeal [] [] []) := by
  obtain ⟨hhold, hbuf, hwait, -⟩ := emptyKeyState_meets
  refine congrArg Host.Outcome.next ((State.onCommand_of_holds hhold _).trans ((if_neg (by simp [hwait])).trans ?_))
  rw [State.withBuffer, hbuf]

/-- Refutes O49: with a key of no bytes in the slot, GCM's ciphertext of 20 bytes is empty, and CIPHER_AEAD leaves out
the write to the output buffer that the statement asks for wherever there is data. -/
theorem not_ciphersSealAndOpen : ¬ Obligations.CiphersSealAndOpen := by
  rintro ⟨-, hseal⟩
  obtain ⟨hhold, hbuf, hwait, hlen, haad, hslot, hfault, hform, hlist⟩ := emptyKeyState_meets
  obtain ⟨-, -, hkey⟩ := hseal emptyKeyState 5 [] _ [] [] [] emptyKeySeal hhold hbuf hwait (by rw [hlen]; decide)
    (by rw [haad]; decide)
  rw [hslot, hlen, hlist] at hkey
  obtain ⟨-, hruns, -⟩ := hkey (by decide) rfl hfault
  obtain ⟨t, iv, hexec, -, -, -, -, -, -, hout⟩ := hruns hform (by decide)
  obtain ⟨-, -, hdata⟩ := hout (by decide)
  have hsent := hdata (List.ne_nil_of_length_pos (by decide))
  obtain rfl : emptyKeyState.cipherAead emptyKeySeal [] [] [] = t := by
    rw [exec_emptyKeySeal] at hexec
    exact Host.Outcome.next.inj hexec
  exact absurd (List.any_eq_true.mpr ⟨_, hsent, rfl⟩) (by rw [emptyKeyState_sends_nothing]; decide)

end Sys2Proof.Machine
end

section
/-! Power states, links and failed reads of host memory (R148, R437 to R441). -/

namespace Sys2Proof.Machine

-- One theorem at a time: run ahead of the kernel, each would hold a thread and its stack.
set_option Elab.async false

/-! ### Steps down (R435, R439) -/

theorem State.enterState_ms (s : State) (n : Nat) :
    (s.enterState n).ms = { s.ms with power := n, since := s.ms.time } := by
  have hms : s.countResidency.ms = s.ms := State.countResidency_frame .ms rfl
  unfold State.enterState
  extract_lets u m v
  have hv : v.ms = { s.ms with power := n, since := s.ms.time } := by
    change { s.countResidency.ms with power := n, since := s.countResidency.ms.time } = _
    rw [hms]
  split
  · exact hv
  · exact hv

theorem State.enterState_sm (s : State) (n : Nat) : (s.enterState n).sm =
    if n = 3 then { s.sm with state := 0, brake := true, reels := 0, engines := [], inject := none } else s.sm := by
  have hsm : s.countResidency.sm = s.sm := State.countResidency_frame .sm rfl
  unfold State.enterState
  extract_lets u m v
  have hv : v.sm = s.sm := hsm
  split
  · change ({ v.sm with state := 0, brake := true, reels := 0, engines := [], inject := none } : SmState) = _
    rw [hv]
  · exact hv

/-- No state is asked for once one has been entered. -/
theorem State.enterState_asked (s : State) (n : Nat) : (s.enterState n).fld .msPwrReq 0 0 1 0 = 0 := by
  unfold State.enterState
  extract_lets u m v
  have hu : u.fld .msPwrReq 0 0 1 0 = 0 := State.fld_setFld_self _ .msPwrReq 0 0 0 (by decide) (by decide)
  split
  · exact hu
  · exact hu

/-- What MS_PWR_REQ holds is no condition of a step down. -/
theorem State.mayEnter_askPwr (s : State) (v n : Nat) : (s.setReg .msPwrReq 0 0 v).mayEnter n = s.mayEnter n := by
  have hpol : (s.setReg .msPwrReq 0 0 v).fld .msPwrPolicy 0 0 1 0 = s.fld .msPwrPolicy 0 0 1 0 :=
    congrArg (bitsOf · 1 0) (State.reg_setReg_ne s v (by simp))
  have hsize (f r : Nat) : (s.setReg .msPwrReq 0 0 v).sqSize f r = s.sqSize f r := by
    unfold State.sqSize State.fld
    rw [State.reg_setReg_ne s v (by simp)]
  have hfetch (f r : Nat) : (s.setReg .msPwrReq 0 0 v).unfetched f r = s.unfetched f r := by
    unfold State.unfetched
    rw [hsize]
    rfl
  unfold State.mayEnter State.hostIdle
  simp only [hpol, hfetch]
  rfl

/-- The step whose turn it is passes the timers that are enabled. -/
theorem State.idleExpire_of_due {s : State} {n : Nat} (hn : s.ms.power + 1 = n) (h1 : s.reg .msIdleT1 0 0 ≠ 0)
    (h2 : 2 ≤ n → s.reg .msIdleT2 0 0 ≠ 0) (h3 : 3 ≤ n → s.reg .msIdleT3 0 0 ≠ 0) (hm : s.mayEnter n = true) :
    s.idleExpire n = s.enterState n := by
  have on2 : n < 2 ∨ s.reg .msIdleT2 0 0 ≠ 0 := (Nat.lt_or_ge n 2).imp id h2
  have on3 : n < 3 ∨ s.reg .msIdleT3 0 0 ≠ 0 := (Nat.lt_or_ge n 3).imp id h3
  refine if_pos ?_
  simp only [Bool.and_eq_true, Bool.or_eq_true, decide_eq_true_eq, bne_iff_ne]
  exact ⟨⟨⟨⟨hn, .inr h1⟩, on2⟩, on3⟩, hm⟩

theorem State.idleExpire_of_not {s : State} {n : Nat} (hm : s.mayEnter n = false) : s.idleExpire n = s :=
  if_neg (by simp [hm])

theorem exec_idleExpiry {n : Nat} {c : Instr} (h : (n, c) ∈ [(1, Instr.idleT1Expiry), (2, .idleT2Expiry), (3, .idleT3Expiry)])
    (s : State) : exec c s = .next (s.idleExpire n) := by
  simp only [List.mem_cons, Prod.mk.injEq, List.not_mem_nil, or_false] at h
  obtain ⟨rfl, rfl⟩ | ⟨rfl, rfl⟩ | ⟨rfl, rfl⟩ := h <;> rfl

/-! ### Requested states (R439) -/

/-- The state that a write of MS_PWR_REQ asks for. -/
theorem State.asked_of_setReg (s : State) (v : Nat) : (s.setReg .msPwrReq 0 0 (v % 4)).fld .msPwrReq 0 0 1 0 = v % 4 := by
  rw [State.fld, State.reg_setReg_self, bitsOf]
  omega

/-- A state asked for without a wake. -/
theorem State.writePwrReq_of_enter (s : State) {v : Nat} (hv : bitOf v 8 = false) :
    s.writePwrReq v = if s.mayEnter (v % 4) = true then (s.setReg .msPwrReq 0 0 (v % 4)).enterState (v % 4)
      else s.setReg .msPwrReq 0 0 (v % 4) := by
  unfold State.writePwrReq
  extract_lets u
  rw [if_neg (by simp [hv])]
  unfold u State.tryEnter
  simp only [State.asked_of_setReg, State.mayEnter_askPwr]

theorem exec_msPwrReqEnter {s : State} {p : Port} {v : Word} (h : s.serves p) (hms : s.sees p .ms = true) :
    exec (.msPwrReqEnter p v) s = .next (s.writePwrReq v.toNat) :=
  congrArg Host.Outcome.next ((State.regWrite_of_serves h ..).trans (if_pos hms))

/-! ### Wake triggers (R440) -/

/-- The registers that count what a power state has lasted (R452). -/
theorem State.countResidency_regsBut (s : State) : State.regsBut [.msResA1, .msResA2, .msResA3] s s.countResidency := by
  unfold State.countResidency
  extract_lets n
  split
  · exact State.regsBut_bumpBy (by simp)
  · exact State.regsBut_bumpBy (by simp)
  · exact State.regsBut_bumpBy (by simp)
  · exact State.regsBut_refl

/-- What a wake trigger does to a part that sleeps. -/
structure State.Woken (cause : Nat) (s t : State) : Prop where
  moving : t.ms.moving = true
  cause : t.ms.cause = cause
  power : t.ms.power = s.ms.power
  counted : t.reg .msWakes 0 0 = min (s.reg .msWakes 0 0 + 1) 0xFFFFFFFF
  asked : t.fld .msPwrReq 0 0 1 0 = 0
  frame : Frame [.regs, .ms] s t

theorem State.woken_wake {s : State} (h2 : s.ms.phase = 2) (hq : s.ms.quiescent = false) (hm : s.ms.moving = false)
    (hp : s.ms.power ≠ 0) (cause : Nat) : s.Woken cause (s.wake cause) := by
  have hwakes : (s.countResidency.bump .msWakes 0 0).reg .msWakes 0 0 = min (s.reg .msWakes 0 0 + 1) 0xFFFFFFFF := by
    rw [State.bump, State.reg_bumpBy_self, s.countResidency_regsBut _ _ _ (by decide)]
  have hms : s.countResidency.ms = s.ms := State.countResidency_frame .ms rfl
  have hframe : Frame [.regs, .ms] s (s.wake cause) := State.wake_frame
  have hrun : s.wake cause = { (s.countResidency.bump .msWakes 0 0).setFld .msPwrReq 0 0 1 0 0 with
      ms := { s.countResidency.ms with moving := true, cause := cause } } := if_neg (by simp [h2, hq, hm, hp])
  rw [hrun] at hframe ⊢
  exact ⟨rfl, rfl, (congrArg MsState.power hms :),
    (State.reg_setFld_ne _ _ _ _ (by simp)).trans hwakes,
    (s.countResidency.bump .msWakes 0 0).fld_setFld_self .msPwrReq 0 0 0 (by decide) (by decide), hframe⟩

/-- A part is woken whatever MS_PWR_REQ held before. -/
theorem State.Woken.askPwr {s t : State} {cause v : Nat} (h : (s.setReg .msPwrReq 0 0 v).Woken cause t) : s.Woken cause t :=
  ⟨h.moving, h.cause, h.power, h.counted.trans (by rw [State.reg_setReg_ne s v (by simp)]), h.asked,
    (State.setReg_frame.mono rfl).trans h.frame⟩

/-- A write through the sideband to MS runs in every power state: MS is never powered off. -/
theorem exec_msPwrReqWake {s : State} {v : Word} (h2 : s.ms.phase = 2) (hq : s.ms.quiescent = false) :
    exec (.msPwrReqWake .sideband v) s = .next (s.writePwrReq v.toNat) := by
  have hopen : s.portOpen .sideband = true := by simp [State.portOpen, h2, hq]
  have hon : 1 ∉ offIslands s.ms.power := by
    unfold offIslands
    split
    · decide
    · split <;> decide
  have hstays : s.writeWakes (.reg .sideband RegName.msPwrReq.info.blk 0 RegName.msPwrReq.info.off 4 v.toNat) = false := by
    simpa [State.writeWakes, RegName.info, islandOf] using hon
  refine congrArg Host.Outcome.next ?_
  unfold State.regWrite State.hostWrite
  rw [if_neg (by simp [heldPort, hopen]), if_pos (by rw [hstays]; rfl)]
  rfl

/-- A write that asks for no state and wakes. -/
theorem State.writePwrReq_of_wake (s : State) {v : Nat} (h0 : v % 4 = 0) (hv : bitOf v 8 = true) :
    s.writePwrReq v = (s.setReg .msPwrReq 0 0 0).wake 5 := by
  have hasked : (s.setReg .msPwrReq 0 0 0).fld .msPwrReq 0 0 1 0 = 0 := by
    rw [State.fld, State.reg_setReg_self]
    decide
  have hnone : (s.setReg .msPwrReq 0 0 0).mayEnter 0 = false := by simp [State.mayEnter]
  unfold State.writePwrReq State.tryEnter
  rw [h0]
  simp only [hasked, hnone, hv, Bool.false_eq_true, if_false, if_true]

/-! ### The exit from A3 (R441) -/

/-- An exit during which no write was held. -/
theorem State.wakeUp_of_noWrite {s : State} (h : s.ms.wakeBuf = []) :
    s.wakeUp = { s.sleepDefaults.awake with ms := { s.sleepDefaults.awake.ms with wakeBuf := [] } } := by
  unfold State.wakeUp
  rw [h]
  rfl

theorem State.sleepDefaults_regsBut (s : State) : State.regsBut [.rcChAfe, .rcChLoops, .rcTap] s s.sleepDefaults := by
  intro r i k hr
  refine (s.draw.reg_clearRegs (fun r _ => r == .rcChAfe || r == .rcChLoops || r == .rcTap) r i k).trans (if_neg ?_)
  simpa [and_assoc] using hr

/-! ### Links (R57, R438) -/

/-- A function's context with its link in L2 or out of it. -/
def FnCtx.inCold (x : FnCtx) (cold : Bool) : FnCtx := { x with d3cold := cold }

/-- Functions that are put into D3cold, or taken out of it, one after another. -/
theorem State.fctx_foldl_inCold (cold : Bool) (l : List Fn) (s : State) (f : Fn) :
    (l.foldl (fun s f => s.modFctx f (·.inCold cold)) s).fctx f = if f ∈ l then (s.fctx f).inCold cold else s.fctx f := by
  induction l generalizing s with
  | nil => rfl
  | cons a l ih =>
    rw [List.foldl_cons, ih]
    by_cases hfa : f = a
    · subst hfa
      simp [FnCtx.inCold]
    · simp [State.fctx_modFctx_ne s _ hfa, hfa]

/-- A link change, with the functions told of D3cold one by one. -/
theorem State.linkChange_of_live {s : State} {p : Nat} (l : Link) (h2 : s.ms.phase = 2) (hp : p < s.parts)
    (hr : s.hi.perst.contains p = false) (hl : (s.ms.loops.any fun x => decide (x.aux < 16) && x.handle == p) = false) :
    s.linkChange p l = (s.allFns.filter fun f => partOf f == p && (s.fctx f).d3cold != decide (l.state = 4)).foldl
      (fun s f => s.modFctx f (·.inCold (decide (l.state = 4)))) { s with hi := { s.hi with links := s.hi.links.set p l } } := by
  unfold State.linkChange
  exact if_neg (by simp only [h2, hr, hl]; simpa using hp)

theorem State.links_linkChange {s : State} {p : Nat} (l : Link) (h2 : s.ms.phase = 2) (hp : p < s.parts)
    (hr : s.hi.perst.contains p = false) (hl : (s.ms.loops.any fun x => decide (x.aux < 16) && x.handle == p) = false) :
    (s.linkChange p l).hi.links = s.hi.links.set p l := by
  rw [State.linkChange_of_live l h2 hp hr hl]
  exact List.foldlRecOn (motive := fun u : State => u.hi.links = s.hi.links.set p l) _ _ rfl fun _ h _ _ => h

/-- The functions of the partition follow its link into D3cold and out of it; every other function stays. -/
theorem State.fctx_linkChange {s : State} {p : Nat} (l : Link) (h2 : s.ms.phase = 2) (hp : p < s.parts)
    (hr : s.hi.perst.contains p = false) (hl : (s.ms.loops.any fun x => decide (x.aux < 16) && x.handle == p) = false) :
    (∀ f, s.hasFn f = true → partOf f = p → ((s.linkChange p l).fctx f).d3cold = decide (l.state = 4)) ∧
      ∀ f, partOf f ≠ p → (s.linkChange p l).fctx f = s.fctx f := by
  rw [State.linkChange_of_live l h2 hp hr hl]
  refine ⟨fun f hf hpart => ?_, fun f hpart => ?_⟩
  · rw [State.fctx_foldl_inCold]
    split
    case isTrue => rfl
    case isFalse hout =>
      have hcold : (s.fctx f).d3cold = decide (l.state = 4) := Decidable.byContradiction fun hne =>
        hout (List.mem_filter.mpr ⟨State.mem_allFns hf, by simpa [hpart] using hne⟩)
      exact hcold
  · exact (State.fctx_foldl_inCold ..).trans (if_neg (by simp [hpart]))

/-! ### A failed read of host memory (R148) -/

theorem State.Upholds.renumber {s : State} {k first order : Nat} : s.Upholds (s.renumber k first order) := by
  unfold State.renumber
  extract_lets later u
  refine State.Upholds.modStream.trans (State.Upholds.fold (fun v c => ?_) _)
  split
  · exact .ite (.of_frame State.setStream_frame) .finishCmd
  · exact .refl

/-- The end of a command takes it off the list of those in flight. -/
theorem State.gone_finishCmd (s : State) (c : Cmd) (status detail result : Nat) :
    (s.finishCmd c status detail result).cmd? c.id = none := by
  unfold State.finishCmd
  extract_lets wc s1 res s2 s3 s4
  have h3 : s3.cmd? c.id = none := by simp [s3, State.dropCmd, State.cmd?]
  exact ((State.Upholds.countReset.trans .makeReady).trans .settleOwner).gone _ h3

theorem State.gone_endCmd (s : State) (c : Cmd) (status detail result : Nat) :
    (s.endCmd c status detail result).cmd? c.id = none := by
  have hgone := s.gone_finishCmd c status detail result
  unfold State.endCmd
  extract_lets u
  split
  · split
    · exact (State.Upholds.renumber.trans .recredit).gone _ hgone
    · exact hgone
  · exact hgone

/-- A command that gives no record numbers back ends as its completion is made ready. -/
theorem State.endCmd_of_read {s : State} {c : Cmd} (hw : isWriteClass (entOpcode c.entry) = false) (status detail result : Nat) :
    s.endCmd c status detail result = s.finishCmd c status detail result := if_neg (by simp [hw])

theorem exec_dmaCompletionError {s : State} {id d : Nat} {c : Cmd} (hc : s.cmd? id = some c) (hp : c.phase ≠ .staged)
    (h1 : 1 ≤ d) (h4 : d ≤ 4) : exec (.dmaCompletionError id d) s = .next (s.endCmd c stDmaError d 0) := by
  change execDmaCompletionError id d s = _
  unfold execDmaCompletionError
  rw [hc]
  exact congrArg Host.Outcome.next (if_pos ⟨h1, h4, hp⟩)

/-- Settles O57: each clause is one operation of the power states, the links or the end of a command. -/
theorem powerStatesMove : Obligations.PowerStatesMove := by
  refine ⟨fun s n c hc => ⟨fun hn hm h1 h2 h3 => ?_, fun hm => ?_⟩, fun s p v hs hms hv => ⟨fun hm => ?_, fun hm => ?_⟩,
    fun s v h2 hq hm hp => ⟨fun h0 hv => ?_, fun k h1 h6 => ?_⟩, fun s hm => ⟨fun hp => ?_, fun hp hheld => ?_⟩,
    fun s p st rt w fl ck h2 hp hr hl => ?_, fun s id d c hc hph hn h1 h4 => ?_⟩
  · refine ⟨s.enterState n, ?_, ?_, ?_, fun h => ?_, fun h => ?_, State.enterState_frame⟩
    · rw [exec_idleExpiry hc, State.idleExpire_of_due hn h1 h2 h3 hm]
    · rw [State.enterState_ms]
    · rw [State.enterState_ms]
    · rw [State.enterState_sm, if_neg h.ne]
    · rw [State.enterState_sm, if_pos h]
      exact ⟨rfl, rfl, rfl, rfl⟩
  · rw [exec_idleExpiry hc, State.idleExpire_of_not hm]
  · refine ⟨_, (exec_msPwrReqEnter hs hms).trans (congrArg Host.Outcome.next
      ((s.writePwrReq_of_enter hv).trans (if_pos hm))), ?_, State.enterState_asked .., ?_⟩
    · rw [State.enterState_ms]
    · exact (State.setReg_frame.mono rfl).trans State.enterState_frame
  · refine ⟨_, (exec_msPwrReqEnter hs hms).trans (congrArg Host.Outcome.next
      ((s.writePwrReq_of_enter hv).trans (if_neg (by simp [hm])))), hs.2, ?_, State.regsBut_setReg (by simp), State.setReg_frame⟩
    exact s.asked_of_setReg v.toNat
  · have hwoken := (State.woken_wake (s := s.setReg .msPwrReq 0 0 0) h2 hq hm hp 5).askPwr
    exact ⟨_, (exec_msPwrReqWake h2 hq).trans (congrArg Host.Outcome.next (s.writePwrReq_of_wake h0 hv)), hwoken.moving,
      hwoken.cause, hwoken.power, hwoken.counted, hwoken.frame⟩
  · have hwoken := State.woken_wake h2 hq hm hp k
    exact ⟨_, congrArg Host.Outcome.next (if_pos ⟨h1, h6⟩), hwoken.moving, hwoken.cause, hwoken.power, hwoken.counted,
      hwoken.asked, hwoken.frame⟩
  · exact congrArg Host.Outcome.next (if_pos ⟨hm, hp⟩)
  · refine ⟨_, congrArg Host.Outcome.next ((if_pos ⟨hm, hp⟩).trans (State.wakeUp_of_noWrite hheld)), rfl, rfl, rfl, rfl,
      rfl, rfl, rfl, rfl, rfl, ?_⟩
    exact s.sleepDefaults_regsBut
  · obtain ⟨hmine, hothers⟩ := State.fctx_linkChange ⟨st % 8, rt % 8, w % 32, fl, ck⟩ h2 hp hr hl
    have hlinks := State.links_linkChange ⟨st % 8, rt % 8, w % 32, fl, ck⟩ h2 hp hr hl
    refine ⟨_, rfl, ?_, fun q hq => ?_, hmine, hothers, State.linkChange_frame⟩
    · rw [hlinks, Tab.find_set_self]
    · rw [hlinks, Tab.find_set_ne _ _ hq]
  · refine ⟨_, exec_dmaCompletionError hc hph h1 h4, ?_, fun hw => ?_, State.endCmd_frame .ct rfl, State.endCmd_frame .ce rfl⟩
    · rw [← State.id_of_cmd? hc]
      exact State.gone_endCmd ..
    · rw [State.endCmd_of_read hw]
      exact State.told_finishCmd hn rfl hw

end Sys2Proof.Machine
end

section
/-! The personality image: sessions, blocks, verification, activation, confirmation and rollback (R143, R456, R459, R461 to
R466, R468, R469). -/

namespace Sys2Proof.Machine

-- One theorem at a time: run ahead of the kernel, each would hold a thread and its stack.
set_option Elab.async false

/-! ### The end of a command of the session -/

/-- A command that is not of the write class ends after work that leaves ring bindings alone, and MS stays as that work left it. -/
theorem State.ends_after {s u : State} {id op : Nat} {c : Cmd} (st d : Nat) (h : s.holds id op c)
    (hw : isWriteClass op = false) (hown : s.hi.ownerNext = none → u.hi.ownerNext = none) (hcfg : u.reg .qeSqCfg = s.reg .qeSqCfg) :
    s.told (u.finishCmd c st d 0) c st d 0 ∧ (u.finishCmd c st d 0).ms = u.ms := by
  obtain ⟨-, -, rfl, hn⟩ := h
  have hnu := hown hn
  exact ⟨State.told_finishCmd hnu hcfg hw, State.finishCmd_frame_of_settled hnu hw .ms rfl⟩

/-- A chime for the owner leaves the completions and MS alone. -/
theorem State.ends_chimeOwner {s t : State} {c : Cmd} {st d r : Nat} {m : MsState} (code a b : Nat)
    (h : s.told t c st d r ∧ t.ms = m) : s.told (t.chimeOwner code a b) c st d r ∧ (t.chimeOwner code a b).ms = m := by
  obtain ⟨⟨hgone, hready⟩, hms⟩ := h
  have hch : t.Chimed (t.chimeOwner code a b) := .chimeOwner
  refine ⟨⟨State.Upholds.chimeOwner.gone _ hgone, fun hring => ?_⟩, (State.chimeOwner_frame .ms rfl).trans hms⟩
  rw [hch.ready]
  exact hready hring

theorem State.activeImage_congr {s t : State} (h : t.ms = s.ms) : t.activeImage = s.activeImage := by
  unfold State.activeImage
  rw [h]

/-! ### Pages in staging (R462) -/

/-- Pages below the first one written stay. -/
theorem find_writePages_below (t : Tab Bytes) (n k : Nat) (b : Bytes) {q : Nat} (hq : q < n) :
    (writePages t n k b).find q = t.find q := by
  induction k generalizing t n b with
  | zero => rfl
  | succ k ih => exact (ih _ _ _ (by omega)).trans (Tab.find_set_ne _ _ (by omega))

/-- Pages above the last one written stay. -/
theorem find_writePages_above (t : Tab Bytes) (n k : Nat) (b : Bytes) {q : Nat} (hq : n + k ≤ q) :
    (writePages t n k b).find q = t.find q := by
  induction k generalizing t n b with
  | zero => rfl
  | succ k ih => exact (ih _ _ _ (by omega)).trans (Tab.find_set_ne _ _ (by omega))

/-- Each page written holds its 4 KiB of the data. -/
theorem find_writePages_at (t : Tab Bytes) (n k : Nat) (b : Bytes) {i : Nat} (hi : i < k) :
    (writePages t n k b).find (n + i) = some ((b.drop (4096 * i)).take 4096) := by
  induction k generalizing t n b i with
  | zero => omega
  | succ k ih =>
    unfold writePages
    cases i with
    | zero =>
      rw [find_writePages_below _ _ _ _ (by omega)]
      exact Tab.find_set_self ..
    | succ i =>
      rw [show n + (i + 1) = n + 1 + i by omega, ih _ _ _ (by omega), List.drop_drop]
      congr 3
      omega

/-! ### Activation (R466) -/

/-- Registers that are not of class N stay when the settings are converted. -/
theorem State.reg_convert (s : State) (schema : Nat) {r : RegName} (hr : r.info.cls ≠ .n) : (s.convert schema).reg r = s.reg r := by
  funext i k
  unfold State.reg State.convert
  rw [Tab.find_keep s.regs (fun k => (keyName k).info.cls != .n || Config.schemaKnows schema (keyName k).ctorIdx)]
  simp [hr]
  rfl

/-- An image put into a slot is there, and the pointer and the fuses stay. -/
theorem State.setSlotImage_ms (s : State) (slot : Nat) (i : Option Image) :
    (if slot = 0 then (s.setSlotImage slot i).ms.slotA else (s.setSlotImage slot i).ms.slotB) = i ∧
      (s.setSlotImage slot i).ms.pointer = s.ms.pointer ∧ (s.setSlotImage slot i).ms.fused = s.ms.fused := by
  unfold State.setSlotImage
  split <;> exact ⟨rfl, rfl, rfl⟩

/-- What activation leaves: the image in the other slot, named and on trial, with the settings of the old one kept. -/
theorem State.activate_ms (s : State) (i : Image) :
    (s.activate i).ms.pointer = ⟨s.ms.pointer.seq + 1, 1 - s.ms.pointer.slot, true, 0, s.ms.pointer.mark + 1⟩ ∧
      (s.activate i).activeImage = some i ∧ (s.activate i).ms.version = i.version ∧
      (s.activate i).ms.oldSettings = some s.nCells ∧ (s.activate i).ms.fused = s.ms.fused := by
  obtain ⟨himage, hpointer, hfused⟩ := s.countErases.setSlotImage_ms (1 - s.ms.pointer.slot) (some i)
  unfold State.activate
  extract_lets slot old x m y
  have hms : (((y.writePointer slot true 0 (y.ms.pointer.mark + 1)).switchTables i).kltTrigger .all false).ms =
      ((y.writePointer slot true 0 (y.ms.pointer.mark + 1)).switchTables i).ms := State.kltTrigger_frame .ms rfl
  rw [State.activeImage_congr hms, hms]
  have hpoint : y.ms.pointer = s.ms.pointer := hpointer
  refine ⟨?_, himage, rfl, rfl, hfused⟩
  change (⟨y.ms.pointer.seq + 1, slot, true, 0, y.ms.pointer.mark + 1⟩ : Pointer) = _
  rw [hpoint]

theorem State.reg_countErases (s : State) {r : RegName} (hr : r ≠ .msXsErases) : s.countErases.reg r = s.reg r := by
  funext i k
  exact State.reg_bumpBy_ne _ _ (by simp [hr])

/-- Activation changes no register but those of class N and the count of erases. -/
theorem State.reg_activate (s : State) (i : Image) {r : RegName} (hn : r.info.cls ≠ .n) (hx : r ≠ .msXsErases) :
    (s.activate i).reg r = s.reg r := by
  unfold State.activate
  extract_lets slot old x m y
  have hframe : Frame [.klt, .sm, .ms] x
      (((y.writePointer slot true 0 (y.ms.pointer.mark + 1)).switchTables i).kltTrigger .all false) :=
    (((Frame.ms Frame.refl rfl : Frame _ x y).step State.writePointer_frame rfl).step State.switchTables_frame rfl).step
      State.kltTrigger_frame rfl
  have hslot : (s.countErases.setSlotImage slot (some i)).reg = s.countErases.reg :=
    State.reg_congr (State.setSlotImage_frame .regs rfl) (State.setSlotImage_frame .board rfl)
  rw [State.reg_congr (hframe .regs rfl) (hframe .board rfl), State.reg_convert _ _ hn, hslot, State.reg_countErases _ hx]

/-! ### Rollback (R469, R470) -/

/-- An entry that no write of a list names stays. -/
theorem Tab.find_foldl_set {α : Type} (l t : Tab α) {q : Nat} (hq : ∀ e ∈ l, q ≠ e.1) :
    (l.foldl (fun (r : Tab α) e => Tab.set r e.1 e.2) t).find q = t.find q := by
  induction l generalizing t with
  | nil => rfl
  | cons e l ih =>
    rw [List.foldl_cons, ih _ fun e he => hq e (List.mem_cons_of_mem _ he)]
    exact Tab.find_set_ne _ _ (hq e List.mem_cons_self)

/-- A register that is not of class N is not among settings. -/
theorem State.find_restored (s : State) (old : Tab Word) {r : RegName} (hr : r.info.cls ≠ .n) (i k : Nat) :
    ((old.keep fun k _ => (keyName k).info.cls == .n).foldl (fun (r : Tab Word) e => Tab.set r e.1 e.2)
      (s.regs.keep fun k _ => (keyName k).info.cls != .n)).find (regKey r i k) = s.regs.find (regKey r i k) := by
  rw [Tab.find_foldl_set, Tab.find_keep s.regs (fun k => (keyName k).info.cls != .n)]
  · simp [hr]
  · intro e he hkey
    have hcls : ((keyName e.1).info.cls == .n) = true := (List.mem_filter.mp he).2
    rw [← hkey, keyName_regKey] at hcls
    exact hr (eq_of_beq hcls)

/-- Rollback changes no register but those of class N. -/
theorem State.reg_rollBack (s : State) {r : RegName} (hr : r.info.cls ≠ .n) : s.rollBack.reg r = s.reg r := by
  have hregs (i k : Nat) : s.rollBack.regs.find (regKey r i k) = s.regs.find (regKey r i k) := by
    unfold State.rollBack
    extract_lets p regs m u v
    have hu : regs.find (regKey r i k) = s.regs.find (regKey r i k) := by
      unfold regs
      split
      · exact s.find_restored _ hr i k
      · rfl
    split
    · exact hu
    · exact hu
  have hparts : s.rollBack.parts = s.parts := by
    unfold State.parts
    rw [State.rollBack_frame .board rfl]
  funext i k
  unfold State.reg
  rw [hregs, hparts]

/-- What rollback leaves: the other slot named, off trial, and no session. -/
theorem State.rollBack_ms (s : State) : s.rollBack.ms.pointer.slot = 1 - s.ms.pointer.slot ∧
    s.rollBack.ms.pointer.trial = false ∧ s.rollBack.ms.upd = none ∧ s.rollBack.ms.fused = s.ms.fused := by
  unfold State.rollBack
  extract_lets p regs m u v
  split <;> exact ⟨rfl, rfl, rfl, rfl⟩

/-- The image that a rollback has named runs. -/
def State.runActive (s : State) : State :=
  match s.activeImage with
  | some i => s.switchTables i
  | none => s

theorem State.runActive_ms (s : State) : s.runActive.ms.pointer = s.ms.pointer ∧ s.runActive.ms.upd = s.ms.upd ∧
    s.runActive.ms.fused = s.ms.fused ∧ Frame [.sm, .ms] s s.runActive := by
  unfold State.runActive
  split
  · exact ⟨rfl, rfl, rfl, State.switchTables_frame⟩
  · exact ⟨rfl, rfl, rfl, .refl⟩

/-! ### The commands -/

/-- A command of the session that ends at once changes nothing in MS. -/
theorem State.ends_atOnce {s : State} {id op : Nat} {c : Cmd} (st d : Nat) (h : s.holds id op c)
    (hw : isWriteClass op = false) : s.told (s.finishCmd c st d 0) c st d 0 ∧ (s.finishCmd c st d 0).ms = s.ms :=
  State.ends_after st d h hw (fun hn => hn) rfl

/-- A command of the session that notes itself and ends. -/
theorem State.ends_touched {s : State} {id op : Nat} {c : Cmd} (v : Option Image) (st d : Nat) (h : s.holds id op c)
    (hw : isWriteClass op = false) : s.told ((s.touchUpdate v).finishCmd c st d 0) c st d 0 ∧
      ((s.touchUpdate v).finishCmd c st d 0).ms = (s.touchUpdate v).ms :=
  State.ends_after st d h hw (fun hn => hn) rfl

/-- Noting the session's image once more leaves the session as it was. -/
theorem State.upd_touchUpdate_same (s : State) : (s.touchUpdate (s.ms.upd.bind (·.verified))).ms.upd = s.ms.upd := by
  change (s.ms.upd.map fun u => { u with verified := s.ms.upd.bind (·.verified) }) = s.ms.upd
  cases s.ms.upd with
  | none => rfl
  | some u => rfl

/-- An open session takes the image it is told. -/
theorem State.verified_touchUpdate {s : State} (h : s.updOpen = true) (v : Option Image) :
    (s.touchUpdate v).ms.upd.map (·.verified) = some v := by
  change (s.ms.upd.map fun u => { u with verified := v }).map (·.verified) = some v
  have hopen : s.ms.upd.isSome = true := (Bool.and_eq_true_iff.mp h).1
  obtain ⟨u, hu⟩ := Option.isSome_iff_exists.mp hopen
  rw [hu]
  rfl

/-- UPDATE_OPEN, unlocked, with no session and no trial. -/
theorem updateOpen_opens {s : State} {id : Nat} {c : Cmd} (h : s.holds id 0x60 c) (hl : s.updLocked = false)
    (hu : s.ms.upd = none) (ht : s.ms.pointer.trial = false) : ∃ t, exec (.updateOpen id) s = .next t ∧
      s.told t c stSuccess 0 0 ∧ t.ms.upd = some ⟨s.tenant c.fn, none⟩ ∧ t.ms.pages = [] ∧ t.ms.pointer = s.ms.pointer := by
  let u := { s.countErases with ms := { s.ms with
    upd := some ⟨s.countErases.tenant c.fn, none⟩, pages := [], updTime := s.ms.time } }
  have htenant : s.countErases.tenant c.fn = s.tenant c.fn := by
    unfold State.tenant State.alloc
    rw [s.reg_countErases (by simp)]
  have hrun : s.updateOpen c = u.finishCmd c stSuccess 0 0 :=
    (if_neg (by simp [hl])).trans (if_neg (by simp [hu, ht]))
  obtain ⟨htold, hms⟩ := State.ends_after (u := u) stSuccess 0 h rfl (fun hn => hn) (s.reg_countErases (by simp))
  refine ⟨_, congrArg Host.Outcome.next ((State.onCommand_of_holds h _).trans hrun), htold, ?_⟩
  rw [hms]
  exact ⟨congrArg (fun n => some (⟨n, none⟩ : UpdSession)) htenant, rfl, rfl⟩

/-- UPDATE_BLOCK with a good buffer list. -/
theorem exec_updateBlock {s : State} {id : Nat} {c : Cmd} {ps l : List BufPiece} (h : s.holds id 0x61 c)
    (hb : c.buffer ps = some l) (data : Bytes) : exec (.updateBlock id ps data) s = .next (s.updateBlock c data) := by
  refine congrArg Host.Outcome.next ((State.onCommand_of_holds h _).trans ?_)
  rw [State.withBuffer, hb]

/-- UPDATE_BLOCK of whole pages within the slot. -/
theorem updateBlock_stages {s : State} {id : Nat} {c : Cmd} {ps l : List BufPiece} (h : s.holds id 0x61 c)
    (hb : c.buffer ps = some l) (data : Bytes) (ho : s.updOpen = true)
    (hfit : ¬ (entRecord c.entry % 4096 ≠ 0 ∨ entLen c.entry % 4096 ≠ 0 ∨ entLen c.entry < 4096 ∨
      1048576 < entLen c.entry ∨ 8388608 < entRecord c.entry + entLen c.entry)) :
    ∃ t, exec (.updateBlock id ps data) s = .next t ∧ s.told t c stSuccess 0 0 ∧
      t.ms.pages = writePages s.ms.pages (entRecord c.entry / 4096) (entLen c.entry / 4096) (fit (entLen c.entry) data) ∧
      t.ms.upd.map (·.verified) = some none ∧ t.ms.pointer = s.ms.pointer := by
  let u := { s.touchUpdate none with ms := { (s.touchUpdate none).ms with
    pages := writePages s.ms.pages (entRecord c.entry / 4096) (entLen c.entry / 4096) (fit (entLen c.entry) data) } }
  have hrun : s.updateBlock c data = u.finishCmd c stSuccess 0 0 := (if_neg (by simp [ho])).trans (if_neg hfit)
  obtain ⟨htold, hms⟩ := State.ends_after (u := u) stSuccess 0 h rfl (fun hn => hn) rfl
  refine ⟨_, (exec_updateBlock h hb data).trans (congrArg Host.Outcome.next hrun), htold, ?_⟩
  rw [hms]
  exact ⟨rfl, State.verified_touchUpdate ho none, rfl⟩

/-- The checks of UPDATE_VERIFY fail with one of their three details (R463). -/
theorem State.verifyStaged_inl {s : State} {d : Nat} (h : s.verifyStaged = .inl d) : 5 ≤ d ∧ d ≤ 7 := by
  unfold State.verifyStaged at h
  split at h
  · cases h
    decide
  · split at h
    · cases h
      decide
    · split at h
      · cases h
        decide
      · split at h
        · cases h
          decide
        · split at h
          · cases h
            decide
          · cases h

/-- An image that passes is not below the fused minimum. -/
theorem State.verifyStaged_inr {s : State} {i : Image} (h : s.verifyStaged = .inr i) : s.ms.fused ≤ i.sv := by
  unfold State.verifyStaged at h
  split at h
  · cases h
  · split at h
    · cases h
    · split at h
      · cases h
      · split at h
        · cases h
        · split at h
          case isTrue => cases h
          case isFalse hsv =>
            cases h
            exact Nat.le_of_not_lt hsv

/-- UPDATE_VERIFY of an open session. -/
theorem updateVerify_verifies {s : State} {id : Nat} {c : Cmd} (h : s.holds id 0x62 c) (ho : s.updOpen = true) :
    ∃ t, exec (.updateVerify id) s = .next t ∧ t.ms.pointer = s.ms.pointer ∧
      (∀ i, s.verifyStaged = .inr i → s.told t c stSuccess 0 0 ∧ t.ms.upd.map (·.verified) = some (some i) ∧
        s.ms.fused ≤ i.sv ∧ t.ms.pages = s.ms.pages) ∧
      (∀ d, s.verifyStaged = .inl d → s.told t c stUpdateRefused d 0 ∧ t.ms.upd.map (·.verified) = some none ∧
        5 ≤ d ∧ d ≤ 7) := by
  have hrun : exec (.updateVerify id) s = .next (s.updateVerify c) :=
    congrArg Host.Outcome.next (State.onCommand_of_holds h _)
  unfold State.updateVerify at hrun
  rw [if_neg (by simp [ho])] at hrun
  cases hv : s.verifyStaged with
  | inl d =>
    rw [hv] at hrun
    obtain ⟨htold, hms⟩ := State.ends_touched none stUpdateRefused d h rfl
    refine ⟨_, hrun, (congrArg MsState.pointer hms :), fun i hi => (nomatch hi), fun d' hd => ?_⟩
    cases hd
    rw [hms]
    exact ⟨htold, State.verified_touchUpdate ho none, State.verifyStaged_inl hv⟩
  | inr i =>
    rw [hv] at hrun
    obtain ⟨htold, hms⟩ := State.ends_touched (some i) stSuccess 0 h rfl
    refine ⟨_, hrun, (congrArg MsState.pointer hms :), fun i' hi => ?_, fun d hd => (nomatch hd)⟩
    cases hi
    rw [hms]
    exact ⟨htold, State.verified_touchUpdate ho _, State.verifyStaged_inr hv, rfl⟩

/-- UPDATE_ACTIVATE of a verified image, unlocked, by what R465 finds. -/
theorem exec_updateActivate {s : State} {id : Nat} {c : Cmd} {i : Image} (h : s.holds id 0x63 c) (ho : s.updOpen = true)
    (hl : s.updLocked = false) (hv : s.ms.upd.bind (·.verified) = some i) (holdup : Bool) :
    exec (.updateActivate id holdup) s = .next (match s.activateBlock holdup with
      | some d => (s.touchUpdate (some i)).finishCmd c stUpdateRefused d 0
      | none => (((s.touchUpdate (some i)).activate i).finishCmd c stSuccess 0 0).chimeOwner 0x202 i.version i.sv) := by
  refine congrArg Host.Outcome.next ((State.onCommand_of_holds h _).trans ?_)
  unfold State.updateActivate
  rw [if_neg (by simp [ho]), if_neg (by simp [hl]), hv]
  rfl

/-- UPDATE_ACTIVATE that R465 blocks. -/
theorem updateActivate_blocked {s : State} {id : Nat} {c : Cmd} {i : Image} (h : s.holds id 0x63 c) (ho : s.updOpen = true)
    (hl : s.updLocked = false) (hv : s.ms.upd.bind (·.verified) = some i) {holdup : Bool} {d : Nat}
    (hd : s.activateBlock holdup = some d) : ∃ t, exec (.updateActivate id holdup) s = .next t ∧
      s.told t c stUpdateRefused d 0 ∧ t.ms.pointer = s.ms.pointer ∧ t.ms.version = s.ms.version := by
  have hrun := exec_updateActivate h ho hl hv holdup
  rw [hd] at hrun
  obtain ⟨htold, hms⟩ := State.ends_touched (some i) stUpdateRefused d h rfl
  refine ⟨_, hrun, htold, ?_⟩
  rw [hms]
  exact ⟨rfl, rfl⟩

/-- UPDATE_ACTIVATE with the tape at rest and HOLDUP_OK. -/
theorem updateActivate_activates {s : State} {id : Nat} {c : Cmd} {i : Image} (h : s.holds id 0x63 c) (ho : s.updOpen = true)
    (hl : s.updLocked = false) (hv : s.ms.upd.bind (·.verified) = some i) (h2 : s.sm.state ≠ 2) (h3 : s.sm.state ≠ 3) :
    ∃ t, exec (.updateActivate id true) s = .next t ∧ s.told t c stSuccess 0 0 ∧
      t.ms.pointer.slot = 1 - s.ms.pointer.slot ∧ t.ms.pointer.trial = true ∧ t.ms.pointer.starts = 0 ∧
      t.ms.pointer.seq = s.ms.pointer.seq + 1 ∧ t.activeImage = some i ∧ t.ms.version = i.version ∧
      t.ms.oldSettings = some s.nCells ∧ t.ms.fused = s.ms.fused := by
  have hfree : s.activateBlock true = none := if_neg (by simp [h2, h3])
  have hrun := exec_updateActivate h ho hl hv true
  rw [hfree] at hrun
  obtain ⟨hpointer, himage, hversion, hold, hfused⟩ := (s.touchUpdate (some i)).activate_ms i
  have hend := State.ends_after (u := (s.touchUpdate (some i)).activate i) stSuccess 0 h rfl
    (State.activate_frame (s := s.touchUpdate (some i)) .hi rfl ▸ ·) (State.reg_activate _ i (by decide) (by simp))
  obtain ⟨htold, hms⟩ := State.ends_chimeOwner 0x202 i.version i.sv hend
  refine ⟨_, hrun, htold, ?_⟩
  rw [State.activeImage_congr hms, hms, hpointer]
  exact ⟨rfl, rfl, rfl, rfl, himage, hversion, hold, hfused⟩

/-- UPDATE_CONFIRM on trial. -/
theorem updateConfirm_confirms {s : State} {id : Nat} {c : Cmd} (h : s.holds id 0x64 c) (ht : s.ms.pointer.trial = true) :
    ∃ t, exec (.updateConfirm id) s = .next t ∧ s.told t c stSuccess 0 0 ∧
      t.ms.pointer.trial = false ∧ t.ms.pointer.slot = s.ms.pointer.slot ∧ t.ms.upd = none ∧
      t.ms.fused = min 64 (max s.ms.fused ((s.activeImage.map (·.floor)).getD 0)) := by
  let v := (s.writePointer s.ms.pointer.slot false 0 s.ms.pointer.mark).kltTrigger .all false
  let u := { v.blowFuses with ms := { v.blowFuses.ms with upd := none, oldSettings := none } }
  have hv : v.ms = (s.writePointer s.ms.pointer.slot false 0 s.ms.pointer.mark).ms := State.kltTrigger_frame .ms rfl
  have hhi : v.hi = s.hi := State.kltTrigger_frame .hi rfl
  have hreg : v.reg = s.reg := State.reg_congr (State.kltTrigger_frame .regs rfl) (State.kltTrigger_frame .board rfl)
  have himage : v.activeImage = s.activeImage := by
    unfold State.activeImage
    rw [hv]
    rfl
  have hrun : s.updateConfirm c = (u.finishCmd c stSuccess 0 0).chimeOwner 0x203 u.ms.version u.ms.fused :=
    if_neg (by simp [ht])
  obtain ⟨htold, hms⟩ := State.ends_chimeOwner 0x203 u.ms.version u.ms.fused
    (State.ends_after (u := u) stSuccess 0 h rfl (hhi ▸ ·) (congrFun hreg _))
  refine ⟨_, congrArg Host.Outcome.next ((State.onCommand_of_holds h _).trans hrun), htold, ?_⟩
  rw [hms]
  have hpointer : u.ms.pointer = ⟨s.ms.pointer.seq + 1, s.ms.pointer.slot, false, 0, s.ms.pointer.mark⟩ :=
    congrArg MsState.pointer hv
  have hfused : u.ms.fused = min 64 (max v.ms.fused ((v.activeImage.map (·.floor)).getD 0)) := rfl
  rw [hpointer, hfused, himage, hv]
  exact ⟨rfl, rfl, rfl, rfl⟩

/-- UPDATE_REVERT on trial, unlocked, with the tape at rest and HOLDUP_OK. -/
theorem updateRevert_rollsBack {s : State} {id : Nat} {c : Cmd} (h : s.holds id 0x65 c) (ht : s.ms.pointer.trial = true)
    (hl : s.updLocked = false) (h2 : s.sm.state ≠ 2) (h3 : s.sm.state ≠ 3) :
    ∃ t, exec (.updateRevert id true) s = .next t ∧ s.told t c stSuccess 0 0 ∧
      t.ms.pointer.slot = 1 - s.ms.pointer.slot ∧ t.ms.pointer.trial = false ∧ t.ms.upd = none ∧ t.ms.lastRollback = 1 ∧
      t.ms.fused = s.ms.fused := by
  let v := { s.rollBack.runActive with ms := { s.rollBack.runActive.ms with lastRollback := 1 } }
  let u := v.kltTrigger .all false
  have hfree : s.activateBlock true = none := if_neg (by simp [h2, h3])
  have hrun : s.updateRevert c true = (u.finishCmd c stSuccess 0 0).chimeOwner 0x204 1 0 := by
    unfold State.updateRevert
    rw [if_pos ht, if_neg (by simp [hl]), hfree]
    rfl
  obtain ⟨hslot, htrial, hupd, hfused⟩ := s.rollBack_ms
  obtain ⟨hpointer, hsame, hfuse, hframe⟩ := s.rollBack.runActive_ms
  have hu : u.ms = v.ms := State.kltTrigger_frame .ms rfl
  have hhi : u.hi = s.hi := (State.kltTrigger_frame .hi rfl).trans ((hframe .hi rfl).trans (State.rollBack_frame .hi rfl))
  have hreg : u.reg = s.rollBack.reg := State.reg_congr ((State.kltTrigger_frame .regs rfl).trans (hframe .regs rfl))
    ((State.kltTrigger_frame .board rfl).trans (hframe .board rfl))
  have hcfg : u.reg .qeSqCfg = s.reg .qeSqCfg := (congrFun hreg _).trans (s.reg_rollBack (by decide))
  obtain ⟨htold, hms⟩ := State.ends_chimeOwner 0x204 1 0 (State.ends_after (u := u) stSuccess 0 h rfl (hhi ▸ ·) hcfg)
  refine ⟨_, congrArg Host.Outcome.next ((State.onCommand_of_holds h _).trans hrun), htold, ?_⟩
  rw [hms, hu]
  have hvp : v.ms.pointer = s.rollBack.ms.pointer := hpointer
  rw [hvp]
  exact ⟨hslot, htrial, hsame.trans hupd, rfl, hfuse.trans hfused⟩

/-- An open session that is given up leaves the pointer, and nothing in staging. -/
theorem State.abandonUpdate_ms {s : State} (h : s.updOpen = true) (reason : Nat) :
    (s.abandonUpdate reason).ms = { s.ms with upd := none, pages := [], lastAbandon := reason } := by
  unfold State.abandonUpdate
  rw [if_neg (by simp [h])]
  exact State.chimeOwner_frame .ms rfl

/-- UPDATE_REVERT that gives up an open session. -/
theorem updateRevert_givesUp {s : State} {id : Nat} {c : Cmd} (h : s.holds id 0x65 c) (ht : s.ms.pointer.trial = false)
    (hu : s.ms.upd.isSome = true) (holdup : Bool) : ∃ t, exec (.updateRevert id holdup) s = .next t ∧
      s.told t c stSuccess 0 0 ∧ t.ms.upd = none ∧ t.ms.pages = [] ∧ t.ms.pointer = s.ms.pointer := by
  let u := s.draw.abandonUpdate (Config.freeNat 4 s.fresh)
  have hopen : s.draw.updOpen = true := Bool.and_eq_true_iff.mpr ⟨hu, congrArg (!·) ht⟩
  have hrun : s.updateRevert c holdup = u.finishCmd c stSuccess 0 0 := (if_neg (by simp [ht])).trans (if_pos hu)
  have hup : s.draw.Upholds u := .abandonUpdate
  have hcfg : u.reg .qeSqCfg = s.reg .qeSqCfg := funext₂ fun i k => hup.regs _ i k (by decide)
  obtain ⟨htold, hms⟩ := State.ends_after (u := u) stSuccess 0 h rfl hup.ownerNext hcfg
  refine ⟨_, congrArg Host.Outcome.next ((State.onCommand_of_holds h _).trans hrun), htold, ?_⟩
  rw [hms, State.abandonUpdate_ms hopen]
  exact ⟨rfl, rfl, rfl⟩

/-- Settles O52: each command of the session, by the case of R461 to R469 that it meets. -/
theorem imagesAreUpdated : Obligations.ImagesAreUpdated := by
  intro s id c
  refine ⟨fun h => ⟨updateOpen_opens h, fun hl => ?_, fun hl hb => ?_⟩,
    fun ps l data h hb => ⟨fun ho => ?_, fun ho hbad => ?_, fun ho h1 h2 h3 h4 h5 => ?_⟩, updateVerify_verifies,
    fun i h ho hl hv => ⟨updateActivate_activates h ho hl hv, fun hmoves holdup => ?_, fun h2 h3 => ?_⟩,
    fun h => ⟨updateConfirm_confirms h, fun ht => ?_⟩,
    fun h => ⟨updateRevert_rollsBack h, updateRevert_givesUp h, fun ht hu holdup => ?_⟩, fun ho => ?_, fun ho => ?_⟩
  · obtain ⟨htold, hms⟩ := State.ends_atOnce stUpdateRefused 4 h rfl
    exact ⟨_, congrArg Host.Outcome.next ((State.onCommand_of_holds h _).trans (if_pos hl)), htold, hms⟩
  · have hbusy : (s.ms.upd.isSome || s.ms.pointer.trial) = true := Bool.or_eq_true_iff.mpr hb
    obtain ⟨htold, hms⟩ := State.ends_atOnce stUpdateBusy 0 h rfl
    exact ⟨_, congrArg Host.Outcome.next ((State.onCommand_of_holds h _).trans ((if_neg (by simp [hl])).trans
      (if_pos hbusy))), htold, hms⟩
  · obtain ⟨htold, hms⟩ := State.ends_atOnce stUpdateRefused 1 h rfl
    exact ⟨_, (exec_updateBlock h hb data).trans (congrArg Host.Outcome.next (if_pos (by simp [ho]))), htold, hms⟩
  · obtain ⟨htold, hms⟩ := State.ends_touched (s.ms.upd.bind (·.verified)) stLength 4 h rfl
    refine ⟨_, (exec_updateBlock h hb data).trans (congrArg Host.Outcome.next ((if_neg (by simp [ho])).trans
      (if_pos hbad))), htold, ?_⟩
    rw [hms]
    exact ⟨s.upd_touchUpdate_same, rfl, rfl⟩
  · obtain ⟨t, hexec, htold, hpages, hverified, hpointer⟩ := updateBlock_stages h hb data ho (by omega)
    refine ⟨t, hexec, htold, fun n hn => ?_, fun n hn => ?_, hverified, hpointer⟩
    · rw [hpages, find_writePages_at _ _ _ _ hn]
    · rw [hpages]
      exact hn.elim (find_writePages_below _ _ _ _) (find_writePages_above _ _ _ _)
  · exact updateActivate_blocked h ho hl hv (if_pos hmoves)
  · exact updateActivate_blocked h ho hl hv (if_neg (by simp [h2, h3]))
  · obtain ⟨htold, hms⟩ := State.ends_touched (s.ms.upd.bind (·.verified)) stUpdateRefused 9 h rfl
    refine ⟨_, congrArg Host.Outcome.next ((State.onCommand_of_holds h _).trans (if_pos (by simp [ht]))), htold, ?_⟩
    rw [hms]
    exact ⟨s.upd_touchUpdate_same, rfl, rfl, rfl⟩
  · obtain ⟨htold, hms⟩ := State.ends_atOnce stUpdateRefused 9 h rfl
    exact ⟨_, congrArg Host.Outcome.next ((State.onCommand_of_holds h _).trans ((if_neg (by simp [ht])).trans
      (if_neg (by simp [hu])))), htold, hms⟩
  · refine ⟨_, rfl, ?_⟩
    rw [State.abandonUpdate_ms ho]
    exact ⟨rfl, rfl, rfl, rfl⟩
  · exact congrArg Host.Outcome.next (if_pos (by simp [ho]))

end Sys2Proof.Machine
end

section
/-! The end of service: SHUTDOWN_PREP, PWR_WARN_N, the shutdown self-test, the thermal limit and the scan unlock (R145, R449,
R476, R477, R498, R520). -/

namespace Sys2Proof.Machine

-- One theorem at a time: run ahead of the kernel, each would hold a thread and its stack.
set_option Elab.async false

/-! ### Leaving service is not undone by the end of a command -/

theorem State.leaving_makeReady (s : State) (f ring tag status detail result : Nat) (devrst : Bool) :
    (s.makeReady f ring tag status detail result devrst).qe.leaving = s.qe.leaving := by
  have hch (u : State) (a b d e : Nat) : (u.chime a b d e).qe.leaving = u.qe.leaving := by
    obtain ⟨⟨q, hq⟩, -⟩ := (State.Chimed.chime : u.Chimed (u.chime a b d e))
    rw [hq]
  unfold State.makeReady
  split
  · split <;> rfl
  · split
    · exact hch ..
    · rfl

theorem State.leaving_countReset (s : State) (f ring tag : Nat) : (s.countReset f ring tag).qe.leaving = s.qe.leaving := by
  unfold State.countReset
  extract_lets q
  split <;> rfl

/-- A command of an opcode that is not of the write class. -/
theorem State.notWrite_of_holds {s : State} {id op : Nat} {c : Cmd} (h : s.holds id op c) (hw : isWriteClass op = false) :
    isWriteClass (entOpcode c.entry) = false := by
  obtain ⟨-, -, hop, -⟩ := h
  rw [hop, hw]

theorem State.leaving_finishCmd {s : State} {c : Cmd} (status detail result : Nat) (hn : s.hi.ownerNext = none)
    (hw : isWriteClass (entOpcode c.entry) = false) : (s.finishCmd c status detail result).qe.leaving = s.qe.leaving := by
  unfold State.finishCmd
  extract_lets wc s1 res s2 s3 s4
  have h1 : Frame [.pe, .bm] s s1 := by
    unfold s1
    split
    · exact Frame.ite Frame.refl State.giveBack_frame
    · exact Frame.refl
  have h2 : s2 = s1 := by
    unfold s2 wc
    rw [hw]
    split <;> rfl
  have hleaving : s4.qe.leaving = s.qe.leaving := by
    have h3 : s3.qe.leaving = s2.qe.leaving := rfl
    rw [State.leaving_countReset, h3, h2, h1 .qe rfl]
  have hown : s4.hi.ownerNext = none := by
    have h4 : s4.hi = s1.hi := (State.countReset_frame .hi rfl).trans (congrArg State.hi h2 :)
    rw [h4, h1 .hi rfl, hn]
  rw [State.settleOwner, State.Upholds.makeReady.ownerNext hown, State.leaving_makeReady, hleaving]

/-! ### Keys (R476) -/

/-- Two states hold the same keys. -/
structure State.SameKeys (s t : State) : Prop where
  slots : t.ce.slots = s.ce.slots
  keks : t.ce.keks = s.ce.keks
  identity : t.ce.identity = s.ce.identity

namespace State.SameKeys

variable {s t u : State}

theorem refl : s.SameKeys s := ⟨rfl, rfl, rfl⟩

theorem trans (h1 : s.SameKeys t) (h2 : t.SameKeys u) : s.SameKeys u :=
  ⟨h2.slots.trans h1.slots, h2.keks.trans h1.keks, h2.identity.trans h1.identity⟩

theorem of_frame {l : List Part} (h : Frame l s t) (hl : l.contains .ce = false := by rfl) : s.SameKeys t := by
  have hce : t.ce = s.ce := h .ce hl
  exact ⟨by rw [hce], by rw [hce], by rw [hce]⟩

/-- A unit that leaves service takes no key with it. -/
theorem dropUnit (k n : Nat) : s.SameKeys (s.dropUnit k n) := by
  unfold State.dropUnit
  split
  · exact trans (t := { s with wc := { s.wc with retired := insBy id n s.wc.retired } }) ⟨rfl, rfl, rfl⟩
      (of_frame ((State.yieldUnit_frame.mono rfl).trans State.rewriteSlot_frame))
  · exact ⟨rfl, rfl, rfl⟩
  · exact ⟨rfl, rfl, rfl⟩
  · exact ⟨rfl, rfl, rfl⟩
  · exact ⟨rfl, rfl, rfl⟩
  · exact trans (t := { s with sm := { s.sm with readersRetired := insBy id n s.sm.readersRetired } }) ⟨rfl, rfl, rfl⟩
      (of_frame State.readersTrip_frame)
  · exact refl

theorem retireUnit (k n : Nat) : s.SameKeys (s.retireUnit k n) := by
  unfold State.retireUnit
  extract_lets was m u
  have hu : s.SameKeys u := by
    unfold u
    split
    · exact ⟨rfl, rfl, rfl⟩
    · exact refl
  split
  · exact of_frame State.schedulePair_frame
  · split
    · exact refl
    · refine (hu.trans (dropUnit k n)).trans (trans (of_frame (l := [.regs, .hi, .klt, .qe, .ms, .out]) ?_)
        (of_frame State.newlyBelow_frame))
      exact (((State.logEv_frame.mono rfl).trans (State.chimeOwner_frame.mono rfl)).trans (State.kltTrigger_frame.mono rfl))

/-- A run of tests takes no key. -/
theorem recordRun (run : Nat) (r : TestRead) : s.SameKeys (s.recordRun run r) := by
  obtain ⟨x, -, he⟩ := s.recordRun_eq run r
  rw [he]
  exact List.foldlRecOn (motive := fun u => s.SameKeys u) _ _ ⟨rfl, rfl, rfl⟩ fun _ h f _ => h.trans (retireUnit f.1 f.2)

theorem keyless (h : s.SameKeys t) (hs : s.keyless) : t.keyless := State.keyless_congr h.slots h.keks hs

end State.SameKeys

/-- Zeroisation leaves no key, as a reset that keeps power does. -/
theorem State.keyless_zeroise (s : State) : s.zeroise.keyless :=
  State.keyless_congr (s := s.hardReset false false) rfl rfl (s.hardReset_keyless false false)

/-! ### The shutdown self-test and the scan key (R476, R477, R498) -/

/-- A shutdown self-test that is due, with the tape at rest. -/
theorem exec_shutdownSelfTest {s : State} (hd : s.ms.shutDue ≠ 0) (h2 : s.ms.phase = 2) (hq : s.ms.quiescent = false)
    (hr : s.sm.state = 0 ∨ s.sm.state = 4) (zeroOk : Bool) (r : TestRead) :
    exec (.shutdownSelfTest zeroOk r) s = .next (if !zeroOk then (s.zeroise.logEv .bistFail 0 0 0).quiet
      else ({ s.zeroise.recordRun 1 r with ms := { (s.zeroise.recordRun 1 r).ms with clean := true } }).quiet) :=
  congrArg Host.Outcome.next (if_neg (by simp [hd, h2, hq, hr]))

theorem shutdownSelfTest_passes {s : State} (hd : s.ms.shutDue ≠ 0) (h2 : s.ms.phase = 2) (hq : s.ms.quiescent = false)
    (hr : s.sm.state = 0 ∨ s.sm.state = 4) (r : TestRead) : ∃ t, exec (.shutdownSelfTest true r) s = .next t ∧
      t.keyless ∧ t.ce.identity = false ∧ t.ms.quiescent = true ∧ t.ms.clean = true ∧ t.ms.test.run = 1 ∧
      t.ms.test.islands = r.islands ∧ t.ms.shutDue = 0 ∧ t.sm.brake = true := by
  obtain ⟨x, hnoted, hup, -, -⟩ := s.zeroise.recordRun_spec 1 r
  have hkeys : s.zeroise.SameKeys (s.zeroise.recordRun 1 r) := .recordRun 1 r
  have htest : (s.zeroise.recordRun 1 r).ms.test = x.test := hup.test
  refine ⟨_, exec_shutdownSelfTest hd h2 hq hr true r, State.keyless_congr hkeys.slots hkeys.keks s.keyless_zeroise,
    hkeys.identity, rfl, rfl, (congrArg TestResults.run htest).trans hnoted.run,
    (congrArg TestResults.islands htest).trans hnoted.islands, rfl, rfl⟩

theorem shutdownSelfTest_fails {s : State} (hd : s.ms.shutDue ≠ 0) (h2 : s.ms.phase = 2) (hq : s.ms.quiescent = false)
    (hr : s.sm.state = 0 ∨ s.sm.state = 4) (r : TestRead) : ∃ t, exec (.shutdownSelfTest false r) s = .next t ∧
      t.keyless ∧ t.ce.identity = false ∧ t.ms.quiescent = true ∧ t.ms.clean = s.ms.clean ∧ t.ms.test = s.ms.test ∧
      t.ms.seq = s.ms.seq + 1 := by
  obtain ⟨b, n, q, c, g, hms⟩ := s.zeroise.logEv_ms .bistFail 0 0 0
  have hkeys : s.zeroise.SameKeys (s.zeroise.logEv .bistFail 0 0 0) := .of_frame State.logEv_frame
  exact ⟨_, exec_shutdownSelfTest hd h2 hq hr false r, State.keyless_congr hkeys.slots hkeys.keks s.keyless_zeroise,
    hkeys.identity, rfl, (congrArg MsState.clean hms :), (congrArg MsState.test hms :), (congrArg MsState.seq hms :)⟩

theorem exec_msDbgCtrlUnlock {s : State} {p : Port} (v : Word) (h : s.serves p) :
    exec (.msDbgCtrlUnlock p v) s = .next (s.unlock p v.toNat) :=
  congrArg Host.Outcome.next (State.regWrite_of_serves h ..)

/-- The scan key with the tape at rest and nothing mounted. -/
theorem msDbgCtrlUnlock_unlocks {s : State} {p : Port} {v : Word} (h : s.serves p) (hms : s.sees p .ms = true)
    (hv : v.toNat % 256 = 0x5C) (hm : s.ct.mounted = false) (hr : s.sm.state = 0 ∨ s.sm.state = 4) :
    ∃ t, exec (.msDbgCtrlUnlock p v) s = .next t ∧ t.ms.unlocked = true ∧ t.qe.leaving = true ∧ t.keyless ∧
      t.ms.seq = s.ms.seq + 1 ∧ t.ct = s.ct ∧ t.sm = s.sm := by
  let u := s.leaveService.zeroise.logEv .scanUnlock 0 0 0
  have hframe : Frame [.regs, .ms] s.leaveService.zeroise u := State.logEv_frame
  have hkeys : s.leaveService.zeroise.SameKeys u := .of_frame hframe
  have hrun : s.unlock p v.toNat = { u with ms := { u.ms with unlocked := true } } :=
    (if_neg (by simp [hms, hv])).trans ((if_neg (by simp [hm, hr])).trans (if_neg (by simp [hv])))
  exact ⟨_, (exec_msDbgCtrlUnlock v h).trans (congrArg Host.Outcome.next hrun), rfl,
    (congrArg QeState.leaving (hframe .qe rfl) :), State.keyless_congr hkeys.slots hkeys.keks s.leaveService.keyless_zeroise,
    s.leaveService.zeroise.logEv_seq .., hframe .ct rfl, hframe .sm rfl⟩

/-- A write of the scan key at another time is rejected. -/
theorem msDbgCtrlUnlock_rejected {s : State} {p : Port} {v : Word} (h : s.serves p) (hms : s.sees p .ms = true)
    (hv : v.toNat % 256 = 0x5C) (hb : s.ct.mounted = true ∨ (s.sm.state ≠ 0 ∧ s.sm.state ≠ 4)) :
    ∃ t, exec (.msDbgCtrlUnlock p v) s = .next t ∧ t.ms.unlocked = s.ms.unlocked ∧ t.qe = s.qe ∧ t.ce = s.ce ∧
      s.ms.seq + 1 ≤ t.ms.seq := by
  have hbusy : s.ct.mounted = true ∨ ¬ (s.sm.state = 0 ∨ s.sm.state = 4) := hb.imp id not_or.mpr
  have hrun : s.unlock p v.toNat = s.rwlReject .msDbgCtrl 0 := (if_neg (by simp [hms, hv])).trans (if_pos hbusy)
  obtain ⟨b, n, q, c, g, hlog⟩ := s.logEv_ms .rwlReject 0 (blkCode RegName.msDbgCtrl.info.blk * 65536 + 0 % 65536)
    RegName.msDbgCtrl.info.off
  refine ⟨_, (exec_msDbgCtrlUnlock v h).trans (congrArg Host.Outcome.next hrun), ?_, State.logEv_frame .qe rfl,
    State.logEv_frame .ce rfl, (State.logEv_seq ..).ge⟩
  exact (congrArg MsState.unlocked hlog :)

/-! ### PWR_WARN_N (R449) -/

theorem State.wake_ms (s : State) (k : Nat) : ∃ m c, (s.wake k).ms = { s.ms with moving := m, cause := c } := by
  have hms : s.countResidency.ms = s.ms := State.countResidency_frame .ms rfl
  unfold State.wake
  split
  · exact ⟨_, _, rfl⟩
  · refine ⟨true, k, ?_⟩
    change { s.countResidency.ms with moving := true, cause := k } = _
    rw [hms]

/-- The part brought to A0 for PWR_WARN_N, from whatever state it is in. -/
def State.rouse (s : State) : State :=
  let s := s.wake 6
  if s.ms.power = 3 then s.wakeUp else if s.ms.power = 0 then s else s.awake

/-- What bringing the part to A0 leaves standing where no write was held. -/
structure State.Roused (s t : State) : Prop where
  power : t.ms.power = 0
  ms : ∃ m c n b, t.ms = { s.ms with power := 0, moving := m, cause := c, since := n, wakeBuf := b }
  qe : t.qe = s.qe
  slots : t.ce.slots = s.ce.slots

theorem State.roused_rouse {s : State} (h : s.ms.wakeBuf = []) : s.Roused s.rouse := by
  obtain ⟨m, c, hms⟩ := s.wake_ms 6
  have hqe : (s.wake 6).qe = s.qe := State.wake_frame .qe rfl
  have hce : (s.wake 6).ce = s.ce := State.wake_frame .ce rfl
  unfold State.rouse
  extract_lets u
  have hheld : u.ms.wakeBuf = [] := (congrArg MsState.wakeBuf hms).trans h
  split
  case isTrue =>
    rw [State.wakeUp_of_noWrite hheld]
    refine ⟨rfl, ⟨false, c, s.ms.time, [], ?_⟩, hqe, (congrArg CeState.slots hce :)⟩
    change { u.ms with power := 0, moving := false, since := u.ms.time, wakeBuf := [] } = _
    rw [show u.ms = _ from hms]
  case isFalse =>
    split
    case isTrue h0 =>
      exact ⟨h0, ⟨m, c, s.ms.since, s.ms.wakeBuf, by
        rw [show u.ms = _ from hms] at h0 ⊢
        rw [← h0]⟩, hqe, (congrArg CeState.slots hce :)⟩
    case isFalse =>
      refine ⟨rfl, ⟨false, c, s.ms.time, s.ms.wakeBuf, ?_⟩, hqe, (congrArg CeState.slots hce :)⟩
      change { u.ms with power := 0, moving := false, since := u.ms.time } = _
      rw [show u.ms = _ from hms]

/-- After a trip the transport is tripped, and the trip is what MS has logged. -/
theorem State.trip_trips (s : State) (cause engine : Nat) : 3 ≤ (s.trip cause engine).sm.state ∧
    (s.trip cause engine).ms = (s.logEv .trip 0 engine cause).ms ∧
    (s.wc.gates = [] → (s.trip cause engine).wc.gates = []) := by
  unfold State.trip
  extract_lets u v w
  have hsm : u.sm = s.sm := State.logEv_frame .sm rfl
  have hwc : u.wc = s.wc := State.logEv_frame .wc rfl
  split
  case isTrue h => exact ⟨h, rfl, fun hg => by rw [hwc, hg]⟩
  case isFalse =>
    have hv : v.ms = u.ms := by
      unfold v
      split <;> rfl
    have hw : w.ms = v.ms := State.raiseTrigger_frame .ms rfl
    exact ⟨le_rfl, hw.trans hv, fun _ => rfl⟩

/-- Progress of a session is written to cartridge memory and the NV store alone. -/
def State.saveProgress (s : State) : State :=
  match s.ct.session with
  | some x => if x.state = 1 then s.writeProgress x x.kind else s
  | none => s

theorem State.saveProgress_frame {s : State} : Frame [.ct, .out] s s.saveProgress := by
  unfold State.saveProgress
  split
  · exact Frame.ite State.writeProgress_frame Frame.refl
  · exact Frame.refl

theorem State.saveSummary_ms (s : State) : ∃ lost, s.saveSummary.ms =
    { s.ms with nvSummary := summaryOf s.ms.log, nvSeq := s.ms.seq, nvLost := lost } := ⟨_, rfl⟩

/-- What PWR_WARN_N leaves of a part with no write held. -/
structure State.Warned (s t : State) : Prop where
  leaving : t.qe.leaving = true
  gates : t.wc.gates = []
  tripped : 3 ≤ t.sm.state
  power : t.ms.power = 0
  seq : s.ms.seq + 2 ≤ t.ms.seq
  summary : t.ms.nvSummary = summaryOf t.ms.log
  nvSeq : t.ms.nvSeq = t.ms.seq
  cmds : t.qe.cmds = s.qe.cmds
  slots : t.ce.slots = s.ce.slots
  tempMax : t.ms.tempMax = s.ms.tempMax
  clean : t.ms.clean = s.ms.clean

theorem State.warned_powerWarn {s : State} (h : s.ms.wakeBuf = []) : s.Warned s.powerWarn := by
  obtain ⟨-, ⟨m, c, n, b, hms⟩, hqe, hslots⟩ := State.roused_rouse h
  let u := { s.rouse with wc := { s.rouse.wc with gates := [], wmod := 0 } }.leaveService
  let v := u.trip 8 7
  let w := v.logEv .pwrWarn 0 0 0
  obtain ⟨htripped, hlogged, hgates⟩ := u.trip_trips 8 7
  obtain ⟨b1, n1, q1, c1, g1, h1⟩ := u.logEv_ms .trip 0 7 8
  obtain ⟨b2, n2, q2, c2, g2, h2⟩ := v.logEv_ms .pwrWarn 0 0 0
  have hframe : Frame [.regs, .ct, .ms, .out] v s.powerWarn := by
    change Frame _ v w.saveProgress.saveSummary
    exact ((State.logEv_frame.mono rfl).trans (State.saveProgress_frame.mono rfl)).trans (State.saveSummary_frame.mono rfl)
  obtain ⟨lost, hwarn⟩ : ∃ lost, s.powerWarn.ms =
      { w.ms with nvSummary := summaryOf w.ms.log, nvSeq := w.ms.seq, nvLost := lost } := by
    obtain ⟨lost, hsave⟩ := w.saveProgress.saveSummary_ms
    exact ⟨lost, hsave.trans (by rw [show w.saveProgress.ms = w.ms from State.saveProgress_frame .ms rfl])⟩
  have hall : w.ms = { s.ms with
      power := 0, moving := m, cause := c, since := n, wakeBuf := b, seq := s.ms.seq + 2
      seqBound := b2, nvSummary := n2, nvSeq := q2, nvLost := c2, log := g2 } := by
    rw [h2, show v.ms = _ from hlogged, h1, show u.ms = _ from hms]
  have hvqe : v.qe = { s.qe with leaving := true } := by
    rw [show v.qe = u.qe from State.trip_frame .qe rfl, ← hqe]
    rfl
  have hvce : v.ce.slots = s.ce.slots := by
    rw [show v.ce = u.ce from State.trip_frame .ce rfl, ← hslots]
    rfl
  rw [hall] at hwarn
  constructor
  · rw [hframe .qe rfl, hvqe]
  · rw [hframe .wc rfl]
    exact hgates rfl
  · rw [hframe .sm rfl]
    exact htripped
  · rw [hwarn]
  · rw [hwarn]
  · rw [hwarn]
  · rw [hwarn]
  · rw [hframe .qe rfl, hvqe]
  · rw [hframe .ce rfl, hvce]
  · rw [hwarn]
  · rw [hwarn]

theorem pwrWarnN_warns {s : State} (holdup : Bool) (h2 : s.ms.phase = 2) (hq : s.ms.quiescent = false)
    (hheld : s.ms.wakeBuf = []) : ∃ t, exec (.pwrWarnN holdup) s = .next t ∧ t.qe.leaving = true ∧ t.wc.gates = [] ∧
      3 ≤ t.sm.state ∧ t.ms.power = 0 ∧ s.ms.seq + 2 ≤ t.ms.seq ∧ t.ms.nvSummary = summaryOf t.ms.log ∧
      t.ms.nvSeq = t.ms.seq ∧ t.ms.shutDue = (if holdup then 1 else 0) ∧ t.qe.cmds = s.qe.cmds ∧ t.ce.slots = s.ce.slots := by
  have h := State.warned_powerWarn hheld
  refine ⟨{ s.powerWarn with ms := { s.powerWarn.ms with shutDue := if holdup then 1 else 0 } },
    congrArg Host.Outcome.next (if_neg (by simp [h2, hq])), ?_⟩
  generalize s.powerWarn = t at h
  exact ⟨h.leaving, h.gates, h.tripped, h.power, h.seq, h.summary, h.nvSeq, rfl, h.cmds, h.slots⟩

/-! ### The thermal limit (R520) -/

/-- A sensor's reading, as the running part takes it. -/
theorem exec_thermalLimit {s : State} {i : Nat} (x : Int) (hi : i < 25) (h2 : s.ms.phase = 2) :
    exec (.thermalLimit i x) s = .next (
      let s := { s with ms := { s.ms with tempMax := max s.ms.tempMax x } }
      if x ≤ 1840 ∨ s.ms.phase ≠ 2 ∨ s.ms.quiescent = true then s
      else (if s.qe.leaving then s else s.powerWarn).quiet) :=
  congrArg Host.Outcome.next (if_neg (by omega))

/-- A reading above 115 °C. -/
theorem thermalLimit_quiets {s : State} {i : Nat} {x : Int} (hi : i < 25) (h2 : s.ms.phase = 2)
    (hq : s.ms.quiescent = false) (hx : 1840 < x) (hheld : s.ms.wakeBuf = []) :
    ∃ t, exec (.thermalLimit i x) s = .next t ∧ t.ms.quiescent = true ∧ t.qe.leaving = true ∧
      t.wc.gates = [] ∧ t.sm.brake = true ∧ t.ms.tempMax = max s.ms.tempMax x ∧ t.ms.clean = s.ms.clean := by
  let u := { s with ms := { s.ms with tempMax := max s.ms.tempMax x } }
  have hrun : exec (.thermalLimit i x) s = .next (if u.qe.leaving then u else u.powerWarn).quiet :=
    (exec_thermalLimit x hi h2).trans (congrArg Host.Outcome.next (if_neg (by simp [h2, hq, hx])))
  have hwarned : u.Warned u.powerWarn := State.warned_powerWarn hheld
  refine ⟨_, hrun, rfl, ?_, rfl, rfl, ?_⟩
  · generalize u.powerWarn = t at hwarned
    split
    case isTrue h => exact h
    case isFalse => exact hwarned.leaving
  · generalize u.powerWarn = t at hwarned
    split
    case isTrue => exact ⟨rfl, rfl⟩
    case isFalse => exact ⟨hwarned.tempMax, hwarned.clean⟩

/-! ### SHUTDOWN_PREP (R145) -/

theorem State.Upholds.closeAll {s : State} : s.Upholds s.closeAll := by
  refine State.Upholds.fold (fun u k => ?_) _
  exact .ite (State.Upholds.logDeferred.trans .modStream) .refl

/-- The end of a mount leaves every ring bound as it was. -/
theorem State.dismount_reg (s : State) : (s.dismount false).reg .qeSqCfg = s.reg .qeSqCfg := by
  have hclose : s.Upholds s.closeLeft := State.Upholds.fold (fun _ _ => State.Upholds.logDeferred) _
  funext i k
  exact hclose.regs .qeSqCfg i k rfl

/-- What a shutdown does to the mount: nothing, or its end. -/
def State.endMountIfAny (s : State) : State := if s.ct.mounted then s.dismount false else s

theorem State.endMountIfAny_spec (s : State) : s.endMountIfAny.ct.mounted = false ∧ s.endMountIfAny.hi = s.hi ∧
    s.endMountIfAny.reg .qeSqCfg = s.reg .qeSqCfg := by
  unfold State.endMountIfAny
  split
  case isTrue => exact ⟨rfl, State.dismount_frame .hi rfl, s.dismount_reg⟩
  case isFalse h => exact ⟨Bool.eq_false_iff.mpr h, rfl, rfl⟩

/-- A shutdown that has nothing to write to tape. -/
theorem State.shutdownPrep_of_written {s : State} {c : Cmd} (ok : Bool) (hs : s.sessionRuns = false)
    (hc : s.streamsOpen = 0 ∨ bitOf (entFlags c.entry) 1 = true) (hm : s.ct.mounted = false ∨ s.ct.written = false) :
    s.shutdownPrep c ok =
      let t := ((s.closeAll.endMountIfAny.brakeTape).finishCmd c stSuccess 0 0).leaveService.saveSummary
      { t with ms := { t.ms with shutDue := 2 } } := by
  have hct : s.closeAll.ct = s.ct := State.closeAll_frame .ct rfl
  have hmount : (if s.closeAll.ct.mounted then s.closeAll.endMount ok false else (s.closeAll, true)) =
      (s.closeAll.endMountIfAny, true) := by
    unfold State.endMountIfAny
    split
    case isTrue h =>
      have hw : s.closeAll.ct.written = false := by
        rw [hct] at h ⊢
        exact hm.resolve_left (by simp [h])
      exact if_pos (by simp [hw])
    case isFalse => rfl
  have hclose : ¬ (0 < s.streamsOpen ∧ bitOf (entFlags c.entry) 1 = false) := by
    rintro ⟨h0, h1⟩
    exact hc.elim (by omega) (by simp [h1])
  unfold State.shutdownPrep
  rw [if_neg (by simp [hs]), if_neg hclose]
  dsimp only
  rw [hmount]
  rfl

theorem shutdownPrep_leaves {s : State} {id : Nat} {c : Cmd} (ok : Bool) (h : s.holds id 0x51 c) (hs : s.sessionRuns = false)
    (hc : s.streamsOpen = 0 ∨ bitOf (entFlags c.entry) 1 = true) (hm : s.ct.mounted = false ∨ s.ct.written = false) :
    ∃ t, exec (.shutdownPrep id ok) s = .next t ∧ s.told t c stSuccess 0 0 ∧ t.qe.leaving = true ∧
      t.ct.mounted = false ∧ t.ms.shutDue = 2 ∧ t.sm.brake = true ∧ t.wc.gates = [] ∧ t.ms.nvSummary = summaryOf t.ms.log := by
  have hexec := (State.onCommand_of_holds h fun s c => s.shutdownPrep c ok).trans (State.shutdownPrep_of_written ok hs hc hm)
  obtain ⟨hmounted, hhi, hreg⟩ := s.closeAll.endMountIfAny_spec
  have hw := State.notWrite_of_holds h rfl
  obtain ⟨-, -, -, hn⟩ := h
  have hcfg : s.closeAll.endMountIfAny.brakeTape.reg .qeSqCfg = s.reg .qeSqCfg :=
    hreg.trans (funext₂ fun i k => State.Upholds.closeAll.regs .qeSqCfg i k rfl)
  have hnu : s.closeAll.endMountIfAny.brakeTape.hi.ownerNext = none := by
    rw [State.brakeTape_frame .hi rfl, hhi]
    exact State.Upholds.closeAll.ownerNext hn
  have htold := State.told_finishCmd (s := s) (status := stSuccess) (detail := 0) (result := 0) hnu hcfg hw
  have hframe := State.finishCmd_frame_of_settled (status := stSuccess) (detail := 0) (result := 0) hnu hw
  have hct := hframe .ct rfl |>.trans (State.brakeTape_frame .ct rfl)
  have hsm := hframe .sm rfl
  have hwc := hframe .wc rfl
  refine ⟨_, congrArg Host.Outcome.next hexec, ?_⟩
  generalize s.closeAll.endMountIfAny.brakeTape.finishCmd c stSuccess 0 0 = t at htold hct hsm hwc
  have hbrake : t.sm.brake = true := by rw [hsm]; rfl
  have hgates : t.wc.gates = [] := by rw [hwc]; rfl
  have hkept : Frame [.ms] t.leaveService t.leaveService.saveSummary := State.saveSummary_frame
  obtain ⟨lost, hms⟩ := t.leaveService.saveSummary_ms
  have hlog : t.leaveService.saveSummary.ms.nvSummary = summaryOf t.leaveService.saveSummary.ms.log := by rw [hms]
  generalize t.leaveService.saveSummary = v at hkept hlog
  have hqe : v.qe = { t.qe with leaving := true } := hkept .qe rfl
  have hready : v.qe.ready = t.qe.ready := by rw [hqe]
  have hgone : v.cmd? c.id = t.cmd? c.id := congrFun (State.cmd?_congr (by rw [hqe])) c.id
  obtain ⟨hover, htold⟩ := htold
  refine ⟨⟨hgone.trans hover, fun hring => ?_⟩, by rw [hqe], ?_, rfl, ?_, ?_, hlog⟩
  · exact hready.symm ▸ htold hring
  · exact (congrArg CtState.mounted ((hkept .ct rfl).trans hct)).trans hmounted
  · exact (congrArg SmState.brake (hkept .sm rfl)).trans hbrake
  · exact (congrArg WcState.gates (hkept .wc rfl)).trans hgates

/-- Settles O51: each way out of service, by the operation that takes it. -/
theorem thePartLeavesService : Obligations.ThePartLeavesService := by
  refine ⟨fun s id c ok h hs => ⟨shutdownPrep_leaves ok h hs, fun ho hf => ?_⟩, fun s holdup => pwrWarnN_warns holdup,
    fun s r hd h2 hq hr => ⟨shutdownSelfTest_passes hd h2 hq hr r, shutdownSelfTest_fails hd h2 hq hr r⟩,
    fun s i x hi h2 hq => ⟨fun hx => ?_, thermalLimit_quiets hi h2 hq⟩,
    fun s p v h hms => ⟨msDbgCtrlUnlock_unlocks h hms, msDbgCtrlUnlock_rejected h hms, fun hv hm hr => ?_⟩⟩
  · have hrun : s.shutdownPrep c ok = s.finishCmd c stMediaBusy 1 0 := (if_neg (by simp [hs])).trans (if_pos ⟨ho, hf⟩)
    have hexec := (State.onCommand_of_holds h fun s c => s.shutdownPrep c ok).trans hrun
    have hw := State.notWrite_of_holds h rfl
    obtain ⟨-, -, -, hn⟩ := h
    have hframe := State.finishCmd_frame_of_settled (s := s) (status := stMediaBusy) (detail := 1) (result := 0) hn hw
    exact ⟨_, congrArg Host.Outcome.next hexec, State.told_finishCmd hn rfl hw, State.leaving_finishCmd _ _ _ hn hw,
      hframe .ct rfl, hframe .sm rfl⟩
  · exact (exec_thermalLimit x hi h2).trans (congrArg Host.Outcome.next (if_pos (.inl hx)))
  · refine (exec_msDbgCtrlUnlock v h).trans (congrArg Host.Outcome.next ?_)
    have hrest : ¬ (s.ct.mounted = true ∨ ¬ (s.sm.state = 0 ∨ s.sm.state = 4)) := by simp [hm, hr]
    unfold State.unlock
    rw [if_neg hrest, if_pos hv, ite_self]

end Sys2Proof.Machine
end

section
/-! MOUNT, UNMOUNT and the SENSE inputs (R114, R115, R171, R173, R286, R415 to R422). -/

namespace Sys2Proof.Machine

-- One theorem at a time: run ahead of the kernel, each would hold a thread and its stack.
set_option Elab.async false

/-! ### The end of a command after work on the cartridge -/

/-- Work that a command of the host may end on: every ring is bound as before, and no change of owner has come up. -/
structure State.Served (s u : State) : Prop where
  owner : s.hi.ownerNext = none → u.hi.ownerNext = none
  bound : u.reg .qeSqCfg = s.reg .qeSqCfg

namespace State.Served

variable {s t u : State}

theorem refl : s.Served s := ⟨id, rfl⟩

theorem trans (h1 : s.Served t) (h2 : t.Served u) : s.Served u :=
  ⟨fun h => h2.owner (h1.owner h), h2.bound.trans h1.bound⟩

theorem of_frame {l : List Part} (h : Frame l s t) (hh : l.contains .hi = false := by rfl)
    (hr : l.contains .regs = false := by rfl) (hb : l.contains .board = false := by rfl) : s.Served t :=
  ⟨fun hn => (congrArg HiState.ownerNext (h .hi hh)).trans hn, congrFun (State.reg_congr (h .regs hr) (h .board hb)) _⟩

theorem of_upholds (h : s.Upholds t) : s.Served t := ⟨h.ownerNext, funext₂ fun i k => h.regs .qeSqCfg i k rfl⟩

/-- A command that is not of the write class ends, and what it has no part in stays. -/
theorem ends (h : s.Served u) {id op : Nat} {c : Cmd} (st d r : Nat) (hc : s.holds id op c) (hw : isWriteClass op = false) :
    s.told (u.finishCmd c st d r) c st d r ∧ u.out <+: (u.finishCmd c st d r).out ∧
      Frame [.regs, .hi, .qe, .pe, .bm, .out] u (u.finishCmd c st d r) := by
  have hop := State.notWrite_of_holds hc hw
  obtain ⟨-, -, -, hn⟩ := hc
  exact ⟨State.told_finishCmd (h.owner hn) h.bound hop, (State.Posts.finishCmd (h.owner hn)).out,
    State.finishCmd_frame_of_settled (h.owner hn) hop⟩

end State.Served

theorem State.giveBack_of_gone {s : State} {k : Nat} (h : s.stream? k = none) (n : Nat) : s.giveBack k n = s := by
  unfold State.giveBack
  rw [h]

/-- With no stream left, the end of a command changes nothing of PE but its list of reads. -/
theorem State.finishCmd_pe_of_noStreams {s : State} {c : Cmd} (st d r : Nat) (hs : s.pe.streams = [])
    (hw : isWriteClass (entOpcode c.entry) = false) (hn : s.hi.ownerNext = none) :
    ∃ l, (s.finishCmd c st d r).pe = { s.pe with reads := l } := by
  refine ⟨s.pe.reads.filter (·.cmd != c.id), ?_⟩
  unfold State.finishCmd
  extract_lets wc s1 res s2 s3 s4
  have h1 : s1 = s := by
    unfold s1
    split
    · split
      · rfl
      · exact State.giveBack_of_gone (by rw [State.stream?, hs]; rfl) _
    · rfl
  have h2 : s2 = s := by
    unfold s2 wc
    rw [hw, h1]
    split <;> rfl
  have h4 : Frame [.qe] s3 s4 := State.countReset_frame
  have hown : s4.hi.ownerNext = none := by
    rw [h4 .hi rfl, show s3.hi = s2.hi from rfl, h2, hn]
  rw [State.settleOwner, State.Upholds.makeReady.ownerNext hown]
  refine (State.makeReady_frame .pe rfl).trans ((h4 .pe rfl).trans ?_)
  unfold s3
  rw [h2]
  rfl

/-! ### A cartridge taken in (R418) -/

/-- The image that runs is told by the pointer and the two slots. -/
theorem State.activeImage_logDeferred (s : State) (k : Nat) : (s.logDeferred k).activeImage = s.activeImage := by
  unfold State.logDeferred
  split
  · split
    · split
      case isTrue =>
        extract_lets v
        obtain ⟨b, n, q, c, g, hms⟩ := v.logEv_ms .deferredLost _ _ _
        unfold State.activeImage
        rw [hms]
        rfl
      case isFalse => rfl
    · rfl
  · rfl

theorem State.activeImage_closeLeft (s : State) : s.closeLeft.activeImage = s.activeImage :=
  List.foldlRecOn (motive := fun u : State => u.activeImage = s.activeImage) _ _ rfl fun u h k _ =>
    (u.activeImage_logDeferred k).trans h

theorem State.Upholds.closeLeft {s : State} : s.Upholds s.closeLeft := State.Upholds.fold (fun _ _ => .logDeferred) _

/-- The part with a cartridge engaged whose memory can be read, nothing of the one before left. -/
def State.engaged (s : State) (c : Cmd) : State :=
  { s.closeLeft.emptyPe.emptyDf.mountCalibration with ct := { s.closeLeft.emptyPe.emptyDf.mountCalibration.ct with
    gpio := 1, wp := s.senses 2, cmOk := true, readOnly := s.senses 2 || bitOf (entFlags c.entry) 1 || false, scan := none
    written := false, formatted := false } }

theorem State.senses_closeLeft (s : State) (b : Nat) : s.closeLeft.senses b = s.senses b := by
  have hreg : s.closeLeft.reg .ctSensePol 0 0 = s.reg .ctSensePol 0 0 := State.Upholds.closeLeft.regs _ _ _ (by decide)
  have hct : s.closeLeft.ct = s.ct := State.closeLeft_frame .ct rfl
  unfold State.senses State.sense State.fld
  rw [hreg, hct]

/-- Steps 2 to 4 of a MOUNT whose cartridge holds its leader at the hub and no session's record. -/
theorem State.mountSteps_of_ready {s : State} {c : Cmd} {ps : List BufPiece} {m : MediaRead} {cm : Bytes}
    (hcm : m.cm = some cm) (hhub : s.senses 4 = true) (ht : m.tension = true)
    (hp : ((s.progress? m.cm).bind fun b => if fieldBE b 4 1 = 0 then none else some b) = none) :
    s.mountSteps c ps m = (s.engaged c).threadIn.mountClass c ps m := by
  have hct : s.closeLeft.ct = s.ct := State.closeLeft_frame .ct rfl
  have hprog : (s.engaged c).progress? m.cm = s.progress? m.cm := by
    unfold State.progress?
    rw [show (s.engaged c).ct.nvProgress = s.closeLeft.ct.nvProgress from rfl, hct]
  have hsense : (s.engaged c).senses 4 = true := by
    rw [← hhub, ← s.senses_closeLeft 4]
    rfl
  have hcmd : s.mountSteps c ps m = (match ((s.engaged c).progress? m.cm).bind fun b =>
      if fieldBE b 4 1 = 0 then none else some b with
    | some b => ((s.engaged c).resumeSession b m).finishCmd c stMediaBusy 2 0
    | none =>
      let hub := (s.engaged c).senses 4
      if !hub && !m.threaded then (s.engaged c).mountFails c 3 stReadFault 6
      else
        let u := if hub then s.engaged c else (s.engaged c).bump .ctLoads 0 0
        if !m.tension then u.mountFails c 4 stReadFault 6
        else u.threadIn.mountClass c ps m) := by
    unfold State.mountSteps
    rw [hcm]
    rfl
  rw [hcmd, hprog, hp]
  simp only [hsense, ht, Bool.not_true, Bool.false_and, Bool.false_eq_true, if_false, if_true]

/-- A MOUNT that succeeds, once what it found has been taken up. -/
theorem State.mounted_ends {s v : State} {id : Nat} {c : Cmd} (h : s.Served v) (hc : s.holds id 0x01 c)
    (ps : List BufPiece) (d : Nat) : s.told (v.mounted c ps d) c stSuccess d 0 ∧
      Frame [.regs, .hi, .qe, .pe, .bm, .out] v (v.mounted c ps d) ∧
      (v.pe.streams = [] → ∃ l, (v.mounted c ps d).pe = { v.pe with reads := l }) := by
  let u := if 64 ≤ entLen c.entry then v.scatter c v.mountSummary ps else v
  have hu : Frame [.out] v u := Frame.ite State.scatter_frame Frame.refl
  have hserved : s.Served u := h.trans (.of_frame hu)
  obtain ⟨htold, -, hframe⟩ := hserved.ends stSuccess d 0 hc rfl
  refine ⟨htold, (hu.mono rfl).trans hframe, fun hs => ?_⟩
  have hpe : u.pe = v.pe := hu .pe rfl
  have hw := State.notWrite_of_holds hc rfl
  obtain ⟨-, -, -, hn⟩ := hc
  obtain ⟨l, hl⟩ := State.finishCmd_pe_of_noStreams (s := u) (c := c) stSuccess d 0 (hpe ▸ hs) hw (hserved.owner hn)
  exact ⟨l, hl.trans (by rw [hpe])⟩

theorem State.served_threaded (s : State) (c : Cmd) : s.Served (s.engaged c).threadIn := by
  have hclose : s.Served s.closeLeft := .of_upholds .closeLeft
  have hempty : s.closeLeft.Served (s.engaged c) := ⟨id, rfl⟩
  refine (hclose.trans hempty).trans ⟨id, funext₂ fun i k => ?_⟩
  exact State.reg_setReg_ne _ 0 (by simp)

/-- MOUNT with a good buffer, while nothing forbids it. -/
theorem exec_mount {s : State} {id : Nat} {ps l : List BufPiece} {m : MediaRead} {c : Cmd} (h : s.holds id 0x01 c)
    (hb : c.buffer ps = some l) (hl : s.ct.leaving = false) (hs : s.sessionRuns = false) :
    exec (.mount id ps m) s = .next (if s.ct.mounted && !s.ct.removed then s.mounted c l 0x10
      else if !s.senses 0 || !s.senses 1 then (s.unthread.chimeAll 0x104 1 0).finishCmd c stNoMedia 1 0
      else s.mountSteps c l m) := by
  refine congrArg Host.Outcome.next ((State.onCommand_of_holds h _).trans ?_)
  rw [State.withBuffer, hb]
  exact (if_neg (by simp [hl])).trans (if_neg (by simp [hs]))

/-- MOUNT of a cartridge that is there, is the drive's and is not mounted yet. -/
theorem exec_mount_of_there {s : State} {id : Nat} {ps l : List BufPiece} {m : MediaRead} {c : Cmd} {cm : Bytes}
    (h : s.holds id 0x01 c) (hb : c.buffer ps = some l) (hl : s.ct.leaving = false) (hs : s.sessionRuns = false)
    (hm : s.ct.mounted = false ∨ s.ct.removed = true) (h0 : s.senses 0 = true) (h1 : s.senses 1 = true)
    (h4 : s.senses 4 = true) (hcm : m.cm = some cm) (ht : m.tension = true)
    (hp : ((s.progress? m.cm).bind fun b => if fieldBE b 4 1 = 0 then none else some b) = none)
    (hf : foreign m = false) :
    exec (.mount id ps m) s = .next (match labelRead m with
      | some (lab, d) => (s.engaged c).threadIn.mountFormatted c l m lab d
      | none => if formatSeen m then (s.engaged c).threadIn.mountFails c 5 stReadFault 0x10
          else ({ (s.engaged c).threadIn with ct := { (s.engaged c).threadIn.ct with
            mounted := true, formatted := false } }).mounted c l 0x11) := by
  have hnew : ¬ (s.ct.mounted && !s.ct.removed) = true := by
    rcases hm with hm | hm <;> simp [hm]
  rw [exec_mount h hb hl hs, if_neg hnew, if_neg (by simp [h0, h1]), State.mountSteps_of_ready hcm h4 ht hp]
  exact congrArg Host.Outcome.next (if_neg (by simp [hf]))

/-- A blank cartridge (R419). -/
theorem mount_blank {s : State} {id : Nat} {ps l : List BufPiece} {m : MediaRead} {c : Cmd} {cm : Bytes}
    (h : s.holds id 0x01 c) (hb : c.buffer ps = some l) (hl : s.ct.leaving = false) (hs : s.sessionRuns = false)
    (hm : s.ct.mounted = false ∨ s.ct.removed = true) (h0 : s.senses 0 = true) (h1 : s.senses 1 = true)
    (h4 : s.senses 4 = true) (hcm : m.cm = some cm) (ht : m.tension = true)
    (hp : ((s.progress? m.cm).bind fun b => if fieldBE b 4 1 = 0 then none else some b) = none)
    (hf : foreign m = false) (hlab : labelRead m = none) (hseen : formatSeen m = false) :
    ∃ t, exec (.mount id ps m) s = .next t ∧ s.told t c stSuccess 0x11 0 ∧
      t.ct.mounted = true ∧ t.ct.formatted = false ∧ t.ct.threaded = true ∧ t.sm.state = 1 ∧ t.sm.brake = false ∧
      t.pe.streams = [] ∧ t.pe.frontier = none ∧ t.df.datasets = [] := by
  have hexec := exec_mount_of_there h hb hl hs hm h0 h1 h4 hcm ht hp hf
  rw [hlab, hseen] at hexec
  let v := { (s.engaged c).threadIn with ct := { (s.engaged c).threadIn.ct with mounted := true, formatted := false } }
  have hv : s.Served v := (s.served_threaded c).trans ⟨fun hn => hn, rfl⟩
  obtain ⟨htold, hframe, hpe⟩ := State.mounted_ends hv h l 0x11
  obtain ⟨r, hpe⟩ := hpe rfl
  refine ⟨_, hexec, htold, (congrArg CtState.mounted (hframe .ct rfl) :), (congrArg CtState.formatted (hframe .ct rfl) :),
    (congrArg CtState.threaded (hframe .ct rfl) :), (congrArg SmState.state (hframe .sm rfl) :),
    (congrArg SmState.brake (hframe .sm rfl) :), (congrArg PeState.streams hpe :), (congrArg PeState.frontier hpe :),
    (congrArg DfState.datasets (hframe .df rfl) :)⟩

/-- PE, DF, CT and SM with the root of a closed summary taken as it stands, which names no book. -/
def State.withRoot (s : State) (r : Bytes) : State :=
  let w := fieldBE r 26 1
  let s := { s with ct := { s.ct with cart := { s.ct.cart with rootSeq := fieldBE r 4 4 } } }
  let s := { s with
    pe := { s.pe with frontier := some (w, s.extentAt w (fieldBE r 28 4)), nextDataset := fieldBE r 20 6 }
    df := { s.df with nextGroup := fieldBE r 32 4 + natOf (decide (0 < fieldBE r 36 1)) } }
  let s := s.takeBook fieldBook0 []
  { s with sm := { s.sm with wrap := some w, band := some (bandOf w) } }

/-- What label and root give. -/
theorem State.withRoot_takes (s : State) (m : MediaRead) (lab r : Bytes) (d : DatumRead) :
    let t := (s.takeLabel m lab d).withRoot r
    t.ct.formatted = true ∧ t.ct.threaded = s.ct.threaded ∧ t.ct.readOnly = s.ct.readOnly ∧
      t.ct.cart.serial = fieldBE (m.cm.getD []) 0 8 ∧ t.ct.cart.endTick = fieldBE lab 8 4 ∧
      t.pe.frontier.map (·.1) = some (fieldBE r 26 1) ∧ t.pe.nextDataset = fieldBE r 20 6 ∧ t.pe.streams = [] ∧
      t.pe.books = [] := ⟨rfl, rfl, rfl, rfl, rfl, rfl, rfl, rfl, rfl⟩

/-- The root in the closed summary, where no replica is newer, is taken as it stands (R173). -/
theorem State.takeUp_of_closed {s : State} {m : MediaRead} {cm lab b r : Bytes} {d : DatumRead} (hk : s.knowsLabel lab = true)
    (hcm : m.cm = some cm) (hb : summaryOfCm cm = some b) (hclosed : fieldBE b 8 1 = 0)
    (hr : rootOf (part b 16 64) = some r) (hbook : rootBook r = none)
    (hrep : ∀ q, newer 4 (d.rootA.bind rootOf) (d.rootB.bind rootOf) = some q → ¬ fieldBE r 8 6 < fieldBE q 8 6) :
    s.takeUp m lab d = .inr ((s.takeLabel m lab d).withRoot r) := by
  have hread : readBooks m r = some (fieldBook0, []) := by
    unfold readBooks
    rw [hbook]
  have hopen : (s.takeLabel m lab d).ct.cart.summaryOpen = false := by simp [State.takeLabel, hcm, hb, hclosed]
  have hsroot : ((m.cm.bind summaryOfCm).bind fun b => rootOf (part b 16 64)) = some r := by simp [hcm, hb, hr]
  unfold State.takeUp
  rw [if_neg (by simp [hk]), hsroot]
  cases hq : newer 4 (d.rootA.bind rootOf) (d.rootB.bind rootOf) with
  | none =>
    dsimp only
    rw [if_pos (by simp [hopen]), State.takeRoot, hread]
    rfl
  | some q =>
    dsimp only
    rw [if_neg (hrep q hq)]
    dsimp only
    rw [if_pos (by simp [hopen]), State.takeRoot, hread]
    rfl

/-- A formatted cartridge with a closed summary (R173, R419). -/
theorem mount_formatted {s : State} {id : Nat} {ps l : List BufPiece} {m : MediaRead} {c : Cmd} {cm : Bytes}
    (h : s.holds id 0x01 c) (hb : c.buffer ps = some l) (hl : s.ct.leaving = false) (hs : s.sessionRuns = false)
    (hm : s.ct.mounted = false ∨ s.ct.removed = true) (h0 : s.senses 0 = true) (h1 : s.senses 1 = true)
    (h4 : s.senses 4 = true) (hcm : m.cm = some cm) (ht : m.tension = true)
    (hp : ((s.progress? m.cm).bind fun b => if fieldBE b 4 1 = 0 then none else some b) = none)
    (hf : foreign m = false) {lab b r : Bytes} {d : DatumRead} (hlab : labelRead m = some (lab, d))
    (hk : s.knowsLabel lab = true) (hsum : summaryOfCm cm = some b) (hclosed : fieldBE b 8 1 = 0)
    (hr : rootOf (part b 16 64) = some r) (hbook : rootBook r = none)
    (hrep : ∀ q, newer 4 (d.rootA.bind rootOf) (d.rootB.bind rootOf) = some q → ¬ fieldBE r 8 6 < fieldBE q 8 6) :
    ∃ t, exec (.mount id ps m) s = .next t ∧
      s.told t c stSuccess (if s.senses 2 || bitOf (entFlags c.entry) 1 then 0x12 else 0) 0 ∧
      t.ct.mounted = true ∧ t.ct.formatted = true ∧ t.ct.threaded = true ∧
      t.ct.readOnly = (s.senses 2 || bitOf (entFlags c.entry) 1) ∧ t.ct.cart.serial = fieldBE cm 0 8 ∧
      t.ct.cart.endTick = fieldBE lab 8 4 ∧ t.pe.frontier.map (·.1) = some (fieldBE r 26 1) ∧
      t.pe.nextDataset = fieldBE r 20 6 ∧ t.pe.streams = [] ∧ t.pe.books = [] := by
  have hknown : (s.engaged c).threadIn.knowsLabel lab = true := by
    rw [← hk]
    unfold State.knowsLabel
    rw [show (s.engaged c).threadIn.activeImage = s.activeImage from s.activeImage_closeLeft]
  have htake := State.takeUp_of_closed (lab := lab) hknown hcm hsum hclosed hr hbook hrep
  have hframe := State.takeUp_frame htake
  obtain ⟨hformat, hthread, hro, hserial, hend, hfront, hnext, hstreams, hbooks⟩ :=
    (s.engaged c).threadIn.withRoot_takes m lab r d
  have hexec := exec_mount_of_there h hb hl hs hm h0 h1 h4 hcm ht hp hf
  rw [hlab] at hexec
  dsimp only at hexec
  rw [State.mountFormatted, htake] at hexec
  generalize ((s.engaged c).threadIn.takeLabel m lab d).withRoot r = w at *
  dsimp only at hexec
  let v := { w with ct := { w.ct with mounted := true } }
  have hv : s.Served v := (s.served_threaded c).trans (.of_frame (Frame.ct hframe rfl))
  have hro : w.ct.readOnly = (s.senses 2 || bitOf (entFlags c.entry) 1) := hro.trans (Bool.or_false _)
  obtain ⟨htold, hkept, hpe⟩ := State.mounted_ends hv h l (if w.ct.readOnly then 0x12 else 0)
  obtain ⟨q, hpe⟩ := hpe hstreams
  have hct := hkept .ct rfl
  rw [← hro]
  refine ⟨_, hexec, htold, ?_⟩
  generalize v.mounted c l (if w.ct.readOnly then 0x12 else 0) = t at hpe hct
  rw [hct, hpe]
  rw [hcm] at hserial
  exact ⟨rfl, hformat, hthread, rfl, hserial, hend, hfront, hnext, hstreams, hbooks⟩

theorem State.Upholds.chimeAll {s : State} {code a b : Nat} : s.Upholds (s.chimeAll code a b) :=
  State.Upholds.fold (fun _ _ => .chime) _

/-- MOUNT with no cartridge loaded: whatever was threaded is let go. -/
theorem mount_unloaded {s : State} {id : Nat} {ps l : List BufPiece} {m : MediaRead} {c : Cmd}
    (h : s.holds id 0x01 c) (hb : c.buffer ps = some l) (hl : s.ct.leaving = false) (hs : s.sessionRuns = false)
    (hm : s.ct.mounted = false ∨ s.ct.removed = true) (hout : s.senses 0 = false ∨ s.senses 1 = false) :
    ∃ t, exec (.mount id ps m) s = .next t ∧ s.told t c stNoMedia 1 0 ∧
      t.ct = { s.ct with threaded := false, gpio := 0 } ∧ t.sm.brake = true ∧ t.sm.reels = 0 ∧ t.df = s.df := by
  have hnew : ¬ (s.ct.mounted && !s.ct.removed) = true := by
    rcases hm with hm | hm <;> simp [hm]
  have hopen : (!s.senses 0 || !s.senses 1) = true := by
    rcases hout with h0 | h1 <;> simp [*]
  have hexec := exec_mount (m := m) h hb hl hs
  rw [if_neg hnew, if_pos hopen] at hexec
  have hserved : s.Served (s.unthread.chimeAll 0x104 1 0) :=
    State.Served.trans (t := s.unthread) ⟨fun hn => hn, rfl⟩ (.of_upholds .chimeAll)
  obtain ⟨htold, -, hframe⟩ := hserved.ends stNoMedia 1 0 h rfl
  have hkept : Frame [.regs, .hi, .qe, .out, .pe, .bm] s.unthread ((s.unthread.chimeAll 0x104 1 0).finishCmd c stNoMedia 1 0) :=
    (State.chimeAll_frame.mono rfl).trans (hframe.mono rfl)
  have hsm := hkept .sm rfl
  exact ⟨_, hexec, htold, hkept .ct rfl, by rw [hsm]; rfl, by rw [hsm]; rfl, hkept .df rfl⟩

/-! ### UNMOUNT (R115, R171, R422) -/

/-- UNMOUNT of a mounted cartridge with no stream open. -/
theorem exec_unmount {s : State} {id : Nat} {c : Cmd} (ok : Bool) (h : s.holds id 0x02 c) (hs : s.sessionRuns = false)
    (hm : s.ct.mounted = true) (ho : s.streamsOpen = 0) :
    exec (.unmount id ok) s = .next (let r := s.endMount ok (bitOf (entFlags c.entry) 1)
      if r.2 then r.1.finishCmd c stSuccess 0 0 else r.1) :=
  congrArg Host.Outcome.next ((State.onCommand_of_holds h _).trans ((if_neg (by simp [hs])).trans
    ((if_neg (by simp [hm])).trans (if_neg (by omega)))))

/-- What the end of a mount leaves. -/
theorem State.dismount_spec (s : State) (unload : Bool) : (s.dismount unload).ct.mounted = false ∧
    (s.dismount unload).pe.streams = [] ∧ (s.dismount unload).ct.cart = s.ct.cart ∧
    (unload = false → (s.dismount unload).ct.threaded = s.ct.threaded ∧ (s.dismount unload).sm = s.sm) ∧
    (unload = true → (s.dismount unload).ct.threaded = false ∧ (s.dismount unload).sm.state = 0 ∧
      (s.dismount unload).sm.brake = true ∧ (s.dismount unload).sm.engines = []) := by
  have hct : s.closeLeft.ct = s.ct := State.closeLeft_frame .ct rfl
  have hsm : s.closeLeft.sm = s.sm := State.closeLeft_frame .sm rfl
  unfold State.dismount
  rw [← hct, ← hsm]
  cases unload with
  | false => exact ⟨rfl, rfl, rfl, fun _ => ⟨rfl, rfl⟩, fun h => (nomatch h)⟩
  | true => exact ⟨rfl, rfl, rfl, fun h => (nomatch h), fun _ => ⟨rfl, rfl, rfl, rfl⟩⟩

theorem State.served_dismount (s : State) (unload : Bool) : s.Served (s.dismount unload) := by
  refine (State.Served.of_upholds .closeLeft).trans ?_
  unfold State.dismount
  cases unload with
  | false => exact ⟨fun hn => hn, rfl⟩
  | true => exact ⟨fun hn => hn, rfl⟩

/-- The end of a command after the end of a mount. -/
theorem State.unmount_ends {s v : State} {id : Nat} {c : Cmd} (hv : s.Served v) (h : s.holds id 0x02 c) (unload : Bool) :
    s.told ((v.dismount unload).finishCmd c stSuccess 0 0) c stSuccess 0 0 ∧
      v.out <+: ((v.dismount unload).finishCmd c stSuccess 0 0).out ∧
      ((v.dismount unload).finishCmd c stSuccess 0 0).ct = (v.dismount unload).ct ∧
      ((v.dismount unload).finishCmd c stSuccess 0 0).sm = (v.dismount unload).sm ∧
      ((v.dismount unload).finishCmd c stSuccess 0 0).pe.streams = [] := by
  have hserved := hv.trans (v.served_dismount unload)
  obtain ⟨htold, hout, hframe⟩ := hserved.ends stSuccess 0 0 h rfl
  obtain ⟨-, hstreams, -, -, -⟩ := v.dismount_spec unload
  have hw := State.notWrite_of_holds h rfl
  obtain ⟨-, -, -, hn⟩ := h
  obtain ⟨l, hl⟩ := State.finishCmd_pe_of_noStreams (c := c) stSuccess 0 0 hstreams hw (hserved.owner hn)
  refine ⟨htold, ?_, hframe .ct rfl, hframe .sm rfl, ?_⟩
  · rwa [State.dismount_frame .out rfl] at hout
  · rw [hl]
    exact hstreams

/-- UNMOUNT of a cartridge that the mount has not written. -/
theorem unmount_unwritten {s : State} {id : Nat} {c : Cmd} (ok : Bool) (h : s.holds id 0x02 c) (hs : s.sessionRuns = false)
    (hm : s.ct.mounted = true) (ho : s.streamsOpen = 0) (hw : s.ct.written = false) :
    ∃ t, exec (.unmount id ok) s = .next t ∧ s.told t c stSuccess 0 0 ∧ t.ct.mounted = false ∧
      t.pe.streams = [] ∧ t.ct.cart = s.ct.cart ∧
      (bitOf (entFlags c.entry) 1 = false → t.ct.threaded = s.ct.threaded ∧ t.sm = s.sm) ∧
      (bitOf (entFlags c.entry) 1 = true → t.ct.threaded = false ∧ t.sm.state = 0 ∧ t.sm.brake = true ∧ t.sm.engines = []) := by
  have hexec := exec_unmount ok h hs hm ho
  have hend : s.endMount ok (bitOf (entFlags c.entry) 1) = (s.dismount (bitOf (entFlags c.entry) 1), true) :=
    if_pos (by simp [hw])
  rw [hend] at hexec
  obtain ⟨htold, -, hct, hsm, hstreams⟩ := State.unmount_ends .refl h (bitOf (entFlags c.entry) 1)
  obtain ⟨hmounted, -, hcart, hstay, hunload⟩ := s.dismount_spec (bitOf (entFlags c.entry) 1)
  refine ⟨_, hexec, htold, ?_⟩
  dsimp only
  rw [if_pos rfl, hct, hsm]
  exact ⟨hmounted, hstreams, hcart, hstay, hunload⟩

/-- Hints written to cartridge memory are sent, and nothing else happens. -/
theorem State.writeHints_eq (s : State) : ∃ o, s.writeHints = { s with out := o } := by
  refine List.foldlRecOn (motive := fun u : State => ∃ o, u = { s with out := o }) _ _ ⟨s.out, rfl⟩ fun u h e _ => ?_
  obtain ⟨o, rfl⟩ := h
  exact ⟨_, rfl⟩

/-- What the root and the closed summary are when a mount that has written ends. -/
theorem State.writeRoot_spec (s : State) : (s.writeRoot true).ct.cart.summaryOpen = false ∧ s.Served (s.writeRoot true) ∧
    Out.datum (if s.ct.cart.rootA ≤ s.ct.cart.rootB then 4 else 5)
      (s.rootRecord (max s.ct.cart.rootSeq (max s.ct.cart.rootA s.ct.cart.rootB) + 1)) ∈ (s.writeRoot true).out ∧
    Out.cm (if s.ct.cart.sumA ≤ s.ct.cart.sumB then 0x200 else 0x280)
      (summaryBytes (max s.ct.cart.sumA s.ct.cart.sumB + 1) false
        (s.rootRecord (max s.ct.cart.rootSeq (max s.ct.cart.rootA s.ct.cart.rootB) + 1))) ∈ (s.writeRoot true).out := by
  refine ⟨rfl, ⟨fun hn => hn, rfl⟩, ?_⟩
  have hout : (s.writeRoot true).out = s.out ++
      [.datum (if decide (s.ct.cart.rootA ≤ s.ct.cart.rootB) then 4 else 5)
        (s.rootRecord (max s.ct.cart.rootSeq (max s.ct.cart.rootA s.ct.cart.rootB) + 1))] ++
      [.cm (if decide (s.ct.cart.sumA ≤ s.ct.cart.sumB) then 0x200 else 0x280)
        (summaryBytes (max s.ct.cart.sumA s.ct.cart.sumB + 1) false
          (s.rootRecord (max s.ct.cart.rootSeq (max s.ct.cart.rootA s.ct.cart.rootB) + 1)))] := rfl
  rw [hout]
  simp

/-- A mount that has written, with all of it verified on tape, ends at once. -/
theorem State.endMount_of_quiet {s : State} (unload : Bool) (hw : s.ct.written = true) (hb : s.writeBlock = none)
    (howed : s.bookOwed = false) (hd : s.pe.bookDue = false) (hds : s.df.datasets = []) (hr : s.df.restartDue = [])
    (hg : s.df.groups = []) (hv : s.df.voidDue = 0) (hx : ∀ x ∈ s.pe.streams.vals, x.seqEnd ≤ x.durable) :
    s.endMount true unload =
      ((({ s with ct := { s.ct with leaving := true } }).writeHints.writeRoot true).dismount unload, true) := by
  let u := { s with ct := { s.ct with leaving := true } }
  have hprep : u.prepareUnmount = u := by
    unfold State.prepareUnmount
    rw [if_neg (by rw [show u.bookOwed = s.bookOwed from rfl, howed]; simp)]
    have hlast : u.df.groups.getLast? = none := by rw [show u.df.groups = [] from hg]; rfl
    rw [hlast, ite_self]
  have hquiet : u.tapeQuiet = true := by
    have hdu : u.df.datasets = [] := hds
    have hru : u.df.restartDue = [] := hr
    have hgu : u.df.groups = [] := hg
    have hvu : u.df.voidDue = 0 := hv
    have hbu : u.pe.bookDue = false := hd
    have hxu : (u.pe.streams.vals.all fun x => decide (x.seqEnd ≤ x.durable)) = true :=
      List.all_eq_true.mpr fun x hmem => decide_eq_true (hx x hmem)
    unfold State.tapeQuiet
    rw [hdu, hru, hgu, hvu, hbu, hxu]
    rfl
  refine (if_neg (by simp [hw, hb])).trans ?_
  change (if u.prepareUnmount.tapeQuiet then ((u.prepareUnmount.writeHints.writeRoot true).dismount unload, true)
    else (u.prepareUnmount, false)) = _
  rw [hprep, if_pos hquiet]

/-- UNMOUNT of a cartridge that the mount has written, with all of it verified. -/
theorem unmount_written {s : State} {id : Nat} {c : Cmd} (h : s.holds id 0x02 c) (hs : s.sessionRuns = false)
    (hm : s.ct.mounted = true) (ho : s.streamsOpen = 0) (hw : s.ct.written = true) (hb : s.writeBlock = none)
    (howed : s.bookOwed = false) (hd : s.pe.bookDue = false) (hds : s.df.datasets = []) (hr : s.df.restartDue = [])
    (hg : s.df.groups = []) (hv : s.df.voidDue = 0) (hx : ∀ x ∈ s.pe.streams.vals, x.seqEnd ≤ x.durable) :
    let q := max s.ct.cart.rootSeq (max s.ct.cart.rootA s.ct.cart.rootB) + 1
    ∃ t, exec (.unmount id true) s = .next t ∧ s.told t c stSuccess 0 0 ∧ t.ct.mounted = false ∧
      Out.datum (if s.ct.cart.rootA ≤ s.ct.cart.rootB then 4 else 5) (s.rootRecord q) ∈ t.out ∧
      Out.cm (if s.ct.cart.sumA ≤ s.ct.cart.sumB then 0x200 else 0x280)
        (summaryBytes (max s.ct.cart.sumA s.ct.cart.sumB + 1) false (s.rootRecord q)) ∈ t.out ∧
      t.ct.cart.summaryOpen = false := by
  have hexec := exec_unmount true h hs hm ho
  rw [State.endMount_of_quiet _ hw hb howed hd hds hr hg hv hx] at hexec
  obtain ⟨o, hhints⟩ := State.writeHints_eq { s with ct := { s.ct with leaving := true } }
  rw [hhints] at hexec
  let u := { s with ct := { s.ct with leaving := true }, out := o }
  obtain ⟨hopen, hserved, hroot, hsum⟩ := u.writeRoot_spec
  have hu : s.Served (u.writeRoot true) := State.Served.trans (t := u) ⟨fun hn => hn, rfl⟩ hserved
  obtain ⟨htold, hout, hct, -, -⟩ := State.unmount_ends hu h (bitOf (entFlags c.entry) 1)
  obtain ⟨hmounted, -, hcart, -, -⟩ := (u.writeRoot true).dismount_spec (bitOf (entFlags c.entry) 1)
  refine ⟨_, hexec, htold, ?_⟩
  dsimp only
  rw [if_pos rfl, hct]
  exact ⟨hmounted, hout.subset hroot, hout.subset hsum, by rw [hcart]; exact hopen⟩

/-- A trip of a transport that was not tripped stops writing. -/
theorem State.trip_stops (s : State) (cause engine : Nat) (h : s.sm.state < 3) :
    (s.trip cause engine).wc.gates = [] ∧ (s.trip cause engine).df.running = false := by
  unfold State.trip
  extract_lets u v w
  have hsm : u.sm = s.sm := State.logEv_frame .sm rfl
  split
  case isTrue h3 =>
    rw [hsm] at h3
    omega
  case isFalse => exact ⟨rfl, rfl⟩

/-! ### The SENSE inputs (R416, R417) -/

/-- The debounced levels as they now stand. -/
def State.withPins (s : State) (pins : Nat) : State := { s with ct := { s.ct with pins := pins % 256 } }

/-- The part told of new levels, before it judges whether a cartridge has left. -/
def State.sensed (s : State) (pins : Nat) : State :=
  let u := ((s.withPins pins).wake 3).chimeAll 0x103 (s.withPins pins).sense 0
  if u.ct.mounted ∧ bitOf (s.withPins pins).sense 2 ≠ bitOf s.sense 2 then
    u.logEv .wpChange 0 0 (natOf (bitOf (s.withPins pins).sense 2))
  else u

theorem State.wake_regsBut (s : State) (k : Nat) :
    State.regsBut [.msResA1, .msResA2, .msResA3, .msWakes, .msPwrReq] s (s.wake k) := by
  unfold State.wake
  split
  · exact State.regsBut_refl
  · exact State.regsBut_trans (State.regsBut_mono s.countResidency_regsBut (by simp))
      (State.regsBut_trans (State.regsBut_bumpBy (by simp)) (State.regsBut_setFld (by simp)))

/-- Being told of new levels moves nothing of the cartridge but the pins, and reads the same polarity. -/
theorem State.sensed_spec (s : State) (pins : Nat) : Frame [.regs, .hi, .qe, .ms, .out] (s.withPins pins) (s.sensed pins) ∧
    (s.sensed pins).reg .ctSensePol 0 0 = s.reg .ctSensePol 0 0 ∧ s.ms.seq ≤ (s.sensed pins).ms.seq := by
  let w := (s.withPins pins).wake 3
  let u := w.chimeAll 0x103 (s.withPins pins).sense 0
  have hu : Frame [.regs, .hi, .qe, .ms, .out] (s.withPins pins) u :=
    (State.wake_frame.mono rfl).trans (State.chimeAll_frame.mono rfl)
  have hlog (ev : Ev) (a b d : Nat) : u.Upholds (u.logEv ev a b d) := .logEv
  have hpol : u.reg .ctSensePol 0 0 = s.reg .ctSensePol 0 0 :=
    (State.Upholds.chimeAll.regs .ctSensePol 0 0 (by decide)).trans ((s.withPins pins).wake_regsBut 3 .ctSensePol 0 0 (by decide))
  have hseq : u.ms.seq = s.ms.seq := by
    obtain ⟨m, c, hms⟩ := (s.withPins pins).wake_ms 3
    rw [show u.ms = w.ms from State.chimeAll_frame .ms rfl, show w.ms = _ from hms]
    rfl
  change Frame _ _ (if _ then _ else u) ∧ (if _ then _ else u : State).reg _ _ _ = _ ∧ _ ≤ (if _ then _ else u : State).ms.seq
  split
  · exact ⟨hu.trans (State.logEv_frame.mono rfl), ((hlog ..).regs .ctSensePol 0 0 (by decide)).trans hpol, by
      rw [State.logEv_seq, hseq]
      omega⟩
  · exact ⟨hu, hpol, hseq.ge⟩

/-- What a cartridge that leaves during its mount does to the transport (R417). -/
theorem State.cartridgeLeft_spec (s : State) : s.cartridgeLeft.ct = { s.ct with removed := true } ∧
    3 ≤ s.cartridgeLeft.sm.state ∧
    (s.sm.state < 3 → s.cartridgeLeft.wc.gates = [] ∧ s.cartridgeLeft.df.running = false) ∧
    s.ms.seq + 2 ≤ s.cartridgeLeft.ms.seq ∧ s.cartridgeLeft.reg .ctSensePol 0 0 = s.reg .ctSensePol 0 0 := by
  let u := { s with ct := { s.ct with removed := true } }
  let v := u.trip 6 7
  let w := v.logEv .removed 0 0 0
  have hcut : Frame [.regs, .hi, .klt, .qe, .pe, .bm, .cx, .ms, .out] w s.cartridgeLeft := State.cutOff_frame
  have hlogged : Frame [.regs, .ms] v w := State.logEv_frame
  have hkept : Frame [.regs, .hi, .klt, .qe, .pe, .bm, .cx, .ms, .out] v s.cartridgeLeft := (hlogged.mono rfl).trans hcut
  obtain ⟨htripped, hms, -⟩ := u.trip_trips 6 7
  have hups : u.Upholds s.cartridgeLeft := (State.Upholds.trip.trans .logEv).trans .cutOff
  have hseq : w.ms.seq = s.ms.seq + 2 := by
    rw [State.logEv_seq, show v.ms = _ from hms, State.logEv_seq]
  refine ⟨?_, ?_, fun h3 => ?_, ?_, ?_⟩
  · rw [hkept .ct rfl, show v.ct = u.ct from State.trip_frame .ct rfl]
  · rw [hkept .sm rfl]
    exact htripped
  · rw [hkept .wc rfl, hkept .df rfl]
    exact u.trip_stops 6 7 h3
  · rw [← hseq]
    exact State.Upholds.cutOff.seq
  · exact hups.regs .ctSensePol 0 0 (by decide)

/-- New levels, judged. -/
theorem exec_senseChange (s : State) (pins : Nat) : exec (.senseChange pins) s = .next (
    if (s.withPins pins).sense = s.sense then s.withPins pins
    else if (s.sensed pins).ct.mounted && !(s.sensed pins).ct.removed &&
        !(bitOf (s.withPins pins).sense 0 && bitOf (s.withPins pins).sense 1 && bitOf (s.withPins pins).sense 4) &&
        (bitOf s.sense 0 != bitOf (s.withPins pins).sense 0 || bitOf s.sense 1 != bitOf (s.withPins pins).sense 1 ||
          bitOf s.sense 4 != bitOf (s.withPins pins).sense 4) then (s.sensed pins).cartridgeLeft
    else s.sensed pins) := rfl

theorem senseChange_takes (s : State) (pins : Nat) : ∃ t, exec (.senseChange pins) s = .next t ∧ t.ct.pins = pins % 256 ∧
    t.ct.mounted = s.ct.mounted ∧ t.reg .ctSensePol 0 0 = s.reg .ctSensePol 0 0 := by
  obtain ⟨hframe, hpol, -⟩ := s.sensed_spec pins
  obtain ⟨hct, -, -, -, hleft⟩ := (s.sensed pins).cartridgeLeft_spec
  have hpins : (s.sensed pins).ct = (s.withPins pins).ct := hframe .ct rfl
  refine ⟨_, exec_senseChange s pins, ?_⟩
  split
  · exact ⟨rfl, rfl, rfl⟩
  · split
    · rw [hct, hpins]
      exact ⟨rfl, rfl, hleft.trans hpol⟩
    · rw [hpins]
      exact ⟨rfl, rfl, hpol⟩

/-- A cartridge that was in its place leaves. -/
theorem senseChange_leaves {s : State} {pins : Nat} (hm : s.ct.mounted = true) (hr : s.ct.removed = false)
    (h0 : s.senses 0 = true) (h1 : s.senses 1 = true) (h4 : s.senses 4 = true)
    (hnow : bitOf (s.withPins pins).sense 0 = false ∨ bitOf (s.withPins pins).sense 1 = false ∨
      bitOf (s.withPins pins).sense 4 = false) : ∃ t, exec (.senseChange pins) s = .next t ∧
    t.ct.removed = true ∧ 3 ≤ t.sm.state ∧ (s.sm.state < 3 → t.wc.gates = [] ∧ t.df.running = false) ∧
    s.ms.seq + 2 ≤ t.ms.seq := by
  obtain ⟨hframe, -, hseq⟩ := s.sensed_spec pins
  obtain ⟨hct, htripped, hstops, hlogged, -⟩ := (s.sensed pins).cartridgeLeft_spec
  have hpins : (s.sensed pins).ct = (s.withPins pins).ct := hframe .ct rfl
  have hsm : (s.sensed pins).sm = s.sm := hframe .sm rfl
  have h0 : bitOf s.sense 0 = true := h0
  have h1 : bitOf s.sense 1 = true := h1
  have h4 : bitOf s.sense 4 = true := h4
  have hnew : (s.withPins pins).sense ≠ s.sense := by
    intro he
    rw [he, h0, h1, h4] at hnow
    simp at hnow
  have hexec := exec_senseChange s pins
  rw [if_neg hnew, if_pos ?_] at hexec
  · refine ⟨_, hexec, by rw [hct], htripped, fun h3 => hstops (by rwa [hsm]), by omega⟩
  · have hmounted : (s.withPins pins).ct.mounted = true := hm
    have hthere : (s.withPins pins).ct.removed = false := hr
    rw [hpins, hmounted, hthere, h0, h1, h4]
    rcases hnow with h | h | h <;> simp [h]

/-- Settles O43: each clause is one way through MOUNT, UNMOUNT or a change of the SENSE inputs. -/
theorem cartridgesAreMountedAndUnmounted : Obligations.CartridgesAreMountedAndUnmounted := by
  refine ⟨fun s id ps l m c h hb hl hs => ⟨fun hm hr => ?_, mount_unloaded h hb hl hs, fun cm hm h0 h1 h4 hcm ht hp hf =>
      ⟨mount_blank h hb hl hs hm h0 h1 h4 hcm ht hp hf, fun lab d b r => mount_formatted h hb hl hs hm h0 h1 h4 hcm ht hp hf⟩⟩,
    fun s id c ok h hs hm ho => ⟨unmount_unwritten ok h hs hm ho, unmount_written h hs hm ho⟩,
    fun s id c ok h hs hm ho => ?_, fun s pins => ⟨senseChange_takes s pins, fun hm hr h0 h1 h4 hnow => ?_⟩⟩
  · have hexec := exec_mount (m := m) h hb hl hs
    rw [if_pos (by simp [hm, hr])] at hexec
    obtain ⟨htold, hframe, -⟩ := State.mounted_ends .refl h l 0x10
    exact ⟨_, hexec, htold, hframe .ct rfl, hframe .sm rfl, hframe .df rfl⟩
  · have hrun : s.unmount c ok = s.finishCmd c stMediaBusy 1 s.streamsOpen :=
      (if_neg (by simp [hs])).trans ((if_neg (by simp [hm])).trans (if_pos ho))
    obtain ⟨htold, -, hframe⟩ := State.Served.refl.ends stMediaBusy 1 s.streamsOpen h rfl
    exact ⟨_, congrArg Host.Outcome.next ((State.onCommand_of_holds h _).trans hrun), htold, hframe .ct rfl, hframe .df rfl⟩
  · have hsense : (s.withPins pins).sense = Nat.xor (pins % 256) (s.fld .ctSensePol 0 0 7 0) := congrArg (Nat.xor · _) (Nat.mod_mod pins 256)
    rw [← hsense] at hnow
    exact senseChange_leaves hm hr h0 h1 h4 hnow

end Sys2Proof.Machine
end

section
/-! FORMAT and SANITIZE start a session, and the session's end (R144, R146, R254, R423 to R428). -/

namespace Sys2Proof.Machine

-- One theorem at a time: run ahead of the kernel, each would hold a thread and its stack.
set_option Elab.async false

/-! ### The start of a session (R423 to R427) -/

theorem lowerCopy_le_one (cm : Bytes) : lowerCopy cm ≤ 1 := by
  unfold lowerCopy
  split <;> decide

/-- What a session that starts for a command leaves: the session, and its progress record in both stores. -/
structure State.SessionStarted (s t : State) (c : Cmd) (kind phase : Nat) (tenants : List Nat) (label : Bytes) (m : MediaRead)
    (x : Session) : Prop where
  session : t.ct.session = some x
  kind : x.kind = kind
  phase : x.phase = phase
  done : x.done = 0
  state : x.state = 1
  cmd : x.cmd = some c.id
  fn : x.fn = some c.fn
  tenants : x.tenants = tenants
  label : x.label = label
  mounted : t.ct.mounted = s.ct.mounted
  recorded : ∃ b, t.ct.nvProgress = s.ct.nvProgress.set x.serial b ∧ Out.cm (0x300 + 0x80 * (1 - x.copy)) b ∈ t.out ∧
    x.serial = fieldBE (m.cm.getD []) 0 8
  frame : Frame [.ct, .out] s t

theorem State.startSession_starts (s : State) (c : Cmd) (kind phase total : Nat) (tenants : List Nat) (label : Bytes)
    (m : MediaRead) : ∃ x, s.SessionStarted (s.startSession c kind phase total tenants label m) c kind phase tenants label m x := by
  have hframe : Frame [.ct, .out] s (s.startSession c kind phase total tenants label m) := State.startSession_frame
  unfold State.startSession
  extract_lets cm x y ct cart u
  have hcopy : 1 - (1 - y.copy) = y.copy := by
    have hle : y.copy ≤ 1 := lowerCopy_le_one cm
    omega
  have hu : u.ct.mounted = s.ct.mounted ∧ u.ct.nvProgress = s.ct.nvProgress := by
    unfold u
    split <;> exact ⟨rfl, rfl⟩
  obtain ⟨hmounted, hnv⟩ := hu
  refine ⟨_, rfl, rfl, rfl, rfl, rfl, rfl, rfl, rfl, rfl, hmounted, ⟨_, congrArg (Tab.set · _ _) hnv, ?_, rfl⟩, hframe⟩
  refine List.mem_append_right _ (List.mem_singleton.mpr (congrArg (Out.cm · _) ?_))
  exact congrArg (0x300 + 0x80 * ·) hcopy

/-- A session that starts with the cartridge mounted no more, for FORMAT or the overwrite form. -/
theorem State.leaveForSession_starts (s : State) (c : Cmd) (kind total : Nat) (label : Bytes) (m : MediaRead) :
    ∃ x, s.leaveForSession.SessionStarted (s.leaveForSession.startSession c kind 1 total [] label m) c kind 1 [] label m x ∧
      (s.leaveForSession.startSession c kind 1 total [] label m).ct.mounted = false ∧
      (s.leaveForSession.startSession c kind 1 total [] label m).pe.streams = [] ∧
      (s.leaveForSession.startSession c kind 1 total [] label m).qe = s.qe ∧
      (s.leaveForSession.startSession c kind 1 total [] label m).regs = s.regs := by
  obtain ⟨x, hx⟩ := s.leaveForSession.startSession_starts c kind 1 total [] label m
  refine ⟨x, hx, hx.mounted, ?_, hx.frame .qe rfl, hx.frame .regs rfl⟩
  rw [hx.frame .pe rfl]
  rfl

/-- FORMAT with a good buffer, while no session runs for it. -/
theorem exec_format {s : State} {id : Nat} {c : Cmd} {ps l : List BufPiece} (lab : Bytes) (m : MediaRead)
    (h : s.holds id 0x40 c) (hb : c.buffer ps = some l) (hx : (s.ct.session.any fun x => x.cmd == some id) = false) :
    exec (.format id ps lab m) s = .next (s.format c lab m) := by
  have hid := State.id_of_cmd? h.1
  refine congrArg Host.Outcome.next ((State.onCommand_of_holds h _).trans ((if_neg ?_).trans ?_))
  · rw [hid, hx]
    exact Bool.false_ne_true
  · rw [State.withBuffer, hb]

/-- The overwrite form, while no session runs for it. -/
theorem exec_sanitizeOverwrite {s : State} {id : Nat} {c : Cmd} (m : MediaRead) (h : s.holds id 0x41 c)
    (hf : bitOf (entFlags c.entry) 1 = false) (hx : (s.ct.session.any fun x => x.cmd == some id) = false) :
    exec (.sanitizeOverwrite id m) s = .next (s.overwrite c m) := by
  have hid := State.id_of_cmd? h.1
  refine congrArg Host.Outcome.next ((State.onCommand_of_holds h _).trans (if_neg ?_))
  rw [hid, hx, hf]
  exact Bool.false_ne_true

/-- The crypto form with a good buffer, while no session runs for it. -/
theorem exec_sanitizeCrypto {s : State} {id : Nat} {c : Cmd} {ps l : List BufPiece} (names : Bytes) (m : MediaRead)
    (h : s.holds id 0x41 c) (hf : bitOf (entFlags c.entry) 1 = true) (hb : c.buffer ps = some l)
    (hx : (s.ct.session.any fun x => x.cmd == some id) = false) :
    exec (.sanitizeCrypto id ps names m) s = .next (s.crypto c names m) := by
  have hid := State.id_of_cmd? h.1
  refine congrArg Host.Outcome.next ((State.onCommand_of_holds h _).trans ((if_neg ?_).trans ?_))
  · rw [hid, hx, hf]
    exact Bool.false_ne_true
  · rw [State.withBuffer, hb]

/-- FORMAT that nothing refuses. -/
theorem format_starts {s : State} {id : Nat} {c : Cmd} {ps l : List BufPiece} (lab : Bytes) {m : MediaRead}
    (h : s.holds id 0x40 c) (hb : c.buffer ps = some l) (hx : (s.ct.session.any fun x => x.cmd == some id) = false)
    (hs : s.sessionBlock = none) (hm : formatCheck m = none) : ∃ t x, exec (.format id ps lab m) s = .next t ∧
      t.ct.session = some x ∧
      x.kind = 1 ∧ x.phase = 1 ∧ x.done = 0 ∧ x.state = 1 ∧ x.cmd = some id ∧ x.fn = some c.fn ∧ x.label = fit 64 lab ∧
      t.ct.mounted = false ∧ t.pe.streams = [] ∧ t.cmd? id = some c ∧ t.qe = s.qe ∧ t.regs = s.regs ∧
      (∃ b, t.ct.nvProgress = s.ct.nvProgress.set x.serial b ∧ Out.cm (0x300 + 0x80 * (1 - x.copy)) b ∈ t.out ∧
        x.serial = fieldBE (m.cm.getD []) 0 8) := by
  have hrun : s.format c lab m = s.leaveForSession.startSession c 1 1 formatItems [] (fit 64 lab) m := by
    rw [State.format, hs, hm]
  obtain ⟨x, hst, hmounted, hstreams, hqe, hregs⟩ := s.leaveForSession_starts c 1 formatItems (fit 64 lab) m
  have hexec := exec_format lab m h hb hx
  rw [hrun] at hexec
  obtain ⟨hc, -⟩ := h
  refine ⟨_, x, hexec, hst.session, hst.kind, hst.phase, hst.done, hst.state, ?_, hst.fn, hst.label, hmounted, hstreams, ?_,
    hqe, hregs, hst.recorded⟩
  · rw [hst.cmd, State.id_of_cmd? hc]
  · exact (congrFun (State.cmd?_congr (congrArg QeState.cmds hqe)) id).trans hc

/-- The overwrite form that nothing refuses: the host label of the cartridge's label stays. -/
theorem sanitizeOverwrite_starts {s : State} {id : Nat} {c : Cmd} {m : MediaRead} (h : s.holds id 0x41 c)
    (hf : bitOf (entFlags c.entry) 1 = false) (hx : (s.ct.session.any fun x => x.cmd == some id) = false)
    (hs : s.sessionBlock = none) (hm : formatCheck m = none) : ∃ t x, exec (.sanitizeOverwrite id m) s = .next t ∧
      t.ct.session = some x ∧
      x.kind = 2 ∧ x.phase = 1 ∧ x.state = 1 ∧ x.cmd = some id ∧ x.fn = some c.fn ∧ t.ct.mounted = false ∧ t.pe.streams = [] ∧
      (∀ b e, labelRead m = some (b, e) → x.label = part b 16 64) ∧ t.cmd? id = some c ∧ t.qe = s.qe ∧ t.regs = s.regs := by
  obtain ⟨label, hrun, hlabel⟩ : ∃ label, s.overwrite c m = s.leaveForSession.startSession c 2 1 0 [] label m ∧
      ∀ b e, labelRead m = some (b, e) → label = part b 16 64 := by
    rw [State.overwrite, hs, hm]
    exact ⟨_, rfl, fun b e hl => by rw [hl]; rfl⟩
  obtain ⟨x, hst, hmounted, hstreams, hqe, hregs⟩ := s.leaveForSession_starts c 2 0 label m
  have hexec := exec_sanitizeOverwrite m h hf hx
  rw [hrun] at hexec
  obtain ⟨hc, -⟩ := h
  refine ⟨_, x, hexec, hst.session, hst.kind, hst.phase, hst.state, ?_, hst.fn, hmounted, hstreams,
    fun b e hl => hst.label.trans (hlabel b e hl), ?_, hqe, hregs⟩
  · rw [hst.cmd, State.id_of_cmd? hc]
  · exact (congrFun (State.cmd?_congr (congrArg QeState.cmds hqe)) id).trans hc

/-! ### The keys of the tenants named (R254, R426) -/

theorem State.keks_eraseSlot (s : State) (g : Nat) : (s.eraseSlot g).ce.keks = s.ce.keks := by
  unfold State.eraseSlot
  refine List.foldlRecOn (motive := fun u : State => u.ce.keks = s.ce.keks) _ _ rfl fun u h k _ => ?_
  split
  · rw [State.deferError_frame .ce rfl, h]
  · exact h

/-- Erasing a function's keys leaves it no KEK, and every other function its own. -/
theorem State.kek_wipeKeys (s : State) (f g : Nat) : (s.wipeKeys f).kek g =
    if g = f then ⟨none, nextGen (s.kek f).gen⟩ else s.kek g := by
  unfold State.wipeKeys
  extract_lets l
  have hkeks : (l.foldl (fun s g => s.eraseSlot g) s).ce.keks = s.ce.keks :=
    List.foldlRecOn (motive := fun u : State => u.ce.keks = s.ce.keks) _ _ rfl fun u h g _ => (u.keks_eraseSlot g).trans h
  have hkek (g : Nat) : (l.foldl (fun s g => s.eraseSlot g) s).kek g = s.kek g := by
    unfold State.kek
    rw [hkeks]
  have hset (u : State) (k : Kek) : (u.setKek f k).kek g = if g = f then k else u.kek g := by
    unfold State.setKek State.kek
    split
    case isTrue h => rw [h, Tab.get_set_self]
    case isFalse h => exact Tab.get_set_ne _ _ _ h
  rw [State.eraseKek, hset, hkek, hkek]

/-- Erasing the keys of a list of functions leaves those no KEK, and every other function its own. -/
theorem State.kek_foldl_wipeKeys (l : List Nat) (s : State) :
    (∀ f ∈ l, ((l.foldl (fun s f => s.wipeKeys f) s).kek f).key = none) ∧
      ∀ f, f ∉ l → (l.foldl (fun s f => s.wipeKeys f) s).kek f = s.kek f := by
  induction l generalizing s with
  | nil => exact ⟨fun _ h => (nomatch h), fun _ _ => rfl⟩
  | cons a l ih =>
    obtain ⟨hin, hout⟩ := ih (s.wipeKeys a)
    refine ⟨fun f hf => ?_, fun f hf => ?_⟩
    · by_cases hl : f ∈ l
      · exact hin f hl
      · obtain rfl : f = a := (List.mem_cons.mp hf).resolve_right hl
        rw [List.foldl_cons, hout f hl, State.kek_wipeKeys, if_pos rfl]
    · obtain ⟨hne, hl⟩ := not_or.mp (mt List.mem_cons.mpr hf)
      rw [List.foldl_cons, hout f hl, State.kek_wipeKeys, if_neg hne]

/-- The crypto form that nothing refuses. -/
theorem sanitizeCrypto_starts {s : State} {id : Nat} {c : Cmd} {ps l : List BufPiece} {names : Bytes} {m : MediaRead}
    (h : s.holds id 0x41 c) (hf : bitOf (entFlags c.entry) 1 = true) (hb : c.buffer ps = some l)
    (howner : s.isOwner c.fn = true) (hm : s.mediaCheck = none) (ho : s.streamsOpen = 0) (hr : s.ct.readOnly = false)
    (hw : s.writeBlock = none) (hx : (s.ct.session.any fun x => x.cmd == some id) = false) :
    let tenants := ((fit (entLen c.entry) names).map (·.toNat)).dedup
    ∃ t x, exec (.sanitizeCrypto id ps names m) s = .next t ∧ t.ct.session = some x ∧ x.kind = 3 ∧ x.phase = 2 ∧ x.state = 1 ∧
      x.tenants = tenants ∧ x.cmd = some id ∧ t.ct.mounted = true ∧ (∀ f ∈ s.fnsOf tenants, (t.kek f).key = none) ∧
      (∀ f, f ∉ s.fnsOf tenants → t.kek f = s.kek f) := by
  intro tenants
  let u := (s.fnsOf tenants).foldl (fun s f => s.wipeKeys f) s
  have hu : Frame [.regs, .hi, .klt, .qe, .pe, .bm, .cx, .ce, .ms, .out] s u :=
    Frame.fold Frame.refl (fun _ _ => State.wipeKeys_frame) _
  have hrun : s.crypto c names m = u.startSession c 3 2 u.pe.books.length tenants u.ct.cart.hostLabel m := by
    unfold State.crypto
    rw [if_neg (by simp [howner]), hm]
    dsimp only
    rw [if_neg (by omega), if_neg (by simp [hr]), hw]
  have hmounted : s.ct.mounted = true := by
    refine Decidable.byContradiction fun hno => ?_
    unfold State.mediaCheck at hm
    split at hm
    · cases hm
    · rw [if_pos (by simpa using hno)] at hm
      cases hm
  obtain ⟨x, hst⟩ := u.startSession_starts c 3 2 u.pe.books.length tenants u.ct.cart.hostLabel m
  have hexec := exec_sanitizeCrypto names m h hf hb hx
  rw [hrun] at hexec
  obtain ⟨hc, -⟩ := h
  obtain ⟨hwiped, hkept⟩ := State.kek_foldl_wipeKeys (s.fnsOf tenants) s
  have hkek (f : Nat) : (u.startSession c 3 2 u.pe.books.length tenants u.ct.cart.hostLabel m).kek f = u.kek f := by
    unfold State.kek
    rw [hst.frame .ce rfl]
  refine ⟨_, x, hexec, hst.session, hst.kind, hst.phase, hst.state, hst.tenants, ?_, ?_, fun f hf => ?_, fun f hf => ?_⟩
  · rw [hst.cmd, State.id_of_cmd? hc]
  · rw [hst.mounted, hu .ct rfl, hmounted]
  · rw [hkek]
    exact hwiped f hf
  · rw [hkek]
    exact hkept f hf

/-! ### The end of a session (R427, R428) -/

/-- Telling the end of a session leaves the completions, and takes back nothing that was sent. -/
theorem State.tellSession_spec (s : State) (x : Session) (status : Nat) : s.Upholds (s.tellSession x status) ∧
    s.Chimed (s.tellSession x status) ∧ s.Posts (s.tellSession x status) ∧ Frame [.regs, .hi, .qe, .out] s (s.tellSession x status) := by
  have howner (u : State) (code a b : Nat) : u.Posts (u.chimeOwner code a b) := by
    unfold State.chimeOwner
    split
    · exact .chime
    · exact .refl
  refine ⟨?_, ?_, ?_, State.tellSession_frame⟩
  all_goals
    unfold State.tellSession
    split
  · exact (State.Upholds.ite .refl .chime).trans .chimeOwner
  · exact .chimeOwner
  · exact (State.Chimed.ite .refl .chime).trans .chimeOwner
  · exact .chimeOwner
  · exact (State.Posts.ite .refl .chime).trans (howner ..)
  · exact howner ..

/-- The command that a session ran for ends, and its end is told. -/
theorem State.sessionTold {s u : State} {c : Cmd} (x : Session) (st : Nat) (hu : Frame [.ct, .out] s u)
    (hn : s.hi.ownerNext = none) (hw : isWriteClass (entOpcode c.entry) = false) :
    s.told ((u.finishCmd c st 0 0).tellSession x st) c st 0 0 ∧
      u.out <+: ((u.finishCmd c st 0 0).tellSession x st).out ∧
      ((u.finishCmd c st 0 0).tellSession x st).ct = u.ct := by
  have hnu : u.hi.ownerNext = none := by rw [hu .hi rfl, hn]
  have hcfg : u.reg .qeSqCfg = s.reg .qeSqCfg := congrFun (State.reg_congr (hu .regs rfl) (hu .board rfl)) _
  obtain ⟨hgone, hready⟩ := State.told_finishCmd (s := s) (status := st) (detail := 0) (result := 0) hnu hcfg hw
  obtain ⟨hup, hch, hposts, hframe⟩ := (u.finishCmd c st 0 0).tellSession_spec x st
  refine ⟨⟨hup.gone _ hgone, fun hring => ?_⟩, (State.Posts.finishCmd hnu).out.trans hposts.out, ?_⟩
  · rw [hch.ready]
    exact hready hring
  · exact (hframe .ct rfl).trans (State.finishCmd_frame_of_settled hnu hw .ct rfl)

/-- A session's work is done, other than that of the crypto form: what it has written, and no session any more. -/
def State.sessionDone (s : State) (y : Session) : State :=
  let u := (s.formatDone y).writeProgress y 0
  { u with ct := { u.ct with session := none } }

/-- A session's work has failed: it is interrupted. -/
def State.sessionFailed (s : State) (y : Session) : State :=
  let u := s.writeProgress y y.kind
  { u with ct := { u.ct with session := u.ct.session.map fun z => { z with state := 3, cmd := none } } }

theorem State.sessionDone_frame (s : State) (y : Session) : Frame [.ct, .out] s (s.sessionDone y) :=
  Frame.ct (State.formatDone_frame.trans State.writeProgress_frame) rfl

theorem State.sessionFailed_frame (s : State) (y : Session) : Frame [.ct, .out] s (s.sessionFailed y) :=
  Frame.ct State.writeProgress_frame rfl

/-- MEDIA_SESSION_END, up to the end of the command that the session ran for. -/
theorem exec_mediaSessionEnd {s : State} {x : Session} {c : Cmd} {id : Nat} (ok : Bool) (ph n el : Nat)
    (hs : s.ct.session = some x) (h1 : x.state = 1) (hid : x.cmd = some id) (hc : s.cmd? id = some c)
    (h3 : ok = true → x.kind ≠ 3) :
    let y := { x with phase := ph, done := n, elapsed := el }
    exec (.mediaSessionEnd ok ph n el) s = .next (if ok
      then ((s.sessionDone y).finishCmd c stSuccess 0 0).tellSession y stSuccess
      else ((s.sessionFailed y).finishCmd c stWriteFault 0 0).tellSession y stWriteFault) := by
  intro y
  change Host.Outcome.next (s.sessionEnd ok ph n el) = _
  unfold State.sessionEnd
  rw [hs]
  dsimp only
  rw [if_neg (by simp [h1]), hid, Option.bind_some]
  cases ok with
  | true =>
    have hcmd : (s.sessionDone y).cmd? id = some c :=
      (congrFun (State.cmd?_congr (congrArg QeState.cmds (s.sessionDone_frame y .qe rfl))) id).trans hc
    rw [if_pos rfl, if_pos rfl, if_neg (h3 rfl)]
    change Host.Outcome.next (State.tellSession (match (s.sessionDone y).cmd? id with
      | some c => (s.sessionDone y).finishCmd c stSuccess 0 0
      | none => s.sessionDone y) y stSuccess) = _
    rw [hcmd]
    rfl
  | false =>
    have hcmd : (s.sessionFailed y).cmd? id = some c :=
      (congrFun (State.cmd?_congr (congrArg QeState.cmds (s.sessionFailed_frame y .qe rfl))) id).trans hc
    change Host.Outcome.next (State.tellSession (match (s.sessionFailed y).cmd? id with
      | some c => (s.sessionFailed y).finishCmd c stWriteFault 0 0
      | none => s.sessionFailed y) y stWriteFault) = _
    rw [hcmd]
    rfl

theorem State.out_foldl_emit (f : Nat → Out) (l : List Nat) (s : State) :
    (l.foldl (fun s w => s.emit (f w)) s).out = s.out ++ l.map f := by
  induction l generalizing s with
  | nil => simp
  | cons a l ih =>
    rw [List.foldl_cons, ih]
    exact List.append_assoc s.out [f a] _

/-- Every wrap is in the wrap order. -/
theorem mem_wrapOrder {w : Nat} (h : w < 256) : w ∈ wrapOrder := by
  have hband : w / 64 ∈ [1, 2, 0, 3] := by
    have : w / 64 < 4 := by omega
    interval_cases w / 64 <;> decide
  exact List.mem_flatMap.mpr ⟨w / 64, hband, List.mem_map.mpr ⟨w % 64, List.mem_range.mpr (Nat.mod_lt _ (by decide)),
    Nat.div_add_mod w 64⟩⟩

/-- What FORMAT and the overwrite form have sent when their work is done. -/
theorem State.out_formatDone (s : State) (y : Session) : ∃ o,
    (s.formatDone y).out = s.out ++ (if y.kind = 2 then wrapOrder.map Out.voidWrap else []) ++
      [.datum 3 (y.labelBlock ((s.activeImage.bind fun i => (i.tables.find? fun z => z.1 == 4).map (·.2)).getD 0)),
        .datum 4 (y.emptyRoot 1), .datum 5 (y.emptyRoot 2)] ++
      (if y.kind = 1 then (List.range 256).map Out.benchmark else []) ++ o := by
  unfold State.formatDone
  extract_lets table lab u v w
  have hu : u.out = s.out ++ if y.kind = 2 then wrapOrder.map Out.voidWrap else [] := by
    unfold u
    split
    · exact State.out_foldl_emit Out.voidWrap _ _
    · exact (List.append_nil _).symm
  have hv : v.out = u.out ++ [.datum 3 lab, .datum 4 (y.emptyRoot 1), .datum 5 (y.emptyRoot 2)] := by
    simp [v, State.emit]
  have hw : w.out = v.out ++ if y.kind = 1 then (List.range 256).map Out.benchmark else [] := by
    unfold w
    split
    · exact State.out_foldl_emit Out.benchmark _ _
    · exact (List.append_nil _).symm
  rw [← hu, ← hv, ← hw]
  exact ⟨_, (List.append_assoc _ _ _).trans (List.append_assoc _ _ _)⟩

/-- MEDIA_SESSION_END of a FORMAT or an overwrite whose work is done. -/
theorem mediaSessionEnd_done {s : State} {x : Session} {c : Cmd} {id : Nat} (ph n el : Nat)
    (hs : s.ct.session = some x) (h1 : x.state = 1) (hid : x.cmd = some id) (hc : s.cmd? id = some c)
    (hn : s.hi.ownerNext = none) (hw : isWriteClass (entOpcode c.entry) = false) (hk : x.kind = 1 ∨ x.kind = 2) :
    ∃ t, exec (.mediaSessionEnd true ph n el) s = .next t ∧ t.ct.session = none ∧
      s.told t c stSuccess 0 0 ∧ t.ct.cart.summaryOpen = false ∧
      Out.datum 3 (x.labelBlock ((s.activeImage.bind fun i => (i.tables.find? fun z => z.1 == 4).map (·.2)).getD 0)) ∈ t.out ∧
      Out.datum 4 (x.emptyRoot 1) ∈ t.out ∧ Out.datum 5 (x.emptyRoot 2) ∈ t.out ∧
      (x.kind = 1 → ∀ w < 256, Out.benchmark w ∈ t.out) ∧ (x.kind = 2 → ∀ w < 256, Out.voidWrap w ∈ t.out) := by
  have hexec := exec_mediaSessionEnd true ph n el hs h1 hid hc fun _ => by omega
  let y := { x with phase := ph, done := n, elapsed := el }
  obtain ⟨htold, hout, hct⟩ := State.sessionTold y stSuccess (s.sessionDone_frame y) hn hw
  obtain ⟨o, ho⟩ := s.out_formatDone y
  have hdone : (s.formatDone y).out <+: (s.sessionDone y).out := List.prefix_append ..
  have hsent {a : Out} (ha : a ∈ (s.formatDone y).out) :
      a ∈ (((s.sessionDone y).finishCmd c stSuccess 0 0).tellSession y stSuccess).out := hout.subset (hdone.subset ha)
  rw [ho] at hsent
  refine ⟨_, hexec, by rw [if_pos rfl, hct]; rfl, htold, by rw [if_pos rfl, hct]; rfl, hsent ?_, hsent ?_, hsent ?_,
    fun hk w hlt => hsent ?_, fun hk w hlt => hsent ?_⟩
  · simp [y, Session.labelBlock]
  · simp [y, Session.emptyRoot]
  · simp [y, Session.emptyRoot]
  · simp [y, hk, hlt]
  · simp [y, hk, mem_wrapOrder hlt]

/-- Settles O44: what a session's start and end leave, and the refusals before it. -/
theorem mediaSessionsRunAndEnd : Obligations.MediaSessionsRunAndEnd := by
  refine ⟨fun s id c ps l lab m h hb hx => ⟨format_starts lab h hb hx, fun st d hr => ?_⟩,
    fun s id c m h hf hx => ⟨sanitizeOverwrite_starts h hf hx, fun st d hr => ?_⟩,
    fun s id c ps l names m h hf hb howner hm ho hr hw hx => sanitizeCrypto_starts h hf hb howner hm ho hr hw hx,
    fun s ok ph n el x c id hs h1 hid hc hn hw => ⟨fun hk hok => ?_, fun hok => ?_⟩⟩
  · have hrun : s.format c lab m = s.finishCmd c st d 0 := by
      rcases hr with hr | ⟨hr, hm⟩
      · rw [State.format, hr]
      · rw [State.format, hr, hm]
    have hexec := exec_format lab m h hb hx
    rw [hrun] at hexec
    obtain ⟨htold, -, hframe⟩ := State.Served.refl.ends st d 0 h rfl
    exact ⟨_, hexec, htold, hframe .ct rfl⟩
  · have hexec := exec_sanitizeOverwrite m h hf hx
    rw [State.overwrite, hr] at hexec
    obtain ⟨htold, -, hframe⟩ := State.Served.refl.ends st d 0 h rfl
    exact ⟨_, hexec, htold, hframe .ct rfl⟩
  · subst hok
    exact mediaSessionEnd_done ph n el hs h1 hid hc hn hw hk
  · subst hok
    have hexec := exec_mediaSessionEnd false ph n el hs h1 hid hc fun h => (nomatch h)
    let y := { x with phase := ph, done := n, elapsed := el }
    obtain ⟨htold, -, hct⟩ := State.sessionTold y stWriteFault (s.sessionFailed_frame y) hn hw
    exact ⟨_, _, hexec, congrArg CtState.session hct, rfl, rfl, rfl, htold⟩

end Sys2Proof.Machine
end

section
/-! From frames to tiers, from parcels to records (R123, R227, R229, R251, R307, R308, R363, R365). -/

namespace Sys2Proof.Machine

-- One theorem at a time: run ahead of the kernel, each would hold a thread and its stack.
set_option Elab.async false

/-! ### Tiers (R363, R365) -/

/-- The bytes set for a tier are the ones held. -/
theorem State.tier?_setTier (s : State) (ds k : Nat) (b : Option Bytes) :
    (s.setTier ds k b).tier? ds k = some ⟨ds, k, b⟩ := by
  have hgone : (s.ed.tiers.filter fun x => !(x.dataset == ds && x.tier == k)).find?
      (fun x => x.dataset == ds && x.tier == k) = none := by
    refine List.find?_eq_none.mpr fun x hx => ?_
    simpa only [Bool.not_eq_true, Bool.not_eq_eq_eq_not, Bool.not_true] using (List.mem_filter.mp hx).2
  rw [State.tier?, State.setTier, List.find?_append, hgone]
  simp

/-- Work that went well counts in one register, and in another where it did not. -/
theorem State.reg_bump_ite (s : State) {a b : RegName} (hab : a ≠ b) (good : Bool) :
    (s.bump (if good then a else b) 0 0).reg a 0 0 = (if good then min (s.reg a 0 0 + 1) 0xFFFFFFFF else s.reg a 0 0) ∧
      (s.bump (if good then a else b) 0 0).reg b 0 0 = (if good then s.reg b 0 0 else min (s.reg b 0 0 + 1) 0xFFFFFFFF) ∧
      State.regsBut [a, b] s (s.bump (if good then a else b) 0 0) := by
  cases good with
  | true => exact ⟨State.reg_bumpBy_self .., State.reg_bumpBy_ne _ _ (by simp [hab.symm]), State.regsBut_bumpBy (by simp)⟩
  | false => exact ⟨State.reg_bumpBy_ne _ _ (by simp [hab]), State.reg_bumpBy_self .., State.regsBut_bumpBy (by simp)⟩

/-- What C2 makes of a tier is held, and counted as decoded or failed (R363). -/
theorem State.decodeTier_eq {s : State} {ds k : Nat} {g : Geometry} (hg : s.geometry? ds = some g) (hk : k < g.tiers)
    {b : Option Bytes} (hb : c2Bytes (c2Decode (s.fld .edC2Cfg 0 0 7 0) (s.tierFrames g k).1).2.1 = b) :
    ∃ m n, s.decodeTier ds k = ((((s.bumpBy .edC2Eras 0 0 m).bumpBy .edC2Err 0 0 n).bump
      (if b.isSome then .edC2Tiers else .edC2Fail) 0 0).setTier ds k b).rewatch := by
  unfold State.decodeTier
  simp only [hg, if_neg (Nat.not_le.mpr hk), hb]
  cases b with
  | none => exact ⟨_, _, rfl⟩
  | some b => exact ⟨_, _, rfl⟩

theorem tierDecode_holds {s : State} {ds k : Nat} {g : Geometry} (hg : s.geometry? ds = some g) (hk : k < g.tiers)
    {b : Option Bytes} (hb : c2Bytes (c2Decode (s.fld .edC2Cfg 0 0 7 0) (s.tierFrames g k).1).2.1 = b) :
    ∃ t, exec (.tierDecode ds k) s = .next t ∧ t.tier? ds k = some ⟨ds, k, b⟩ ∧
      t.reg .edC2Tiers 0 0 = (if b.isSome then min (s.reg .edC2Tiers 0 0 + 1) 0xFFFFFFFF else s.reg .edC2Tiers 0 0) ∧
      t.reg .edC2Fail 0 0 = (if b.isSome then s.reg .edC2Fail 0 0 else min (s.reg .edC2Fail 0 0 + 1) 0xFFFFFFFF) ∧
      t.ed.frames = s.ed.frames ∧ State.regsBut [.edC2Tiers, .edC2Fail, .edC2Eras, .edC2Err] s t ∧
      Frame [.regs, .bm, .ed] s t := by
  obtain ⟨m, n, hrun⟩ := State.decodeTier_eq hg hk hb
  let u := (s.bumpBy .edC2Eras 0 0 m).bumpBy .edC2Err 0 0 n
  have hu : State.regsBut [.edC2Eras, .edC2Err] s u :=
    State.regsBut_trans (State.regsBut_bumpBy (by simp)) (State.regsBut_bumpBy (by simp))
  have hexec : exec (.tierDecode ds k) s = .next (s.decodeTier ds k) := rfl
  have hframe : Frame [.regs, .bm, .ed] s (s.decodeTier ds k) := State.decodeTier_frame
  obtain ⟨hgood, hbad, hregs⟩ := u.reg_bump_ite (a := .edC2Tiers) (b := .edC2Fail) (by decide) b.isSome
  rw [hu .edC2Tiers 0 0 (by decide)] at hgood
  rw [hu .edC2Fail 0 0 (by decide)] at hbad
  rw [hrun] at hexec hframe
  exact ⟨_, hexec, State.tier?_setTier _ ds k b, hgood, hbad, rfl,
    State.regsBut_trans (State.regsBut_mono hu (by simp)) (State.regsBut_mono hregs (by simp)), hframe⟩

/-! ### Reads that fail (R123) -/

theorem State.mem_decoded_deliverRec (s : State) (d : Decoded) : d ∈ (s.deliverRec d).pe.decoded :=
  List.mem_append_right _ (List.mem_singleton_self d)

/-- A failed record stays failed while others fail in the same way. -/
theorem State.mem_decoded_foldl_failRec {st d : Nat} {x : TapeRead} (l : List TapeRead) (s : State)
    (h : x ∈ l ∨ ⟨x.stream, x.record, none, [], none, some (st, d)⟩ ∈ s.pe.decoded) :
    ⟨x.stream, x.record, none, [], none, some (st, d)⟩ ∈
      (l.foldl (fun s t => s.failRec t.stream t.record st d) s).pe.decoded := by
  induction l generalizing s with
  | nil => exact h.resolve_left (List.not_mem_nil)
  | cons y l ih =>
    refine ih _ ?_
    rcases h with h | h
    · rcases List.mem_cons.mp h with rfl | h
      · exact .inr (s.mem_decoded_deliverRec _)
      · exact .inl h
    · by_cases he : x.stream = y.stream ∧ x.record = y.record
      · obtain ⟨hs, hr⟩ := he
        rw [hs, hr]
        exact .inr (s.mem_decoded_deliverRec _)
      · refine .inr (List.mem_append_left _ (List.mem_filter.mpr ⟨h, ?_⟩))
        exact Bool.not_eq_eq_eq_not.mpr (Bool.eq_false_iff.mpr (by simpa using he))

/-- Every read that waits for the dataset fails at its record. -/
theorem State.failReads_fails (s : State) (ds d : Nat) {x : TapeRead} (hx : x ∈ s.pe.reads) (hds : x.dataset = ds) :
    ⟨x.stream, x.record, none, [], none, some (stReadFault, d)⟩ ∈ (s.failReads ds d).pe.decoded :=
  State.mem_decoded_foldl_failRec _ s (.inl (List.mem_filter.mpr ⟨hx, by simp [hds]⟩))

/-- C3 recovers a lost tier, or the reads of its dataset fail (R308, R365). -/
theorem c3Recover_recovers {s : State} {ds k g p : Nat} {x : TierData} (hx : s.tier? ds k = some x) (hlost : x.bytes = none)
    (hp : s.groupPlace ds = some (g, p)) {b : Option Bytes} (hb : s.c3Tier g p k = b) :
    ∃ t, exec (.c3Recover ds k) s = .next t ∧ t.tier? ds k = some ⟨ds, k, b⟩ ∧
      t.reg .edC3Runs 0 0 = (if b.isSome then min (s.reg .edC3Runs 0 0 + 1) 0xFFFFFFFF else s.reg .edC3Runs 0 0) ∧
      t.reg .edC3Fail 0 0 = (if b.isSome then s.reg .edC3Fail 0 0 else min (s.reg .edC3Fail 0 0 + 1) 0xFFFFFFFF) ∧
      (b = none → ∀ r ∈ s.pe.reads, r.dataset = ds →
        ⟨r.stream, r.record, none, [], none, some (stReadFault, 0x10)⟩ ∈ t.pe.decoded) ∧
      State.regsBut [.edC3Runs, .edC3Fail] s t ∧ Frame [.regs, .pe, .bm, .ed] s t := by
  have hexec : exec (.c3Recover ds k) s = .next (s.c3Recover ds k) := rfl
  have hframe : Frame [.regs, .pe, .bm, .ed] s (s.c3Recover ds k) := State.c3Recover_frame
  unfold State.c3Recover at hexec hframe
  simp only [hx, hlost, hp, hb, Option.isNone_none, Bool.not_true, Bool.false_eq_true, if_false] at hexec hframe
  obtain ⟨hgood, hbad, hregs⟩ := s.reg_bump_ite (a := .edC3Runs) (b := .edC3Fail) (by decide) b.isSome
  cases b with
  | some b => exact ⟨_, hexec, State.tier?_setTier _ ds k (some b), hgood, hbad, nofun, hregs, hframe⟩
  | none =>
    have hfail : Frame [.pe] (s.bump .edC3Fail 0 0) ((s.bump .edC3Fail 0 0).failReads ds 0x10) := State.failReads_frame
    have hreg := State.reg_congr (hfail .regs rfl) (hfail .board rfl)
    have htier : ((s.bump .edC3Fail 0 0).failReads ds 0x10).tier? ds k = some ⟨ds, k, none⟩ := by
      have hfound : x.dataset = ds ∧ x.tier = k := by simpa using List.find?_some hx
      obtain ⟨hds, hk⟩ := hfound
      rw [State.tier?, hfail .ed rfl, ← hlost]
      conv_rhs => rw [← hds, ← hk]
      exact hx
    exact ⟨_, hexec, htier, by rw [hreg]; exact hgood, by rw [hreg]; exact hbad,
      fun _ r hr hds => State.failReads_fails _ _ _ hr hds, fun r i j h => by rw [hreg]; exact hregs r i j h, hframe⟩

/-! ### Parcels that are opened (R177, R251) -/

theorem State.yieldUnit_regsBut {s : State} {k n : Nat} : State.regsBut [.msSliceYields] s (s.yieldUnit k n) := by
  unfold State.yieldUnit
  split
  · exact State.regsBut_bumpBy (s := { s with ms := { s.ms with slice := none } }) (List.mem_singleton_self _)
  · exact State.regsBut_refl

/-- What a core's work on a parcel does: it counts bytes, and opens none. -/
structure State.CoreWorked (s t : State) : Prop where
  regs : State.regsBut [.msSliceYields, .ceCoreBytes] s t
  opened : t.ce.opened = s.ce.opened

theorem State.coreWorked_onCore (s : State) (i n : Nat) : s.CoreWorked (s.onCore i n) := by
  have hce : (s.yieldUnit 5 i).ce = s.ce := State.yieldUnit_frame .ce rfl
  unfold State.onCore
  extract_lets t u ce v
  exact ⟨State.regsBut_trans (State.regsBut_mono State.yieldUnit_regsBut (by simp)) (State.regsBut_bumpBy (s := v) (by simp)),
    (congrArg CeState.opened hce :)⟩

theorem State.coreWorked_coreWork (s : State) (n : Nat) : s.CoreWorked (s.coreWork n) := by
  unfold State.coreWork
  extract_lets all free all'
  split
  · exact s.coreWorked_onCore ..
  · split
    · exact s.coreWorked_onCore ..
    · exact ⟨State.regsBut_refl, rfl⟩

/-- A parcel whose tag agrees under the key its function holds is kept, opened (R251). -/
theorem State.openParcel_of_tag {s : State} {c : Cmd} {x : TapeRead} {ds i : Nat} {b key h ct iv : Bytes} (hh : b.take 64 = h)
    (hct : (b.drop 64).take (fieldBE h 48 4) = ct) (hiv : (h.drop 32).take 12 = iv)
    (hk : s.keyFor c.fn (fieldBE h 28 4) = some key) (htag : gcmTag key iv h ct = (b.drop (64 + ct.length)).take 16) :
    (⟨ds, i, h, gcmCrypt key iv ct⟩ : OpenParcel) ∈ (s.openParcel c x ds i b).ce.opened ∧
      (s.openParcel c x ds i b).pe = s.pe ∧ Frame [.regs, .ce, .ms] s (s.openParcel c x ds i b) := by
  have hwork : Frame [.regs, .ce, .ms] s (s.coreWork ct.length) := State.coreWork_frame
  unfold State.openParcel
  simp only [hh, hct, hiv, hk, if_pos htag]
  exact ⟨List.mem_append_right _ (List.mem_singleton_self _), hwork .pe rfl, Frame.ce hwork rfl⟩

/-- A parcel whose tag does not agree fails its read, and none of it is kept (R251). -/
theorem State.openParcel_of_not_tag {s : State} {c : Cmd} {x : TapeRead} {ds i : Nat} {b key h ct iv : Bytes}
    (hh : b.take 64 = h) (hct : (b.drop 64).take (fieldBE h 48 4) = ct) (hiv : (h.drop 32).take 12 = iv)
    (hk : s.keyFor c.fn (fieldBE h 28 4) = some key) (htag : ¬ gcmTag key iv h ct = (b.drop (64 + ct.length)).take 16) :
    ⟨x.stream, x.record, none, [], none, some (stReadFault, 0x13)⟩ ∈ (s.openParcel c x ds i b).pe.decoded ∧
      (s.openParcel c x ds i b).ce.opened = s.ce.opened ∧
      (s.openParcel c x ds i b).reg .ceAuthFail 0 0 = min (s.reg .ceAuthFail 0 0 + 1) 0xFFFFFFFF ∧
      Frame [.regs, .pe, .ce, .ms] s (s.openParcel c x ds i b) := by
  have hwork : Frame [.regs, .ce, .ms] s (s.coreWork ct.length) := State.coreWork_frame
  obtain ⟨hregs, hopened⟩ := s.coreWorked_coreWork ct.length
  have hcount : ((s.coreWork ct.length).bump .ceAuthFail 0 0).reg .ceAuthFail 0 0 = min (s.reg .ceAuthFail 0 0 + 1) 0xFFFFFFFF := by
    rw [← hregs .ceAuthFail 0 0 (by decide)]
    exact State.reg_bumpBy_self ..
  unfold State.openParcel
  simp only [hh, hct, hiv, hk, if_neg htag]
  exact ⟨State.mem_decoded_deliverRec .., hopened, hcount,
    Frame.step (Frame.step (hwork.mono (by decide)) State.bump_frame rfl) State.failRec_frame rfl⟩

/-- PARCEL_OPEN opens the parcel whose header names it, for the command and the read that wait for it. -/
theorem State.parcelOpen_eq {s : State} {id ds i : Nat} {c : Cmd} {x : TapeRead} {at_ : Nat × Nat} {b : Bytes}
    (hc : s.cmd? id = some c) (hx : (s.pe.reads.find? fun t => t.cmd == id && t.dataset == ds) = some x)
    (hwait : s.cipherWaits = false) (hcipher : s.noCipher = false) (hplace : s.parcelPlace ds i = some at_)
    (hb : s.payloadPart ds at_.1 at_.2 = some b) (hmagic : fieldBE b 0 2 = 0x50A7) (hten : fieldBE b 4 1 = s.tenant c.fn)
    (hkey : streamKey (fieldBE b 4 1) (fieldBE b 8 8) = x.stream) : s.parcelOpen id ds i = s.openParcel c x ds i b := by
  have hpart : ((s.parcelPlace ds i).bind fun p => s.payloadPart ds p.1 p.2) = some b := by rw [hplace, Option.bind_some, hb]
  have hready : ¬ (s.cipherWaits || s.noCipher) = true := by simp [hwait, hcipher]
  -- One guard at a time: a single `simp only` here leaves the kernel a minute of evaluation.
  rw [State.parcelOpen, hc, hx]
  dsimp only
  rw [if_neg hready, hpart]
  dsimp only
  rw [if_pos ⟨hmagic, hten, hkey⟩]

/-! ### Parcels that are decompressed (R227, R229) -/

theorem State.countEngine_regsBut {s : State} {n i o st : Nat} :
    State.regsBut [.cxEngIn, .cxEngOut, .cxEngStored] s (s.countEngine n i o st) := by
  unfold State.countEngine
  extract_lets e i' o' u
  exact State.regsBut_trans (State.regsBut_trans (State.regsBut_bumpBy (s := u) (by simp))
    (State.regsBut_bumpBy (by simp))) (State.regsBut_bumpBy (by simp))

/-- A decompressor takes a parcel up: a slice test of it ends, and its bytes are counted. -/
def State.decompressing (s : State) (unit : Nat) (o : OpenParcel) (r : List Run × Bytes × Option Trip) : State :=
  (s.yieldUnit 4 unit).countEngine (32 + unit) o.payload.length ((r.1.map fun x => x.data.length).sum + r.2.1.length) 0

/-- An opened parcel that has been decompressed is let go. -/
def State.dropOpened (s : State) (ds i : Nat) : State :=
  { s with ce := { s.ce with opened := s.ce.opened.filter fun o => !(o.dataset == ds && o.index == i) } }

theorem State.opened_dropOpened {s : State} {ds i : Nat} {x : OpenParcel} (hx : x ∈ (s.dropOpened ds i).ce.opened)
    (hds : x.dataset = ds) : x.index ≠ i := by
  have hkept := (List.mem_filter.mp hx).2
  simpa [hds] using hkept

section
variable {s : State} {unit ds i upto : Nat} {o : OpenParcel} {l : List Run} {rest : Bytes} {trip : Option Trip}
  (ho : (s.ce.opened.find? fun o => o.dataset == ds && o.index == i) = some o) (hu : unit < 32)
  (husable : s.engineUsable (32 + unit) = true) (hbelow : s.below 4 = false)
include ho hu husable hbelow

/-- A parcel of one whole record, which is the one asked for, delivers it and is let go. -/
theorem State.parcelDecompress_of_one {data : Bytes}
    (hr : decompress (fieldBE o.head 44 4) (bitOf (fieldBE o.head 3 1) 0) o.payload = ([⟨data, .recEnd⟩], rest, trip))
    (hcont : bitOf (fieldBE o.head 3 1) 0 = false) (hupto : upto = fieldBE o.head 16 8) :
    s.parcelDecompress unit ds i upto = ((s.decompressing unit o ([⟨data, .recEnd⟩], rest, trip)).deliverRec
      ⟨streamKey (fieldBE o.head 4 1) (fieldBE o.head 8 8), fieldBE o.head 16 8, none, data, none, none⟩).dropOpened ds i := by
  subst hupto
  have hguard : ¬ (32 ≤ unit ∨ s.engineUsable (32 + unit) = false ∨ s.below 4 = true) := by simp [hu, husable, hbelow]
  unfold State.parcelDecompress
  simp only [ho, if_neg hguard, hr]
  simp [hcont, State.takeRuns, State.takeRun, State.decompressing, State.dropOpened]

/-- A guard that trips before the first record fails it, and the parcel is let go (R229). -/
theorem State.parcelDecompress_of_trip {x : Trip}
    (hr : decompress (fieldBE o.head 44 4) (bitOf (fieldBE o.head 3 1) 0) o.payload = ([], rest, some x))
    (hupto : fieldBE o.head 16 8 ≤ upto) :
    s.parcelDecompress unit ds i upto = (((s.decompressing unit o ([], rest, some x)).guardTrip unit ds x).failRec
      (streamKey (fieldBE o.head 4 1) (fieldBE o.head 8 8)) (fieldBE o.head 16 8) stExpansionLimit 0).dropOpened ds i := by
  have hguard : ¬ (32 ≤ unit ∨ s.engineUsable (32 + unit) = false ∨ s.below 4 = true) := by simp [hu, husable, hbelow]
  unfold State.parcelDecompress
  simp only [ho, if_neg hguard, hr]
  simp [Nat.not_lt.mpr hupto, State.takeRuns, State.decompressing, State.dropOpened]

end

/-- A decompressor that takes a parcel up leaves every register but the counts of its bytes and of slice tests. -/
theorem State.decompressing_regsBut {s : State} {unit : Nat} {o : OpenParcel} {r : List Run × Bytes × Option Trip} :
    State.regsBut [.msSliceYields, .cxEngIn, .cxEngOut, .cxEngStored] s (s.decompressing unit o r) :=
  State.regsBut_trans (State.regsBut_mono State.yieldUnit_regsBut (by simp))
    (State.regsBut_mono State.countEngine_regsBut (by simp))

/-- A guard's trip is counted. -/
theorem State.guardTrip_counts (s : State) (unit ds : Nat) (x : Trip) :
    (s.guardTrip unit ds x).reg .cxDxTrips 0 0 = min (s.reg .cxDxTrips 0 0 + 1) 0xFFFFFFFF := by
  unfold State.guardTrip
  extract_lets u
  rw [State.logEv_regsBut _ _ _ (by decide), State.bump, State.reg_bumpBy_self, State.reg_setReg_ne _ _ (by simp)]

/-! ### The group that an unclean end left open (R307) -/

/-- The group of a number is what a change of that group makes of it. -/
theorem State.group?_modGroup {s : State} {n : Nat} {g : Group} (f : Group → Group) (hf : ∀ g, (f g).num = g.num)
    (hg : s.group? n = some g) : (s.modGroup n f).group? n = some (f g) := by
  have hnum : g.num = n := by simpa using List.find?_some hg
  have hsame : ((fun g : Group => g.num == n) ∘ fun g => if g.num = n then f g else g) = fun g => g.num == n := by
    funext x
    by_cases hx : x.num = n <;> simp [hx, hf]
  rw [State.group?, State.modGroup, List.find?_map, hsame]
  refine (congrArg (Option.map _) hg).trans ?_
  simp [hnum]

/-- The members as re-read make up the group, which is closed and repaired. -/
theorem c3GroupClose_closes {s : State} {ms : List MemberRead} {g : Group}
    (hg : (s.df.groups.find? fun g => g.repair == 1) = some g) :
    ∃ t h, exec (.c3GroupClose ms) s = .next t ∧ t.group? g.num = some h ∧ h.closed = true ∧ h.repair = 2 ∧
      h.members.length = min 30 ms.length ∧ t.df.datasets = s.df.datasets ∧ Frame [.df] s t := by
  have hframe : Frame [.df] s (s.groupClose ms) := State.groupClose_frame
  have hexec : exec (.c3GroupClose ms) s = .next (s.groupClose ms) := rfl
  obtain ⟨g', hg'⟩ : ∃ g', s.group? g.num = some g' := by
    have hmem := List.mem_of_find?_eq_some hg
    exact Option.isSome_iff_exists.mp (List.find?_isSome.mpr ⟨g, hmem, by simp⟩)
  unfold State.groupClose at hexec hframe
  simp only [hg] at hexec hframe
  refine ⟨_, _, hexec, State.group?_modGroup _ (fun _ => rfl) hg', rfl, rfl, ?_, rfl, hframe⟩
  simp [Group.closeEarly]

/-- Settles O37: tiers, parcels, records and the group that an unclean end left, each by its own theorem above. -/
theorem tiersParcelsAndRecordsAreRecovered : Obligations.TiersParcelsAndRecordsAreRecovered := by
  refine ⟨fun s ds k g hg hk => tierDecode_holds hg hk rfl, fun s ds k g p x hx hlost hp => c3Recover_recovers hx hlost hp rfl,
    fun s id ds i c r at_ b key hc hr hwait hcipher hplace hb hmagic hten hkey hk => ?_,
    fun s unit ds i upto o ho hu husable hbelow => ⟨fun data hr hcont hupto => ?_, fun x hx hr hupto => ?_⟩,
    fun s ms g hg => c3GroupClose_closes hg⟩
  · intro h ct iv
    have hexec : exec (.parcelOpen id ds i) s = .next (s.openParcel c r ds i b) :=
      congrArg Host.Outcome.next (State.parcelOpen_eq hc hr hwait hcipher hplace hb hmagic hten hkey)
    refine ⟨_, hexec, ?_⟩
    by_cases htag : gcmTag key iv h ct = (b.drop (64 + ct.length)).take 16
    · obtain ⟨hopened, hpe, hframe⟩ := State.openParcel_of_tag (x := r) (ds := ds) (i := i) rfl rfl rfl hk htag
      exact ⟨hframe.mono (by decide), fun _ => ⟨hopened, hpe⟩, fun hn => absurd htag hn⟩
    · obtain ⟨hfailed, hopened, hcount, hframe⟩ := State.openParcel_of_not_tag (x := r) (ds := ds) (i := i) rfl rfl rfl hk htag
      exact ⟨hframe, fun hn => absurd hn htag, fun _ => ⟨hfailed, hopened, hcount⟩⟩
  · have hrun := State.parcelDecompress_of_one ho hu husable hbelow (Prod.ext hr rfl) hcont hupto
    have hexec : exec (.parcelDecompress unit ds i upto) s = .next _ := congrArg Host.Outcome.next hrun
    have hframe : Frame [.regs, .pe, .cx, .ce, .ms] s (s.parcelDecompress unit ds i upto) := State.parcelDecompress_frame
    rw [hrun] at hframe
    exact ⟨_, hexec, State.mem_decoded_deliverRec .., fun x hx => State.opened_dropOpened hx, hframe⟩
  · have hrun := State.parcelDecompress_of_trip ho hu husable hbelow (Prod.ext hr (Prod.ext rfl hx)) hupto
    have hexec : exec (.parcelDecompress unit ds i upto) s = .next _ := congrArg Host.Outcome.next hrun
    have hframe : Frame [.regs, .pe, .cx, .ce, .ms] s (s.parcelDecompress unit ds i upto) := State.parcelDecompress_frame
    rw [hrun] at hframe
    refine ⟨_, hexec, State.mem_decoded_deliverRec .., (State.guardTrip_counts ..).trans ?_, hframe⟩
    rw [State.decompressing_regsBut _ _ _ (by decide)]

end Sys2Proof.Machine
end

section
/-! Which read the tape serves next, and where a locate lands (R175, R176). -/

namespace Sys2Proof.Machine

-- One theorem at a time: run ahead of the kernel, each would hold a thread and its stack.
set_option Elab.async false

/-! ### The next target (R176) -/

/-- Of a list that is not empty, one entry is the smallest. -/
theorem exists_smallest {α : Type} (f : α → Nat) {l : List α} (h : l ≠ []) : ∃ a ∈ l, smallest f l = some a := by
  induction l with
  | nil => exact absurd rfl h
  | cons a l ih =>
    by_cases hl : l = []
    · subst hl
      exact ⟨a, List.mem_singleton_self a, rfl⟩
    · obtain ⟨b, hb, hs⟩ := ih hl
      by_cases hlt : f b < f a
      · exact ⟨b, List.mem_cons_of_mem a hb, by simp [smallest, hs, hlt]⟩
      · exact ⟨a, List.mem_cons_self, by simp [smallest, hs, hlt]⟩

/-- A read that waits is the next target, one that has waited long where there is one. -/
theorem State.exists_nextTarget {s : State} (h : s.pe.reads ≠ []) :
    ∃ r ∈ s.pe.reads, s.nextTarget = some r ∧ ∀ x ∈ s.pe.reads, x.longWaited = true → r.longWaited = true := by
  unfold State.nextTarget
  cases hlong : s.pe.reads.find? (·.longWaited) with
  | some r => exact ⟨r, List.mem_of_find?_eq_some hlong, rfl, fun _ _ _ => List.find?_some hlong⟩
  | none =>
    have hnone : ∀ x ∈ s.pe.reads, ¬ x.longWaited = true := List.find?_eq_none.mp hlong
    by_cases hahead : (s.pe.reads.filter fun t => (s.ahead t).isSome) = []
    · obtain ⟨r, hr, hs⟩ := exists_smallest
        (fun t => Config.locateTime (s.sm.wrap.getD 0) (s.sm.chain / 2) (s.readAt t).1 (s.readAt t).2) h
      exact ⟨r, hr, by simp [hahead, smallest, hs], fun x hx hw => absurd hw (hnone x hx)⟩
    · obtain ⟨r, hr, hs⟩ := exists_smallest (fun t => (s.ahead t).getD 0) hahead
      exact ⟨r, List.mem_of_mem_filter hr, by simp [hs], fun x hx hw => absurd hw (hnone x hx)⟩

/-! ### The commands -/

theorem readTargetSelect_chooses {s : State} (hreads : s.pe.reads ≠ []) (hmay : s.readsMayRun = true)
    (hrun : s.df.running = false) :
    ∃ t r, exec .readTargetSelect s = .next t ∧ r ∈ s.pe.reads ∧ t.pe.target = some r.cmd ∧ t.pe.writeStopped = true ∧
      (∀ x ∈ s.pe.reads, x.longWaited = true → r.longWaited = true) ∧ t.pe.reads = s.pe.reads ∧ Frame [.pe] s t := by
  obtain ⟨r, hr, htarget, hlong⟩ := State.exists_nextTarget hreads
  have hselect : s.selectTarget = { s with pe := { s.pe with target := some r.cmd, writeStopped := true } } := by
    simp [State.selectTarget, hreads, hmay, hrun, htarget]
  exact ⟨_, r, congrArg Host.Outcome.next hselect, hr, rfl, rfl, hlong, rfl, Frame.pe Frame.refl rfl⟩

theorem readTargetSelect_resumes {s : State} (hreads : s.pe.reads = []) :
    ∃ t, exec .readTargetSelect s = .next t ∧ t.pe.target = none ∧ t.pe.writeStopped = false ∧
      t.pe.streams = s.pe.streams ∧ t.pe.parcels = s.pe.parcels ∧ Frame [.pe, .bm, .ce, .ed] s t := by
  have hframe : Frame [.pe, .bm, .ce, .ed] s s.selectTarget := State.selectTarget_frame
  have hexec : exec .readTargetSelect s = .next s.selectTarget := rfl
  rw [State.selectTarget, if_pos (by simp [hreads])] at hframe hexec
  exact ⟨_, hexec, rfl, rfl, rfl, rfl, hframe⟩

theorem readWaitExpiry_marks {s : State} {id : Nat} (long : Bool) (h : (s.pe.reads.any fun t => t.cmd == id) = true) :
    ∃ t, exec (.readWaitExpiry id long) s = .next t ∧ t.pe.writeStopped = true ∧
      t.pe.reads = s.pe.reads.map (fun r =>
        if r.cmd = id then { r with waited := true, longWaited := r.longWaited || long } else r) ∧ Frame [.pe] s t :=
  ⟨_, congrArg Host.Outcome.next (if_pos h), rfl, rfl, Frame.pe Frame.refl rfl⟩

/-- Where the target of the reads is found and the transport serves, the tape is stood before its dataset. -/
theorem State.land_of_target {s : State} {r : TapeRead}
    (hr : (s.pe.reads.find? fun t => s.pe.target == some t.cmd) = some r) (hup : s.transportDown = false) :
    s.land = { s.draw with
      df := { s.df with speed := s.readSpeed (s.readAt r).1 r.dataset }
      sm := { s.sm with wrap := some (s.readAt r).1, band := some (bandOf (s.readAt r).1)
                        chain := 2 * s.landing (s.readAt r).1 (s.readAt r).2, reverse := isReverse (s.readAt r).1
                        state := 2, brake := false, reels := 1 }
      pe := { s.pe with reads := s.pe.reads.map fun u =>
        if u.dataset = r.dataset then { u with landed := true } else u } } := by
  simp [State.land, hr, hup]

/-- Settles O36: READ_TARGET_SELECT with and without reads, READ_WAIT_EXPIRY, and LOCATE_LANDING. -/
theorem tapeReadsAreServedInOrder : Obligations.TapeReadsAreServedInOrder := by
  refine ⟨fun s hreads hmay hrun => readTargetSelect_chooses hreads hmay hrun, fun s hreads => readTargetSelect_resumes hreads,
    fun s id long h => readWaitExpiry_marks long h, fun s r hr hup => ?_⟩
  have hframe : Frame [.pe, .df, .sm, .fresh] s s.land := State.land_frame
  rw [State.land_of_target hr hup] at hframe
  refine ⟨_, congrArg Host.Outcome.next (State.land_of_target hr hup), rfl, rfl, rfl, rfl, ?_, List.length_map .., rfl, rfl,
    hframe⟩
  intro x hx hds
  obtain ⟨u, -, rfl⟩ := List.mem_map.mp hx
  by_cases hu : u.dataset = r.dataset
  · rw [if_pos hu]
  · rw [if_neg hu] at hds
    exact absurd hds hu

end Sys2Proof.Machine
end

section
/-! Runs released, and parcels on the compressors (R154, R158, R178, R226). -/

namespace Sys2Proof.Machine

-- One theorem at a time: run ahead of the kernel, each would hold a thread and its stack.
set_option Elab.async false

/-! ### Runs (R158) -/

/-- A stream reads as released where it is the one named or of its affinity group, and as before elsewhere. -/
theorem State.stream?_releaseStream {s : State} {k j : Nat} {x y : Stream} (hx : s.stream? k = some x)
    (hy : s.stream? j = some y) : (s.releaseStream k).stream? j =
      some (if j = k ∨ (x.affinity ≠ 0 ∧ y.tenant = x.tenant ∧ y.affinity = x.affinity) then y.release else y) := by
  have hset : (s.setStream k x.release).stream? j = some (if j = k then y.release else y) := by
    by_cases hj : j = k
    · subst hj
      rw [State.stream_setStream_self, if_pos rfl, Option.some.inj (hx.symm.trans hy)]
    · rw [State.stream_setStream_ne s _ hj, hy, if_neg hj]
  unfold State.releaseStream
  simp only [hx]
  by_cases ha : x.affinity = 0
  · rw [if_pos ha, hset]
    simp [ha]
  · rw [if_neg ha]
    rw [State.stream?, Tab.find_each, show Tab.find (s.setStream k x.release).pe.streams j = _ from hset]
    by_cases hj : j = k <;> by_cases hg : y.tenant = x.tenant ∧ y.affinity = x.affinity <;>
      simp [hj, hg, ha, Stream.release]

/-! ### Compressors (R177, R178, R226) -/

@[simp] theorem State.engineCx_setEngineCx_self (s : State) (n : Nat) (e : CxEngine) : (s.setEngineCx n e).engineCx n = e := by
  simp [State.engineCx, State.setEngineCx]

theorem State.engineCx_setEngineCx_ne (s : State) {n m : Nat} (e : CxEngine) (h : m ≠ n) :
    (s.setEngineCx n e).engineCx m = s.engineCx m := by
  simp [State.engineCx, State.setEngineCx, Tab.get_set_ne _ _ _ h]

theorem State.engineCx_congr {s t : State} (h : t.cx.engines = s.cx.engines) : t.engineCx = s.engineCx := by
  funext n
  rw [State.engineCx, h, State.engineCx]

/-- A parcel put out leaves its compressor's job, and the other compressors. -/
theorem State.engines_putOut (s : State) (eng : Nat) (o : CxOut) (stored : Nat) : ∃ inRest outRest,
    (s.putOut eng o stored).engineCx =
      (s.setEngineCx eng { s.engineCx eng with inRest := inRest, outRest := outRest }).engineCx :=
  ⟨_, _, State.engineCx_congr rfl⟩

theorem State.putOut_regsBut {s : State} {eng : Nat} {o : CxOut} {stored : Nat} :
    State.regsBut [.cxEngIn, .cxEngOut, .cxEngStored] s (s.putOut eng o stored) := by
  unfold State.putOut
  extract_lets u
  exact State.regsBut_trans (t := u) State.countEngine_regsBut (State.regsBut_of_frame (l := [.cx]) (Frame.cx Frame.refl rfl))

/-- A unit that is not under slice test yields nothing (R484). -/
theorem State.yieldUnit_of_free {s : State} {t n : Nat} (h : s.ms.slice ≠ some (t, n)) : s.yieldUnit t n = s := if_neg h

section
variable {s : State} {eng k budget : Nat} {x : Stream} (husable : s.engineUsable eng = true) (heng : eng < 32)
include husable heng

/-- On a free compressor the stream's next parcel starts where compression stands. -/
theorem State.parcelCompress_of_free (hslice : s.ms.slice ≠ some (3, eng)) (hjob : (s.engineCx eng).job = none)
    (hx : s.stream? k = some x) (hmay : s.mayCompress k x = true) :
    s.parcelCompress eng k budget false =
      s.setEngineCx eng { s.engineCx eng with job := some ⟨k, s.compressed k x, decide (1 < x.cxCount)⟩ } := by
  simp [State.parcelCompress, husable, heng, State.yieldUnit_of_free hslice, hjob, hx, hmay]

/-- The parcel in progress ends: its compressor is free and it is put out. -/
theorem State.parcelCompress_of_job {j : CxJob} {r : CxOut × Nat} (hslice : s.ms.slice ≠ some (3, eng))
    (hjob : (s.engineCx eng).job = some j) (hk : j.stream = k) (hx : s.stream? k = some x)
    (hr : s.compressFrom k x j.start (some budget) = some r) :
    s.parcelCompress eng k budget true =
      (s.setEngineCx eng { s.engineCx eng with job := none }).putOut eng r.1 r.2 := by
  simp [State.parcelCompress, State.compressParcel, husable, heng, State.yieldUnit_of_free hslice, hjob, hk, hx, hr]

end

/-- What work on a compressor leaves: the saved contexts, and every register but the counts of its bytes and of slice tests. -/
structure State.Compresses (s t : State) : Prop where
  images : t.cx.images = s.cx.images
  regs : State.regsBut [.cxEngIn, .cxEngOut, .cxEngStored, .msSliceYields] s t

namespace State.Compresses

variable {s t u : State} {n : Nat}

theorem refl : s.Compresses s := ⟨rfl, State.regsBut_refl⟩

theorem trans (h1 : s.Compresses t) (h2 : t.Compresses u) : s.Compresses u :=
  ⟨h2.images.trans h1.images, State.regsBut_trans h1.regs h2.regs⟩

theorem yieldUnit {k : Nat} : s.Compresses (s.yieldUnit k n) :=
  ⟨congrArg CxState.images (State.yieldUnit_frame .cx rfl), State.regsBut_mono State.yieldUnit_regsBut (by simp)⟩

theorem setEngineCx {e : CxEngine} : s.Compresses (s.setEngineCx n e) :=
  ⟨rfl, State.regsBut_of_frame State.setEngineCx_frame⟩

theorem putOut {o : CxOut} {stored : Nat} : s.Compresses (s.putOut n o stored) :=
  ⟨rfl, State.regsBut_mono State.putOut_regsBut (by simp)⟩

theorem compressParcel {k budget : Nat} {start : Place} : s.Compresses (s.compressParcel n k budget start) := by
  unfold State.compressParcel
  split
  · exact refl
  · split
    · exact refl
    · exact setEngineCx.trans putOut

theorem parcelCompress {k budget : Nat} {finish : Bool} : s.Compresses (s.parcelCompress n k budget finish) := by
  unfold State.parcelCompress
  split
  · exact refl
  · refine yieldUnit.trans (t := s.yieldUnit 3 n) ?_
    extract_lets u
    split
    · split
      · exact compressParcel
      · exact refl
    · split
      · exact refl
      · extract_lets a
        split
        · exact refl
        · split
          · exact compressParcel
          · exact setEngineCx

end State.Compresses

/-- The parcel in progress on a compressor is saved and the move counted (R178, R226). -/
def State.saveContext (s : State) (eng : Nat) (j : CxJob) : State :=
  (({ s with cx := { s.cx with images := s.cx.images.set s.freeImage j } } : State).setEngineCx eng
    { s.engineCx eng with job := none }).bump .peCxMoves 0 0

theorem State.waitSave_of_job {s : State} {eng k budget : Nat} {j : CxJob} (husable : s.engineUsable eng = true)
    (heng : eng < 32) (hjob : (s.engineCx eng).job = some j) (hk : j.stream ≠ k) (hwaits : s.endWaits k = true) :
    s.waitSave eng k budget = (s.saveContext eng j).parcelCompress eng k budget true := by
  simp only [State.waitSave, hjob, husable, heng, hwaits]
  simp [hk]
  rfl

/-- A saved parcel goes on, on a compressor that is free (R226). -/
theorem State.contextRestore_of_free {s : State} {eng img : Nat} {j : CxJob} (husable : s.engineUsable eng = true)
    (heng : eng < 32) (hjob : (s.engineCx eng).job = none) (himg : Tab.find s.cx.images img = some j) :
    s.contextRestore eng img = (({ s with cx := { s.cx with images := s.cx.images.del img } } : State).setEngineCx eng
      { s.engineCx eng with job := some j }).bump .cxCtxRestores 0 0 := by
  simp only [State.contextRestore, himg, husable, heng, hjob]
  rfl

/-! ### The commands -/

theorem holdMaxExpiry_releases {s : State} {k : Nat} {x : Stream} (hx : s.stream? k = some x) :
    ∃ t, exec (.holdMaxExpiry k) s = .next t ∧
      (∀ (j : Nat) (y : Stream), s.stream? j = some y → t.stream? j =
        some (if j = k ∨ (x.affinity ≠ 0 ∧ y.tenant = x.tenant ∧ y.affinity = x.affinity) then
          { y with runEnd := max y.runEnd y.seqEnd } else y)) ∧ Frame [.pe] s t :=
  ⟨_, rfl, fun _ _ hy => State.stream?_releaseStream hx hy, State.releaseStream_frame⟩

theorem compressorWaitSave_saves {s : State} {eng k : Nat} (budget : Nat) {j : CxJob} (husable : s.engineUsable eng = true)
    (heng : eng < 32) (hjob : (s.engineCx eng).job = some j) (hk : j.stream ≠ k) (hwaits : s.endWaits k = true) :
    ∃ t, exec (.compressorWaitSave eng k budget) s = .next t ∧ Tab.find t.cx.images s.freeImage = some j ∧
      t.reg .peCxMoves 0 0 = min (s.reg .peCxMoves 0 0 + 1) 0xFFFFFFFF ∧ Frame [.regs, .cx, .ms] s t := by
  have hrun := State.waitSave_of_job (budget := budget) husable heng hjob hk hwaits
  have hkept : (s.saveContext eng j).Compresses ((s.saveContext eng j).parcelCompress eng k budget true) := .parcelCompress
  refine ⟨_, congrArg Host.Outcome.next hrun, ?_, ?_, hrun ▸ State.waitSave_frame⟩
  · rw [hkept.images]
    exact Tab.find_set_self ..
  · rw [hkept.regs _ _ _ (by decide)]
    exact State.reg_bumpBy_self ..

theorem contextRestore_restores {s : State} {eng img : Nat} {j : CxJob} (husable : s.engineUsable eng = true)
    (heng : eng < 32) (hjob : (s.engineCx eng).job = none) (himg : Tab.find s.cx.images img = some j) :
    ∃ t, exec (.contextRestore eng img) s = .next t ∧ (t.engineCx eng).job = some j ∧ Tab.find t.cx.images img = none ∧
      t.cx.outs = s.cx.outs ∧ t.reg .cxCtxRestores 0 0 = min (s.reg .cxCtxRestores 0 0 + 1) 0xFFFFFFFF ∧
      State.regsBut [.cxCtxRestores] s t ∧ Frame [.regs, .cx] s t := by
  have hrun := State.contextRestore_of_free husable heng hjob himg
  refine ⟨_, congrArg Host.Outcome.next hrun, ?_, Tab.find_del_self .., rfl, State.reg_bumpBy_self .., ?_,
    hrun ▸ State.contextRestore_frame⟩
  · exact congrArg CxEngine.job (State.engineCx_setEngineCx_self _ eng { s.engineCx eng with job := some j })
  · exact State.regsBut_bumpBy (List.mem_singleton_self _)

/-- Settles O26: HOLD_MAX_EXPIRY, PARCEL_COMPRESS at the start and at the end of a parcel, COMPRESSOR_WAIT_SAVE and
CONTEXT_RESTORE. -/
theorem runsAreReleasedAndCompressed : Obligations.RunsAreReleasedAndCompressed := by
  refine ⟨fun s k x hx => holdMaxExpiry_releases hx, fun s eng k budget x husable heng hslice hjob hx hmay => ?_,
    fun s eng k budget x j r husable heng hslice hjob hk hx hr => ?_,
    fun s eng k budget j husable heng hjob hk hwaits => compressorWaitSave_saves budget husable heng hjob hk hwaits,
    fun s eng img j husable heng hjob himg => contextRestore_restores husable heng hjob himg⟩
  · refine ⟨_, congrArg Host.Outcome.next (State.parcelCompress_of_free husable heng hslice hjob hx hmay), ?_,
      fun n hn => State.engineCx_setEngineCx_ne s _ hn, rfl, State.setEngineCx_frame⟩
    rw [State.engineCx_setEngineCx_self]
  · obtain ⟨a, b, hengines⟩ := (s.setEngineCx eng { s.engineCx eng with job := none }).engines_putOut eng r.1 r.2
    refine ⟨_, congrArg Host.Outcome.next (State.parcelCompress_of_job husable heng hslice hjob hk hx hr), rfl, ?_,
      fun n hn => ?_, ?_, ?_⟩
    · rw [hengines, State.engineCx_setEngineCx_self, State.engineCx_setEngineCx_self]
    · rw [hengines, State.engineCx_setEngineCx_ne _ _ hn, State.engineCx_setEngineCx_ne s _ hn]
    · exact State.regsBut_trans (State.regsBut_of_frame State.setEngineCx_frame) State.putOut_regsBut
    · exact Frame.step (Frame.step Frame.refl State.setEngineCx_frame rfl) State.putOut_frame rfl

end Sys2Proof.Machine
end

section
/-! The benchmark of a wrap and the overrides of calibration (R163, R164, R371, R372, R384). -/

namespace Sys2Proof.Machine

-- One theorem at a time: run ahead of the kernel, each would hold a thread and its stack.
set_option Elab.async false

/-! ### Lists in the order of a key -/

theorem insBy_perm {α : Type} (key : α → Nat) (a : α) (l : List α) : (insBy key a l).Perm (a :: l) := by
  induction l with
  | nil => exact List.Perm.refl _
  | cons b l ih =>
    unfold insBy
    split
    · exact List.Perm.refl _
    · exact (ih.cons b).trans (List.Perm.swap a b l)

theorem sortBy_perm {α : Type} (key : α → Nat) (l : List α) : (sortBy key l).Perm l := by
  have hacc : ∀ acc, (l.foldl (fun acc a => insBy key a acc) acc).Perm (l ++ acc) := by
    induction l with
    | nil => exact fun acc => List.Perm.refl acc
    | cons a l ih =>
      exact fun acc => (ih (insBy key a acc)).trans (((insBy_perm key a acc).append_left l).trans List.perm_middle)
  simpa [sortBy] using hacc []

/-! ### What the measurement of a benchmark leaves (R163, R371, R372) -/

/-- What the judgement of a benchmark leaves: parcels and streams, the channels' locks and geometries, and every register
but the taps. -/
structure State.Measured (s t : State) : Prop where
  frame : Frame [.regs, .pe, .rc, .vc] s t
  regs : State.regsBut [.rcTap] s t
  parcels : t.pe.parcels = s.pe.parcels
  streams : t.pe.streams = s.pe.streams
  chans : t.rc.chans = s.rc.chans
  geos : t.rc.geos = s.rc.geos

namespace State.Measured

variable {s t u : State}

theorem refl : s.Measured s := ⟨Frame.refl, State.regsBut_refl, rfl, rfl, rfl, rfl⟩

theorem trans (h1 : s.Measured t) (h2 : t.Measured u) : s.Measured u :=
  ⟨h1.frame.trans h2.frame, State.regsBut_trans h1.regs h2.regs, h2.parcels.trans h1.parcels, h2.streams.trans h1.streams,
    h2.chans.trans h1.chans, h2.geos.trans h1.geos⟩

theorem ite {c : Prop} [Decidable c] (h1 : s.Measured t) (h2 : s.Measured u) : s.Measured (if c then t else u) := by
  split <;> assumption

theorem fold {α : Type} {f : State → α → State} (h : ∀ u a, State.Measured u (f u a)) (xs : List α) :
    s.Measured (xs.foldl f s) := by
  induction xs generalizing s with
  | nil => exact refl
  | cons a xs ih => exact (h s a).trans ih

/-- Work on slots and on the active set alone. -/
theorem of_frame (h : Frame [.pe, .vc] s t) (hp : t.pe.parcels = s.pe.parcels := by rfl)
    (hs : t.pe.streams = s.pe.streams := by rfl) : s.Measured t :=
  ⟨h.mono rfl, State.regsBut_of_frame h, hp, hs, congrArg RcState.chans (h .rc rfl), congrArg RcState.geos (h .rc rfl)⟩

theorem setCal {n : Nat} {c : CalSlot} : s.Measured (s.setCal n c) := of_frame (State.setCal_frame.mono rfl)

theorem modCal {n : Nat} {g : CalSlot → CalSlot} : s.Measured (s.modCal n g) := setCal

theorem setHealth {n v : Nat} : s.Measured (s.setHealth n v) := of_frame (State.setHealth_frame.mono rfl)

theorem endWindow : s.Measured s.endWindow := by
  unfold State.endWindow
  split
  · exact refl
  · extract_lets u
    exact (fold (fun _ _ => setHealth.trans setCal) _).trans (t := u) (of_frame (Frame.pe Frame.refl rfl))

theorem adapt {n : Nat} : s.Measured (s.adapt n) := by
  have hframe : Frame [.rc] s (s.adapt n) := State.adapt_frame
  refine ⟨hframe.mono rfl, State.regsBut_of_frame hframe, congrArg PeState.parcels (hframe .pe rfl),
    congrArg PeState.streams (hframe .pe rfl), ?_, ?_⟩
  all_goals
    unfold State.adapt
    split <;> rfl

theorem restartKernels : s.Measured s.restartKernels := by
  refine ⟨State.restartKernels_frame.mono rfl, ?_, rfl, rfl, rfl, rfl⟩
  intro r i k hr
  have hname : (r == .rcTap) = false := by simpa using hr
  unfold State.reg State.restartKernels
  rw [Tab.find_keep s.regs (fun k => !(keyName k == .rcTap && decide (17 ≤ keySel k % 64))), keyName_regKey, hname]
  rfl

theorem startWindow {w : Nat} {slots steps : List Nat} : s.Measured (s.startWindow w slots steps) := by
  unfold State.startWindow
  extract_lets u
  exact (fold (fun _ _ => modCal) _).trans (t := u) (of_frame (Frame.pe Frame.refl rfl))

end State.Measured

/-! ### Slots that fail the benchmark (R163, R372) -/

/-- What one slot's measurement makes of it: its result is kept, and its health is 0 where it does not pass. -/
def State.judgeSlot (res : List BenchRead) (s : State) (n : Nat) : State :=
  let b := res.getD n ⟨false, 0, 0⟩
  let s := s.modCal n fun c => { c.emptied with retired := false, bench := some b }
  if s.trains b then s else s.setHealth n 0

/-- The part with every slot judged, before the active set is chosen. -/
def State.judged (s : State) (res : List BenchRead) : State :=
  (List.range 136).foldl (State.judgeSlot res) ((List.range 136).foldl State.adapt s.endWindow).restartKernels

/-- The wrap starts with the slots chosen; with fewer than 96, writes are refused (R164). -/
def State.startWrap (s : State) (w : Nat) : State :=
  let a := s.chooseActive
  let s := s.startWindow w a.1 (s.startSteps (bandOf w) a.1)
  if a.1.length < 96 then { s with pe := { s.pe with refused := true } } else s

theorem State.benchmark_eq (s : State) (w : Nat) (res : List BenchRead) : s.benchmark w res = (s.judged res).startWrap w := by
  unfold State.benchmark State.judged State.startWrap
  delta State.judgeSlot
  dsimp only

theorem State.Measured.judgeSlot {res : List BenchRead} {s : State} {n : Nat} : s.Measured (s.judgeSlot res n) :=
  ite modCal (modCal.trans setHealth)

theorem State.measured_judged (s : State) (res : List BenchRead) : s.Measured (s.judged res) :=
  ((State.Measured.endWindow.trans (.fold (fun _ _ => .adapt) _)).trans .restartKernels).trans
    (.fold (fun _ _ => .judgeSlot) _)

/-- What passes is judged by VC_BENCH alone, which the measurement leaves. -/
theorem State.Measured.trains {s t : State} (h : s.Measured t) (b : BenchRead) : t.trains b = s.trains b := by
  unfold State.trains State.fld
  rw [h.regs .vcBench 0 0 (by decide)]

@[simp] theorem State.healthOf_setHealth_self (s : State) (n v : Nat) : (s.setHealth n v).healthOf n = v := by
  simp [State.healthOf, State.setHealth]

theorem State.healthOf_setHealth_ne (s : State) {n m : Nat} (v : Nat) (h : m ≠ n) :
    (s.setHealth n v).healthOf m = s.healthOf m := by
  simp [State.healthOf, State.setHealth, Tab.get_set_ne _ _ _ h]

/-- A slot that does not pass has health 0 once it has been judged. -/
theorem State.healthOf_judgeSlot_self {s : State} {res : List BenchRead} {n : Nat}
    (h : s.trains (res.getD n ⟨false, 0, 0⟩) = false) : (s.judgeSlot res n).healthOf n = 0 := by
  unfold State.judgeSlot
  extract_lets b u
  have hu : u.trains b = false := (State.Measured.modCal.trains b).trans h
  rw [if_neg (by simp [hu]), State.healthOf_setHealth_self]

/-- No slot's judgement brings another's health up from 0. -/
theorem State.healthOf_judgeSlot_zero {s : State} {res : List BenchRead} {n : Nat} (m : Nat) (h : s.healthOf n = 0) :
    (s.judgeSlot res m).healthOf n = 0 := by
  unfold State.judgeSlot
  extract_lets b u
  split
  · exact h
  · by_cases hm : n = m
    · rw [hm, State.healthOf_setHealth_self]
    · rw [State.healthOf_setHealth_ne _ _ hm]
      exact h

theorem State.healthOf_foldl_judgeSlot {res : List BenchRead} {n : Nat} {l : List Nat} (hn : n ∈ l) (s : State)
    (h : s.trains (res.getD n ⟨false, 0, 0⟩) = false) : (l.foldl (State.judgeSlot res) s).healthOf n = 0 := by
  induction l generalizing s with
  | nil => exact absurd hn List.not_mem_nil
  | cons m l ih =>
    rcases List.mem_cons.mp hn with rfl | hn
    · exact List.foldlRecOn l (State.judgeSlot res) (motive := fun u : State => u.healthOf n = 0)
        (State.healthOf_judgeSlot_self h) fun u hu m _ => State.healthOf_judgeSlot_zero m hu
    · exact ih hn _ ((State.Measured.judgeSlot.trains _).trans h)

/-! ### The active set (R164) -/

theorem State.byHealth_perm (s : State) (l : List Nat) : (s.byHealth l).Perm l :=
  (sortBy_perm _ _).trans (sortBy_perm id l)

/-- No more slots are chosen than tracks can run at once. -/
theorem State.length_chooseActive_le (s : State) : s.chooseActive.1.length ≤ s.active 1 := by
  unfold State.chooseActive
  rw [(sortBy_perm _ _).length_eq]
  exact List.length_take_le ..

theorem State.qualifies_of_mem_chooseActive {s : State} {n : Nat} (h : n ∈ s.chooseActive.1) : s.qualifies n = true := by
  have htaken := List.mem_of_mem_take ((sortBy_perm _ _).mem_iff.mp h)
  exact (List.mem_filter.mp ((s.byHealth_perm _).mem_iff.mp htaken)).2

/-- A slot chosen after a benchmark exists, passed it, and is neither excluded nor retired. -/
theorem State.passed_of_chosen {s : State} {res : List BenchRead} {n : Nat} (h : n ∈ (s.judged res).chooseActive.1) :
    n < 136 ∧ s.trains (res.getD n ⟨false, 0, 0⟩) = true ∧ s.excluded n = false ∧ s.wc.retired.contains n = false := by
  have hkept := s.measured_judged res
  have hwc : (s.judged res).wc = s.wc := hkept.frame .wc rfl
  have hexcl : (s.judged res).excluded n = s.excluded n := by
    rw [State.excluded, hkept.regs _ _ _ (by decide), State.excluded]
  obtain ⟨⟨⟨⟨hlt, hhealth⟩, hex⟩, hret⟩, -⟩ : (((n < 136 ∧ 0 < (s.judged res).healthOf n) ∧
      (s.judged res).excluded n = false) ∧ (s.judged res).wc.retired.contains n = false) ∧
      ((s.judged res).cal n).retired = false := by
    simpa [State.qualifies] using State.qualifies_of_mem_chooseActive h
  refine ⟨hlt, ?_, hexcl ▸ hex, hwc ▸ hret⟩
  by_contra hfails
  have hstart : s.Measured ((List.range 136).foldl State.adapt s.endWindow).restartKernels :=
    (State.Measured.endWindow.trans (.fold (fun _ _ => .adapt) _)).trans .restartKernels
  have hzero : (s.judged res).healthOf n = 0 :=
    State.healthOf_foldl_judgeSlot (List.mem_range.mpr hlt) _ ((hstart.trains _).trans (by simpa using hfails))
  omega

/-! ### The commands -/

/-- Refusing writes is all that a lack of slots adds to the wrap's window. -/
theorem State.Measured.refuse {s t : State} (h : s.Measured t) : s.Measured { t with pe := { t.pe with refused := true } } :=
  h.trans (.of_frame (Frame.pe Frame.refl rfl))

/-- The wrap's window starts with the slots chosen. -/
theorem State.startWrap_starts (s : State) (w : Nat) :
    s.Measured (s.startWrap w) ∧ (s.startWrap w).pe.wrapNow = some w ∧ (s.startWrap w).pe.active = s.chooseActive.1 ∧
      (s.startWrap w).pe.caused = [] ∧ (s.chooseActive.1.length < 96 → (s.startWrap w).pe.refused = true) := by
  unfold State.startWrap
  extract_lets a t
  have ht : s.Measured t := .startWindow
  by_cases hfew : a.1.length < 96
  · rw [if_pos hfew]
    exact ⟨ht.refuse, rfl, rfl, rfl, fun _ => rfl⟩
  · rw [if_neg hfew]
    exact ⟨ht, rfl, rfl, rfl, fun h => absurd h hfew⟩

theorem State.active_congr {s t : State} {l : List Part} (h : Frame l s t) (hb : l.contains .board = false)
    (hw : l.contains .wc = false) : t.active 1 = s.active 1 := by
  have hboard : t.board = s.board := h .board hb
  have hwc : t.wc = s.wc := h .wc hw
  simp only [State.active, hboard, hwc]

theorem exec_vcCalCtrlWrite {s : State} {o : Nat} (h : s.serves (.fn o)) (v : Word) :
    exec (.vcCalCtrlWrite (.fn o) v) s = .next (s.writeCalCtrl (.fn o) v.toNat) :=
  congrArg Host.Outcome.next (State.regWrite_of_serves h .vcCalCtrl 0 v _)

/-- Settles O35: BENCHMARK_TRAIN through the slots chosen of those judged, and VC_CAL_CTRL_WRITE below and above the last slot. -/
theorem benchmarksChooseTheActiveSet : Obligations.BenchmarksChooseTheActiveSet := by
  refine ⟨fun s res w hfrontier hwrap => ?_, fun s o v hserves howner => ⟨fun hsel => ?_, fun hsel => ?_⟩⟩
  · have hexec : exec (.benchmarkTrain res) s = .next (s.benchmark w res) := by
      show execBenchmarkTrain res s = _
      simp [execBenchmarkTrain, hfrontier, hwrap]
    obtain ⟨hwrap, hnow, hactive, hcaused, hfew⟩ := (s.judged res).startWrap_starts w
    have hkept := (s.measured_judged res).trans hwrap
    rw [State.benchmark_eq] at hexec
    refine ⟨_, hexec, hnow, ?_, ?_, ?_, hcaused, hkept.parcels, hkept.streams, hkept.chans, hkept.geos, hkept.regs, hkept.frame⟩
    · rw [hactive, ← State.active_congr (s.measured_judged res).frame rfl rfl]
      exact State.length_chooseActive_le _
    · rw [hactive]
      exact fun n hn => State.passed_of_chosen hn
    · rw [hactive]
      exact hfew
  · have hwrite : s.writeCalCtrl (.fn o) v.toNat =
        s.setReg .vcCalCtrl 0 (s.fld .vcCalSel 0 0 7 0) (Nat.land v.toNat 0xF3) := by
      simp [State.writeCalCtrl, State.reachesBlock, howner, hsel]
    have hsmall : Nat.land v.toNat 0xF3 < 2 ^ 32 := lt_of_le_of_lt Nat.and_le_right (by decide)
    refine ⟨_, (exec_vcCalCtrlWrite hserves v).trans (congrArg Host.Outcome.next hwrite), ?_,
      fun r i k hne => State.reg_setReg_ne s _ hne, State.setReg_frame⟩
    rw [State.reg_setReg_self, Nat.mod_eq_of_lt hsmall]
  · rw [exec_vcCalCtrlWrite hserves, State.writeCalCtrl]
    simp [Nat.not_lt.mpr hsel]

end Sys2Proof.Machine
end

section
/-! The next extent at the frontier: void, book or data (R157, R161, R162, R168, R271, R275, R332, R337). -/

namespace Sys2Proof.Machine

-- One theorem at a time: run ahead of the kernel, each would hold a thread and its stack.
set_option Elab.async false

/-! ### What filling a dataset leaves of PE -/

/-- What the release of runs, the placing of parcels and the warnings near the end leave: the frontier, the numbering, the
active slots, the leg and the books. -/
structure State.KeepsFrontier (s t : State) : Prop where
  frontier : t.pe.frontier = s.pe.frontier
  nextDataset : t.pe.nextDataset = s.pe.nextDataset
  active : t.pe.active = s.pe.active
  legCount : t.pe.legCount = s.pe.legCount
  bookDue : t.pe.bookDue = s.pe.bookDue
  books : t.pe.books = s.pe.books

namespace State.KeepsFrontier

variable {s t u : State}

theorem of_pe (h : t.pe = s.pe) : s.KeepsFrontier t := by
  constructor <;> rw [h]

theorem refl : s.KeepsFrontier s := of_pe rfl

theorem trans (h1 : s.KeepsFrontier t) (h2 : t.KeepsFrontier u) : s.KeepsFrontier u :=
  ⟨h2.frontier.trans h1.frontier, h2.nextDataset.trans h1.nextDataset, h2.active.trans h1.active,
    h2.legCount.trans h1.legCount, h2.bookDue.trans h1.bookDue, h2.books.trans h1.books⟩

theorem ite {c : Prop} [Decidable c] (h1 : s.KeepsFrontier t) (h2 : s.KeepsFrontier u) :
    s.KeepsFrontier (if c then t else u) := by
  split <;> assumption

theorem fold {α : Type} {f : State → α → State} (h : ∀ u a, State.KeepsFrontier u (f u a)) (xs : List α) :
    s.KeepsFrontier (xs.foldl f s) := by
  induction xs generalizing s with
  | nil => exact refl
  | cons a xs ih => exact (h s a).trans ih

theorem of_frame {l : List Part} (h : Frame l s t) (hl : l.contains .pe = false := by rfl) : s.KeepsFrontier t :=
  of_pe (h .pe hl)

/-- A change of PE elsewhere. -/
theorem of_eq (hf : t.pe.frontier = s.pe.frontier := by rfl) (hn : t.pe.nextDataset = s.pe.nextDataset := by rfl)
    (ha : t.pe.active = s.pe.active := by rfl) (hl : t.pe.legCount = s.pe.legCount := by rfl)
    (hd : t.pe.bookDue = s.pe.bookDue := by rfl) (hb : t.pe.books = s.pe.books := by rfl) : s.KeepsFrontier t :=
  ⟨hf, hn, ha, hl, hd, hb⟩

theorem setStream {k : Nat} {x : Stream} : s.KeepsFrontier (s.setStream k x) := of_eq

theorem modStream {k : Nat} {g : Stream → Stream} : s.KeepsFrontier (s.modStream k g) := by
  unfold State.modStream
  split
  · exact setStream
  · exact refl

/-! ### Releases (R158) -/

theorem releaseStream {k : Nat} : s.KeepsFrontier (s.releaseStream k) := by
  unfold State.releaseStream
  split
  · exact refl
  · exact ite setStream of_eq

theorem releaseAllDue : s.KeepsFrontier s.releaseAllDue := by
  refine fold (fun u e => ?_) _
  split
  · exact ite releaseStream refl
  · exact refl

theorem releaseLow : s.KeepsFrontier s.releaseLow := ite of_eq refl

/-! ### Parcels (R159, R160) -/

theorem putParcel {d : Dataset} {f : Filling} {o : CxOut} : s.KeepsFrontier (s.putParcel d f o).1 := by
  unfold State.putParcel
  extract_lets p _ u
  exact trans (t := u) of_eq modStream

theorem fillOne {d : Dataset} {f : Filling} {k : Nat} : s.KeepsFrontier (s.fillOne d f k).1 := by
  unfold State.fillOne
  split
  · exact refl
  · split
    · exact refl
    · split
      · exact refl
      · extract_lets u r
        refine trans (t := u) (ite (of_frame State.dropOut_frame) ?_) putParcel
        split
        · exact of_frame State.countEngine_frame
        · exact refl

theorem fillTurn {d : Dataset} {f : Filling} {k n : Nat} : s.KeepsFrontier (s.fillTurn d f k n).1 := by
  induction n generalizing s f with
  | zero => exact refl
  | succ n ih =>
    unfold State.fillTurn
    extract_lets r
    have hr : s.KeepsFrontier r.1 := fillOne
    split
    · exact hr
    · split
      · exact hr.trans ih
      · exact hr

theorem fillList {d : Dataset} {f : Filling} {l : List Nat} : s.KeepsFrontier (s.fillList d f l).1 := by
  induction l generalizing s f with
  | nil => exact refl
  | cons k l ih =>
    unfold State.fillList
    split
    · exact refl
    · exact fillTurn.trans ih

theorem chargeDeficits {ds : Nat} : s.KeepsFrontier (s.chargeDeficits ds) := by
  refine fold (fun u p => ?_) _
  split
  · exact of_eq
  · exact refl

theorem fillData {d : Dataset} : s.KeepsFrontier (s.fillData d) := by
  unfold State.fillData
  extract_lets ks cont rest o r _ _ u
  have ho : s.KeepsFrontier o.1 := by
    show s.KeepsFrontier (if s.competing then s.deficitOrder rest else (s, rest)).1
    split
    · exact of_eq
    · exact refl
  have hu : s.KeepsFrontier u := (ho.trans fillList).trans (t := r.1) of_eq
  exact ite (hu.trans chargeDeficits) hu

/-! ### After forming (R166, R167, R335) -/

theorem nearEnd : s.KeepsFrontier s.nearEnd := by
  unfold State.nearEnd
  split
  · exact refl
  · extract_lets r ew _ u
    have hu : s.KeepsFrontier u :=
      ite (trans (t := { s with pe := { s.pe with ewPosted := true } }) of_eq (of_frame State.chimeAll_frame)) refl
    exact ite (hu.trans of_eq) hu

theorem afterForm {d : Dataset} : s.KeepsFrontier (s.afterForm d) := by
  unfold State.afterForm
  extract_lets cal med _ _ u
  exact ((trans (t := u) of_eq (of_frame State.draw_frame)).trans (of_frame State.noteRewrites_frame)).trans
    (nearEnd.trans (of_frame State.rewatch_frame))

end State.KeepsFrontier

/-- Forming done, the datasets and their queue stand. -/
theorem State.df_afterForm (s : State) (d : Dataset) :
    (s.afterForm d).df.datasets = s.df.datasets ∧ (s.afterForm d).df.queue = s.df.queue := by
  unfold State.afterForm
  extract_lets cal med _ _ u
  have hdf : (u.draw.noteRewrites.nearEnd.rewatch).df = u.draw.noteRewrites.df :=
    (Frame.trans (State.nearEnd_frame.mono (l := [.regs, .hi, .qe, .pe, .bm, .out]) rfl)
      (State.rewatch_frame.mono rfl)) .df rfl
  rw [hdf]
  exact ⟨rfl, rfl⟩

/-! ### A dataset at the frontier (R161, R162, R271) -/

/-- The tiers of a dataset fit into its frames (R271). -/
theorem State.tierCount_fits (s : State) (sigma : Nat) : 256 * s.tierCount sigma ≤ sigma := by
  unfold State.tierCount
  extract_lets tf
  have htf : 256 * tf ≤ sigma := by omega
  split <;> omega

theorem State.nextExtent_congr {s t : State} (h : t.ct = s.ct) : t.nextExtent = s.nextExtent := by
  funext w i
  rw [State.nextExtent, State.extents, State.endTick, h]
  rfl

theorem State.chainOf_congr {s t : State} (h : t.ct = s.ct) : t.chainOf = s.chainOf := by
  funext w i
  rw [State.chainOf, State.endTick, h]
  rfl

theorem State.queue_makeDataset (s : State) (kind num restart tiers : Nat) (slots steps : List Nat) (w i : Nat) :
    (s.makeDataset kind num restart tiers slots steps w i).1.df.queue = s.df.queue :=
  (congrArg DfState.queue ((State.takeTrims_frame (s := s) (slots := slots) (rev := isReverse w)).out .df rfl) :)

theorem State.queue_openGroup (s : State) : s.openGroup.df.queue = s.df.queue := by
  unfold State.openGroup
  extract_lets add
  split
  · rfl
  · split <;> rfl

/-- A dataset that joins a group lies where it lay, and the queue stands. -/
theorem State.joinGroup_keeps (s : State) (d : Dataset) : (s.joinGroup d).2.geo = d.geo ∧
    (s.joinGroup d).2.started = d.started ∧ (s.joinGroup d).1.df.queue = s.df.queue := by
  unfold State.joinGroup
  extract_lets u
  split
  · exact ⟨rfl, rfl, s.queue_openGroup⟩
  · exact ⟨rfl, rfl, s.queue_openGroup⟩

/-- The dataset put into the queue is the one its number names. -/
theorem State.dataset?_enqueue (s : State) (d : Dataset) : (s.enqueue d).dataset? d.num = some d := by
  have hgone : (s.df.datasets.filter fun x : Dataset => x.num != d.num).find? (·.num == d.num) = none := by
    refine List.find?_eq_none.mpr fun x hx => ?_
    simpa using (List.mem_filter.mp hx).2
  show ((s.df.datasets.filter fun x : Dataset => x.num != d.num) ++ [d]).find? (·.num == d.num) = some d
  rw [List.find?_append, hgone]
  simp

/-! ### Data and book datasets (R157, R168) -/

/-- The dataset at the frontier that takes the next number and joins the group, before it is filled. -/
def State.member (s : State) (book : Bool) (w i : Nat) : State × Dataset :=
  let steps := s.cappedSteps s.vector.1 s.vector.2
  let r := s.takeNumber.makeDataset (natOf book) s.pe.nextDataset 0 (s.tierCount (sumFrames steps)) s.vector.1 steps w i
  r.1.joinGroup r.2

/-- The part with that dataset filled and the leg counted. -/
def State.fillMember (s : State) (book : Bool) (w i : Nat) : State :=
  let j := s.member book w i
  let s := if book then j.1.fillBook j.2 else j.1.fillData j.2
  if book then s else { s with pe := { s.pe with legCount := s.pe.legCount + 1 } }

theorem State.formMember_eq (s : State) (book : Bool) (w i : Nat) : s.formMember book w i =
    ((s.fillMember book w i).enqueue (s.member book w i).2).afterForm (s.member book w i).2 := rfl

theorem State.geo_member (s : State) (book : Bool) (w i : Nat) :
    let steps := s.cappedSteps s.vector.1 s.vector.2
    let tiers := s.tierCount (sumFrames steps)
    (s.member book w i).2.geo = ⟨s.pe.nextDataset, natOf book, 0, w, s.chainOf w i, s.pe.active, steps, tiers,
      sumFrames steps - 256 * tiers⟩ := (State.joinGroup_keeps _ _).1

theorem State.member_frame {s : State} {book : Bool} {w i : Nat} : FrameP [.df, .vc] s.takeNumber (s.member book w i) :=
  Frame.trans (State.makeDataset_frame.mono (l := [.df, .vc]) rfl) (State.joinGroup_frame.mono rfl)

theorem State.queue_member (s : State) (book : Bool) (w i : Nat) : (s.member book w i).1.df.queue = s.df.queue :=
  (State.joinGroup_keeps _ _).2.2.trans (State.queue_makeDataset ..)

/-- Filling moves neither the frontier nor the queue; a book starts the leg anew, data counts into it. -/
theorem State.fillMember_spec (s : State) (book : Bool) (w i : Nat) :
    (s.fillMember book w i).pe.frontier = s.pe.frontier ∧
      (s.fillMember book w i).pe.nextDataset = s.pe.nextDataset + 1 ∧
      (s.fillMember book w i).pe.legCount = (if book then 0 else s.pe.legCount + 1) ∧
      (book = true → (s.fillMember book w i).pe.bookDue = false ∧
        (s.fillMember book w i).pe.books = s.pe.books ++ [⟨s.pe.nextDataset, w, s.chainOf w i, 0⟩]) ∧
      (s.fillMember book w i).df.queue = s.df.queue ∧ (s.fillMember book w i).ct = s.ct := by
  have hframe : Frame [.df, .vc] s.takeNumber (s.member book w i).1 := State.member_frame
  have hpe : (s.member book w i).1.pe = s.takeNumber.pe := hframe .pe rfl
  have hct : (s.member book w i).1.ct = s.ct := hframe .ct rfl
  have hqueue := s.queue_member book w i
  have hgeo := s.geo_member book w i
  unfold State.fillMember
  cases book with
  | true =>
    simp only [if_true]
    refine ⟨(congrArg PeState.frontier hpe :), (congrArg PeState.nextDataset hpe :), rfl, fun _ => ⟨rfl, ?_⟩, hqueue, hct⟩
    show (s.member true w i).1.pe.books ++ [_] = _
    rw [hpe, Dataset.num, hgeo]
    rfl
  | false =>
    simp only [Bool.false_eq_true, if_false]
    have hkept : (s.member false w i).1.KeepsFrontier ((s.member false w i).1.fillData (s.member false w i).2) := .fillData
    have hfill : Frame [.regs, .pe, .cx] (s.member false w i).1 ((s.member false w i).1.fillData (s.member false w i).2) :=
      State.fillData_frame
    refine ⟨hkept.frontier.trans (congrArg PeState.frontier hpe :),
      hkept.nextDataset.trans (congrArg PeState.nextDataset hpe :),
      ?_, fun h => (nomatch h), (congrArg DfState.queue (hfill .df rfl)).trans hqueue, (hfill .ct rfl).trans hct⟩
    exact congrArg (· + 1) (hkept.legCount.trans (congrArg PeState.legCount hpe :))

/-- A data or book dataset formed at an extent: where it lies, and what PE and DF make of it. -/
structure State.Forms (s t : State) (d : Dataset) (book : Bool) (w i : Nat) : Prop where
  found : t.dataset? s.pe.nextDataset = some d
  kind : d.geo.kind = natOf book
  restart : d.geo.restart = 0
  wrap : d.geo.wrap = w
  chainage : d.geo.chainage = s.chainOf w i
  slots : d.geo.slots = s.pe.active
  frames : 256 * d.tiers + d.geo.leftover = d.geo.sigma
  started : d.started = false
  nextDataset : t.pe.nextDataset = s.pe.nextDataset + 1
  frontier : t.pe.frontier = s.nextExtent w i
  queue : t.df.queue = s.df.queue ++ [s.pe.nextDataset]
  leg : t.pe.legCount = if book then 0 else s.pe.legCount + 1
  books : book = true → t.pe.bookDue = false ∧ t.pe.books = s.pe.books ++ [⟨s.pe.nextDataset, w, s.chainOf w i, 0⟩]

/-- The member of the frontier's extent is formed there. -/
theorem State.formMember_forms {s : State} (book : Bool) {w i : Nat} (hf : s.pe.frontier = some (w, i)) :
    s.Forms (s.formMember book w i) (s.member book w i).2 book w i := by
  obtain ⟨hfrontier, hnext, hleg, hbook, hqueue, hct⟩ := s.fillMember_spec book w i
  have hgeo := s.geo_member book w i
  have hnum : (s.member book w i).2.num = s.pe.nextDataset := by rw [Dataset.num, hgeo]
  have hfits := s.tierCount_fits (sumFrames (s.cappedSteps s.vector.1 s.vector.2))
  rw [State.formMember_eq]
  set u := s.fillMember book w i
  set d := (s.member book w i).2
  have hkept : (u.enqueue d).KeepsFrontier ((u.enqueue d).afterForm d) := .afterForm
  obtain ⟨hsets, hafter⟩ := (u.enqueue d).df_afterForm d
  refine ⟨?_, by rw [hgeo], by rw [hgeo], by rw [hgeo], by rw [hgeo], by rw [hgeo], ?_,
    (State.joinGroup_keeps _ _).2.1, hkept.nextDataset.trans hnext, ?_, ?_, hkept.legCount.trans hleg,
    fun hb => ⟨hkept.bookDue.trans (hbook hb).1, hkept.books.trans (hbook hb).2⟩⟩
  · rw [State.dataset?, hsets, ← hnum]
    exact State.dataset?_enqueue u d
  · rw [Dataset.tiers, hgeo]
    show _ = sumFrames _
    dsimp only
    omega
  · rw [hkept.frontier]
    show (u.pe.frontier.bind fun f => u.nextExtent f.1 f.2) = _
    rw [hfrontier, hf, State.nextExtent_congr hct]
    rfl
  · rw [hafter]
    show u.df.queue ++ [d.num] = _
    rw [hqueue, hnum]

/-! ### DATASET_FORM (R157, R271, R275) -/

/-- An active set whose slots all serve is neither replaced nor forced (R22, R384). -/
theorem State.substitute_applyForce_of_serving {s : State}
    (h : (s.pe.active.all fun n => !(s.cal n).retired && !s.wc.retired.contains n && !bitOf (s.calCtrl n) 4) = true) :
    s.substitute.applyForce = s := by
  have hslot : ∀ n ∈ s.pe.active, ((s.cal n).retired = false ∧ s.wc.retired.contains n = false) ∧
      bitOf (s.calCtrl n) 4 = false := by
    simpa only [List.all_eq_true, Bool.and_eq_true, Bool.not_eq_true'] using h
  have hsubstitute : s.substitute = s := by
    unfold State.substitute
    split
    · rfl
    · extract_lets gone
      have hgone : gone = [] := by
        refine List.filter_eq_nil_iff.mpr fun n hn => ?_
        rw [(hslot n hn).1.1, (hslot n hn).1.2]
        decide
      rw [hgone]
      rfl
  rw [hsubstitute]
  refine List.foldlRecOn s.pe.active _ (motive := fun u : State => u = s) rfl fun u hu n hn => ?_
  subst hu
  simp [(hslot n hn).2]

/-- The release of runs changes streams alone. -/
theorem State.release_spec (s : State) : s.KeepsFrontier s.releaseAllDue.releaseLow ∧ Frame [.pe] s s.releaseAllDue.releaseLow :=
  ⟨.trans .releaseAllDue .releaseLow, Frame.trans State.releaseAllDue_frame State.releaseLow_frame⟩

/-- What is formed after a release of runs is formed as before it. -/
theorem State.Forms.of_released {s u t : State} {d : Dataset} {book : Bool} {w i : Nat} (h : u.Forms t d book w i)
    (hkept : s.KeepsFrontier u) (hframe : Frame [.pe] s u) : s.Forms t d book w i := by
  have hct : u.ct = s.ct := hframe .ct rfl
  have hdf : u.df = s.df := hframe .df rfl
  obtain ⟨hfound, hkind, hrestart, hwrap, hchain, hslots, hframes, hstarted, hnext, hfrontier, hqueue, hleg, hbooks⟩ := h
  rw [hkept.nextDataset] at hfound hnext hqueue hbooks
  rw [State.chainOf_congr hct] at hchain hbooks
  rw [State.nextExtent_congr hct] at hfrontier
  rw [hkept.active] at hslots
  rw [hkept.legCount] at hleg
  rw [hkept.books] at hbooks
  rw [hdf] at hqueue
  exact ⟨hfound, hkind, hrestart, hwrap, hchain, hslots, hframes, hstarted, hnext, hfrontier, hqueue, hleg, hbooks⟩

/-- Nothing that forces a dataset hangs on the runs (R161). -/
theorem State.forced_congr {s t : State} (h : s.KeepsFrontier t) (hq : t.qe = s.qe) : t.forced = s.forced := by
  simp only [State.forced, h.bookDue, h.legCount, hq]

section
variable {s : State} {w i : Nat} (hform : s.mayForm = true) (hwritten : s.ct.written = true)
  (hsum : 6144 ≤ sumFrames s.vector.2)
  (hslots : (s.pe.active.all fun n => !(s.cal n).retired && !s.wc.retired.contains n && !bitOf (s.calCtrl n) 4) = true)
  (hfrontier : s.pe.frontier = some (w, i))
include hform hwritten hsum hslots hfrontier

/-- A void extent that is due goes first (R332). -/
theorem State.formNext_void (hvoid : 0 < s.df.voidDue) : s.formNext = s.formVoid w i := by
  simp [State.formNext, hform, State.substitute_applyForce_of_serving hslots, Nat.not_lt.mpr hsum, State.markOpen, hwritten,
    hfrontier, hvoid]

variable (hvoid : s.df.voidDue = 0) (hrestart : s.df.restartDue = []) (hparity : s.parityGroup = none)
  (hrepair : (s.df.groups.any fun g => g.repair == 2) = false)
include hvoid hrestart hparity hrepair

/-- With nothing else pending, a book that is due is formed (R168). -/
theorem State.formNext_book (hbook : (s.pe.bookDue || decide (256 ≤ s.pe.legCount)) = true) :
    s.formNext = s.formMember true w i := by
  simp [State.formNext, hform, State.substitute_applyForce_of_serving hslots, Nat.not_lt.mpr hsum, State.markOpen, hwritten,
    hfrontier, hvoid, hrestart, hparity, hrepair, hbook]

/-- Without one, data is formed from the runs released, where something forces it or the backhitch start is 0 (R161, R337). -/
theorem State.formNext_data (hbook : (s.pe.bookDue || decide (256 ≤ s.pe.legCount)) = false)
    (hforced : s.releaseAllDue.releaseLow.forced = true ∨ s.releaseAllDue.releaseLow.fld .smBhCfg 0 0 3 0 = 0) :
    s.formNext = s.releaseAllDue.releaseLow.formMember false w i := by
  have hgo : (s.releaseAllDue.releaseLow.forced || s.releaseAllDue.releaseLow.fld .smBhCfg 0 0 3 0 == 0) = true := by
    simpa using hforced
  simp [State.formNext, hform, State.substitute_applyForce_of_serving hslots, Nat.not_lt.mpr hsum, State.markOpen, hwritten,
    hfrontier, hvoid, hrestart, hparity, hrepair, hbook, hgo]

/-- With nothing else pending, a book or a forced data dataset takes the next number at the frontier. -/
theorem State.formNext_forms {book : Bool} (hbook : (s.pe.bookDue || decide (256 ≤ s.pe.legCount)) = book)
    (hgo : book = true ∨ s.forced = true ∨ s.fld .smBhCfg 0 0 3 0 = 0) :
    ∃ d, s.Forms s.formNext d book w i ∧ Frame [.regs, .hi, .qe, .pe, .bm, .cx, .df, .vc, .ms, .out, .fresh] s s.formNext := by
  cases book with
  | true =>
    rw [State.formNext_book hform hwritten hsum hslots hfrontier hvoid hrestart hparity hrepair hbook]
    exact ⟨_, State.formMember_forms true hfrontier, State.formMember_frame.mono rfl⟩
  | false =>
    obtain ⟨hkept, hframe⟩ := s.release_spec
    have hforced : s.releaseAllDue.releaseLow.forced = true ∨ s.releaseAllDue.releaseLow.fld .smBhCfg 0 0 3 0 = 0 := by
      rw [State.forced_congr hkept (hframe .qe rfl), State.fld, State.reg_congr (hframe .regs rfl) (hframe .board rfl)]
      simpa [State.fld] using hgo
    rw [State.formNext_data hform hwritten hsum hslots hfrontier hvoid hrestart hparity hrepair hbook hforced]
    exact ⟨_, (State.formMember_forms false (hkept.frontier.trans hfrontier)).of_released hkept hframe,
      Frame.step (hframe.mono rfl) State.formMember_frame rfl⟩

end

theorem datasetForm_void {s : State} {w i : Nat} (hrun : s.formNext = s.formVoid w i) (hf : s.pe.frontier = some (w, i)) :
    ∃ t, exec .datasetForm s = .next t ∧ t.df.voidDue = s.df.voidDue - 1 ∧ t.df.datasets = s.df.datasets ∧
      t.pe.frontier = s.nextExtent w i ∧ t.pe.nextDataset = s.pe.nextDataset ∧
      t.out = s.out ++ [.void w (s.chainOf w i)] ∧ Frame [.pe, .df, .out] s t := by
  refine ⟨_, congrArg Host.Outcome.next hrun, rfl, rfl, ?_, rfl, rfl, State.formVoid_frame⟩
  show (s.pe.frontier.bind fun f => s.nextExtent f.1 f.2) = _
  rw [hf]
  rfl

/-! ### BACKHITCH_RESUME (R337, R338) -/

/-- A run that starts, or does not, leaves the datasets and the backhitch. -/
theorem State.df_startRun (s : State) : s.startRun.df.backhitch = s.df.backhitch ∧
    s.startRun.df.datasets = s.df.datasets ∧ s.startRun.df.queue = s.df.queue := by
  unfold State.startRun
  split
  · exact ⟨rfl, rfl, rfl⟩
  · split <;> exact ⟨rfl, rfl, rfl⟩

/-- The backhitch is over and its time counted. -/
def State.endBackhitch (s : State) (ms : Nat) : State :=
  ({ s with df := { s.df with backhitch := false } }).bumpBy .smBhTime 0 0 ms

theorem State.resumeBackhitch_of_enough {s : State} (ms : Nat) (hb : s.df.backhitch = true)
    (h : 4 ≤ s.df.queue.length ∨ s.forced = true) : s.resumeBackhitch ms = (s.endBackhitch ms).startRun := by
  unfold State.resumeBackhitch
  extract_lets r need
  have hneed : need ≤ 4 := by
    show (if 1 ≤ r ∧ r ≤ 4 then r else 4) ≤ 4
    split <;> omega
  exact if_pos ⟨hb, h.imp (le_trans hneed) id⟩

theorem backhitchResume_resumes {s : State} (ms : Nat) (hb : s.df.backhitch = true)
    (h : 4 ≤ s.df.queue.length ∨ s.forced = true) :
    ∃ t, exec (.backhitchResume ms) s = .next t ∧ t.df.backhitch = false ∧
      t.reg .smBhTime 0 0 = min (s.reg .smBhTime 0 0 + ms) 0xFFFFFFFF ∧ State.regsBut [.smBhTime] s t ∧
      t.df.datasets = s.df.datasets ∧ t.df.queue = s.df.queue ∧ Frame [.regs, .df, .wc, .sm] s t := by
  have hrun := State.resumeBackhitch_of_enough ms hb h
  obtain ⟨hback, hsets, hqueue⟩ := (s.endBackhitch ms).df_startRun
  have hregs : State.regsBut [] (s.endBackhitch ms) (s.endBackhitch ms).startRun :=
    State.regsBut_of_frame State.startRun_frame
  refine ⟨_, congrArg Host.Outcome.next hrun, hback, ?_, ?_, hsets, hqueue, hrun ▸ State.resumeBackhitch_frame⟩
  · rw [hregs _ _ _ rfl]
    exact State.reg_bumpBy_self ..
  · refine State.regsBut_trans (State.regsBut_bumpBy (s := { s with df := { s.df with backhitch := false } }) ?_)
      (State.regsBut_mono hregs (List.nil_subset _))
    exact List.mem_singleton_self _

/-- Settles O27: DATASET_FORM with a void extent due, with a book due (the next member at the frontier) and with data forced
(that member after the release of runs), and BACKHITCH_RESUME. That a void extent goes before a restart, parity, a book and
data is the model's choice (log entry 38). -/
theorem datasetsFormAtTheFrontier : Obligations.DatasetsFormAtTheFrontier := by
  refine ⟨fun s w i hform hwritten hsum hslots hfrontier => ⟨fun hvoid => ?_, fun hvoid hrestart hparity hrepair => ?_⟩,
    fun s ms hb h => backhitchResume_resumes ms hb h⟩
  · exact datasetForm_void (State.formNext_void hform hwritten hsum hslots hfrontier hvoid) hfrontier
  · intro book hgo
    obtain ⟨d, h, hframe⟩ :=
      State.formNext_forms hform hwritten hsum hslots hfrontier hvoid hrestart hparity hrepair rfl hgo
    exact ⟨_, d, rfl, h.found, h.kind, h.restart, h.wrap, h.chainage, h.slots, h.frames, h.started, h.nextDataset, h.frontier,
      h.queue, h.leg, h.books, hframe⟩

end Sys2Proof.Machine
end

section
/-! Buffers granted, freed and passed on (R184, R185, R189, R190). -/

namespace Sys2Proof.Machine

-- One theorem at a time: run ahead of the kernel, each would hold a thread and its stack.
set_option Elab.async false

/-! ### The pool that serves a request (R184, R185) -/

theorem State.find_of_freeBuf {s : State} {p i : Nat} (h : s.freeBuf p = some i) :
    Tab.find s.bm.bufs (bufKey p i) = none := by
  unfold State.freeBuf at h
  split at h
  case isTrue => cases h
  case isFalse => simpa using List.find?_some h

/-- The pool that serves a request is the smallest fitting one with a free buffer. -/
theorem State.servingPool_eq_some {s : State} {w : BufWait} {p : Nat} : s.servingPool w = some p ↔
    (p < 5 ∧ w.size ≤ poolSize p ∧ (s.freeBuf p).isSome = true) ∧
      ∀ q < p, w.size ≤ poolSize q → s.freeBuf q = none := by
  rw [State.servingPool, fitting, List.find?_filter, List.find?_range_eq_some]
  simp only [List.mem_range, decide_eq_true_eq, Bool.not_eq_true', decide_eq_false_iff_not, not_and,
    Option.not_isSome_iff_eq_none]
  tauto

theorem State.servingPool_eq_none {s : State} {w : BufWait} :
    s.servingPool w = none ↔ ∀ q < 5, w.size ≤ poolSize q → s.freeBuf q = none := by
  simp [State.servingPool, fitting, List.find?_eq_none]

/-! ### Grants (R185) -/

@[simp] theorem State.bufs_rewatch (s : State) : s.rewatch.bm.bufs = s.bm.bufs := rfl

@[simp] theorem State.waits_rewatch (s : State) : s.rewatch.bm.waits = s.bm.waits := rfl

@[simp] theorem State.bufs_grantBuf (s : State) (w : BufWait) (p i : Nat) :
    (s.grantBuf w p i).bm.bufs = s.bm.bufs.set (bufKey p i) ⟨w.who, w.fn⟩ := rfl

@[simp] theorem State.waits_grantBuf (s : State) (w : BufWait) (p i : Nat) :
    (s.grantBuf w p i).bm.waits = s.bm.waits := rfl

theorem State.fallBacks_regsBut {s : State} {skipped : List Nat} :
    State.regsBut [.bmPoolFall] s (s.fallBacks skipped) := by
  induction skipped generalizing s with
  | nil => exact State.regsBut_refl
  | cons p skipped ih =>
    have hbump : State.regsBut [.bmPoolFall] s (s.bump .bmPoolFall 0 p) :=
      State.regsBut_bumpBy (List.mem_singleton_self _)
    exact State.regsBut_trans hbump ih

/-- A request for which a pool has a free buffer takes that buffer. -/
theorem State.serve_of_servingPool {s : State} {w : BufWait} {p i : Nat} (hp : s.servingPool w = some p)
    (hi : s.freeBuf p = some i) :
    ∃ skipped, s.serve w = some ((s.fallBacks skipped).grantBuf w p i) :=
  ⟨(fitting w.size).filter fun q => decide (q < p), by simp only [State.serve, hp, hi, Option.map_some]⟩

/-- A grant, and the release of what it makes eligible: one buffer changes hands, and of the registers only the counts of
fall-backs. -/
theorem State.grantBuf_spec (s : State) (skipped : List Nat) (w : BufWait) (p i : Nat) :
    let t := ((s.fallBacks skipped).grantBuf w p i).releaseAllDue
    Tab.find t.bm.bufs (bufKey p i) = some ⟨w.who, w.fn⟩ ∧
      (∀ k, k ≠ bufKey p i → Tab.find t.bm.bufs k = Tab.find s.bm.bufs k) ∧ t.bm.waits = s.bm.waits ∧
      State.regsBut [.bmPoolFall] s t ∧ Frame [.regs, .pe, .bm] s t := by
  intro t
  have hfall : (s.fallBacks skipped).bm = s.bm := State.fallBacks_frame .bm rfl
  have hbm : t.bm = ((s.fallBacks skipped).grantBuf w p i).bm := State.releaseAllDue_frame .bm rfl
  have hgrant : Frame [.pe, .bm] (s.fallBacks skipped) t :=
    (State.grantBuf_frame.mono rfl).step State.releaseAllDue_frame rfl
  refine ⟨?_, fun k hk => ?_, ?_, ?_, ?_⟩
  · rw [hbm, State.bufs_grantBuf, Tab.find_set_self]
  · rw [hbm, State.bufs_grantBuf, Tab.find_set_ne _ _ hk, hfall]
  · rw [hbm, State.waits_grantBuf, hfall]
  · exact State.regsBut_trans State.fallBacks_regsBut (State.regsBut_of_frame hgrant)
  · exact (State.fallBacks_frame.mono rfl).step hgrant rfl

/-! ### BUFFER_ALLOCATE and BUFFER_WAIT_GRANT (R185) -/

theorem State.allocate_of_served {s t : State} {w : BufWait} (h0 : 0 < w.size) (h1 : w.size ≤ 16777216)
    (h : s.serve w = some t) : s.allocate w = t := by
  rw [State.allocate, if_neg (by omega), h]

theorem State.allocate_of_none {s : State} {w : BufWait} (h0 : 0 < w.size) (h1 : w.size ≤ 16777216)
    (h : s.servingPool w = none) :
    s.allocate w = { s with bm := { s.bm with waits := s.bm.waits ++ [w] } } := by
  rw [State.allocate, if_neg (by omega), State.serve, h]

theorem bufferAllocate_grants {s : State} {who : Party} {fn size p i : Nat} (h0 : 0 < size) (h1 : size ≤ 16777216)
    (hp : p < 5) (hfit : size ≤ poolSize p) (hsmaller : ∀ q, q < p → size ≤ poolSize q → s.freeBuf q = none)
    (hi : s.freeBuf p = some i) :
    ∃ t, exec (.bufferAllocate who fn size) s = .next t ∧ Tab.find t.bm.bufs (bufKey p i) = some ⟨who, fn⟩ ∧
      (∀ k, k ≠ bufKey p i → Tab.find t.bm.bufs k = Tab.find s.bm.bufs k) ∧ t.bm.waits = s.bm.waits ∧
      State.regsBut [.bmPoolFall] s t ∧ Frame [.regs, .pe, .bm] s t := by
  have hpool : s.servingPool ⟨who, fn, size⟩ = some p :=
    State.servingPool_eq_some.mpr ⟨⟨hp, hfit, Option.isSome_of_eq_some hi⟩, hsmaller⟩
  obtain ⟨skipped, hserve⟩ := State.serve_of_servingPool hpool hi
  have halloc := State.allocate_of_served h0 h1 hserve
  exact ⟨_, congrArg (fun t => Host.Outcome.next (State.releaseAllDue t)) halloc, s.grantBuf_spec skipped ⟨who, fn, size⟩ p i⟩

theorem bufferAllocate_waits {s : State} {who : Party} {fn size : Nat} (h0 : 0 < size) (h1 : size ≤ 16777216)
    (hnone : ∀ q, q < 5 → size ≤ poolSize q → s.freeBuf q = none) :
    exec (.bufferAllocate who fn size) s =
      .next (State.releaseAllDue { s with bm := { s.bm with waits := s.bm.waits ++ [⟨who, fn, size⟩] } }) :=
  congrArg (fun t => Host.Outcome.next (State.releaseAllDue t))
    (State.allocate_of_none h0 h1 (State.servingPool_eq_none.mpr hnone))

/-- The first request of the waiting list, if its function is below its reservation and a pool can serve it, is the one
whose turn it is. -/
theorem State.waitGrant_of_first {s t : State} {w : BufWait} {rest : List BufWait} {p : Nat}
    (hw : s.bm.waits = w :: rest) (hbelow : s.belowRes w.fn = true) (hp : s.servingPool w = some p)
    (ht : State.serve { s with bm := { s.bm with waits := rest } } w = some t) : s.waitGrant = t := by
  have hpick : takeFirst (fun w => (s.servingPool w).isSome && s.belowRes w.fn) s.bm.waits = some (w, rest) := by
    rw [hw, takeFirst, if_pos (by simp [hp, hbelow])]
  simp only [State.waitGrant, hpick, ht, Option.getD_some]

theorem bufferWaitGrant_grants {s : State} {w : BufWait} {rest : List BufWait} {p i : Nat} (hw : s.bm.waits = w :: rest)
    (hbelow : s.belowRes w.fn = true) (hp : s.servingPool w = some p) (hi : s.freeBuf p = some i) :
    ∃ t, exec .bufferWaitGrant s = .next t ∧ t.bm.waits = rest ∧ Tab.find t.bm.bufs (bufKey p i) = some ⟨w.who, w.fn⟩ ∧
      (∀ k, k ≠ bufKey p i → Tab.find t.bm.bufs k = Tab.find s.bm.bufs k) ∧
      State.regsBut [.bmPoolFall] s t ∧ Frame [.regs, .pe, .bm] s t := by
  let u : State := { s with bm := { s.bm with waits := rest } }
  obtain ⟨skipped, hserve⟩ := State.serve_of_servingPool (s := u) hp hi
  obtain ⟨htag, hothers, hwaits, hregs, hframe⟩ := u.grantBuf_spec skipped w p i
  have hu : Frame [.regs, .pe, .bm] s u := Frame.bm Frame.refl rfl
  exact ⟨_, congrArg (fun t => Host.Outcome.next (State.releaseAllDue t)) (State.waitGrant_of_first hw hbelow hp hserve),
    hwaits, htag, hothers, hregs, hu.trans hframe⟩

/-! ### BUFFER_FREE and BUFFER_TRANSFER (R189, R190) -/

theorem bufferFree_of_owner {s : State} {p i : Nat} {b : Buf} (h : Tab.find s.bm.bufs (bufKey p i) = some b) :
    ∃ t, exec (.bufferFree b.owner p i) s = .next t ∧ Tab.find t.bm.bufs (bufKey p i) = none ∧
      (∀ k, k ≠ bufKey p i → Tab.find t.bm.bufs k = Tab.find s.bm.bufs k) ∧ t.bm.waits = s.bm.waits ∧ Frame [.bm] s t := by
  have hfree : s.freeBuffer b.owner p i =
      State.rewatch { s with bm := { s.bm with bufs := s.bm.bufs.del (bufKey p i) } } := by
    simp only [State.freeBuffer, h, if_true]
  exact ⟨_, congrArg Host.Outcome.next hfree, Tab.find_del_self .., fun k hk => Tab.find_del_ne _ hk, rfl,
    (Frame.bm Frame.refl rfl).trans State.rewatch_frame⟩

theorem bufferTransfer_of_owner {s : State} {p i : Nat} {b : Buf} (dest : Party)
    (h : Tab.find s.bm.bufs (bufKey p i) = some b) :
    ∃ t, exec (.bufferTransfer b.owner dest p i) s = .next t ∧ Tab.find t.bm.bufs (bufKey p i) = some ⟨dest, b.fn⟩ ∧
      (∀ k, k ≠ bufKey p i → Tab.find t.bm.bufs k = Tab.find s.bm.bufs k) ∧ t.bm.waits = s.bm.waits ∧ Frame [.bm] s t := by
  have hpass : s.transferBuffer b.owner dest p i =
      { s with bm := { s.bm with bufs := s.bm.bufs.set (bufKey p i) { b with owner := dest } } } := by
    simp only [State.transferBuffer, h, if_true]
  exact ⟨_, congrArg Host.Outcome.next hpass, Tab.find_set_self .., fun k hk => Tab.find_set_ne _ _ hk, rfl,
    Frame.bm Frame.refl rfl⟩

/-- A free and a transfer by a party that does not hold the buffer are rejected alike. -/
theorem State.badFree_of_not_owner {s : State} {who : Party} {p i : Nat}
    (h : (Tab.find s.bm.bufs (bufKey p i)).map Buf.owner ≠ some who) (dest : Party) :
    s.freeBuffer who p i = s.badFree who p i ((Tab.find s.bm.bufs (bufKey p i)).map Buf.owner) ∧
      s.transferBuffer who dest p i = s.badFree who p i ((Tab.find s.bm.bufs (bufKey p i)).map Buf.owner) := by
  unfold State.freeBuffer State.transferBuffer
  cases hb : Tab.find s.bm.bufs (bufKey p i) with
  | none => exact ⟨rfl, rfl⟩
  | some b =>
    have hne : b.owner ≠ who := fun he => h (by rw [hb, Option.map_some, he])
    exact ⟨if_neg hne, if_neg hne⟩

/-- A rejection counts in BM_BAD_FREE and is logged. -/
theorem State.badFree_spec (s : State) (who : Party) (p i : Nat) (tag : Option Party) :
    (s.badFree who p i tag).reg .bmBadFree 0 0 = min (s.reg .bmBadFree 0 0 + 1) 0xFFFFFFFF ∧
      (s.badFree who p i tag).ms.seq = s.ms.seq + 1 ∧
      State.regsBut [.bmBadFree, .msLogLost] s (s.badFree who p i tag) := by
  refine ⟨?_, State.logEv_seq .., ?_⟩
  · exact (State.logEv_regsBut _ _ _ rfl).trans (State.reg_bumpBy_self ..)
  · exact State.regsBut_trans (State.regsBut_bumpBy (by simp)) (State.regsBut_mono State.logEv_regsBut (by simp))

/-- Settles O23: a request granted and one left waiting, the first waiting request, the owner's free and transfer, and
those of any other party. That the lowest free index is granted is the model's choice (log entry 30). -/
theorem buffersHaveOneOwner : Obligations.BuffersHaveOneOwner := by
  refine ⟨fun s who fn size p i h0 h1 hp hfit hsmaller hi => ⟨State.find_of_freeBuf hi, ?_⟩,
    fun s who fn size h0 h1 hnone => bufferAllocate_waits h0 h1 hnone,
    fun s w rest p i hw hbelow hp hi => bufferWaitGrant_grants hw hbelow hp hi,
    fun s who dest p i b hb howner => ?_, fun s who dest p i hother => ?_⟩
  · exact bufferAllocate_grants h0 h1 hp hfit hsmaller hi
  · subst howner
    exact ⟨bufferFree_of_owner hb, bufferTransfer_of_owner dest hb⟩
  · obtain ⟨hfree, hpass⟩ := State.badFree_of_not_owner hother dest
    obtain ⟨hcount, hseq, hregs⟩ := s.badFree_spec who p i ((Tab.find s.bm.bufs (bufKey p i)).map Buf.owner)
    exact ⟨_, congrArg Host.Outcome.next hfree, congrArg Host.Outcome.next hpass, hcount, hseq, hregs, State.badFree_frame⟩

end Sys2Proof.Machine
end

section
/-! The settings of BM: the pool split, the stream window, the watch points and the flow-control pins (R187, R193, R196 to
R198, R205). -/

namespace Sys2Proof.Machine

-- One theorem at a time: run ahead of the kernel, each would hold a thread and its stack.
set_option Elab.async false

/-! ### Watch points (R196, R197) -/

/-- Bits summed by their weights stay below the next weight. -/
theorem sum_bits_lt (f : Nat → Bool) (n : Nat) : ((List.range n).map fun w => natOf (f w) * 2 ^ w).sum < 2 ^ n := by
  induction n with
  | zero => simp
  | succ n ih =>
    have hbit : natOf (f n) * 2 ^ n ≤ 2 ^ n := by cases f n <;> simp [natOf]
    rw [List.range_succ, List.map_append, List.sum_append, List.map_singleton, List.sum_singleton, pow_succ]
    omega

theorem bitOf_eq_testBit (v i : Nat) : bitOf v i = v.testBit i := by
  rw [Nat.testBit_eq_decide_div_mod_eq, bitOf, Bool.beq_eq_decide_eq]

/-- A bit of bits summed by their weights is the one that was put there. -/
theorem bitOf_sum_bits (f : Nat → Bool) {n i : Nat} (hi : i < n) :
    bitOf ((List.range n).map fun w => natOf (f w) * 2 ^ w).sum i = f i := by
  rw [bitOf_eq_testBit]
  induction n with
  | zero => omega
  | succ n ih =>
    have hlow := sum_bits_lt f n
    rw [List.range_succ, List.map_append, List.sum_append, List.map_singleton, List.sum_singleton, Nat.add_comm,
      Nat.mul_comm, Nat.testBit_two_pow_mul_add _ hlow]
    split
    case isTrue h => exact ih h
    case isFalse h =>
      obtain rfl : i = n := by omega
      cases f i <;> simp [natOf]

/-- The levels do not depend on the states of the watch points. -/
theorem State.watchLevel_rewatch (s : State) (w : Nat) : s.rewatch.watchLevel w = s.watchLevel w := rfl

/-- Once brought up to date, a watch point stands as R197 says at its level. -/
theorem State.watchState_rewatch (s : State) {w : Nat} (hw : w < 10) : s.rewatch.watchState w =
    if s.rewatch.fld .bmWmCfg 0 w 15 8 ≤ s.rewatch.watchLevel w then true
    else if s.rewatch.watchLevel w ≤ s.rewatch.fld .bmWmCfg 0 w 7 0 then false else s.watchState w :=
  (bitOf_sum_bits s.watchNext hw).trans (if_neg (by omega))

/-! ### BM_POOL_SPLIT (R187, R205) -/

/-- A ring of a function, not the one behind the task window, is enabled. -/
def State.ringOn (s : State) : Bool := s.qe.sqs.any fun e => e.2.enabled && e.1.unpair.2 != windowRing

/-- The four shares of BM_POOL_SPLIT. -/
def poolShares (v : Nat) : List Nat := (List.range 4).map fun i => bitsOf v (8 * i + 7) (8 * i)

theorem exec_bmPoolSplitWrite {s : State} {o : Nat} (h : s.serves (.fn o)) (v : Word) :
    exec (.bmPoolSplitWrite (.fn o) v) s = .next (s.writePoolSplit (.fn o) v.toNat) :=
  congrArg Host.Outcome.next (State.regWrite_of_serves h .bmPoolSplit 0 v _)

/-- The owner's write of a new value, by what R205 asks of it. -/
theorem State.writePoolSplit_of_ne {s : State} {o v : Nat} (ho : s.isOwner o = true) (hne : s.reg .bmPoolSplit 0 0 ≠ v) :
    s.writePoolSplit (.fn o) v =
      if s.ct.mounted ∨ s.ringOn = true then s.rwlReject .bmPoolSplit 0
      else if (poolShares v).any (· == 0) ∨ (poolShares v).sum ≠ 256 then s
      else ((s.setReg .bmPoolSplit 0 0 v).recredit).rewatch := by
  have hreach : ¬ (!s.reachesBlock (.fn o)) = true := by simp [State.reachesBlock, ho]
  exact (if_neg hreach).trans (if_neg hne)

theorem State.writePoolSplit_of_eq {s : State} {src : Port} {v : Nat} (h : s.reg .bmPoolSplit 0 0 = v) :
    s.writePoolSplit src v = s := by simp only [State.writePoolSplit, if_pos h, ite_self]

theorem bmPoolSplitWrite_takes {s : State} {o : Nat} {v : Word} (hs : s.serves (.fn o)) (ho : s.isOwner o = true)
    (hmounted : s.ct.mounted = false) (hring : s.ringOn = false) (hshare : (poolShares v.toNat).any (· == 0) = false)
    (hsum : (poolShares v.toNat).sum = 256) :
    ∃ t, exec (.bmPoolSplitWrite (.fn o) v) s = .next t ∧ t.reg .bmPoolSplit 0 0 = v.toNat ∧
      Frame [.regs, .hi, .qe, .pe, .bm, .out] s t := by
  rw [exec_bmPoolSplitWrite hs]
  by_cases hne : s.reg .bmPoolSplit 0 0 = v.toNat
  · exact ⟨s, by rw [State.writePoolSplit_of_eq hne], hne, Frame.refl⟩
  · let u := s.setReg .bmPoolSplit 0 0 v.toNat
    have hwrite : s.writePoolSplit (.fn o) v.toNat = u.recredit.rewatch := by
      rw [State.writePoolSplit_of_ne ho hne, if_neg (by simp [hmounted, hring]), if_neg (by simp [hshare, hsum])]
    refine ⟨_, congrArg Host.Outcome.next hwrite, ?_, ?_⟩
    · calc u.recredit.rewatch.reg .bmPoolSplit 0 0 = u.recredit.reg .bmPoolSplit 0 0 := rfl
        _ = u.reg .bmPoolSplit 0 0 := State.Upholds.recredit.regs _ _ _ rfl
        _ = v.toNat := (State.reg_setReg_self ..).trans (Nat.mod_eq_of_lt v.isLt)
    · exact ((State.setReg_frame.mono rfl).step State.recredit_frame rfl).step State.rewatch_frame rfl

theorem bmPoolSplitWrite_rejected {s : State} {o : Nat} {v : Word} (hs : s.serves (.fn o)) (ho : s.isOwner o = true)
    (hmounted : s.ct.mounted = true) (hne : s.reg .bmPoolSplit 0 0 ≠ v.toNat) :
    ∃ t, exec (.bmPoolSplitWrite (.fn o) v) s = .next t ∧ t.reg .bmPoolSplit 0 0 = s.reg .bmPoolSplit 0 0 ∧
      t.ms.seq = s.ms.seq + 1 ∧ Frame [.regs, .ms] s t := by
  have hwrite : s.writePoolSplit (.fn o) v.toNat = s.rwlReject .bmPoolSplit 0 := by
    rw [State.writePoolSplit_of_ne ho hne, if_pos (.inl hmounted)]
  exact ⟨_, (exec_bmPoolSplitWrite hs v).trans (congrArg Host.Outcome.next hwrite), State.logEv_regsBut _ _ _ rfl,
    State.logEv_seq .., State.rwlReject_frame⟩

theorem bmPoolSplitWrite_badShares {s : State} {o : Nat} {v : Word} (hs : s.serves (.fn o)) (ho : s.isOwner o = true)
    (hmounted : s.ct.mounted = false) (hring : s.ringOn = false)
    (hbad : (poolShares v.toNat).any (· == 0) = true ∨ (poolShares v.toNat).sum ≠ 256) :
    exec (.bmPoolSplitWrite (.fn o) v) s = .next s := by
  rw [exec_bmPoolSplitWrite hs]
  by_cases hne : s.reg .bmPoolSplit 0 0 = v.toNat
  · rw [State.writePoolSplit_of_eq hne]
  · rw [State.writePoolSplit_of_ne ho hne, if_neg (by simp [hmounted, hring]), if_pos hbad]

/-! ### BM_STREAM_WIN (R193) -/

theorem bmStreamWinWrite_takes {s : State} {o : Nat} {v : Word} (hs : s.serves (.fn o)) (ho : s.isOwner o = true) :
    ∃ t, exec (.bmStreamWinWrite (.fn o) v) s = .next t ∧ t.reg .bmStreamWin 0 0 = v.toNat % 8192 ∧
      Frame [.regs, .hi, .qe, .pe, .out] s t := by
  have hwrite : s.writeStreamWin (.fn o) v.toNat = (s.setReg .bmStreamWin 0 0 (v.toNat % 8192)).recredit := if_pos ho
  refine ⟨_, congrArg Host.Outcome.next ((State.regWrite_of_serves hs .bmStreamWin 0 v _).trans hwrite), ?_,
    (State.setReg_frame.mono rfl).step State.recredit_frame rfl⟩
  rw [State.Upholds.recredit.regs _ _ _ rfl, State.reg_setReg_self]
  omega

/-! ### BM_WM_CFG (R197) -/

theorem exec_bmWmCfgWrite {s : State} {o : Nat} (h : s.serves (.fn o)) (v : Word) :
    exec (.bmWmCfgWrite (.fn o) v) s = .next (s.writeWmCfg (.fn o) v.toNat) :=
  congrArg Host.Outcome.next (State.regWrite_of_serves h .bmWmCfg 0 v _)

theorem bmWmCfgWrite_takes {s : State} {o : Nat} {v : Word} (hs : s.serves (.fn o)) (ho : s.isOwner o = true)
    (hlow : bitsOf v.toNat 7 0 < bitsOf v.toNat 15 8) :
    ∃ t, exec (.bmWmCfgWrite (.fn o) v) s = .next t ∧
      t.reg .bmWmCfg 0 (s.fld .bmWmSel 0 0 3 0) = v.toNat % 65536 ∧
      (∀ w, w < 10 → t.watchState w = (if t.fld .bmWmCfg 0 w 15 8 ≤ t.watchLevel w then true
        else if t.watchLevel w ≤ t.fld .bmWmCfg 0 w 7 0 then false else s.watchState w)) ∧
      (∀ r i k, (r, i, k) ≠ (.bmWmCfg, 0, s.fld .bmWmSel 0 0 3 0) → t.reg r i k = s.reg r i k) ∧
      Frame [.regs, .bm] s t := by
  let u := s.setReg .bmWmCfg 0 (s.fld .bmWmSel 0 0 3 0) (v.toNat % 65536)
  have hwrite : s.writeWmCfg (.fn o) v.toNat = u.rewatch :=
    if_neg (by simp [State.reachesBlock, ho, hlow])
  refine ⟨_, (exec_bmWmCfgWrite hs v).trans (congrArg Host.Outcome.next hwrite), ?_,
    fun w hw => u.watchState_rewatch hw, fun r i k hne => State.reg_setReg_ne s _ hne,
    (State.setReg_frame.mono rfl).step State.rewatch_frame rfl⟩
  exact (State.reg_setReg_self ..).trans (by omega)

theorem bmWmCfgWrite_dropped {s : State} {o : Nat} {v : Word} (hs : s.serves (.fn o))
    (hlow : bitsOf v.toNat 15 8 ≤ bitsOf v.toNat 7 0) : exec (.bmWmCfgWrite (.fn o) v) s = .next s :=
  (exec_bmWmCfgWrite hs v).trans (congrArg Host.Outcome.next (if_pos (by simp [hlow])))

/-! ### BM_FCW_CFG (R198, R205) -/

/-- A field within a byte of a word is that field of the byte. -/
theorem bitsOf_byte (n k : Nat) {h l : Nat} (hl : l ≤ h) (hh : h < 8) :
    bitsOf n (8 * k + h) (8 * k + l) = bitsOf (bitsOf n (8 * k + 7) (8 * k)) h l := by
  have hbyte : bitsOf n (8 * k + 7) (8 * k) = n / 2 ^ (8 * k) % 2 ^ 8 := by
    rw [bitsOf, show 8 * k + 7 + 1 - 8 * k = 8 by omega]
  rw [hbyte, bitsOf_mod_two_pow _ hl hh, bitsOf, bitsOf, pow_add, ← Nat.div_div_eq_div_mul,
    show 8 * k + h + 1 - (8 * k + l) = h + 1 - l by omega]

/-- A byte of BM_FCW_CFG keeps pin and polarity and its mode, a reserved mode read as 0; bit 7 reads 0. -/
theorem fcwByte_fields (b : Nat) : fcwByte b < 128 ∧ bitsOf (fcwByte b) 4 0 = bitsOf b 4 0 ∧
    bitsOf (fcwByte b) 6 5 = (if bitsOf b 6 5 = 3 then 0 else bitsOf b 6 5) ∧ bitsOf (fcwByte b) 7 7 = 0 := by
  have hmode : bitsOf b 6 5 < 4 := Nat.mod_lt _ (by decide)
  unfold fcwByte
  generalize bitsOf b 6 5 = m at hmode
  simp only [bitsOf]
  split <;> omega

/-- The two bytes of BM_FCW_CFG as they are kept. -/
def fcwWord (v : Nat) : Nat := fcwByte (bitsOf v 15 8) * 256 + fcwByte (bitsOf v 7 0)

theorem bitsOf_two_bytes {a b : Nat} (ha : a < 256) (hb : b < 256) :
    bitsOf (a * 256 + b) 7 0 = b ∧ bitsOf (a * 256 + b) 15 8 = a := by
  simp only [bitsOf]
  omega

theorem bitsOf_fcwWord (v : Nat) {k : Nat} (hk : k < 2) :
    bitsOf (fcwWord v) (8 * k + 7) (8 * k) = fcwByte (bitsOf v (8 * k + 7) (8 * k)) := by
  obtain ⟨hhigh, -⟩ := fcwByte_fields (bitsOf v 15 8)
  obtain ⟨hlow, -⟩ := fcwByte_fields (bitsOf v 7 0)
  obtain ⟨hzero, hone⟩ := bitsOf_two_bytes (hhigh.trans (by decide)) (hlow.trans (by decide))
  match k, hk with
  | 0, _ => exact hzero
  | 1, _ => exact hone

theorem bmFcwCfgWrite_takes {s : State} {o : Nat} {v : Word} (hs : s.serves (.fn o)) (ho : s.isOwner o = true) :
    ∃ t, exec (.bmFcwCfgWrite (.fn o) v) s = .next t ∧ State.regsBut [.bmFcwCfg] s t ∧ Frame [.regs] s t ∧
      (∀ k, k < 2 → t.fld .bmFcwCfg 0 0 (8 * k + 4) (8 * k) = bitsOf v.toNat (8 * k + 4) (8 * k) ∧
        t.fld .bmFcwCfg 0 0 (8 * k + 6) (8 * k + 5) =
          (if bitsOf v.toNat (8 * k + 6) (8 * k + 5) = 3 then 0 else bitsOf v.toNat (8 * k + 6) (8 * k + 5)) ∧
        t.fld .bmFcwCfg 0 0 (8 * k + 7) (8 * k + 7) = 0) := by
  have hwrite : s.writeFcwCfg (.fn o) v.toNat = s.setReg .bmFcwCfg 0 0 (fcwWord v.toNat) := if_pos ho
  refine ⟨_, congrArg Host.Outcome.next ((State.regWrite_of_serves hs .bmFcwCfg 0 v _).trans hwrite),
    State.regsBut_setReg (List.mem_singleton_self _), State.setReg_frame, fun k hk => ?_⟩
  obtain ⟨-, hpin, hmode, htop⟩ := fcwByte_fields (bitsOf v.toNat (8 * k + 7) (8 * k))
  have hfld {h l : Nat} (hl : l ≤ h) (hh : h < 8) :
      (s.setReg .bmFcwCfg 0 0 (fcwWord v.toNat)).fld .bmFcwCfg 0 0 (8 * k + h) (8 * k + l) =
        bitsOf (fcwByte (bitsOf v.toNat (8 * k + 7) (8 * k))) h l := by
    rw [State.fld, State.reg_setReg_self, bitsOf_mod _ (by omega) (by omega), bitsOf_byte _ _ hl hh, bitsOf_fcwWord _ hk]
  refine ⟨?_, ?_, ?_⟩
  · exact (hfld (l := 0) (by decide) (by decide)).trans (hpin.trans (bitsOf_byte _ _ (l := 0) (by decide) (by decide)).symm)
  · rw [hfld (by decide) (by decide), hmode, ← bitsOf_byte _ _ (by decide) (by decide)]
  · rw [hfld (by decide) (by decide), htop]

/-- Settles O24: BM_POOL_SPLIT taken, rejected and dropped, BM_STREAM_WIN, BM_WM_CFG taken and dropped, and BM_FCW_CFG. -/
theorem bufferSettingsTakeEffectAtOnce : Obligations.BufferSettingsTakeEffectAtOnce :=
  fun _ _ _ hs ho => ⟨bmPoolSplitWrite_takes hs ho, bmPoolSplitWrite_rejected hs ho, bmPoolSplitWrite_badShares hs ho,
    bmStreamWinWrite_takes hs ho, bmWmCfgWrite_takes hs ho, bmWmCfgWrite_dropped hs, bmFcwCfgWrite_takes hs ho⟩

end Sys2Proof.Machine
end

section
/-! A sealed parcel as it lies on tape (R249, R251, R279): its fields are read where they were written, and counter mode
undoes itself. -/

namespace Sys2Proof.Machine

-- One theorem at a time: run ahead of the kernel, each would hold a thread and its stack.
set_option Elab.async false

/-! ### Numbers in bytes, and fields at their places (R6) -/

theorem natLE_bytesLE (n v : Nat) : natLE (bytesLE n v) = v % 256 ^ n := by
  induction n generalizing v with
  | zero => rw [bytesLE, natLE, pow_zero, Nat.mod_one]
  | succ n ih =>
    rw [bytesLE, natLE, ih, BitVec.toNat_ofNat, pow_succ' 256 n, Nat.mod_mul]

theorem natBE_bytesBE {n v : Nat} (h : v < 256 ^ n) : natBE (bytesBE n v) = v := by
  rw [natBE, bytesBE, List.reverse_reverse, natLE_bytesLE, Nat.mod_eq_of_lt h]

/-- What follows a part of a byte string does not matter to it. -/
theorem drop_take_append {a b : Bytes} {off n : Nat} (h : off + n ≤ a.length) :
    ((a ++ b).drop off).take n = (a.drop off).take n := by
  rw [List.drop_append_of_le_length (by omega), List.take_append_of_le_length (by rw [List.length_drop]; omega)]

/-- A part that ends a byte string, found at its place. -/
theorem drop_take_append_right {a b : Bytes} {off n : Nat} (ha : off = a.length) (hb : b.length = n) :
    ((a ++ b).drop off).take n = b := by
  rw [ha, List.drop_left, List.take_of_length_le hb.le]

theorem fieldBE_append {a b : Bytes} {off n : Nat} (h : off + n ≤ a.length) :
    fieldBE (a ++ b) off n = fieldBE a off n := congrArg natBE (drop_take_append h)

theorem fieldBE_append_bytesBE {a : Bytes} {off n v : Nat} (h : off = a.length) (hv : v < 256 ^ n) :
    fieldBE (a ++ bytesBE n v) off n = v :=
  (congrArg natBE (drop_take_append_right h (bytesBE_length n v))).trans (natBE_bytesBE hv)

theorem fit_length (n : Nat) (b : Bytes) : (fit n b).length = n := by
  rw [fit, List.length_take, List.length_append, zeros_length]
  omega

theorem fit_of_length {n : Nat} {b : Bytes} (h : b.length = n) : fit n b = b := by
  rw [fit, List.take_append_of_le_length h.ge, List.take_of_length_le h.le]

/-! ### The header of a parcel (R279) -/

@[simp] theorem Parcel.header_length (p : Parcel) : p.header.length = 64 := by
  simp [Parcel.header, fit_length]

/-- The header gives back the fields that fit it. -/
theorem Parcel.header_fields {p : Parcel} (hkey : p.key < 2 ^ 32) (hlen : p.payload.length < 2 ^ 32)
    (hplain : p.plainLen < 2 ^ 32) (htenant : p.tenant < 256) (hsid : p.sid < 2 ^ 64) (hfirst : p.first < 2 ^ 64) :
    fieldBE p.header 0 2 = 0x50A7 ∧ fieldBE p.header 48 4 = p.payload.length ∧ fieldBE p.header 44 4 = p.plainLen ∧
      fieldBE p.header 28 4 = p.key ∧ fieldBE p.header 4 1 = p.tenant ∧ fieldBE p.header 8 8 = p.sid ∧
      fieldBE p.header 16 8 = p.first := by
  have hmagic : fieldBE (bytesBE 2 0x50A7) 0 2 = 0x50A7 := by decide
  simp only [Nat.reducePow] at hkey hlen hplain hsid hfirst
  unfold Parcel.header
  refine ⟨?_, ?_, ?_, ?_, ?_, ?_, ?_⟩ <;>
    simp only [fieldBE_append, fieldBE_append_bytesBE, List.length_append, bytesBE_length, fit_length,
      List.length_singleton, Nat.reduceAdd, Nat.reduceLeDiff, Nat.reducePow, *]

theorem Parcel.header_iv {p : Parcel} (h : p.iv.length = 12) : (p.header.drop 32).take 12 = p.iv := by
  unfold Parcel.header
  simp only [drop_take_append, drop_take_append_right, List.length_append, bytesBE_length,
    List.length_singleton, Nat.reduceAdd, Nat.reduceLeDiff, fit_of_length h, h]

/-- Header, ciphertext and tag lie one after the other. -/
theorem Parcel.onTapeBytes_parts {p : Parcel} {ct : Bytes} (hct : p.sealedText = some ct) (htag : p.tag.length = 16) :
    p.onTapeBytes.take 64 = p.header ∧ (p.onTapeBytes.drop 64).take ct.length = ct ∧
      (p.onTapeBytes.drop (64 + ct.length)).take 16 = p.tag := by
  have hbytes : p.onTapeBytes = p.header ++ (ct ++ p.tag) := by
    rw [Parcel.onTapeBytes, hct, Option.getD_some, fit_of_length htag, List.append_assoc]
  have hdrop : p.onTapeBytes.drop 64 = ct ++ p.tag := by rw [hbytes, List.drop_left' p.header_length]
  refine ⟨by rw [hbytes, List.take_left' p.header_length], by rw [hdrop, List.take_left], ?_⟩
  rw [← List.drop_drop, hdrop, List.drop_left, List.take_of_length_le htag.le]

/-! ### AES-256 makes 16 bytes of 16 bytes (R231) -/

theorem xorBytes_length (a b : Bytes) : (xorBytes a b).length = min a.length b.length := List.length_zipWith

/-- The word that the key schedule adds. -/
def nextKeyWord (i : Nat) (rc : Byte) (w : List Bytes) : Bytes :=
  xorBytes (w.getD 7 []) (if i % 8 = 0 then
      xorBytes (((w.headD []).drop 1 ++ (w.headD []).take 1).map subByte) [rc, 0, 0, 0]
    else if i % 8 = 4 then (w.headD []).map subByte else w.headD [])

theorem expandKey_succ (k i : Nat) (rc : Byte) (w : List Bytes) : expandKey (k + 1) i rc w =
    expandKey k (i + 1) (if i % 8 = 0 then xtime rc else rc) (nextKeyWord i rc w :: w) := rfl

theorem nextKeyWord_length {i : Nat} {rc : Byte} {w : List Bytes} (hw : ∀ x ∈ w, x.length = 4) (h8 : 8 ≤ w.length) :
    (nextKeyWord i rc w).length = 4 := by
  have hback : (w.getD 7 []).length = 4 := by
    rw [List.getD_eq_getElem _ _ (by omega)]
    exact hw _ (List.getElem_mem _)
  have hlast : (w.headD []).length = 4 := by
    cases w with
    | nil => simp at h8
    | cons x w => exact hw x List.mem_cons_self
  rw [nextKeyWord, xorBytes_length, hback]
  generalize w.headD [] = x at hlast
  split
  · simp [xorBytes_length, hlast]
  · split <;> simp [hlast]

/-- Each step of the key schedule adds one word of four bytes. -/
theorem expandKey_words {k i : Nat} {rc : Byte} {w : List Bytes} (hw : ∀ x ∈ w, x.length = 4) (h8 : 8 ≤ w.length) :
    (expandKey k i rc w).length = k + w.length ∧ ∀ x ∈ expandKey k i rc w, x.length = 4 := by
  induction k generalizing i rc w with
  | zero => exact ⟨(Nat.zero_add _).symm, hw⟩
  | succ k ih =>
    have hcons : (nextKeyWord i rc w :: w).length = w.length + 1 := List.length_cons
    obtain ⟨hlen, hall⟩ := ih (i := i + 1) (rc := if i % 8 = 0 then xtime rc else rc)
      (List.forall_mem_cons.mpr ⟨nextKeyWord_length (i := i) (rc := rc) hw h8, hw⟩) (by omega)
    rw [expandKey_succ]
    exact ⟨by omega, hall⟩

theorem flatten_length_of_words {n : Nat} {w : List Bytes} (hw : ∀ x ∈ w, x.length = n) :
    w.flatten.length = w.length * n := by
  rw [List.length_flatten, List.sum_eq_card_nsmul _ n (by simpa using hw), List.length_map, smul_eq_mul]

/-- A 32-byte key has round keys of 16 bytes. -/
theorem roundKeys_length {key : Bytes} (h : key.length = 32) : ∀ k ∈ roundKeys key, k.length = 16 := by
  obtain ⟨hlen, hall⟩ := expandKey_words (k := 52) (i := 8) (rc := 1)
    (w := (List.range 8).reverse.map fun i => (key.drop (4 * i)).take 4)
    (by simp only [List.mem_map, List.mem_reverse, List.mem_range]
        rintro _ ⟨i, hi, rfl⟩
        rw [List.length_take, List.length_drop]
        omega) (by simp)
  simp only [List.length_map, List.length_reverse, List.length_range] at hlen
  unfold roundKeys
  intro k hk
  simp only [List.mem_map, List.mem_range] at hk
  obtain ⟨r, hr, rfl⟩ := hk
  rw [flatten_length_of_words fun x hx => hall x (List.mem_reverse.mp (List.mem_of_mem_drop (List.mem_of_mem_take hx))),
    List.length_take, List.length_drop, List.length_reverse, hlen]
  omega

theorem aesRounds_length {s : Bytes} {ks : List Bytes} (hs : s.length = 16) (hks : ∀ k ∈ ks, k.length = 16) :
    (aesRounds s ks).length = 16 := by
  induction ks generalizing s with
  | nil => exact hs
  | cons k ks ih =>
    have hk : k.length = 16 := hks k List.mem_cons_self
    cases ks with
    | nil => simp [aesRounds, xorBytes_length, shiftRows, hk]
    | cons k' ks =>
      exact ih (by simp [xorBytes_length, mixColumns, mixWith, hk]) fun x hx => hks x (List.mem_cons_of_mem _ hx)

theorem aesEncrypt_length {key block : Bytes} (hkey : key.length = 32) (hb : block.length = 16) :
    (aesEncrypt key block).length = 16 := by
  have hks := roundKeys_length hkey
  unfold aesEncrypt
  split
  case h_1 => exact hb
  case h_2 k t he =>
    rw [he] at hks
    exact aesRounds_length (by rw [xorBytes_length, hb, hks k List.mem_cons_self, Nat.min_self])
      fun x hx => hks x (List.mem_cons_of_mem _ hx)

/-! ### Counter mode (R231) -/

theorem xorBytes_xorBytes {a b : Bytes} (h : a.length ≤ b.length) : xorBytes (xorBytes a b) b = a := by
  refine List.ext_getElem (by simp only [xorBytes_length]; omega) fun i h1 h2 => ?_
  simp only [xorBytes, List.getElem_zipWith, BitVec.xor_assoc, BitVec.xor_self, BitVec.xor_zero]

theorem gcmCtr_succ (key iv : Bytes) (n c : Nat) (b : Bytes) : gcmCtr key iv (n + 1) c b =
    xorBytes (b.take 16) (aesEncrypt key (iv ++ bytesBE 4 c)) ++ gcmCtr key iv n (c + 1) (b.drop 16) := rfl

section
variable {key iv : Bytes} (hkey : key.length = 32) (hiv : iv.length = 12)
include hkey hiv

theorem keyStream_length (c : Nat) : (aesEncrypt key (iv ++ bytesBE 4 c)).length = 16 :=
  aesEncrypt_length hkey (by rw [List.length_append, hiv, bytesBE_length])

theorem gcmCtr_length (n c : Nat) (b : Bytes) : (gcmCtr key iv n c b).length = min (16 * n) b.length := by
  induction n generalizing c b with
  | zero => simp [gcmCtr]
  | succ n ih =>
    rw [gcmCtr, List.length_append, xorBytes_length, keyStream_length hkey hiv, ih, List.length_take, List.length_drop]
    omega

/-- Counter mode undoes itself. -/
theorem gcmCtr_gcmCtr {n c : Nat} {b : Bytes} (h : b.length ≤ 16 * n) :
    gcmCtr key iv n c (gcmCtr key iv n c b) = b := by
  induction n generalizing c b with
  | zero => rw [gcmCtr, List.length_eq_zero_iff.mp (Nat.le_zero.mp h)]
  | succ n ih =>
    have hks := keyStream_length hkey hiv c
    rw [gcmCtr_succ key iv n c b, gcmCtr_succ]
    generalize aesEncrypt key (iv ++ bytesBE 4 c) = ks at hks
    have hx : (xorBytes (b.take 16) ks).length = min 16 b.length := by
      rw [xorBytes_length, hks, List.length_take]
      omega
    have hparts : (xorBytes (b.take 16) ks ++ gcmCtr key iv n (c + 1) (b.drop 16)).take 16 = xorBytes (b.take 16) ks ∧
        (xorBytes (b.take 16) ks ++ gcmCtr key iv n (c + 1) (b.drop 16)).drop 16 =
          gcmCtr key iv n (c + 1) (b.drop 16) := by
      rcases Nat.lt_or_ge b.length 16 with hshort | hfull
      · have hrest : gcmCtr key iv n (c + 1) (b.drop 16) = [] := by
          rw [← List.length_eq_zero_iff, gcmCtr_length hkey hiv, List.length_drop]
          omega
        rw [hrest, List.append_nil]
        exact ⟨List.take_of_length_le (by omega), List.drop_of_length_le (by omega)⟩
      · have h16 : (xorBytes (b.take 16) ks).length = 16 := by omega
        exact ⟨List.take_left' h16, List.drop_left' h16⟩
    rw [hparts.1, hparts.2, xorBytes_xorBytes (by rw [List.length_take, hks]; omega),
      ih (by rw [List.length_drop]; omega), List.take_append_drop]

theorem gcmCrypt_length (b : Bytes) : (gcmCrypt key iv b).length = b.length := by
  rw [gcmCrypt, gcmCtr_length hkey hiv]
  omega

theorem gcmCrypt_gcmCrypt (b : Bytes) : gcmCrypt key iv (gcmCrypt key iv b) = b := by
  rw [gcmCrypt, gcmCrypt_length hkey hiv]
  exact gcmCtr_gcmCtr hkey hiv (by omega)

theorem gcmTag_length (aad ct : Bytes) : (gcmTag key iv aad ct).length = 16 := by
  unfold gcmTag
  rw [xorBytes_length, keyStream_length hkey hiv, bytesBE_length, Nat.min_self]

end

/-- Settles O29: the parts of the parcel on tape, the fields of its header, and counter mode run twice. -/
theorem whatASealWritesAnOpenReads : Obligations.WhatASealWritesAnOpenReads := by
  intro p key iv label hkey hiv hlabel hlen hplain htenant hsid hfirst b h ct
  let q := p.seal key label iv
  obtain ⟨hhead, hbody, htail⟩ := q.onTapeBytes_parts (ct := gcmCrypt key iv p.payload) rfl (gcmTag_length hkey hiv ..)
  obtain ⟨hmagic, hsize, hplainLen, hlab, hten, hs, hf⟩ := q.header_fields hlabel hlen hplain htenant hsid hfirst
  have hh : h = q.header := hhead
  have hct : ct = gcmCrypt key iv p.payload := by
    have hfield : fieldBE h 48 4 = (gcmCrypt key iv p.payload).length := by
      rw [hh, gcmCrypt_length hkey hiv]
      exact hsize
    unfold ct
    rw [hfield]
    exact hbody
  rw [hh, hct]
  exact ⟨hmagic, hsize, hplainLen, hlab, q.header_iv hiv, hten, hs, hf, htail.symm, gcmCrypt_gcmCrypt hkey hiv _⟩

end Sys2Proof.Machine
end

section
/-! Every command completes, but PARCEL_SEAL with its count of all-zero-key parcels spent (R249; log entries 3 and 68). -/

namespace Sys2Proof.Machine

-- One theorem at a time: run ahead of the kernel, each would hold a thread and its stack.
set_option Elab.async false

/-- PARCEL_SEAL as a key of all zeros or a slot of the stream takes it; the all-zero key alone can be spent. -/
theorem State.sealParcel_completes (s : State) (ds i : Nat) : (∃ t, s.sealParcel ds i = .next t) ∨
    (s.sealParcel ds i = .fault .zeroKeyCountSpent ∧ 2 ^ 64 ≤ s.ce.zeroCount + 1) := by
  unfold State.sealParcel
  split
  case h_1 => exact .inl ⟨_, rfl⟩
  case h_2 p hp =>
    split
    case isTrue => exact .inl ⟨_, rfl⟩
    case isFalse =>
      split
      case h_1 =>
        split
        case isTrue hspent => exact .inr ⟨rfl, hspent⟩
        case isFalse => exact .inl ⟨_, rfl⟩
      case h_2 x n hkey =>
        extract_lets f g k u
        split
        case isTrue => exact .inl ⟨_, rfl⟩
        case isFalse => split <;> exact .inl ⟨_, rfl⟩

theorem execOpenStream_completes (id : Nat) (s : State) : ∃ t, execOpenStream id s = .next t := by
  unfold execOpenStream
  extract_lets u
  split
  · split <;> exact ⟨_, rfl⟩
  · exact ⟨_, rfl⟩

theorem execBenchmarkTrain_completes (rs : List BenchRead) (s : State) : ∃ t, execBenchmarkTrain rs s = .next t := by
  unfold execBenchmarkTrain
  split <;> exact ⟨_, rfl⟩

theorem execMarginProbe_completes (p : FramePos) (pass : Bool) (s : State) : ∃ t, execMarginProbe p pass s = .next t := by
  unfold execMarginProbe
  split
  · exact ⟨_, rfl⟩
  · extract_lets f tierFrame u v tally
    split <;> exact ⟨_, rfl⟩

theorem execDmaCompletionError_completes (id d : Nat) (s : State) : ∃ t, execDmaCompletionError id d s = .next t := by
  unfold execDmaCompletionError
  split <;> exact ⟨_, rfl⟩

theorem execCqModerationTimer_completes (fn cq : Nat) (s : State) : ∃ t, execCqModerationTimer fn cq s = .next t := by
  unfold execCqModerationTimer
  extract_lets q
  split <;> exact ⟨_, rfl⟩

/-- Settles O5: five commands decide before they answer a state, PARCEL_SEAL can stop, and every other answers one
outright. -/
theorem onlyParcelSealCanStop : Obligations.OnlyParcelSealCanStop := by
  intro c s
  cases c with
  | parcelSeal ds i =>
    obtain hnext | ⟨hfault, hspent⟩ := s.sealParcel_completes ds i
    · exact .inl hnext
    · exact .inr ⟨hfault, ⟨ds, i, rfl⟩, hspent⟩
  | openStream id => exact .inl (execOpenStream_completes id s)
  | benchmarkTrain rs => exact .inl (execBenchmarkTrain_completes rs s)
  | marginProbe p pass => exact .inl (execMarginProbe_completes p pass s)
  | dmaCompletionError id d => exact .inl (execDmaCompletionError_completes id d s)
  | cqModerationTimer fn cq => exact .inl (execCqModerationTimer_completes fn cq s)
  | _ => exact .inl ⟨_, rfl⟩

end Sys2Proof.Machine
end

section
/-! The TRNG's retests, and what is reserved in the NV store before it is used (R243, R255, R256, R460, R492, R495). -/

namespace Sys2Proof.Machine

-- One theorem at a time: run ahead of the kernel, each would hold a thread and its stack.
set_option Elab.async false

/-! ### Retests (R256) -/

theorem trngHealthFail_starts {s : State} (hf : s.ce.failed = false) (hr : s.ce.retesting = false) :
    exec .trngHealthFail s =
      .next { s with ce := { s.ce with healthy := false, retesting := true, retests := 0 } } :=
  congrArg Host.Outcome.next (if_neg (by simp [hf, hr]))

theorem State.retestEnd_pass {s : State} (h : s.ce.retesting = true) :
    s.retestEnd true = { s with ce := { s.ce with healthy := true, retesting := false, retests := 0 } } := by
  rw [State.retestEnd, if_neg (by simp [h]), if_pos rfl]

theorem State.retestEnd_again {s : State} (h : s.ce.retesting = true) (hn : s.ce.retests < 2) :
    s.retestEnd false = { s with ce := { s.ce with retests := s.ce.retests + 1 } } := by
  rw [State.retestEnd, if_neg (by simp [h]), if_neg Bool.false_ne_true, if_pos (by omega)]

/-- CE once the failure of the TRNG is final. -/
def State.trngFinal (s : State) : State :=
  { s with ce := { s.ce with retesting := false, retests := 3, failed := true } }

theorem State.retestEnd_final {s : State} (h : s.ce.retesting = true) (hn : 2 ≤ s.ce.retests) :
    s.retestEnd false = ((s.trngFinal.bump .ceTrngFail 0 0).logEv .trngFail 0 0 0).cutOff := by
  rw [State.retestEnd, if_neg (by simp [h]), if_neg Bool.false_ne_true, if_neg (by omega)]
  rfl

/-- The third retest that fails makes the failure final: it is counted and logged. -/
theorem trngRetestEnd_fails {s : State} (h : s.ce.retesting = true) (hn : 2 ≤ s.ce.retests) :
    ∃ t, exec (.trngRetestEnd false) s = .next t ∧ t.ce = s.trngFinal.ce ∧ s.ms.seq + 1 ≤ t.ms.seq ∧
      t.reg .ceTrngFail 0 0 = min (s.reg .ceTrngFail 0 0 + 1) 0xFFFFFFFF := by
  let u := s.trngFinal.bump .ceTrngFail 0 0
  let v := u.logEv .trngFail 0 0 0
  have hcut : v.Upholds v.cutOff := State.Upholds.cutOff
  refine ⟨_, congrArg Host.Outcome.next (State.retestEnd_final h hn), ?_, ?_, ?_⟩
  · calc v.cutOff.ce = v.ce := State.cutOff_frame .ce rfl
      _ = u.ce := State.logEv_frame .ce rfl
      _ = s.trngFinal.ce := State.bump_frame .ce rfl
  · calc s.ms.seq + 1 = u.ms.seq + 1 := rfl
      _ = v.ms.seq := (State.logEv_seq ..).symm
      _ ≤ v.cutOff.ms.seq := hcut.seq
  · calc v.cutOff.reg .ceTrngFail 0 0 = v.reg .ceTrngFail 0 0 := hcut.regs _ _ _ rfl
      _ = u.reg .ceTrngFail 0 0 := State.logEv_regsBut _ _ _ rfl
      _ = min (s.reg .ceTrngFail 0 0 + 1) 0xFFFFFFFF := State.reg_bumpBy_self ..

/-! ### Reserves (R243, R255, R492, R495) -/

theorem drbgReseed_seeds {s : State} (h : 65536 ≤ s.ce.drbgUses) :
    ∃ t, exec .drbgReseed s = .next t ∧ t.ce = { s.ce with drbgUses := 0, seeds := s.ce.seeds + 1 } ∧
      Frame [.ce, .fresh] s t :=
  ⟨_, congrArg Host.Outcome.next (if_pos h), rfl, Frame.ce (State.draw_frame.mono rfl) rfl⟩

theorem eventLogBlockReserve_reserves {s : State} (h : s.ms.seqBound ≤ s.ms.seq) :
    ∃ t, exec .eventLogBlockReserve s = .next t ∧ t.ms.seqBound = s.ms.seq + 4096 ∧ t.ms.seq = s.ms.seq ∧
      t.ms.log = s.ms.log ∧ t.ms.nvSummary = summaryOf s.ms.log ∧ Frame [.ms] s t := by
  let u : State := { s with ms := { s.ms with seqBound := s.ms.seq + 4096 } }
  have hu : Frame [.ms] s u := Frame.ms Frame.refl rfl
  have hexec : exec .eventLogBlockReserve s = .next u.saveSummary := congrArg Host.Outcome.next (if_neg h.not_gt)
  obtain ⟨lost, hms⟩ := u.saveSummary_ms
  have hsummary : u.saveSummary.ms.nvSummary = summaryOf s.ms.log := by rw [hms]
  exact ⟨_, hexec, rfl, rfl, rfl, hsummary, hu.trans State.saveSummary_frame⟩

/-! ### The journal (R460) -/

theorem journalCompact_compacts {s : State} (h : 3 * journalArea ≤ 4 * s.ms.journal) :
    ∃ t, exec .journalCompact s = .next t ∧
      t.ms.journal = snapshotSize s.nCells.length + (s.ms.oldSettings.map fun q => snapshotSize q.length).getD 0 ∧
      t.ms.oldSettings = s.ms.oldSettings ∧ State.regsBut [.msXsErases] s t ∧ Frame [.regs, .ms, .fresh] s t :=
  ⟨_, congrArg Host.Outcome.next (if_neg h.not_gt), rfl, (congrArg MsState.oldSettings (State.countErases_frame (s := s) .ms rfl) :),
    fun r i k hr => congrFun₂ (s.reg_countErases (by rintro rfl; simp at hr)) i k,
    Frame.ms (State.countErases_frame.mono rfl) rfl⟩

/-- Settles O54: the retests of the TRNG, the DRBG's seed, and the three reserves of the NV store. -/
theorem randomNumbersEpochsAndBlocksAreReserved : Obligations.RandomNumbersEpochsAndBlocksAreReserved := by
  refine fun s => ⟨trngHealthFail_starts, fun hr => ⟨congrArg Host.Outcome.next (State.retestEnd_pass hr),
      fun hn => congrArg Host.Outcome.next (State.retestEnd_again hr hn), fun hn => ?_⟩, drbgReseed_seeds,
    fun h => congrArg Host.Outcome.next (if_neg h.not_ge), fun h => congrArg Host.Outcome.next (if_neg h.not_gt),
    fun h => congrArg Host.Outcome.next (if_pos h), eventLogBlockReserve_reserves,
    fun h => congrArg Host.Outcome.next (if_pos h), journalCompact_compacts,
    fun h => congrArg Host.Outcome.next (if_pos h)⟩
  obtain ⟨t, hexec, hce, hseq, hreg⟩ := trngRetestEnd_fails hr hn
  refine ⟨t, hexec, ?_, ?_, ?_, ?_, hseq, hreg⟩ <;> rw [hce] <;> rfl

end Sys2Proof.Machine
end

section
/-! PARCEL_SEAL (R242, R244, R249, R250): the key and the IV that a parcel is sealed under, and the counts behind the IV. -/

namespace Sys2Proof.Machine

-- One theorem at a time: run ahead of the kernel, each would hold a thread and its stack.
set_option Elab.async false

/-! ### A parcel replaced -/

theorem State.parcel?_congr {s t : State} (h : t.pe.parcels = s.pe.parcels) : t.parcel? = s.parcel? := by
  funext ds i
  rw [State.parcel?, State.parcel?, h]

/-- A parcel put in the place of another is the one found there. -/
theorem State.parcel?_setParcel {s : State} {ds i : Nat} {p q : Parcel} (h : s.parcel? ds i = some p)
    (hd : q.dataset = p.dataset) (hi : q.index = p.index) : (s.setParcel q).parcel? ds i = some q := by
  have hplace : p.dataset = ds ∧ p.index = i := by simpa using List.find?_some h
  obtain ⟨rfl, rfl⟩ := hplace
  have hpred : ((fun r : Parcel => r.dataset == p.dataset && r.index == p.index) ∘
      fun r : Parcel => if r.dataset = q.dataset ∧ r.index = q.index then q else r) =
      fun r : Parcel => r.dataset == p.dataset && r.index == p.index := by
    funext r
    by_cases hr : r.dataset = p.dataset ∧ r.index = p.index <;> simp [hd, hi, hr]
  rw [State.parcel?] at h
  rw [State.parcel?, State.setParcel, List.find?_map, hpred, h, Option.map_some, if_pos ⟨hd.symm, hi.symm⟩]

/-! ### What a core's work and an invocation change in CE (R177, R242, R246) -/

/-- Work on a core moves the turn of the cores and the bytes counted. -/
theorem State.coreWork_ce (s : State) (n : Nat) : ∃ next rest, (s.coreWork n).ce = { s.ce with nextCore := next, rest := rest } := by
  have hcore (i : Nat) : ∃ next rest, (s.onCore i n).ce = { s.ce with nextCore := next, rest := rest } := by
    have hyield : (s.yieldUnit 5 i).ce = s.ce := State.yieldUnit_frame .ce rfl
    unfold State.onCore
    extract_lets t u ce v
    exact ⟨_, _, congrArg (fun c : CeState => { c with nextCore := i + 1, rest := c.rest.set i (t % mib) }) hyield⟩
  unfold State.coreWork
  extract_lets all free all'
  split
  · exact hcore _
  · split
    · exact hcore _
    · exact ⟨_, _, rfl⟩

theorem State.keyLow_ce (s : State) (f n : Nat) : (s.keyLow f n).ce.zeroCount = s.ce.zeroCount ∧
    ∃ b, (s.keyLow f n).slot (s.keyBase f + n) = { s.slot (s.keyBase f + n) with lowTold := b } := by
  unfold State.keyLow
  extract_lets g k rest
  split
  · have hchime : ((s.setSlot g { k with lowTold := true }).chime f 0x301 n (min (rest / 65536) 0xFFFF)).ce =
        (s.setSlot g { k with lowTold := true }).ce := State.chime_frame .ce rfl
    refine ⟨(congrArg CeState.zeroCount hchime :), true, ?_⟩
    rw [State.slot, hchime]
    exact State.slot_setSlot_self ..
  · exact ⟨rfl, _, rfl⟩

/-- An invocation is counted on the slot, which is exhausted once its limit is reached. -/
theorem State.takeInvocation_ce (s : State) (f n : Nat) :
    let k := s.slot (s.keyBase f + n)
    (s.takeInvocation f n).ce.zeroCount = s.ce.zeroCount ∧ ∃ b, (s.takeInvocation f n).slot (s.keyBase f + n) =
      { k with used := k.used + 1, state := if k.limit ≤ k.used + 1 then 3 else k.state, lowTold := b } := by
  intro k
  let u := s.setSlot (s.keyBase f + n)
    { k with used := k.used + 1, state := if decide (k.limit ≤ k.used + 1) then 3 else k.state }
  have htold : (s.takeInvocation f n).ce = (u.keyLow f n).ce := by
    change (if _ then (u.keyLow f n).chime f 0x302 n 0 else u.keyLow f n).ce = _
    split
    · exact State.chime_frame .ce rfl
    · rfl
  obtain ⟨hcount, b, hslot⟩ := u.keyLow_ce f n
  refine ⟨(congrArg CeState.zeroCount htold).trans hcount, b, ?_⟩
  have hbase : u.keyBase f = s.keyBase f := rfl
  rw [hbase, State.slot_setSlot_self] at hslot
  rw [State.slot, htold]
  simp only [decide_eq_true_eq] at hslot
  exact hslot

/-! ### The ways through PARCEL_SEAL (R249, R250) -/

/-- What a seal needs: the parcel is there, not sealed yet, and CE can work. -/
structure State.SealReady (s : State) (ds i : Nat) (p : Parcel) : Prop where
  found : s.parcel? ds i = some p
  unsealed : p.sealedText = none
  live : p.dead = false
  cipher : s.noCipher = false
  waits : s.cipherWaits = false

namespace State.SealReady

variable {s : State} {ds i : Nat} {p : Parcel}

theorem keyless (h : s.SealReady ds i p) (hk : ((s.stream? p.stream).bind fun x => x.keySlot) = none)
    (hz : s.ce.zeroCount + 1 < 2 ^ 64) :
    s.sealParcel ds i =
      .next ((State.coreWork { s with ce := { s.ce with zeroCount := s.ce.zeroCount + 1 } } p.payload.length).setParcel
        (p.seal (zeros 32) 0 (bytesBE 4 Config.deviceNumber.toNat ++ bytesBE 8 s.ce.zeroCount))) := by
  have hkey : ((s.stream? p.stream).bind fun x => x.keySlot.map fun n => (x, n)) = none := by
    simpa only [Option.bind_eq_none_iff, Option.map_eq_none_iff] using hk
  unfold State.sealParcel
  simp only [h.found, h.unsealed, h.live, h.cipher, h.waits, hkey, Option.isSome_none, Bool.or_self, Bool.false_eq_true,
    if_false, if_neg hz.not_ge]

theorem spent (h : s.SealReady ds i p) (hk : ((s.stream? p.stream).bind fun x => x.keySlot) = none)
    (hz : 2 ^ 64 ≤ s.ce.zeroCount + 1) : s.sealParcel ds i = .fault .zeroKeyCountSpent := by
  have hkey : ((s.stream? p.stream).bind fun x => x.keySlot.map fun n => (x, n)) = none := by
    simpa only [Option.bind_eq_none_iff, Option.map_eq_none_iff] using hk
  unfold State.sealParcel
  simp only [h.found, h.unsealed, h.live, h.cipher, h.waits, hkey, Option.isSome_none, Bool.or_self, Bool.false_eq_true,
    if_false, if_pos hz]

/-- Under an AEAD slot that holds a key and is not exhausted. -/
theorem keyed (h : s.SealReady ds i p) {x : Stream} {n g : Nat} (hx : s.stream? p.stream = some x)
    (hn : x.keySlot = some n) (hg : s.keyBase (s.streamFn x) + n = g) (hstate : (s.slot g).state = 2)
    (hraw : (s.slot g).raw = false) :
    s.sealParcel ds i = .next ((((s.coreWork p.payload.length).setParcel
      (p.seal (s.slot g).key (s.slot g).label (slotIv (s.slot g)))).takeInvocation (s.streamFn x) n).settleRetiring g) := by
  subst hg
  unfold State.sealParcel
  simp only [h.found, h.unsealed, h.live, h.cipher, h.waits, hx, hn, hstate, hraw, Option.bind_some, Option.map_some,
    Option.isSome_none, Bool.or_self, Bool.false_eq_true, if_false, ne_eq, not_true_eq_false,
    Nat.reduceEqDiff, or_self]

end State.SealReady

theorem State.sealParcel_of_sealed {s : State} {ds i : Nat} {p : Parcel} (h : s.parcel? ds i = some p)
    (hs : p.sealedText.isSome = true) : s.sealParcel ds i = .next s := by
  unfold State.sealParcel
  simp only [h, hs, Bool.true_or, if_true]

theorem State.settleRetiring_of_standing {s : State} {g : Nat} (h : (s.slot g).retiring = false) :
    s.settleRetiring g = s := if_neg (by simp [h])

theorem parcelSeal_zeroKey {s : State} {ds i : Nat} {p : Parcel} (h : s.SealReady ds i p)
    (hk : ((s.stream? p.stream).bind fun x => x.keySlot) = none) (hz : s.ce.zeroCount + 1 < 2 ^ 64) :
    ∃ t, exec (.parcelSeal ds i) s = .next t ∧
      t.parcel? ds i =
        some (p.seal (zeros 32) 0 (bytesBE 4 Config.deviceNumber.toNat ++ bytesBE 8 s.ce.zeroCount)) ∧
      t.ce.zeroCount = s.ce.zeroCount + 1 ∧ t.ce.slots = s.ce.slots ∧ Frame [.regs, .pe, .ce, .ms] s t := by
  let u : State := { s with ce := { s.ce with zeroCount := s.ce.zeroCount + 1 } }
  have hwork : Frame [.regs, .ce, .ms] u (u.coreWork p.payload.length) := State.coreWork_frame
  obtain ⟨next, rest, hce⟩ := u.coreWork_ce p.payload.length
  refine ⟨_, h.keyless hk hz, ?_, (congrArg CeState.zeroCount hce :), (congrArg CeState.slots hce :), ?_⟩
  · refine State.parcel?_setParcel (p := p) ?_ rfl rfl
    rw [State.parcel?_congr (congrArg PeState.parcels (hwork .pe rfl))]
    exact h.found
  · have hu : Frame [.regs, .pe, .ce, .ms] s u := Frame.ce Frame.refl rfl
    exact (hu.step hwork rfl).step State.setParcel_frame rfl

theorem parcelSeal_slotKey {s : State} {ds i : Nat} {p : Parcel} (h : s.SealReady ds i p) {x : Stream} {n g : Nat}
    (hx : s.stream? p.stream = some x) (hn : x.keySlot = some n) (hg : s.keyBase (s.streamFn x) + n = g)
    (hstate : (s.slot g).state = 2) (hraw : (s.slot g).raw = false) (hret : (s.slot g).retiring = false) :
    ∃ t, exec (.parcelSeal ds i) s = .next t ∧
      t.parcel? ds i = some (p.seal (s.slot g).key (s.slot g).label (slotIv (s.slot g))) ∧
      (t.slot g).used = (s.slot g).used + 1 ∧
      (t.slot g).state = (if (s.slot g).limit ≤ (s.slot g).used + 1 then 3 else 2) ∧
      t.ce.zeroCount = s.ce.zeroCount ∧ Frame [.regs, .hi, .qe, .pe, .ce, .ms, .out] s t := by
  let q := p.seal (s.slot g).key (s.slot g).label (slotIv (s.slot g))
  let u := s.coreWork p.payload.length
  let v := u.setParcel q
  have hwork : Frame [.regs, .ce, .ms] s u := State.coreWork_frame
  have hv : Frame [.pe] u v := State.setParcel_frame
  obtain ⟨next, rest, hce⟩ := s.coreWork_ce p.payload.length
  have hslot : v.slot g = s.slot g :=
    (congrArg (fun c : CeState => c.slots.get keySlot0 g) hce :)
  have hbase : v.keyBase (s.streamFn x) + n = g := by
    rw [← hg]
    exact congrArg (· + n) ((s.coreWorked_coreWork p.payload.length).regs _ _ _ rfl)
  obtain ⟨hcount, b, htaken⟩ := v.takeInvocation_ce (s.streamFn x) n
  rw [hbase, hslot] at htaken
  have hsettled := State.settleRetiring_of_standing (s := v.takeInvocation (s.streamFn x) n) (g := g) (by rw [htaken, hret])
  have hexec := h.keyed hx hn hg hstate hraw
  rw [hsettled] at hexec
  refine ⟨_, hexec, ?_, by rw [htaken], by rw [htaken, hstate], hcount.trans (congrArg CeState.zeroCount hce :), ?_⟩
  · rw [State.parcel?_congr (congrArg PeState.parcels (State.takeInvocation_frame .pe rfl))]
    refine State.parcel?_setParcel (p := p) ?_ rfl rfl
    rw [State.parcel?_congr (congrArg PeState.parcels (hwork .pe rfl))]
    exact h.found
  · exact ((hwork.mono rfl).step hv rfl).step State.takeInvocation_frame rfl

/-- Settles O28: a parcel of a stream without a key, one of a stream under a slot, and one sealed before. That a spent
count of all-zero-key parcels stops the machine is the model's choice (log entry 68). -/
theorem parcelsAreSealedOnceUnderTheirKey : Obligations.ParcelsAreSealedOnceUnderTheirKey := by
  refine ⟨fun s ds i p hp hunsealed hlive hcipher hwaits => ?_, fun s ds i p hp hs => State.sealParcel_of_sealed hp hs⟩
  have hready : s.SealReady ds i p := ⟨hp, hunsealed, hlive, hcipher, hwaits⟩
  refine ⟨fun hk hz => ?_, fun hk hz => hready.spent hk hz, ?_⟩
  · obtain ⟨t, hexec, hq, hcount, hslots, hframe⟩ := parcelSeal_zeroKey hready hk hz
    exact ⟨t, _, hexec, hq, rfl, rfl, rfl, rfl, rfl, hcount, hslots, hframe⟩
  · intro x n hx hn g k hstate hraw hret
    obtain ⟨t, hexec, hq, hused, hfull, hcount, hframe⟩ := parcelSeal_slotKey hready hx hn rfl hstate hraw hret
    exact ⟨t, _, hexec, hq, rfl, rfl, rfl, rfl, rfl, hused, hfull, hcount, hframe⟩

end Sys2Proof.Machine
end

section
/-! The counters whose values never come twice (R243, R456, R492, R495): event-log sequence numbers and install epochs
with the bounds reserved for them, and the anti-rollback fuses. Each operation keeps the bounds and lowers no counter.
Few write one: the reservations, an event's number, a new epoch, a reset with the start after it, and fuses blown. -/

namespace Sys2Proof.Machine

-- One theorem at a time: run ahead of the kernel, each would hold a thread and its stack.
set_option Elab.async false

/-- Where the counters are within their bounds, they are so in the second state, and none has gone back. -/
def State.KeepsCounters (s t : State) : Prop := s.countersBound → t.countersBound ∧ s.countersRise t

/-- Where the outcome is a next state, that state keeps the counters of `s`. -/
def KeepsCountersIn (s : State) (o : Host.Outcome State Fault Refusal) : Prop := ∀ t, o = .next t → s.KeepsCounters t

namespace State.KeepsCounters

variable {s t u : State}

theorem refl : s.KeepsCounters s := fun h => ⟨h, le_rfl, le_rfl, le_rfl, le_rfl, le_rfl⟩

theorem trans (h1 : s.KeepsCounters t) (h2 : t.KeepsCounters u) : s.KeepsCounters u := by
  intro h
  obtain ⟨ht, hseq, hseqBound, hepoch, hepochBound, hfused⟩ := h1 h
  obtain ⟨hu, hseq', hseqBound', hepoch', hepochBound', hfused'⟩ := h2 ht
  exact ⟨hu, hseq.trans hseq', hseqBound.trans hseqBound', hepoch.trans hepoch', hepochBound.trans hepochBound',
    hfused.trans hfused'⟩

theorem ite {c : Prop} [Decidable c] (h1 : s.KeepsCounters t) (h2 : s.KeepsCounters u) :
    s.KeepsCounters (if c then t else u) := by
  split
  · exact h1
  · exact h2

theorem fold {α : Type} {f : State → α → State} (h : ∀ u a, State.KeepsCounters u (f u a)) (xs : List α) :
    s.KeepsCounters (xs.foldl f s) := by
  induction xs generalizing s with
  | nil => exact refl
  | cons a xs ih => exact (h s a).trans ih

theorem ite_fst {α : Type} {c : Prop} [Decidable c] {p q : State × α} (h1 : s.KeepsCounters p.1)
    (h2 : s.KeepsCounters q.1) : s.KeepsCounters (if c then p else q).1 := by
  split
  · exact h1
  · exact h2

theorem fold_fst {α β : Type} {f : State × β → α → State × β} {p : State × β}
    (h : ∀ q a, State.KeepsCounters q.1 (f q a).1) (xs : List α) : State.KeepsCounters p.1 (xs.foldl f p).1 := by
  induction xs generalizing p with
  | nil => exact refl
  | cons a xs ih => exact (h p a).trans ih

/-- A step that writes no counter. -/
theorem of_eq (hseq : t.ms.seq = s.ms.seq := by rfl) (hseqBound : t.ms.seqBound = s.ms.seqBound := by rfl)
    (hfused : t.ms.fused = s.ms.fused := by rfl) (hepoch : t.ce.epoch = s.ce.epoch := by rfl)
    (hepochBound : t.ce.epochBound = s.ce.epochBound := by rfl) : s.KeepsCounters t := by
  unfold State.KeepsCounters State.countersBound State.countersRise
  rw [hseq, hseqBound, hfused, hepoch, hepochBound]
  exact refl

/-- The counters lie in MS and CE. -/
theorem of_frame {l : List Part} (h : Frame l s t) (hm : l.contains .ms = false := by rfl)
    (hc : l.contains .ce = false := by rfl) : s.KeepsCounters t := by
  have hms : t.ms = s.ms := h .ms hm
  have hce : t.ce = s.ce := h .ce hc
  exact of_eq (by rw [hms]) (by rw [hms]) (by rw [hms]) (by rw [hce]) (by rw [hce])

theorem frame {l : List Part} (h : s.KeepsCounters t) (hf : Frame l t u) (hm : l.contains .ms = false := by rfl)
    (hc : l.contains .ce = false := by rfl) : s.KeepsCounters u := h.trans (of_frame hf hm hc)

/-! ### The event log and settings (R456, R492, R495) -/

theorem saveSummary : s.KeepsCounters s.saveSummary := by
  obtain ⟨lost, hms⟩ := s.saveSummary_ms
  exact of_eq (by rw [hms]) (by rw [hms]) (by rw [hms])

/-- What a reservation leaves: room for one number, and a bound that is no lower. -/
theorem reserveLog_room (s : State) : s.reserveLog.ms.seq < s.reserveLog.ms.seqBound ∧
    (s.ms.seq ≤ s.ms.seqBound → s.ms.seqBound ≤ s.reserveLog.ms.seqBound) := by
  unfold State.reserveLog
  split
  case isTrue h => exact ⟨h, fun _ => le_rfl⟩
  case isFalse h => exact ⟨by simp [State.saveSummary], fun hle => by simp [State.saveSummary]; omega⟩

theorem reserveLog : s.KeepsCounters s.reserveLog := by
  intro ⟨hseq, hepoch, hfused⟩
  obtain ⟨b, n, q, c, hms⟩ := s.reserveLog_ms
  obtain ⟨hroom, hbound⟩ := reserveLog_room s
  have hce : s.reserveLog.ce = s.ce := State.reserveLog_frame .ce rfl
  unfold State.countersBound State.countersRise
  rw [hce]
  refine ⟨⟨hroom.le, hepoch, by rw [hms]; exact hfused⟩, by rw [hms], hbound hseq, le_rfl, le_rfl, by rw [hms]⟩

/-- An event's number is taken below the bound. -/
theorem takeSeq : s.KeepsCounters s.takeSeq := by
  intro h
  obtain ⟨⟨-, hepoch, hfused⟩, hseq, hseqBound, hrise⟩ := reserveLog h
  obtain ⟨hroom, -⟩ := reserveLog_room s
  exact ⟨⟨hroom, hepoch, hfused⟩, hseq.trans (Nat.le_succ _), hseqBound, hrise⟩

theorem storeLog {e : LogEntry} : s.KeepsCounters (s.storeLog e) := ite ((of_eq).frame State.bump_frame) of_eq

theorem logEv {ev : Ev} {tenant unit value : Nat} : s.KeepsCounters (s.logEv ev tenant unit value) := by
  obtain h | ⟨e, h⟩ := s.logEv_cases ev tenant unit value
  · exact h ▸ takeSeq
  · exact h ▸ takeSeq.trans storeLog

theorem writeN {r : RegName} {inst sel v : Nat} : s.KeepsCounters (s.writeN r inst sel v) := by
  unfold State.writeN
  extract_lets _ _ _ s1
  have h1 : s.KeepsCounters s1 := of_frame State.setReg_frame
  exact h1.trans of_eq

/-! ### The hold on a part that wakes (R436, R452) -/

theorem wake {cause : Nat} : s.KeepsCounters (s.wake cause) := by
  unfold State.wake
  extract_lets s1
  have h1 : s.KeepsCounters s1 := ((of_frame State.countResidency_frame).frame State.bump_frame).frame
    State.setFld_frame
  exact ite refl (h1.trans of_eq)

/-! ### Key slots, tenants and quotas (R58 to R69) -/

theorem setSlot {g : Nat} {k : KeySlot} : s.KeepsCounters (s.setSlot g k) := of_eq

theorem rwlReject {r : RegName} {inst : Nat} : s.KeepsCounters (s.rwlReject r inst) := logEv

theorem allocReject {r : RegName} {part : Nat} : s.KeepsCounters (s.allocReject r part) :=
  (of_frame State.setFld_frame).trans logEv

theorem writeTenant {src : Port} {part value : Nat} : s.KeepsCounters (s.writeTenant src part value) := by
  unfold State.writeTenant
  refine ite refl ?_
  split
  · exact refl
  · exact ite refl (ite rwlReject (ite allocReject writeN))

theorem numberVf {f : Fn} : s.KeepsCounters (s.numberVf f) := ite writeN refl

theorem writeQuota {src : Port} {part value : Nat} : s.KeepsCounters (s.writeQuota src part value) := by
  unfold State.writeQuota
  extract_lets _ _ _ s1
  have h1 : s.KeepsCounters s1 := of_frame State.setReg_frame
  exact ite refl (ite refl (ite rwlReject (ite allocReject
    (ite (h1.trans (fold (fun _ _ => numberVf) _)) (h1.trans (fold (fun _ _ => writeN) _))))))

/-! ### Streams and the end of a command (R105, R120, R121, R132, R133) -/

theorem writeAlloc {src : Port} {part : Nat} {k : AllocKind} {value : Nat} :
    s.KeepsCounters (s.writeAlloc src part k value) := by
  unfold State.writeAlloc
  refine ite refl ?_
  split
  · exact refl
  · exact ite refl (ite rwlReject (ite allocReject ((of_frame State.setReg_frame).frame State.allocApplied_frame)))

theorem abandonUpdate {reason : Nat} : s.KeepsCounters (s.abandonUpdate reason) :=
  ite refl ((of_eq).frame State.chimeOwner_frame)

theorem changeOwner {next : Option Nat} : s.KeepsCounters (s.changeOwner next) := by
  unfold State.changeOwner
  extract_lets old hi s1 s2 pfs s3 s4 m s5
  have h2 : s.KeepsCounters s2 := KeepsCounters.trans (t := s1) of_eq abandonUpdate
  have h4 : s.KeepsCounters s4 := (h2.frame State.kltTrigger_frame).trans (fold (fun _ _ => of_frame State.chime_frame) _)
  have h5 : s.KeepsCounters s5 := by
    unfold s5
    split
    · exact (h4.trans of_eq).frame State.chimeOwner_frame
    · exact h4
  exact ite of_eq (h5.trans of_eq)

theorem settleOwner : s.KeepsCounters s.settleOwner := by
  unfold State.settleOwner
  split
  · exact refl
  · exact ite refl changeOwner

theorem finishCmd {c : Cmd} {status detail result : Nat} : s.KeepsCounters (s.finishCmd c status detail result) := by
  unfold State.finishCmd
  extract_lets _ s1 _ s2 s3 s4
  have h1 : s.KeepsCounters s1 := by
    unfold s1
    split
    · exact ite refl (of_frame State.giveBack_frame)
    · exact refl
  have h2 : s.KeepsCounters s2 := by
    unfold s2
    split
    · exact ite (h1.frame State.tellCredit_frame) h1
    · exact h1
  exact (((h2.frame State.dropCmd_frame).frame State.countReset_frame).frame State.makeReady_frame).trans settleOwner

theorem renumber {k first order : Nat} : s.KeepsCounters (s.renumber k first order) := by
  unfold State.renumber
  extract_lets _ s1
  refine (of_frame State.modStream_frame).trans (fold (fun u _ => ?_) _)
  split
  · exact ite (of_frame State.setStream_frame) finishCmd
  · exact refl

theorem endCmd {c : Cmd} {status detail result : Nat} : s.KeepsCounters (s.endCmd c status detail result) := by
  unfold State.endCmd
  extract_lets s1
  refine ite ?_ finishCmd
  split
  · exact (finishCmd.trans renumber).frame State.recredit_frame
  · exact finishCmd

theorem abandonCmd {c : Cmd} : s.KeepsCounters (s.abandonCmd c) := by
  unfold State.abandonCmd
  extract_lets s1 s2
  have h1 : s.KeepsCounters s1 := by
    unfold s1
    split
    · exact of_frame State.giveBack_frame
    · exact refl
  have h2 : s.KeepsCounters s2 := h1.frame State.dropCmd_frame
  refine ite ?_ (h2.trans settleOwner)
  split
  · exact ((h2.trans renumber).frame State.recredit_frame).trans settleOwner
  · exact h2

theorem logDeferred {k : Nat} : s.KeepsCounters (s.logDeferred k) := by
  unfold State.logDeferred
  split
  · split
    · extract_lets s1
      exact ite ((of_frame State.setStream_frame).trans logEv) refl
    · exact refl
  · exact refl

theorem deferError {k l detail : Nat} : s.KeepsCounters (s.deferError k l detail) := by
  unfold State.deferError
  split
  · exact refl
  · extract_lets _ s1 _ s2 s3 s4 s5 s6
    have h3 : s.KeepsCounters s3 := ((of_frame State.setStream_frame).frame State.truncate_frame).frame
      State.modStream_frame
    have h4 : s.KeepsCounters s4 := h3.trans (fold (fun _ _ => finishCmd) _)
    have h5 : s.KeepsCounters s5 := ite h4 (h4.frame State.modStream_frame)
    exact (ite (h5.trans logDeferred) h5).frame State.recredit_frame

/-! ### Rings (R76 to R104) -/

theorem resetRing {f ring : Nat} {disable : Bool} : s.KeepsCounters (s.resetRing f ring disable) := by
  unfold State.resetRing
  extract_lets _ _ _ s1
  refine ite refl ?_
  refine frame ?_ State.freeParty_frame
  exact (of_frame State.setSq_frame).trans (fold (fun _ _ => abandonCmd) _)

theorem writeSqCtrl {f v : Nat} : s.KeepsCounters (s.writeSqCtrl f v) := by
  unfold State.writeSqCtrl
  extract_lets _ s1
  have h1 : s.KeepsCounters s1 := of_frame State.setFld_frame
  exact ite refl (ite (ite h1 (ite ((h1.frame State.setFld_frame).frame State.setSq_frame)
    (h1.frame State.refuseEnable_frame))) (ite ((h1.frame State.setFld_frame).trans resetRing) h1))

theorem writeSqReset {f v : Nat} : s.KeepsCounters (s.writeSqReset f v) := ite resetRing refl

theorem failRing {cq : Bool} {f ring : Nat} : s.KeepsCounters (s.failRing cq f ring) := by
  unfold State.failRing
  extract_lets _ s1 _ s2 s3 _ _ s4 s5
  have h1 : s.KeepsCounters s1 := of_frame State.setCq_frame
  exact ite (ite refl ((((h1.trans of_eq).frame State.setFld_frame).trans logEv).frame State.chime_frame))
    (ite refl ((((of_frame State.setSq_frame).frame State.setFld_frame).trans logEv).frame State.chime_frame))

theorem taskGo {f v : Nat} : s.KeepsCounters (s.taskGo f v) := by
  unfold State.taskGo
  extract_lets s1 _ s2 _ s3
  have h2 : s.KeepsCounters s2 := by
    unfold s2
    refine frame ?_ State.freeParty_frame
    exact fold (fun _ _ => abandonCmd) _
  exact ite refl (ite (ite (of_frame State.bump_frame)
    (((of_frame State.setReg_frame).frame State.setSq_frame).frame State.publish_frame))
    (ite (ite refl (ite refl (((h2.frame State.setSq_frame).frame State.setReg_frame).frame State.chime_frame)))
    refl))

/-! ### Units that are retired or give way (R20 to R25) -/

theorem tellRetired {t n : Nat} : s.KeepsCounters (s.tellRetired t n) :=
  (logEv.frame State.chimeOwner_frame).frame State.kltTrigger_frame

theorem yieldUnit {t n : Nat} : s.KeepsCounters (s.yieldUnit t n) := ite ((of_eq).frame State.bump_frame) refl

/-! ### Resolution, data transfer and sequencing (R116 to R122, R134 to R136) -/

theorem resolveOpen {c : Cmd} : s.KeepsCounters (s.resolveOpen c) := by
  unfold State.resolveOpen
  split
  · exact endCmd
  · exact (of_frame State.bindStream_frame).frame State.placeResolved_frame

theorem resolveHandle {c : Cmd} : s.KeepsCounters (s.resolveHandle c) := by
  unfold State.resolveHandle
  extract_lets
  split
  · exact endCmd
  · extract_lets
    split
    · exact endCmd.frame State.setStream_frame
    · split
      · exact endCmd
      · split
        · exact endCmd
        · exact of_frame State.resolveOn_frame

theorem resolveCmd {c : Cmd} : s.KeepsCounters (s.resolveCmd c) :=
  ite resolveOpen (ite resolveHandle (of_frame State.placeResolved_frame))

theorem resolveId {id : Nat} : s.KeepsCounters (s.resolveId id) := by
  unfold State.resolveId
  split
  · extract_lets s1
    refine ite ?_ refl
    split
    · exact resolveCmd.frame State.grantCmd_frame
    · exact resolveCmd
  · exact refl

theorem bringIn {id : Nat} : s.KeepsCounters (s.bringIn id) := resolveId.frame State.grantId_frame

theorem startTransfer {id : Nat} {pieces : List BufPiece} {recs : List RecItem} :
    s.KeepsCounters (s.startTransfer id pieces recs) := by
  unfold State.startTransfer
  split
  · exact refl
  · split
    · exact refl
    · refine ite refl ?_
      split
      · exact endCmd
      · extract_lets _ _ _ s1 _ s2
        have h1 : s.KeepsCounters s1 := of_frame State.setStream_frame
        exact ite refl ((h1.trans of_eq).frame State.setCmd_frame)

theorem sequence {id : Nat} {data : Bytes} : s.KeepsCounters (s.sequence id data) := by
  unfold State.sequence
  split
  · exact refl
  · extract_lets _ _ s1 s2
    have h2 : s.KeepsCounters s2 := (ite (of_frame State.truncate_frame) refl).frame State.appendRecs_frame
    exact ite refl (ite endCmd (ite endCmd ((h2.trans finishCmd).frame State.recredit_frame)))

/-! ### Commands of a stream that write nothing (R118, R123 to R139) -/

theorem endRead {c : Cmd} {k : Nat} {ps : List BufPiece} {d : Delivery} {e : Nat × Nat} :
    s.KeepsCounters (s.endRead c k ps d e) := by
  unfold State.endRead
  extract_lets s1 s2 s3
  have h1 : s.KeepsCounters s1 := of_frame State.scatter_frame
  have h3 : s.KeepsCounters s3 := ((ite h1 (h1.frame State.dmaFor_frame)).frame State.movePos_frame).frame
    State.endTape_frame
  exact h3.trans finishCmd

theorem readRecords {c : Cmd} {k : Nat} {x : Stream} {listed : List BufPiece} :
    s.KeepsCounters (s.readRecords c k x listed) := by
  unfold State.readRecords
  split
  · exact finishCmd
  · extract_lets
    refine ite finishCmd ?_
    refine ite finishCmd ?_
    split
    · exact endRead
    · split
      · exact endRead
      · exact of_frame State.awaitTape_frame

theorem discardRest {c : Cmd} {k : Nat} {x : Stream} : s.KeepsCounters (s.discardRest c k x) := by
  unfold State.discardRest
  refine ite finishCmd ?_
  split
  · split
    · exact (of_frame State.endTape_frame).trans finishCmd
    · exact of_frame State.awaitTape_frame
  · split
    · exact (of_frame State.endTape_frame).trans finishCmd
    · exact ((of_frame State.movePos_frame).frame State.endTape_frame).trans finishCmd

theorem locate {c : Cmd} {k : Nat} {x : Stream} : s.KeepsCounters (s.locate c k x) := by
  unfold State.locate
  extract_lets r done
  have hdone : s.KeepsCounters (done s) := ((of_frame State.movePos_frame).frame State.endTape_frame).trans finishCmd
  refine ite finishCmd (ite hdone ?_)
  split
  · exact (of_frame State.endTape_frame).trans finishCmd
  · exact of_frame State.awaitTape_frame

theorem space {c : Cmd} {k : Nat} {x : Stream} : s.KeepsCounters (s.space c k x) := by
  unfold State.space
  extract_lets tell
  have htell (u : State) (r : Nat) : u.KeepsCounters (tell u r) := ite refl (of_frame State.dmaFor_frame)
  refine ite ((htell _ _).trans finishCmd) ?_
  split
  · exact (((of_frame State.movePos_frame).trans (htell _ _)).frame State.endTape_frame).trans finishCmd
  · exact (of_frame State.endTape_frame).trans finishCmd
  · refine ite refl ?_
    split
    · exact (of_frame State.endTape_frame).trans finishCmd
    · exact of_frame State.awaitTape_frame

theorem finishReporting {c : Cmd} {k result : Nat} : s.KeepsCounters (s.finishReporting c k result) := by
  unfold State.finishReporting
  split
  · exact (of_frame State.modStream_frame).trans finishCmd
  · exact finishCmd

theorem sync {c : Cmd} {k : Nat} {x : Stream} : s.KeepsCounters (s.sync c k x) := ite finishReporting refl

theorem close {c : Cmd} {k : Nat} {x : Stream} : s.KeepsCounters (s.close c k x) := by
  unfold State.close
  extract_lets done
  have hdone : s.KeepsCounters (done s) := finishReporting.frame State.modStream_frame
  exact ite hdone (ite hdone (ite refl (ite of_eq (ite hdone refl))))

theorem query {c : Cmd} {k : Nat} {x : Stream} {listed : List BufPiece} : s.KeepsCounters (s.query c k x listed) := by
  unfold State.query
  split
  · exact finishCmd
  · extract_lets s1
    exact ((of_frame State.scatter_frame).frame State.tellCredit_frame).trans finishReporting

theorem extentQuery {c : Cmd} {k : Nat} {listed : List BufPiece} : s.KeepsCounters (s.extentQuery c k listed) := by
  unfold State.extentQuery
  split
  · exact finishCmd
  · exact (of_frame State.scatter_frame).trans finishCmd

/-! ### Buffers and buffer memory (R184 to R206) -/

theorem badFree {who : Party} {p i : Nat} {tag : Option Party} : s.KeepsCounters (s.badFree who p i tag) :=
  (of_frame State.bump_frame).trans logEv

theorem freeBuffer {who : Party} {p i : Nat} : s.KeepsCounters (s.freeBuffer who p i) := by
  unfold State.freeBuffer
  split
  · exact badFree
  · exact ite ((of_eq).frame State.rewatch_frame) badFree

theorem transferBuffer {who dest : Party} {p i : Nat} : s.KeepsCounters (s.transferBuffer who dest p i) := by
  unfold State.transferBuffer
  split
  · exact badFree
  · exact ite of_eq badFree

theorem writePoolSplit {src : Port} {v : Nat} : s.KeepsCounters (s.writePoolSplit src v) := by
  unfold State.writePoolSplit
  exact ite refl (ite refl (ite rwlReject (ite refl
    (((of_frame State.setReg_frame).frame State.recredit_frame).frame State.rewatch_frame))))

theorem schedulePair {n unit : Nat} : s.KeepsCounters (s.schedulePair n unit) :=
  ite refl ((of_frame State.setPair_frame).trans tellRetired)

theorem ueOutcome {c : UeContent} : s.KeepsCounters (s.ueOutcome c) := by
  unfold State.ueOutcome
  split
  · split
    · exact ite deferError refl
    · exact refl
  · exact failRing
  · exact of_eq
  · exact of_eq
  · exact of_eq
  · exact refl
  · exact refl

theorem mcUe {n addr : Nat} {c : UeContent} : s.KeepsCounters (s.mcUe n addr c) := by
  unfold State.mcUe
  extract_lets _ _ s1 s2 s3 _ s4
  have h2 : s.KeepsCounters s2 := ((of_frame State.bump_frame).frame State.setReg_frame).frame State.setReg_frame
  have h4 : s.KeepsCounters s4 := ite ((h2.trans logEv).trans schedulePair)
    ((h2.trans logEv).frame State.setPair_frame)
  exact h4.trans ueOutcome

/-! ### Key slots, KEKs, epochs and random numbers (R231 to R256) -/

theorem keyLow {f n : Nat} : s.KeepsCounters (s.keyLow f n) := ite (setSlot.frame State.chime_frame) refl

theorem takeInvocation {f n : Nat} : s.KeepsCounters (s.takeInvocation f n) :=
  ite ((setSlot.trans keyLow).frame State.chime_frame) (setSlot.trans keyLow)

theorem zeroSlot {g : Nat} : s.KeepsCounters (s.zeroSlot g) := setSlot

theorem eraseSlot {g : Nat} : s.KeepsCounters (s.eraseSlot g) := by
  unfold State.eraseSlot
  extract_lets _ s1
  refine zeroSlot.trans (fold (fun u _ => ?_) _)
  split
  · exact deferError
  · exact refl

theorem setKek {f : Nat} {k : Kek} : s.KeepsCounters (s.setKek f k) := of_eq

theorem eraseKek {f : Nat} : s.KeepsCounters (s.eraseKek f) := setKek

/-- What a reservation of epochs leaves: room for one epoch, and a bound that is no lower. -/
theorem reserveEpochs_room (s : State) : s.reserveEpochs.ce.epoch < s.reserveEpochs.ce.epochBound ∧
    s.reserveEpochs.ce.epoch = s.ce.epoch ∧
    (s.ce.epoch ≤ s.ce.epochBound → s.ce.epochBound ≤ s.reserveEpochs.ce.epochBound) := by
  unfold State.reserveEpochs
  split
  case isTrue h => exact ⟨h, rfl, fun _ => le_rfl⟩
  case isFalse h =>
    exact ⟨Nat.lt_add_of_pos_right (by decide), rfl, fun _ => (Nat.le_of_not_lt h).trans (Nat.le_add_right ..)⟩

theorem reserveEpochs : s.KeepsCounters s.reserveEpochs := by
  intro ⟨hseq, hepoch, hfused⟩
  obtain ⟨hroom, hsame, hbound⟩ := reserveEpochs_room s
  have hms : s.reserveEpochs.ms = s.ms := State.reserveEpochs_frame .ms rfl
  unfold State.countersBound State.countersRise
  rw [hms, hsame]
  exact ⟨⟨hseq, hsame ▸ hroom.le, hfused⟩, le_rfl, le_rfl, le_rfl, hbound hepoch, le_rfl⟩

/-- An install's epoch is taken below the bound. -/
theorem switchKey {g : Nat} {raw : Bool} {key : Bytes} {label limit : Nat} :
    s.KeepsCounters (s.switchKey g raw key label limit) := by
  unfold State.switchKey
  extract_lets old k s1 e ce s2
  refine ite setSlot (KeepsCounters.trans (fun h => ?_) (setSlot (s := s2)))
  obtain ⟨⟨hseq, -, hfused⟩, hseq', hseqBound, hepoch, hepochBound, hfused'⟩ := reserveEpochs h
  obtain ⟨hroom, -⟩ := reserveEpochs_room s
  exact ⟨⟨hseq, hroom, hfused⟩, hseq', hseqBound, hepoch.trans (Nat.le_succ _), hepochBound, hfused'⟩

theorem installKey {c : Cmd} {b : Bytes} : s.KeepsCounters (s.installKey c b) := by
  unfold State.installKey
  extract_lets
  refine ite refl ?_
  split
  · exact finishCmd
  · refine ite finishCmd ?_
    refine ite finishCmd ?_
    split
    · exact (of_frame State.bump_frame).trans finishCmd
    · extract_lets s1
      exact ite ((of_frame State.bump_frame).trans finishCmd)
        (ite finishCmd ((switchKey.trans finishCmd).trans keyLow))

theorem installKek {c : Cmd} {b : Bytes} : s.KeepsCounters (s.installKek c b) := by
  unfold State.installKek
  refine ite finishCmd ?_
  split
  · exact (of_frame State.bump_frame).trans finishCmd
  · exact ite finishCmd (setKek.trans finishCmd)

theorem keyErase {c : Cmd} : s.KeepsCounters (s.keyErase c) :=
  ite (eraseKek.trans finishCmd) (eraseSlot.trans finishCmd)

theorem keyQuery {c : Cmd} {ps : List BufPiece} : s.KeepsCounters (s.keyQuery c ps) := by
  unfold State.keyQuery
  exact ite ((of_frame State.scatter_frame).trans finishCmd) ((of_frame State.scatter_frame).trans finishCmd)

theorem onCore {i n : Nat} : s.KeepsCounters (s.onCore i n) := by
  unfold State.onCore
  extract_lets _ s1 _ s2
  have h1 : s.KeepsCounters s1 := yieldUnit
  exact (h1.trans of_eq).frame State.bumpBy_frame

theorem coreWork {n : Nat} : s.KeepsCounters (s.coreWork n) := by
  unfold State.coreWork
  extract_lets
  split
  · exact onCore
  · split
    · exact onCore
    · exact refl

theorem cipherRaw {c : Cmd} {data : Bytes} : s.KeepsCounters (s.cipherRaw c data) := by
  unfold State.cipherRaw
  extract_lets _ _ _ _ s1
  refine ite finishCmd ?_
  refine ite finishCmd ?_
  refine ite finishCmd ?_
  refine ite finishCmd ?_
  split
  · exact finishCmd
  · exact ((takeInvocation.trans coreWork).frame State.dmaFor_frame).trans finishCmd

theorem drbg {n : Nat} : s.KeepsCounters (s.drbg n).2 := of_eq

theorem aeadIv {c : Cmd} {k : KeySlot} : s.KeepsCounters (s.aeadIv c k).2 := by
  unfold State.aeadIv
  split
  · exact drbg
  · exact refl

theorem aeadSeal {c : Cmd} {k : KeySlot} {b aad : Bytes} : s.KeepsCounters (s.aeadSeal c k b aad) := by
  unfold State.aeadSeal
  refine ite finishCmd ?_
  split
  · exact finishCmd
  · extract_lets v s1 ct area s2 s3
    have h1 : s.KeepsCounters s1 := (aeadIv.trans takeInvocation).trans coreWork
    have h2 : s.KeepsCounters s2 := ite h1 (h1.frame State.dmaFor_frame)
    exact ((h2.frame State.dmaFor_frame).frame State.dmaFor_frame).trans finishCmd

theorem aeadOpen {c : Cmd} {k : KeySlot} {b aad area : Bytes} : s.KeepsCounters (s.aeadOpen c k b aad area) := by
  unfold State.aeadOpen
  split
  · exact finishCmd
  · extract_lets _ s1 s2
    exact ite ((ite coreWork (coreWork.frame State.dmaFor_frame)).trans finishCmd)
      ((coreWork.frame State.bump_frame).trans finishCmd)

theorem cipherAead {c : Cmd} {data aad area : Bytes} : s.KeepsCounters (s.cipherAead c data aad area) :=
  ite finishCmd (ite finishCmd (ite finishCmd (ite finishCmd (ite aeadOpen aeadSeal))))

theorem cutOff : s.KeepsCounters s.cutOff := fold (fun _ _ => deferError) _

theorem retestEnd {pass : Bool} : s.KeepsCounters (s.retestEnd pass) :=
  ite refl (ite of_eq (ite of_eq ((((of_eq).frame State.bump_frame).trans logEv).trans cutOff)))

/-! ### Live calibration (R163, R164) -/

theorem stepTo {n st : Nat} : s.KeepsCounters (s.stepTo n st) :=
  ite refl (((of_frame State.bump_frame).trans logEv).frame State.modCal_frame)

theorem actOnStep {n : Nat} {r : CalRec} : s.KeepsCounters (s.actOnStep n r) := by
  unfold State.actOnStep
  exact ite refl (ite (ite (((of_frame State.modCal_frame).frame State.bump_frame).trans logEv) stepTo)
    (ite stepTo refl))

theorem formRecord {d : Dataset} {slot : Nat} : s.KeepsCounters (s.formRecord d slot) := by
  unfold State.formRecord
  extract_lets _ _ s1 _ _ _ _ s2 s3
  exact ite refl (ite of_eq ((((of_eq).frame State.setCal_frame).trans actOnStep).frame State.actOnTrim_frame))

theorem applyForce : s.KeepsCounters s.applyForce := by
  unfold State.applyForce
  refine fold (fun u _ => ?_) _
  exact ite refl (ite stepTo (ite stepTo refl))

/-! ### Placement and the compressors (R153, R158, R221 to R226) -/

theorem parcelCompress {eng k budget : Nat} {finish : Bool} :
    s.KeepsCounters (s.parcelCompress eng k budget finish) := by
  unfold State.parcelCompress
  extract_lets s1
  refine ite refl ?_
  split
  · exact ite (yieldUnit.frame State.compressParcel_frame) yieldUnit
  · split
    · exact yieldUnit
    · exact ite yieldUnit (ite (yieldUnit.frame State.compressParcel_frame) (yieldUnit.frame State.setEngineCx_frame))

theorem waitSave {eng k budget : Nat} : s.KeepsCounters (s.waitSave eng k budget) := by
  unfold State.waitSave
  split
  · exact refl
  · extract_lets _ s1 _ s2
    exact ite refl ((((of_eq).frame State.setEngineCx_frame).frame State.bump_frame).trans parcelCompress)

/-! ### Forming datasets (R157 to R171, R271 to R285) -/

theorem outOfTape : s.KeepsCounters s.outOfTape := by
  unfold State.outOfTape
  refine fold (fun u _ => ?_) _
  split
  · exact deferError
  · exact refl

theorem refuseForm : s.KeepsCounters s.refuseForm := (of_eq).trans cutOff

theorem formNext : s.KeepsCounters s.formNext := by
  unfold State.formNext
  extract_lets s1 s2 s3
  have h1 : s.KeepsCounters s1 := (of_frame State.substitute_frame).trans applyForce
  have h2 : s.KeepsCounters s2 := h1.frame State.markOpen_frame
  have h3 : s.KeepsCounters s3 := (h2.frame State.releaseAllDue_frame).frame State.releaseLow_frame
  refine ite (ite outOfTape refl) ?_
  refine ite (h1.trans refuseForm) ?_
  split
  · exact h2
  · refine ite (h2.frame State.formVoid_frame) ?_
    split
    · exact h2.frame State.formRestart_frame
    · split
      · exact h2.frame State.formParity_frame
      · exact ite h2 (ite (h2.frame State.formMember_frame) (ite h3 (h3.frame State.formMember_frame)))

/-! ### Writing, sealing and verify (R249, R250, R289 to R336) -/

theorem settleRetiring {g : Nat} : s.KeepsCounters (s.settleRetiring g) := ite setSlot refl

theorem encFaults {ds n : Nat} : s.KeepsCounters (s.encFaults ds n) := by
  induction n generalizing s with
  | zero => exact refl
  | succ n ih => exact ((of_frame State.bump_frame).trans logEv).trans ih

theorem tierEncode {ds t faults : Nat} : s.KeepsCounters (s.tierEncode ds t faults) := by
  unfold State.tierEncode
  split
  · exact refl
  · extract_lets s1 _ s2 s3 s4
    have h2 : s.KeepsCounters s2 := (of_frame State.startEncode_frame).trans (fold (fun _ _ => of_frame
      State.emitFrame_frame) _)
    have h4 : s.KeepsCounters s4 := ((h2.frame State.bump_frame).trans encFaults).frame State.modDataset_frame
    exact ite refl ((ite (h4.frame State.encodeRest_frame) h4).frame State.rewatch_frame)

theorem abandon {d : Dataset} : s.KeepsCounters (s.abandon d) := by
  unfold State.abandon
  extract_lets _ _ s1 s2 _ _ _ s3 s4
  have h2 : s.KeepsCounters s2 := by
    unfold s2
    refine (of_frame State.modDataset_frame).trans (fold (fun u _ => ?_) _)
    split
    · exact deferError
    · exact refl
  exact ((((h2.trans of_eq).frame State.setReg_frame).frame State.setReg_frame).frame State.bump_frame).trans logEv

theorem restart {ds : Nat} : s.KeepsCounters (s.restart ds) := by
  unfold State.restart
  split
  · exact refl
  · extract_lets s1 s2 _ s3
    have h1 : s.KeepsCounters s1 := of_frame State.dropRewrites_frame
    have h2 : s.KeepsCounters s2 := h1.frame State.modDataset_frame
    exact ite refl (ite (h1.trans abandon) ((h2.trans of_eq).trans logEv))

theorem needRewrite {d : Dataset} {t i slot : Nat} : s.KeepsCounters (s.needRewrite d t i slot) := by
  unfold State.needRewrite
  extract_lets s1
  have h1 : s.KeepsCounters s1 := of_frame State.modDataset_frame
  exact ite refl (ite (h1.trans restart) ((h1.trans of_eq).frame State.noteRewrites_frame))

theorem loseFrame {p : FramePos} : s.KeepsCounters (s.loseFrame p) := by
  unfold State.loseFrame
  split
  · exact refl
  · extract_lets s1
    have h1 : s.KeepsCounters s1 := of_frame State.modDataset_frame
    split
    · exact h1.trans needRewrite
    · split
      · exact h1.frame State.modRewrite_frame
      · exact h1
    · exact h1

theorem cutFrame {p : FramePos} : s.KeepsCounters (s.cutFrame p) := by
  unfold State.cutFrame
  extract_lets s1
  have h1 : s.KeepsCounters s1 := (of_frame State.bump_frame).trans loseFrame
  refine ite ?_ refl
  split
  · exact h1.trans formRecord
  · exact h1

theorem resumeGates {cut : List FramePos} : s.KeepsCounters (s.resumeGates cut) := by
  unfold State.resumeGates
  extract_lets s1
  have h1 : s.KeepsCounters s1 := fold (fun _ _ => cutFrame) _
  exact ite refl (h1.trans of_eq)

theorem gradeRewrite {ds : Nat} {r : FrameRef} {slot : Nat} {good : Bool} :
    s.KeepsCounters (s.gradeRewrite ds r slot good) := by
  unfold State.gradeRewrite
  split
  · exact refl
  · extract_lets _ s1 s2
    have h2 : s.KeepsCounters s2 := of_frame State.blame_frame
    exact ite refl (ite ((of_eq).frame State.frameGood_frame)
      (ite (h2.trans restart) (h2.frame State.modRewrite_frame)))

theorem gradeRole {d : Dataset} {p : FramePos} {good : Bool} : s.KeepsCounters (s.gradeRole d p good) := by
  unfold State.gradeRole
  split
  · exact ite refl (ite (of_frame State.frameGood_frame) ((of_frame State.blame_frame).trans needRewrite))
  · split
    · exact gradeRewrite
    · exact refl
  · exact refl

theorem gradeFrame {p : FramePos} : s.KeepsCounters (s.gradeFrame p) := by
  unfold State.gradeFrame
  split
  · extract_lets _ s1 _ _ s2 s3 s4
    have h3 : s.KeepsCounters s3 :=
      ((((of_eq).frame State.markWritten_frame).frame State.countGrade_frame).frame State.modDataset_frame).frame
      State.addTally_frame
    have h4 : s.KeepsCounters s4 := by
      unfold s4
      split
      · exact h3.trans formRecord
      · exact h3
    exact ite of_eq ((h4.trans gradeRole).frame State.rewatch_frame)
  · exact refl

/-! ### The read path (R227, R229, R251, R343 to R352) -/

theorem decodeFrame {f : FrameRead} : s.KeepsCounters (s.decodeFrame f) := by
  unfold State.decodeFrame
  extract_lets s1 s2 good s3
  have h1 : s.KeepsCounters s1 := by
    unfold s1
    split
    · exact yieldUnit
    · exact refl
  have h3 : s.KeepsCounters s3 :=
    ((h1.frame State.adapt_frame).frame State.countChannel_frame).frame State.countFrame_frame
  exact ite refl (h3.frame State.holdFrame_frame)

theorem openParcel {c : Cmd} {t : TapeRead} {ds index : Nat} {b : Bytes} :
    s.KeepsCounters (s.openParcel c t ds index b) := by
  unfold State.openParcel
  extract_lets _ _ _ s1 s2 s3
  have h3 : s.KeepsCounters s3 := coreWork
  split
  · exact (((of_frame State.bump_frame).trans logEv).frame State.chime_frame).frame State.failRec_frame
  · exact ite (h3.trans of_eq) ((h3.frame State.bump_frame).frame State.failRec_frame)

theorem parcelOpen {id ds index : Nat} : s.KeepsCounters (s.parcelOpen id ds index) := by
  unfold State.parcelOpen
  split
  · refine ite refl ?_
    split
    · exact refl
    · exact ite openParcel refl
  · exact refl

theorem guardTrip {unit ds : Nat} {t : Trip} : s.KeepsCounters (s.guardTrip unit ds t) :=
  ((of_frame State.setReg_frame).frame State.bump_frame).trans logEv

theorem parcelDecompress {unit ds index upto : Nat} : s.KeepsCounters (s.parcelDecompress unit ds index upto) := by
  unfold State.parcelDecompress
  split
  · exact refl
  · extract_lets s1 _ _ _ _ _ _ s2 s3 s4
    have h3 : s.KeepsCounters s3 := (yieldUnit.frame State.countEngine_frame).frame State.takeRuns_frame
    have h4 : s.KeepsCounters s4 := by
      unfold s4
      refine ite h3 ?_
      split
      · exact (h3.trans guardTrip).frame State.failRec_frame
      · exact ite (h3.frame State.keepCarry_frame) h3
    exact ite refl (ite h4 (h4.trans of_eq))

theorem selectTarget : s.KeepsCounters s.selectTarget := ite ((of_eq).frame State.rewatch_frame) (ite refl of_eq)

/-! ### Trips (R405 to R408) -/

theorem trip {cause engine : Nat} : s.KeepsCounters (s.trip cause engine) := by
  unfold State.trip
  extract_lets s1 s2 s3
  have h3 : s.KeepsCounters s3 := (ite (logEv.frame State.setReg_frame) logEv).frame State.raiseTrigger_frame
  exact ite logEv (h3.trans of_eq)

theorem readersTrip : s.KeepsCounters s.readersTrip := ite trip refl

theorem tripSafe : s.KeepsCounters s.tripSafe := ite ((of_eq).trans cutOff) refl

theorem wfaultPersist : s.KeepsCounters s.wfaultPersist := ite ((((of_eq).trans trip).trans logEv).trans cutOff) refl

/-! ### Loop engines and the change of wrap (R393 to R410) -/

theorem rough {e old new_ : Nat} : s.KeepsCounters (s.rough e old new_) := (of_frame State.bump_frame).trans logEv

theorem runSample {e : Nat} {meas ext vmot : Int} : s.KeepsCounters (s.runSample e meas ext vmot) := by
  unfold State.runSample
  extract_lets _ _ s1 s2 _ s3 _ s4
  have h1 : s.KeepsCounters s1 := of_frame State.setEngine_frame
  have h2 : s.KeepsCounters s2 := ite (h1.trans rough) h1
  have h3 : s.KeepsCounters s3 := ite (h2.trans of_eq) h2
  exact ite refl (ite ((of_frame State.setEngine_frame).frame State.capture_frame)
    (((ite (h3.trans of_eq) h3).frame State.tickInject_frame).frame State.capture_frame))

theorem loopSample {e : Nat} {meas ext vmot : Int} {late : Bool} :
    s.KeepsCounters (s.loopSample e meas ext vmot late) := by
  unfold State.loopSample
  refine ite refl (ite (of_frame State.overrun_frame) ?_)
  split
  · extract_lets r
    have hr : s.KeepsCounters r.2 := of_frame State.latSample_frame
    split
    · exact hr.trans runSample
    · exact hr
  · exact (of_frame State.spdSample_frame).trans runSample
  · exact runSample

theorem wrapChange {w : Nat} {bands : List Nat} : s.KeepsCounters (s.wrapChange w bands) := by
  unfold State.wrapChange
  extract_lets _ s1 _ _ _ s2
  have h1 : s.KeepsCounters s1 := ite (of_frame State.endWindow_frame) refl
  refine ite refl ?_
  split
  · exact refl
  · exact trip
  · exact (h1.trans of_eq).frame State.planMode_frame

theorem writeRate {src : Port} {v : Nat} : s.KeepsCounters (s.writeRate src v) :=
  ite refl (ite rwlReject (ite logEv (of_frame State.setReg_frame)))

theorem writeCoef {src : Port} {v : Nat} : s.KeepsCounters (s.writeCoef src v) :=
  ite refl (ite rwlReject (ite of_eq (ite refl (ite logEv of_eq))))

theorem writeSource {e v : Nat} : s.KeepsCounters (s.writeSource e v) :=
  ite refl (ite rwlReject (of_frame State.setReg_frame))

theorem closeLoop {src : Port} {v : Nat} : s.KeepsCounters (s.closeLoop src v) :=
  ite refl (ite writeSource (writeSource.frame State.setEngine_frame))

theorem openLoop {src : Port} {v : Nat} : s.KeepsCounters (s.openLoop src v) :=
  ite refl (ite writeSource (ite ((of_frame State.setEngine_frame).trans writeSource) logEv))

/-! ### DF and what hangs on its datasets, empty -/

theorem emptyDf : s.KeepsCounters s.emptyDf := of_eq

/-! ### MOUNT, UNMOUNT, FORMAT and SANITIZE (R114, R115, R144, R418 to R429) -/

theorem mounted {c : Cmd} {ps : List BufPiece} {detail : Nat} : s.KeepsCounters (s.mounted c ps detail) :=
  (ite (of_frame State.scatter_frame) refl).trans finishCmd

theorem mountFails {c : Cmd} {step status detail : Nat} : s.KeepsCounters (s.mountFails c step status detail) :=
  ((of_eq).frame State.chimeAll_frame).trans finishCmd

theorem closeLeft : s.KeepsCounters s.closeLeft := fold (fun _ _ => logDeferred) _

theorem mountFormatted {c : Cmd} {ps : List BufPiece} {m : MediaRead} {lab : Bytes} {d : DatumRead} :
    s.KeepsCounters (s.mountFormatted c ps m lab d) := by
  unfold State.mountFormatted
  split
  case h_1 => exact mountFails
  case h_2 t ht => exact ((of_frame (State.takeUp_frame ht)).trans of_eq).trans mounted

theorem mountClass {c : Cmd} {ps : List BufPiece} {m : MediaRead} : s.KeepsCounters (s.mountClass c ps m) := by
  unfold State.mountClass
  refine ite mountFails ?_
  split
  · exact mountFormatted
  · exact ite mountFails ((of_eq).trans mounted)

theorem mountSteps {c : Cmd} {ps : List BufPiece} {m : MediaRead} : s.KeepsCounters (s.mountSteps c ps m) := by
  unfold State.mountSteps
  extract_lets _ s1 _ s2 s3 _ s4
  have h1 : s.KeepsCounters s1 := ((closeLeft.frame State.emptyPe_frame).trans emptyDf).frame
    State.mountCalibration_frame
  have h3 : s.KeepsCounters s3 := ite (((h1.trans of_eq).frame State.bump_frame).trans logEv) (h1.trans of_eq)
  have h4 : s.KeepsCounters s4 := ite h3 (h3.frame State.bump_frame)
  split
  · extract_lets s5
    exact (h3.frame State.resumeSession_frame).trans finishCmd
  · exact ite (h3.trans mountFails) (ite (h4.trans mountFails) ((h4.frame State.threadIn_frame).trans mountClass))

theorem mount {c : Cmd} {m : MediaRead} {ps : List BufPiece} : s.KeepsCounters (s.mount c m ps) :=
  ite finishCmd (ite finishCmd (ite mounted (ite
    (((of_frame State.unthread_frame).frame State.chimeAll_frame).trans finishCmd) mountSteps)))

theorem writeRoot {ok : Bool} : s.KeepsCounters (s.writeRoot ok) := by
  unfold State.writeRoot
  extract_lets _ _ _ _ s1 _ s2 _ _ s3
  have h1 : s.KeepsCounters s1 := of_frame State.emit_frame
  have h2 : s.KeepsCounters s2 := ite (h1.trans of_eq) logEv
  exact (h2.trans of_eq).frame State.writeSummary_frame

theorem dismount {unload : Bool} : s.KeepsCounters (s.dismount unload) := by
  unfold State.dismount
  extract_lets s1 _ s2
  have h1 : s.KeepsCounters s1 := (closeLeft.frame State.emptyPe_frame).trans emptyDf
  have h2 : s.KeepsCounters s2 := h1.trans of_eq
  exact ite (h2.trans of_eq) h2

theorem endMount {ok unload : Bool} : s.KeepsCounters (s.endMount ok unload).1 := by
  unfold State.endMount
  extract_lets ct s1
  have h1 : s.KeepsCounters s1 := (of_eq).frame State.prepareUnmount_frame
  exact ite_fst dismount (ite_fst (((h1.frame State.writeHints_frame).trans writeRoot).trans dismount) h1)

theorem unmount {c : Cmd} {ok : Bool} : s.KeepsCounters (s.unmount c ok) :=
  ite finishCmd (ite finishCmd (ite finishCmd (ite (endMount.trans finishCmd) endMount)))

theorem leaveForSession : s.KeepsCounters s.leaveForSession := by
  unfold State.leaveForSession
  extract_lets s1
  have h1 : s.KeepsCounters s1 := (of_frame State.emptyPe_frame).trans emptyDf
  exact h1.trans of_eq

theorem format {c : Cmd} {label : Bytes} {m : MediaRead} : s.KeepsCounters (s.format c label m) := by
  unfold State.format
  split
  · exact finishCmd
  · split
    · exact finishCmd
    · exact leaveForSession.frame State.startSession_frame

theorem overwrite {c : Cmd} {m : MediaRead} : s.KeepsCounters (s.overwrite c m) := by
  unfold State.overwrite
  split
  · exact finishCmd
  · split
    · exact finishCmd
    · exact leaveForSession.frame State.startSession_frame

theorem wipeKeys {f : Nat} : s.KeepsCounters (s.wipeKeys f) := by
  unfold State.wipeKeys
  extract_lets
  refine trans ?_ eraseKek
  exact fold (fun _ _ => eraseSlot) _

theorem crypto {c : Cmd} {names : Bytes} {m : MediaRead} : s.KeepsCounters (s.crypto c names m) := by
  unfold State.crypto
  extract_lets _ s1
  refine ite finishCmd ?_
  split
  · exact finishCmd
  · refine ite finishCmd ?_
    refine ite finishCmd ?_
    split
    · exact finishCmd
    · refine frame ?_ State.startSession_frame
      exact fold (fun _ _ => wipeKeys) _

theorem cryptoDone {x : Session} : s.KeepsCounters (s.cryptoDone x) := by
  unfold State.cryptoDone
  extract_lets _ _ _ _ s1 s2
  have h2 : s.KeepsCounters s2 := (of_frame State.emit_frame).trans (fold (fun _ _ => of_frame State.emit_frame) _)
  split
  · exact refl
  · extract_lets s3 s4
    have h4 : s.KeepsCounters s4 := (((h2.trans of_eq).frame State.advanceFrontier_frame).trans writeRoot).trans
      writeRoot
    exact h4.trans of_eq

theorem sessionEnd {ok : Bool} {phase done elapsed : Nat} : s.KeepsCounters (s.sessionEnd ok phase done elapsed) := by
  unfold State.sessionEnd
  split
  · exact refl
  · extract_lets _ s1 s2 _ s3 _ s4 _ s5
    have h1 : s.KeepsCounters s1 := ite (ite cryptoDone (of_frame State.formatDone_frame)) refl
    have h2 : s.KeepsCounters s2 := h1.frame State.writeProgress_frame
    have h3 : s.KeepsCounters s3 := h1.frame State.writeProgress_frame
    have h4 : s.KeepsCounters s4 := ite (h2.trans of_eq) (h3.trans of_eq)
    have h5 : s.KeepsCounters s5 := by
      unfold s5
      split
      · exact h4.trans finishCmd
      · exact h4
    exact ite refl (h5.frame State.tellSession_frame)

theorem cartridgeLeft : s.KeepsCounters s.cartridgeLeft := (((of_eq).trans trip).trans logEv).trans cutOff

theorem senseChange {pins : Nat} : s.KeepsCounters (s.senseChange pins) := by
  unfold State.senseChange
  extract_lets _ _ s1 _ s2 s3
  have h2 : s.KeepsCounters s2 := ((of_eq).trans wake).frame State.chimeAll_frame
  have h3 : s.KeepsCounters s3 := ite (h2.trans logEv) h2
  exact ite of_eq (ite (h3.trans cartridgeLeft) h3)

/-! ### Images, their update, and the anti-rollback fuses (R453 to R463) -/

theorem updateOpen {c : Cmd} : s.KeepsCounters (s.updateOpen c) := by
  unfold State.updateOpen
  extract_lets s1 _ s2
  have h1 : s.KeepsCounters s1 := of_frame State.countErases_frame
  exact ite finishCmd (ite finishCmd ((h1.trans of_eq).trans finishCmd))

theorem touchUpdate {v : Option Image} : s.KeepsCounters (s.touchUpdate v) := of_eq

theorem updateBlock {c : Cmd} {data : Bytes} : s.KeepsCounters (s.updateBlock c data) := by
  unfold State.updateBlock
  extract_lets _ _ s1 _ s2
  have h1 : s.KeepsCounters s1 := touchUpdate
  exact ite finishCmd (ite (touchUpdate.trans finishCmd) ((h1.trans of_eq).trans finishCmd))

theorem updateVerify {c : Cmd} : s.KeepsCounters (s.updateVerify c) := by
  unfold State.updateVerify
  refine ite finishCmd ?_
  split
  · exact touchUpdate.trans finishCmd
  · exact touchUpdate.trans finishCmd

theorem compact : s.KeepsCounters s.compact := by
  unfold State.compact
  extract_lets _ s1
  have h1 : s.KeepsCounters s1 := of_frame State.countErases_frame
  exact ite refl (h1.trans of_eq)

theorem switchTables {i : Image} : s.KeepsCounters (s.switchTables i) := of_eq

theorem writePointer {slot : Nat} {trial : Bool} {starts mark : Nat} :
    s.KeepsCounters (s.writePointer slot trial starts mark) := of_eq

theorem setSlotImage {slot : Nat} {i : Option Image} : s.KeepsCounters (s.setSlotImage slot i) := ite of_eq of_eq

theorem activate {i : Image} : s.KeepsCounters (s.activate i) := by
  unfold State.activate
  extract_lets _ _ s1 _ s2
  have h1 : s.KeepsCounters s1 := ((of_frame State.countErases_frame).trans setSlotImage).frame State.convert_frame
  exact (((h1.trans of_eq).trans writePointer).trans switchTables).frame State.kltTrigger_frame

theorem updateActivate {c : Cmd} {holdup : Bool} : s.KeepsCounters (s.updateActivate c holdup) := by
  unfold State.updateActivate
  refine ite finishCmd ?_
  refine ite (touchUpdate.trans finishCmd) ?_
  split
  · exact touchUpdate.trans finishCmd
  · extract_lets s1
    split
    · exact touchUpdate.trans finishCmd
    · exact ((touchUpdate.trans activate).trans finishCmd).frame State.chimeOwner_frame

/-- Fuses are blown up to the floor of the image, and there are 64. -/
theorem blowFuses : s.KeepsCounters s.blowFuses := by
  intro ⟨hseq, hepoch, hfused⟩
  exact ⟨⟨hseq, hepoch, min_le_left ..⟩, le_rfl, le_rfl, le_rfl, le_rfl, le_min hfused (le_max_left ..)⟩

theorem updateConfirm {c : Cmd} : s.KeepsCounters (s.updateConfirm c) := by
  unfold State.updateConfirm
  extract_lets _ s1 _ s2
  have h1 : s.KeepsCounters s1 := (writePointer.frame State.kltTrigger_frame).trans blowFuses
  exact ite (touchUpdate.trans finishCmd) (((h1.trans of_eq).trans finishCmd).frame State.chimeOwner_frame)

theorem rollBack : s.KeepsCounters s.rollBack := by
  unfold State.rollBack
  extract_lets _ _ _ s1 s2
  have h2 : s.KeepsCounters s2 := (of_eq).trans writePointer
  split
  · exact h2.trans of_eq
  · exact h2

theorem updateRevert {c : Cmd} {holdup : Bool} : s.KeepsCounters (s.updateRevert c holdup) := by
  unfold State.updateRevert
  refine ite ?_ (ite (((of_frame State.draw_frame).trans abandonUpdate).trans finishCmd) finishCmd)
  refine ite finishCmd ?_
  split
  · exact finishCmd
  · extract_lets s1 s2 _ s3
    have h2 : s.KeepsCounters s2 := by
      unfold s2
      split
      · exact rollBack.trans switchTables
      · exact rollBack
    exact (((h2.trans of_eq).frame State.kltTrigger_frame).trans finishCmd).frame State.chimeOwner_frame

/-! ### Retirement and return of units (R20 to R25, R481 to R486) -/

theorem rewriteSlot {slot : Nat} : s.KeepsCounters (s.rewriteSlot slot) := by
  unfold State.rewriteSlot
  extract_lets
  refine fold (fun u _ => ?_) _
  exact fold (fun _ _ => ite refl loseFrame) _

theorem dropUnit {t n : Nat} : s.KeepsCounters (s.dropUnit t n) := by
  unfold State.dropUnit
  split
  · exact ((of_eq).trans yieldUnit).trans rewriteSlot
  · exact of_eq
  · exact of_frame State.dropEngine_frame
  · exact of_frame State.dropEngine_frame
  · exact of_eq
  · exact (of_eq).trans readersTrip
  · exact refl

theorem newlyBelow {t : Nat} {was : Bool} : s.KeepsCounters (s.newlyBelow t was) := ite cutOff refl

theorem retireUnit {t n : Nat} : s.KeepsCounters (s.retireUnit t n) := by
  unfold State.retireUnit
  extract_lets _ _ s1
  exact ite schedulePair (ite refl ((((ite of_eq refl).trans dropUnit).trans tellRetired).trans newlyBelow))

theorem restoreUnit {t n : Nat} : s.KeepsCounters (s.restoreUnit t n) := by
  unfold State.restoreUnit
  split
  · exact of_eq
  · exact of_eq
  · exact of_eq
  · exact of_eq
  · exact of_eq
  · exact of_frame State.setPair_frame
  · exact of_eq
  · exact refl

theorem returnUnit {t n : Nat} : s.KeepsCounters (s.returnUnit t n) :=
  (restoreUnit.trans logEv).frame State.kltTrigger_frame

theorem dropItem {x : DbeItem} : s.KeepsCounters (s.dropItem x) := by
  unfold State.dropItem
  split
  · exact of_frame State.holdFrame_frame
  · exact of_eq
  · exact refl

/-! ### Resets and the start that follows (R442 to R451) -/

theorem detachStreams {f : Fn} : s.KeepsCounters (s.detachStreams f) := by
  unfold State.detachStreams
  extract_lets
  refine fold (fun u _ => ?_) _
  extract_lets s1 s2
  have h2 : u.KeepsCounters s2 := logDeferred.frame State.modStream_frame
  exact h2.trans of_eq

theorem retireKeys {f : Fn} : s.KeepsCounters (s.retireKeys f) := by
  unfold State.retireKeys
  extract_lets _ s1
  refine (ite setKek refl).trans (fold (fun u _ => ?_) _)
  exact ite refl (setSlot.trans settleRetiring)

theorem stopFn {f : Fn} : s.KeepsCounters (s.stopFn f) := by
  unfold State.stopFn
  extract_lets _ s1 s2 s3 s4 _ s5
  have h2 : s.KeepsCounters s2 := by
    unfold s2
    refine trans ?_ retireKeys
    refine trans ?_ detachStreams
    refine frame ?_ State.orphanCmds_frame
    exact fold (fun _ _ => abandonCmd) _
  have h4 : s.KeepsCounters s4 := (h2.frame State.dropRings_frame).frame State.clearRegs_frame
  exact ite ((h4.trans of_eq).trans abandonUpdate) (h4.trans of_eq)

theorem flr {f : Fn} : s.KeepsCounters (s.flr f) := by
  unfold State.flr
  extract_lets _ _ s1
  refine ite refl ?_
  refine ite ?_ (stopFn.frame State.kltTrigger_frame)
  refine frame ?_ State.kltTrigger_frame
  refine frame ?_ State.setVfs_frame
  exact fold (fun _ _ => stopFn) _

theorem vfCount {p n : Nat} : s.KeepsCounters (s.vfCount p n) := by
  unfold State.vfCount
  extract_lets _ _ s1
  refine ite refl ?_
  refine frame ?_ State.kltTrigger_frame
  refine frame ?_ State.setVfs_frame
  exact fold (fun _ _ => stopFn) _

theorem perst {p : Nat} : s.KeepsCounters (s.perst p) := by
  unfold State.perst
  extract_lets _ s1 _ s2 s3
  have h3 : s.KeepsCounters s3 := by
    unfold s3
    refine frame ?_ State.clearRegs_frame
    refine frame ?_ State.setVfs_frame
    exact (of_eq).trans (fold (fun _ _ => stopFn) _)
  exact ite refl (ite of_eq (h3.frame State.kltTrigger_frame))

theorem perstEnd {p : Nat} : s.KeepsCounters (s.perstEnd p) := by
  unfold State.perstEnd
  extract_lets _ s1
  have h1 : s.KeepsCounters s1 := of_eq
  exact ite refl (ite h1 ((h1.trans of_eq).trans wake))

/-- The epoch that a reset leaves: a loss of power goes to the bound (R243). -/
theorem resetCe_epoch {por : Bool} (h : s.ce.epoch ≤ s.ce.epochBound) :
    s.ce.epoch ≤ (s.resetCe por).epoch ∧ (s.resetCe por).epoch ≤ s.ce.epochBound := by
  cases por with
  | false => exact ⟨le_rfl, h⟩
  | true => exact ⟨h, le_rfl⟩

theorem hardReset {por keepScan : Bool} : s.KeepsCounters (s.hardReset por keepScan) := by
  unfold State.hardReset
  extract_lets s1
  have h1 : s.KeepsCounters s1 := ((of_frame State.emptyPe_frame).trans emptyDf).frame State.clearRegs_frame
  refine h1.trans fun ⟨hseq, hepoch, hfused⟩ => ?_
  obtain ⟨hrise, hbound⟩ := resetCe_epoch (por := por) hepoch
  exact ⟨⟨hseq, hbound, hfused⟩, le_rfl, le_rfl, hrise, le_rfl, le_rfl⟩

theorem stuck : s.KeepsCounters s.stuck := by
  unfold State.stuck
  extract_lets s1
  have h1 : s.KeepsCounters s1 := logEv
  exact h1.trans of_eq

theorem rollBackAtStart {reason : Nat} : s.KeepsCounters (s.rollBackAtStart reason) := by
  unfold State.rollBackAtStart
  extract_lets s1
  have h1 : s.KeepsCounters s1 := rollBack.trans logEv
  exact h1.trans of_eq

theorem chooseImage {por : Bool} (h : s.chooseImage por = some t) : s.KeepsCounters t := by
  unfold State.chooseImage at h
  extract_lets p u q v m w at h
  have hu : s.KeepsCounters u :=
    ite (ite rollBackAtStart (ite rollBackAtStart (ite writePointer refl))) refl
  have hv : s.KeepsCounters v := ite (hu.trans writePointer) hu
  have hw : s.KeepsCounters w := hv.trans of_eq
  split at h
  case isTrue =>
    obtain rfl := Option.some.inj h
    exact ite hw (hw.trans blowFuses)
  case isFalse => cases h

theorem recordRun {run : Nat} {t : TestRead} : s.KeepsCounters (s.recordRun run t) :=
  (of_eq).trans (fold (fun _ _ => retireUnit) _)

theorem repairTenants : s.KeepsCounters s.repairTenants := by
  refine fold_fst (p := (s, [])) (fun q f => ?_) _
  exact ite_fst writeN refl

theorem startUp {por : Bool} : s.KeepsCounters (s.startUp por) := by
  unfold State.startUp
  extract_lets s1 _ _ s2 s3 s4 _ s5 s6 s7 _ _ s8
  have h1 : s.KeepsCounters s1 := (of_frame State.draw_frame).frame State.interleave_frame
  have h3 : s.KeepsCounters s3 := ite (h1.trans of_eq) (((h1.trans of_eq).frame State.bump_frame).trans logEv)
  have h4 : s.KeepsCounters s4 := ite (h3.trans logEv) h3
  have h7 : s.KeepsCounters s7 := ((ite ((h4.trans of_eq).trans logEv)
    (h4.trans of_eq)).trans repairTenants).frame State.startLinks_frame
  have h8 : s.KeepsCounters s8 := h7.trans of_eq
  refine ite h4 ?_
  split
  · exact ite ((h8.trans of_eq).frame State.chimeOwner_frame) h8
  · exact h8

/-- The log starts anew at the bound (R495). -/
theorem replayLog : s.KeepsCounters s.replayLog :=
  fun ⟨hseq, hepoch, hfused⟩ => ⟨⟨le_rfl, hepoch, hfused⟩, hseq, le_rfl, le_rfl, le_rfl, le_rfl⟩

theorem readClean : s.KeepsCounters s.readClean := by
  unfold State.readClean
  extract_lets s1
  have h1 : s.KeepsCounters s1 := ite refl (of_frame State.setFld_frame)
  exact h1.trans of_eq

theorem start {por : Bool} {mem : TestRead} : s.KeepsCounters (s.start por mem) := by
  unfold State.start
  extract_lets s1 dirty s2 s3 s4
  have h1 : s.KeepsCounters s1 := ite replayLog refl
  have h2 : s.KeepsCounters s2 := h1.trans readClean
  have h3 : s.KeepsCounters s3 := ite (h2.trans logEv) h2
  have h4 : s.KeepsCounters s4 := ite ((h3.trans recordRun).frame State.setFld_frame) h3
  refine ite (h1.trans stuck) ?_
  split
  case h_1 => exact h4.trans stuck
  case h_2 v hv => exact (h4.trans (chooseImage hv)).trans startUp

theorem deviceReset {bit : Nat} : s.KeepsCounters (s.deviceReset bit) :=
  (hardReset.frame State.setFld_frame).trans start

theorem settleDevrst : s.KeepsCounters s.settleDevrst := ite deviceReset refl

theorem writeSbOwner {v : Nat} : s.KeepsCounters (s.writeSbOwner v) := by
  unfold State.writeSbOwner
  extract_lets _ s1
  have h1 : s.KeepsCounters s1 := of_frame State.setReg_frame
  exact ite refl (ite rwlReject (ite rwlReject ((h1.trans of_eq).trans settleOwner)))

/-! ### Reading registers (R40, R44 to R47) -/

theorem clearOnRead {r : RegName} {inst sel : Nat} : s.KeepsCounters (s.clearOnRead r inst sel) := by
  unfold State.clearOnRead
  split
  · exact of_eq
  · exact of_eq
  · extract_lets s1
    have h1 : s.KeepsCounters s1 := of_frame State.draw_frame
    exact h1.trans of_eq
  · exact of_frame State.setReg_frame

theorem readReg {src : Port} {r : RegName} {inst sel mask : Nat} :
    s.KeepsCounters (s.readReg src r inst sel mask).2 := by
  unfold State.readReg
  split
  · exact of_eq
  · extract_lets k
    split
    · exact of_eq
    · exact refl
  · extract_lets v s1
    have h1 : s.KeepsCounters s1 := ite (of_frame State.draw_frame) refl
    split
    · exact h1.trans clearOnRead
    · exact h1

theorem readWord {src : Port} {b : Blk} {inst off mask : Nat} :
    s.KeepsCounters (s.readWord src b inst off mask).2 := by
  unfold State.readWord
  split
  · exact refl
  · exact refl
  · split
    · exact refl
    · exact refl
    · split
      · exact readReg
      · exact refl

theorem readWords {src : Port} {b : Blk} {inst off width w n : Nat} :
    s.KeepsCounters (s.readWords src b inst off width w n).2 := by
  induction n generalizing s w with
  | zero => exact refl
  | succ n ih => exact readWord.trans ih

theorem hostRead {src : Port} {b : Blk} {inst off width : Nat} : s.KeepsCounters (s.hostRead src b inst off width) := by
  unfold State.hostRead
  exact ite refl (ite (of_frame State.emit_frame) (readWords.frame State.emit_frame))

/-! ### Self-test, loop-backs, log pages and the end of service (R138, R143 to R145, R449) -/

theorem getLog {c : Cmd} {ps : List BufPiece} : s.KeepsCounters (s.getLog c ps) :=
  ((ite (of_frame State.draw_frame) refl).frame State.scatter_frame).trans finishCmd

theorem testUnits {t : Nat} {n : Option Nat} {r : TestRead} : s.KeepsCounters (s.testUnits t n r).1 := recordRun

theorem selfTest {c : Cmd} {r : TestRead} : s.KeepsCounters (s.selfTest c r) :=
  ite finishCmd (testUnits.trans finishCmd)

theorem unitReturn {c : Cmd} {r : TestRead} : s.KeepsCounters (s.unitReturn c r) :=
  ite finishCmd (ite (testUnits.trans finishCmd) ((testUnits.trans returnUnit).trans finishCmd))

theorem unitBurn {c : Cmd} {good : Bool} {burned : Nat} : s.KeepsCounters (s.unitBurn c good burned) :=
  ite finishCmd (ite ((of_eq).trans finishCmd) ((of_eq).trans finishCmd))

theorem sliceStart : s.KeepsCounters s.sliceStart := by
  unfold State.sliceStart
  refine ite refl ?_
  split
  · exact refl
  · exact ite of_eq refl

theorem sliceEnd {r : TestRead} : s.KeepsCounters (s.sliceEnd r) := by
  unfold State.sliceEnd
  split
  · exact refl
  · extract_lets _ s1 _ s2
    have h1 : s.KeepsCounters s1 := (of_eq).frame State.bump_frame
    exact (ite ((h1.frame State.bump_frame).trans logEv) h1).trans testUnits

theorem zeroise : s.KeepsCounters s.zeroise := of_eq

theorem closeAll : s.KeepsCounters s.closeAll :=
  fold (fun _ _ => ite (logDeferred.frame State.modStream_frame) refl) _

theorem shutdownPrep {c : Cmd} {rootOk : Bool} : s.KeepsCounters (s.shutdownPrep c rootOk) := by
  unfold State.shutdownPrep
  extract_lets s1 r s2
  have hr : s.KeepsCounters r.1 := closeAll.trans (ite_fst endMount refl)
  have h2 : s.KeepsCounters s2 :=
    (((hr.frame State.brakeTape_frame).trans finishCmd).frame State.leaveService_frame).trans saveSummary
  clear_value s2
  exact ite finishCmd (ite finishCmd (ite hr (h2.trans of_eq)))

theorem quiet : s.KeepsCounters s.quiet := by
  unfold State.quiet
  extract_lets s1
  have h1 : s.KeepsCounters s1 := of_frame State.brakeTape_frame
  exact h1.trans of_eq

theorem shutdownTest {zeroOk : Bool} {r : TestRead} : s.KeepsCounters (s.shutdownTest zeroOk r) := by
  unfold State.shutdownTest
  extract_lets s1 s2
  have h2 : s.KeepsCounters s2 := zeroise.trans recordRun
  exact ite refl (ite ((zeroise.trans logEv).trans quiet) ((h2.trans of_eq).trans quiet))

theorem unlock {src : Port} {v : Nat} : s.KeepsCounters (s.unlock src v) := by
  unfold State.unlock
  extract_lets s1
  have h1 : s.KeepsCounters s1 := ((of_frame State.leaveService_frame).trans zeroise).trans logEv
  exact ite refl (ite rwlReject (ite refl (h1.trans of_eq)))

theorem loopBegin {c : Cmd} : s.KeepsCounters (s.loopBegin c) := by
  unfold State.loopBegin
  extract_lets _ _ _ s1 s2
  have h2 : s.KeepsCounters s2 := (of_eq).frame State.setFld_frame
  exact ite (h2.trans of_eq) (ite ((of_eq).frame State.setSq_frame) of_eq)

theorem loopThread {c : Cmd} {threaded tension formatted : Bool} :
    s.KeepsCounters (s.loopThread c threaded tension formatted).1 := by
  unfold State.loopThread
  extract_lets hub s1
  have h1 : s.KeepsCounters s1 := (ite refl (of_frame State.bump_frame)).frame State.threadIn_frame
  exact ite_fst finishCmd (ite h1 (h1.frame State.emit_frame))

theorem loopRestore {c : Cmd} {l : LoopRun} : s.KeepsCounters (s.loopRestore c l) := by
  unfold State.loopRestore
  extract_lets _ s1 s2
  have h2 : s.KeepsCounters s2 := (of_eq).frame State.setFld_frame
  exact ite (ite (h2.trans of_eq) (h2.trans of_eq)) (ite ((of_eq).frame State.setSq_frame) of_eq)

theorem withBuffer {c : Cmd} {ps : List BufPiece} {run : State → List BufPiece → State}
    (h : ∀ u qs, State.KeepsCounters u (run u qs)) : s.KeepsCounters (s.withBuffer c ps run) := by
  unfold State.withBuffer
  split
  · exact finishCmd
  · exact h _ _

theorem loopEnd {id : Nat} {listed : List BufPiece} {r : LoopReport} : s.KeepsCounters (s.loopEnd id listed r) := by
  unfold State.loopEnd
  split
  · exact loopRestore.trans (withBuffer fun _ _ => (of_frame State.scatter_frame).trans finishCmd)
  · exact of_eq
  · exact refl

/-! ### Stepping down (R435, R439, R441) -/

theorem enterState {n : Nat} : s.KeepsCounters (s.enterState n) := by
  unfold State.enterState
  extract_lets s1 _ s2
  have h1 : s.KeepsCounters s1 := (of_frame State.countResidency_frame).frame State.setFld_frame
  have h2 : s.KeepsCounters s2 := h1.trans of_eq
  exact ite (h2.trans of_eq) h2

theorem tryEnter : s.KeepsCounters s.tryEnter := ite enterState refl

theorem idleExpire {n : Nat} : s.KeepsCounters (s.idleExpire n) := ite enterState refl

theorem writePwrReq {v : Nat} : s.KeepsCounters (s.writePwrReq v) := by
  unfold State.writePwrReq
  extract_lets s1
  have h1 : s.KeepsCounters s1 := (of_frame State.setReg_frame).trans tryEnter
  exact ite (h1.trans wake) h1

/-! ### Writing registers (R45 to R51) -/

theorem store {r : RegName} {inst sel v : Nat} : s.KeepsCounters (s.store r inst sel v) :=
  ite refl (ite writeN (of_frame State.setReg_frame))

theorem settled {r : RegName} {inst sel : Nat} : s.KeepsCounters (s.settled r inst sel) := by
  unfold State.settled
  split
  · exact (of_frame State.recredit_frame).frame State.rewatch_frame
  · exact (of_frame State.recredit_frame).frame State.rewatch_frame
  · exact of_frame State.rewatch_frame
  · exact of_frame State.signal_frame
  · exact readersTrip
  · exact refl

theorem writeFields {r : RegName} {inst sel v : Nat} : s.KeepsCounters (s.writeFields r inst sel v) :=
  ite refl (ite ((ite refl (store.trans settled)).trans rwlReject) (ite refl (store.trans settled)))

theorem writePair {src : Port} {r lo hi : RegName} {inst sel v : Nat} :
    s.KeepsCounters (s.writePair src r lo hi inst sel v) := by
  unfold State.writePair
  extract_lets _ _ s1
  exact ite of_eq (ite of_eq (ite (((of_eq).frame State.setReg_frame).frame State.setReg_frame)
    ((of_eq).trans rwlReject)))

theorem writeTrim {inst sel v : Nat} : s.KeepsCounters (s.writeTrim inst sel v) :=
  ite refl (ite rwlReject (ite (of_frame State.modCal_frame) (of_frame State.modCal_frame)))

theorem writeTask {r : RegName} {f idx v : Nat} : s.KeepsCounters (s.writeTask r f idx v) :=
  ite (of_frame State.bump_frame) writeFields

theorem writeLoops {r : RegName} {inst sel v : Nat} : s.KeepsCounters (s.writeLoops r inst sel v) :=
  ((ite refl (of_frame State.setReg_frame)).frame State.keepLoops_frame).trans writeFields

theorem writeReg {src : Port} {r : RegName} {inst idx v : Nat} : s.KeepsCounters (s.writeReg src r inst idx v) := by
  unfold State.writeReg
  extract_lets
  split
  · exact refl
  · exact writeSqCtrl
  · exact of_frame State.writeCqCtrl_frame
  · exact writeSqReset
  · exact of_frame State.pealCommit_frame
  · exact taskGo
  · exact writeTask
  · exact writeTask
  · exact writeTenant
  · exact writeQuota
  · exact writePoolSplit
  · exact of_frame State.writeStreamWin_frame
  · exact of_frame State.writeWmCfg_frame
  · exact of_frame State.writeFcwCfg_frame
  · exact of_frame State.writeCalCtrl_frame
  · exact ite closeLoop openLoop
  · exact writeRate
  · exact writeCoef
  · exact of_frame State.writeInject_frame
  · exact of_frame State.writeCapture_frame
  · exact ite trip refl
  · exact writePwrReq
  · exact ite deviceReset refl
  · exact ite writeSbOwner (ite refl rwlReject)
  · exact unlock
  · exact ite refl writeFields
  · split
    · exact writeAlloc
    · split
      · exact refl
      · refine ite writeTrim ?_
        refine ite writeLoops ?_
        split
        · exact ite refl writePair
        · exact ite refl writePair
        · exact writeFields

theorem writeWord {src : Port} {b : Blk} {inst off v : Nat} : s.KeepsCounters (s.writeWord src b inst off v) := by
  unfold State.writeWord
  refine ite refl ?_
  split
  · exact refl
  · exact ite (of_frame State.writeMask_frame) refl
  · split
    · exact writeReg
    · exact refl

theorem writeWords {src : Port} {b : Blk} {inst off value n : Nat} :
    s.KeepsCounters (s.writeWords src b inst off value n) := by
  induction n generalizing s off value with
  | zero => exact refl
  | succ n ih => exact writeWord.trans ih

theorem narrow {src : Port} {b : Blk} {inst off : Nat} : s.KeepsCounters (s.narrow src b inst off) :=
  ite (of_frame State.dropDoorbell_frame) ((of_frame State.bump_frame).trans logEv)

theorem writeAccess {src : Port} {b : Blk} {inst off width value : Nat} :
    s.KeepsCounters (s.writeAccess src b inst off width value) := ite refl
      (ite (of_frame State.bellWrite_frame) (ite narrow writeWords))

theorem runHeld {w : HeldWrite} : s.KeepsCounters (s.runHeld w) := by
  unfold State.runHeld
  split
  · exact ite writeAccess refl
  · exact ite (of_frame State.bellWrite_frame) refl

/-! ### Waking and leaving service, and the passing of time (R436 to R441, R449, R520) -/

theorem sleepDefaults : s.KeepsCounters s.sleepDefaults := by
  unfold State.sleepDefaults
  extract_lets s1
  have h1 : s.KeepsCounters s1 := (of_frame State.draw_frame).frame State.clearRegs_frame
  exact h1.trans of_eq

theorem awake : s.KeepsCounters s.awake := of_eq

theorem wakeUp : s.KeepsCounters s.wakeUp := by
  unfold State.wakeUp
  extract_lets _ s1 _ s2
  have h1 : s.KeepsCounters s1 := sleepDefaults.trans awake
  exact (h1.trans of_eq).trans (fold (fun _ _ => runHeld) _)

theorem powerWarn : s.KeepsCounters s.powerWarn := by
  unfold State.powerWarn
  extract_lets s1 s2 _ s3 s4 s5
  have h2 : s.KeepsCounters s2 := ite (wake.trans wakeUp) (ite wake (wake.trans awake))
  have h4 : s.KeepsCounters s4 := (((h2.trans of_eq).frame State.leaveService_frame).trans trip).trans logEv
  have h5 : s.KeepsCounters s5 := by
    unfold s5
    split
    · exact ite (h4.frame State.writeProgress_frame) h4
    · exact h4
  exact h5.trans saveSummary

theorem tick : s.KeepsCounters s.tick := ite refl ((of_eq).trans tryEnter)

/-! ### The ways in: a doorbell, a register write, a command of a ring, a command of a stream, a loop-back -/

theorem hostWrite {w : HeldWrite} {run : State → State} (h : ∀ u, State.KeepsCounters u (run u)) :
    s.KeepsCounters (s.hostWrite w run) := by
  unfold State.hostWrite
  exact ite refl (ite (h _) (ite (wake.trans of_eq) (wake.trans (h _))))

theorem regWrite {src : Port} {r : RegName} {inst : Nat} {v : Word} {run : State → Nat → State}
    (h : ∀ u n, State.KeepsCounters u (run u n)) : s.KeepsCounters (s.regWrite src r inst v run) :=
  hostWrite fun u => h u _

theorem onCommand {id op : Nat} {run : State → Cmd → State} (h : ∀ u c, State.KeepsCounters u (run u c)) :
    s.KeepsCounters (s.onCommand id op run) := by
  unfold State.onCommand
  extract_lets s1
  split
  · exact bringIn
  · exact ite (bringIn.trans (h _ _)) bringIn

theorem onStream {id op : Nat} {run : State → Cmd → Nat → Stream → State}
    (h : ∀ u c k x, State.KeepsCounters u (run u c k x)) : s.KeepsCounters (s.onStream id op run) := by
  unfold State.onStream
  extract_lets s1
  split
  · exact bringIn
  · refine ite ?_ bringIn
    split
    · exact bringIn
    · split
      · exact bringIn.trans (h _ _ _ _)
      · exact bringIn

theorem loopStart {id : Nat} {mine : Nat → Bool} {before : State → Cmd → State × Bool}
    (h : ∀ u c, State.KeepsCounters u (before u c).1) : s.KeepsCounters (s.loopStart id mine before) := by
  refine onCommand fun u c => ite refl ?_
  split
  · exact finishCmd
  · exact ite refl (ite ((h u c).trans loopBegin) (h u c))

/-! ### Commands that decide before they act -/

theorem next (h : s.KeepsCounters t) : KeepsCountersIn s (.next t) := by
  rintro _ ⟨⟩
  exact h

theorem fault {f : Fault} : KeepsCountersIn s (.fault f) := by
  rintro _ ⟨⟩

theorem openStream {id : Nat} : KeepsCountersIn s (execOpenStream id s) := by
  unfold execOpenStream
  extract_lets u
  split
  · split
    · exact next (((bringIn.frame State.modStream_frame).frame State.tellCredit_frame).trans finishCmd)
    · exact next bringIn
  · exact next bringIn

theorem benchmarkTrain {rs : List BenchRead} : KeepsCountersIn s (execBenchmarkTrain rs s) := by
  unfold execBenchmarkTrain
  split
  · exact next (ite (of_frame State.benchmark_frame) refl)
  · exact next refl

theorem marginProbe {place : FramePos} {pass : Bool} : KeepsCountersIn s (execMarginProbe place pass s) := by
  unfold execMarginProbe
  split
  · exact next refl
  · extract_lets _ _ s1 s2
    have h1 : s.KeepsCounters s1 := of_frame State.bump_frame
    have h2 : s.KeepsCounters s2 := ite h1 (h1.frame State.bump_frame)
    split
    · exact next (h2.frame State.setTally_frame)
    · exact next refl

theorem dmaCompletionError {id detail : Nat} : KeepsCountersIn s (execDmaCompletionError id detail s) := by
  unfold execDmaCompletionError
  split
  · exact next (ite endCmd refl)
  · exact next refl

theorem cqModerationTimer {fn cq : Nat} : KeepsCountersIn s (execCqModerationTimer fn cq s) := by
  unfold execCqModerationTimer
  extract_lets q
  split
  · exact next ((of_frame State.setCq_frame).frame State.signal_frame)
  · exact next refl

/-- The count of parcels under the key of all zeros, and a slot's invocations, are counts of their own (R249, R242). -/
theorem parcelSeal {ds i : Nat} : KeepsCountersIn s (s.sealParcel ds i) := by
  unfold State.sealParcel
  split
  · exact next refl
  split
  · exact next refl
  split
  · split
    · exact fault
    · extract_lets _ _ s1
      have h1 : s.KeepsCounters s1 := of_eq
      exact next ((h1.trans coreWork).frame State.setParcel_frame)
  · extract_lets f g k s1
    have h1 : s.KeepsCounters s1 := coreWork.frame State.setParcel_frame
    split
    · exact next deferError
    split
    · exact next deferError
    · exact next ((h1.trans takeInvocation).trans settleRetiring)

theorem pwrWarn {holdup : Bool} : KeepsCountersIn s (execPwrWarnN holdup s) := by
  unfold execPwrWarnN
  extract_lets s1
  have h1 : s.KeepsCounters s1 := powerWarn
  clear_value s1
  exact next (ite refl (h1.trans of_eq))

/-! ### Every command, and every step -/

/-- Each command is the work of operations that keep the counters. -/
theorem of_exec (c : Instr) (s : State) : KeepsCountersIn s (exec c s) := by
  cases c with
  | sqDoorbell | cqDoorbell => exact next (hostWrite fun _ => of_frame State.bellWrite_frame)
  | qePealCommit => exact next (regWrite fun _ _ => of_frame State.pealCommit_frame)
  | entryFetch => exact next (of_frame State.fetch_frame)
  | entryResolve => exact next resolveId
  | lockGrant => exact next (of_frame State.grantId_frame)
  | dataTransferStart => exact next startTransfer
  | dataSequenced => exact next ((sequence.frame State.releaseAllDue_frame).frame State.nearEnd_frame)
  | completionPost => exact next ((of_frame State.postOne_frame).trans settleDevrst)
  | cqModerationTimer => exact cqModerationTimer
  | chimePost => exact next ((of_frame State.chimePost_frame).trans settleDevrst)
  | msixEnable =>
    exact next (ite ((of_frame State.modFctx_frame).frame State.signalAll_frame)
      (of_frame State.modFctx_frame))
  | qeSqReset => exact next (regWrite fun _ _ => writeSqReset)
  | resetDone => exact next (of_frame State.resetDone_frame)
  | sqEnable | sqDisable => exact next (regWrite fun _ _ => writeSqCtrl)
  | cqEnable | cqDisable => exact next (regWrite fun _ _ => of_frame State.writeCqCtrl_frame)
  | taskGoStart | taskGoAbort => exact next (regWrite fun _ _ => taskGo)
  | ringContextUe => exact next failRing
  | hiFnTenantWrite => exact next (regWrite fun _ _ => writeTenant)
  | hiVfQuotaWrite => exact next (regWrite fun _ _ => writeQuota)
  | hiFnAllocWrite => exact next (regWrite fun _ _ => writeAlloc)
  | msSbOwnerWrite => exact next (regWrite fun _ _ => writeSbOwner)
  | kltRebuild => exact next (of_frame State.kltEnd_frame)
  | registerWrite => exact next (hostWrite fun _ => writeAccess)
  | readClear | lowWordRead => exact next hostRead
  | perstNAssert => exact next perst
  | perstNDeassert => exact next perstEnd
  | flr => exact next (flr.trans settleDevrst)
  | vfCountChange => exact next vfCount
  | bufferAllocate => exact next ((of_frame State.allocate_frame).frame State.releaseAllDue_frame)
  | bufferWaitGrant => exact next ((of_frame State.waitGrant_frame).frame State.releaseAllDue_frame)
  | bufferFree => exact next freeBuffer
  | bufferTransfer => exact next transferBuffer
  | bmPoolSplitWrite => exact next (regWrite fun _ _ => writePoolSplit)
  | bmStreamWinWrite => exact next (regWrite fun _ _ => of_frame State.writeStreamWin_frame)
  | bmWmCfgWrite => exact next (regWrite fun _ _ => of_frame State.writeWmCfg_frame)
  | bmFcwCfgWrite => exact next (regWrite fun _ _ => of_frame State.writeFcwCfg_frame)
  | crossingDbe => exact next (logEv.trans dropItem)
  | mcUe => exact next mcUe
  | patrolScrub => exact next (ite refl ((of_frame State.bumpBy_frame).frame State.bumpBy_frame))
  | mcCorrLimit => exact next (ite schedulePair refl)
  | holdMaxExpiry => exact next (of_frame State.releaseStream_frame)
  | datasetForm => exact next formNext
  | backhitchResume => exact next (of_frame State.resumeBackhitch_frame)
  | parcelCompress => exact next parcelCompress
  | compressorWaitSave => exact next waitSave
  | contextRestore => exact next (of_frame State.contextRestore_frame)
  | parcelSeal => exact parcelSeal
  | tierEncode => exact next tierEncode
  | writeRunStart => exact next (of_frame State.startRun_frame)
  | writeRunEnd => exact next (of_frame State.endRun_frame)
  | frameDecode => exact next decodeFrame
  | frameGrade => exact next gradeFrame
  | marginProbe => exact marginProbe
  | preambleDecode => exact next (of_frame State.preamble_frame)
  | lossOfLock | timingLockReacquire => exact next (of_frame State.modChan_frame)
  | shockN | wfaultN => exact next (of_frame State.raiseTrigger_frame)
  | shockNDeassert | wfaultNDeassert => exact next (of_frame State.clearTrigger_frame)
  | accRead =>
    exact next (ite refl (ite (of_frame State.raiseTrigger_frame) (of_frame State.clearTrigger_frame)))
  | wfaultPersist => exact next wfaultPersist
  | gateResume => exact next resumeGates
  | benchmarkTrain => exact benchmarkTrain
  | wrapChange => exact next wrapChange
  | readTargetSelect => exact next selectTarget
  | readWaitExpiry => exact next (of_frame State.waitExpiry_frame)
  | locateLanding => exact next (of_frame State.land_frame)
  | tierDecode => exact next (of_frame State.decodeTier_frame)
  | c3Recover => exact next (of_frame State.c3Recover_frame)
  | parcelOpen => exact next parcelOpen
  | parcelDecompress => exact next parcelDecompress
  | c3GroupClose => exact next (of_frame State.groupClose_frame)
  | servoFrame => exact next (of_frame State.servoFrame_frame)
  | loopSample => exact next loopSample
  | overrunTrip | missingSampleTrip | vmotUndervoltage | hallCodeFault | overcurrent => exact next (ite trip refl)
  | loopModeSwitch => exact next (of_frame State.switchMode_frame)
  | tripTapeStopped => exact next (of_frame State.tripStopped_frame)
  | safeHoldExpiry => exact next tripSafe
  | reelBrakeEngage => exact next (of_frame State.reelBrake_frame)
  | smTransportSafeReq => exact next (regWrite fun _ _ => ite trip refl)
  | smLoopClose => exact next (regWrite fun _ _ => closeLoop)
  | smLoopOpen => exact next (regWrite fun _ _ => openLoop)
  | smLoopRateWrite => exact next (regWrite fun _ _ => writeRate)
  | smCoefDataWrite => exact next (regWrite fun _ _ => writeCoef)
  | smInjStart => exact next (regWrite fun _ _ => of_frame State.writeInject_frame)
  | injectionEnd => exact next (of_frame State.injectEnd_frame)
  | smCapArm => exact next (regWrite fun _ _ => of_frame State.writeCapture_frame)
  | captureFull => exact next (of_frame State.captureFull_frame)
  | senseChange => exact next senseChange
  | mediaSessionEnd => exact next sessionEnd
  | mount => exact next (onCommand fun _ _ => withBuffer fun _ _ => mount)
  | unmount => exact next (onCommand fun _ _ => unmount)
  | openStream => exact openStream
  | closeStream => exact next (onStream fun _ _ _ _ => close)
  | writeRecords | writePeg =>
    refine next (trans ?_ ((sequence.frame State.releaseAllDue_frame).frame State.nearEnd_frame))
    exact bringIn.trans startTransfer
  | readRecords => exact next (onStream fun _ _ _ _ => readRecords)
  | discardRemainder => exact next (onStream fun _ _ _ _ => discardRest)
  | locate => exact next (onStream fun _ _ _ _ => locate)
  | space => exact next (onStream fun _ _ _ _ => space)
  | sync => exact next (onStream fun _ _ _ _ => sync)
  | queryStream => exact next (onStream fun _ _ _ _ => query)
  | getFieldBookExtent => exact next (onStream fun _ _ _ _ => extentQuery)
  | getLog => exact next (onCommand fun _ _ => withBuffer fun _ _ => getLog)
  | keyInstall => exact next (onCommand fun _ _ => ite refl (withBuffer fun _ _ => installKey))
  | keyInstallKek => exact next (onCommand fun _ _ => ite (withBuffer fun _ _ => installKek) refl)
  | keyErase => exact next (onCommand fun _ _ => keyErase)
  | keyQuery => exact next (onCommand fun _ _ => ite refl (withBuffer fun _ _ => keyQuery))
  | keyQueryIdentity => exact next (onCommand fun _ _ => ite (withBuffer fun _ _ => keyQuery) refl)
  | cipherRaw => exact next (onCommand fun _ _ => ite refl (withBuffer fun _ _ => cipherRaw))
  | cipherAead => exact next (onCommand fun _ _ => ite refl (withBuffer fun _ _ => cipherAead))
  | format => exact next (onCommand fun _ _ => ite refl (withBuffer fun _ _ => format))
  | sanitizeOverwrite => exact next (onCommand fun _ _ => ite refl overwrite)
  | sanitizeCrypto => exact next (onCommand fun _ _ => ite refl (withBuffer fun _ _ => crypto))
  | selfTest => exact next (onCommand fun _ _ => selfTest)
  | shutdownPrep => exact next (onCommand fun _ _ => shutdownPrep)
  | unitCtrlRetire => exact next (onCommand fun _ _ => ite (retireUnit.trans finishCmd) refl)
  | unitCtrlReturn => exact next (onCommand fun _ _ => ite unitReturn refl)
  | unitCtrlBurn => exact next (onCommand fun _ _ => ite unitBurn refl)
  | devrst =>
    refine next (onCommand fun _ _ => trans ?_ settleDevrst)
    exact finishCmd.trans (ite of_eq (of_frame State.postRing_frame))
  | updateOpen => exact next (onCommand fun _ _ => updateOpen)
  | updateBlock => exact next (onCommand fun _ _ => withBuffer fun _ _ => updateBlock)
  | updateVerify => exact next (onCommand fun _ _ => updateVerify)
  | updateActivate => exact next (onCommand fun _ _ => updateActivate)
  | updateConfirm => exact next (onCommand fun _ _ => updateConfirm)
  | updateRevert => exact next (onCommand fun _ _ => updateRevert)
  | updateSessionTimeout => exact next abandonUpdate
  | loopTestHost | loopTestDescriptorEcho | loopTestLpddr5x | loopTestDecoder | loopTestServo | loopTestMotion |
    loopTestCartridgeSpi | loopTestNvFlash => exact next (loopStart fun _ _ => refl)
  | loopTestHeadTape => exact next (loopStart fun _ _ => loopThread)
  | loopTestDurationEnd => exact next loopEnd
  | sliceTestStart => exact next sliceStart
  | sliceTestEnd => exact next sliceEnd
  | trngHealthFail => exact next (ite refl of_eq)
  | trngRetestEnd => exact next retestEnd
  | drbgReseed => exact next (ite of_eq refl)
  | keyStoreUe => exact next (ite (eraseSlot.trans logEv) refl)
  | epochBatchReserve => exact next reserveEpochs
  | eventLogBlockReserve => exact next reserveLog
  | journalCompact => exact next compact
  | vcCalCtrlWrite => exact next (regWrite fun _ _ => of_frame State.writeCalCtrl_frame)
  | msDbgCtrlUnlock => exact next (regWrite fun _ _ => unlock)
  | smbBlockWrite =>
    refine next (ite refl (wake.trans (ite (of_frame State.emit_frame) ?_)))
    exact writeWord.frame State.emit_frame
  | smbBlockRead =>
    refine next (ite refl (wake.trans (ite (of_frame State.emit_frame) ?_)))
    exact readWord.frame State.emit_frame
  | alertResponse => exact next (ite ((of_eq).frame State.emit_frame) refl)
  | msSbDevrstWrite => exact next (regWrite fun _ _ => ite deviceReset refl)
  | powerOn => exact next (ite refl ((of_eq).trans start))
  | powerLoss =>
    have h : s.KeepsCounters (s.hardReset true) := hardReset
    exact next (ite of_eq (h.trans of_eq))
  | resetNAssert => exact next (ite refl (hardReset.frame State.setFld_frame))
  | resetNDeassert => exact next (ite refl ((of_eq).trans start))
  | pwrWarnN => exact pwrWarn
  | shutdownSelfTest => exact next shutdownTest
  | thermalLimit =>
    refine next (ite refl ((of_eq).trans (ite refl ?_)))
    exact (ite refl powerWarn).trans quiet
  | idleT1Expiry | idleT2Expiry | idleT3Expiry => exact next idleExpire
  | msPwrReqEnter | msPwrReqWake => exact next (regWrite fun _ _ => ite writePwrReq refl)
  | wake => exact next (ite wake refl)
  | a3ExitComplete => exact next (ite wakeUp refl)
  | msixVectorUnmask =>
    exact next (ite ((of_frame State.modFctx_frame).frame State.emit_frame) (of_frame State.modFctx_frame))
  | linkStateChange => exact next (of_frame State.linkChange_frame)
  | vddIoUp => exact next (ite of_eq refl)
  | exitLatencyEnd => exact next (ite awake refl)
  | dmaCompletionError => exact dmaCompletionError

end State.KeepsCounters

/-- Settles O6. An empty queue gives a tick of time, another one its front command; each keeps the counters. -/
theorem countersNeverComeTwice : Obligations.CountersNeverComeTwice := by
  intro s t h hstep
  cases hq : s.pending with
  | nil =>
    have ht : s.tick = t := by simpa [step, hq] using hstep
    exact ht ▸ State.KeepsCounters.tick h
  | cons c rest =>
    rw [step_of_pending_cons hq] at hstep
    have hpop : s.KeepsCounters { s with pending := rest } := .of_eq
    exact hpop.trans (.of_exec c _ t hstep) h

end Sys2Proof.Machine
end

section
/-! The information block of a preamble (R269): its value is that of a row of fields of given widths, and each field of
such a row is read back where it lies. The slot map is a row of 136 one-bit fields and the step vector one of three-bit
fields, so that reading a slot or a step is reading a field too. -/

namespace Sys2Proof.Machine

-- One theorem at a time: run ahead of the kernel, each would hold a thread and its stack.
set_option Elab.async false

/-! ### A number written in bits and read from them (R207) -/

theorem bitsLE_succ (n v : Nat) : bitsLE (n + 1) v = v.testBit 0 :: bitsLE n (v / 2) := by
  simp only [bitsLE, List.range_succ_eq_map, List.map_cons, List.map_map, Function.comp_def, Nat.succ_eq_add_one,
    Nat.testBit_add_one]

@[simp] theorem natOf_testBit_zero (v : Nat) : natOf (v.testBit 0) = v % 2 := by
  rcases Nat.mod_two_eq_zero_or_one v with h | h <;> simp [natOf, h]

theorem natOfLE_bitsLE (n v : Nat) : natOfLE (bitsLE n v) = v % 2 ^ n := by
  induction n generalizing v with
  | zero => rw [pow_zero, Nat.mod_one]; rfl
  | succ n ih => rw [bitsLE_succ, natOfLE, ih, natOf_testBit_zero, pow_succ', Nat.mod_mul]

theorem drop_bitsLE (k n v : Nat) : (bitsLE (k + n) v).drop k = bitsLE n (v / 2 ^ k) := by
  induction k generalizing v with
  | zero => rw [Nat.zero_add, pow_zero, Nat.div_one, List.drop_zero]
  | succ k ih => rw [Nat.add_right_comm, bitsLE_succ, List.drop_succ_cons, ih, Nat.div_div_eq_div_mul, ← pow_succ']

theorem natOfBE_bitsBE {n v : Nat} (h : v < 2 ^ n) : natOfBE (bitsBE n v) = v := by
  rw [natOfBE, bitsBE, List.reverse_reverse, natOfLE_bitsLE, Nat.mod_eq_of_lt h]

/-- The bits written first are the field at the top. -/
theorem natOfBE_take_bitsBE (k n v : Nat) : natOfBE ((bitsBE (k + n) v).take n) = v / 2 ^ k % 2 ^ n := by
  have hlen : (bitsLE (k + n) v).length - n = k := by simp [bitsLE]
  rw [natOfBE, bitsBE, List.take_reverse, List.reverse_reverse, hlen, drop_bitsLE, natOfLE_bitsLE]

/-! ### Rows of fields, each a width and a value, from the most significant down -/

/-- The bits that a row of fields takes. -/
def fieldsWidth : List (Nat × Nat) → Nat
  | [] => 0
  | f :: fs => f.1 + fieldsWidth fs

/-- The number that a row of fields makes. -/
def fieldsValue : List (Nat × Nat) → Nat
  | [] => 0
  | f :: fs => f.2 * 2 ^ fieldsWidth fs + fieldsValue fs

/-- Each value of a row lies within its width. -/
def FieldsFit (fs : List (Nat × Nat)) : Prop := ∀ f ∈ fs, f.2 < 2 ^ f.1

@[simp] theorem fieldsWidth_nil : fieldsWidth [] = 0 := rfl

@[simp] theorem fieldsWidth_cons (f : Nat × Nat) (fs : List (Nat × Nat)) :
    fieldsWidth (f :: fs) = f.1 + fieldsWidth fs := rfl

@[simp] theorem fieldsWidth_append (as bs : List (Nat × Nat)) :
    fieldsWidth (as ++ bs) = fieldsWidth as + fieldsWidth bs := by
  induction as with
  | nil => simp
  | cons a as ih => simp [ih, Nat.add_assoc]

/-- Values in fields of one width. -/
def fieldsOf (w : Nat) (vs : List Nat) : List (Nat × Nat) := vs.map fun v => (w, v)

theorem fieldsOf_cons (w v : Nat) (vs : List Nat) : fieldsOf w (v :: vs) = (w, v) :: fieldsOf w vs := rfl

@[simp] theorem fieldsWidth_fieldsOf (w : Nat) (vs : List Nat) : fieldsWidth (fieldsOf w vs) = vs.length * w := by
  induction vs with
  | nil => simp [fieldsOf]
  | cons v vs ih => simp [fieldsOf_cons, ih, Nat.add_mul, Nat.add_comm]

theorem drop_fieldsOf (w : Nat) {vs : List Nat} {k : Nat} (hk : k < vs.length) :
    (fieldsOf w vs).drop k = (w, vs[k]) :: fieldsOf w (vs.drop (k + 1)) := by
  rw [fieldsOf, ← List.map_drop, List.drop_eq_getElem_cons hk, List.map_cons, fieldsOf]

theorem fieldsValue_append (as bs : List (Nat × Nat)) :
    fieldsValue (as ++ bs) = fieldsValue as * 2 ^ fieldsWidth bs + fieldsValue bs := by
  induction as with
  | nil => simp [fieldsValue]
  | cons a as ih =>
    rw [List.cons_append, fieldsValue, ih, fieldsValue, fieldsWidth_append, pow_add]
    ring

theorem fieldsValue_lt {fs : List (Nat × Nat)} (h : FieldsFit fs) : fieldsValue fs < 2 ^ fieldsWidth fs := by
  induction fs with
  | nil => exact Nat.one_pos
  | cons f fs ih =>
    obtain ⟨hf, hfs⟩ := List.forall_mem_cons.mp h
    calc f.2 * 2 ^ fieldsWidth fs + fieldsValue fs
        < (f.2 + 1) * 2 ^ fieldsWidth fs := by rw [Nat.succ_mul]; exact Nat.add_lt_add_left (ih hfs) _
      _ ≤ 2 ^ f.1 * 2 ^ fieldsWidth fs := Nat.mul_le_mul_right _ hf
      _ = 2 ^ fieldsWidth (f :: fs) := by rw [fieldsWidth_cons, pow_add]

/-- A field is read back at its place, `lo` being the bits of the fields after it. -/
theorem bitsOf_fieldsValue {fs post : List (Nat × Nat)} {w x hi lo i : Nat} (h : FieldsFit fs)
    (hdrop : fs.drop i = (w, x) :: post) (hlo : fieldsWidth post = lo) (hhi : hi + 1 - lo = w) :
    bitsOf (fieldsValue fs) hi lo = x := by
  have hfit : FieldsFit ((w, x) :: post) := fun f hf => h f (List.mem_of_mem_drop (hdrop ▸ hf))
  have hpos : 0 < 2 ^ lo := by positivity
  obtain ⟨hx, hpost⟩ := List.forall_mem_cons.mp hfit
  have hrest : fieldsValue post / 2 ^ lo = 0 := Nat.div_eq_of_lt (hlo ▸ fieldsValue_lt hpost)
  have hsplit : fieldsValue fs = (fieldsValue (fs.take i) * 2 ^ w + x) * 2 ^ lo + fieldsValue post := by
    conv_lhs => rw [← List.take_append_drop i fs, hdrop, fieldsValue_append, fieldsWidth_cons, fieldsValue, hlo]
    ring
  rw [bitsOf, hhi, hsplit, Nat.mul_comm _ (2 ^ lo), Nat.mul_add_div hpos, hrest, Nat.add_zero, Nat.mul_add_mod',
    Nat.mod_eq_of_lt hx]

/-- A value in a row of fields of one width is read back at its place. -/
theorem bitsOf_fieldsOf {fs post : List (Nat × Nat)} {w hi lo i k : Nat} {vs : List Nat} (h : FieldsFit fs)
    (hdrop : fs.drop i = fieldsOf w vs ++ post) (hk : k < vs.length)
    (hlo : (vs.length - (k + 1)) * w + fieldsWidth post = lo) (hhi : hi + 1 - lo = w) :
    bitsOf (fieldsValue fs) hi lo = vs[k] := by
  have hlen : k ≤ (fieldsOf w vs).length := by rw [fieldsOf, List.length_map]; exact hk.le
  refine bitsOf_fieldsValue h (i := i + k) (post := fieldsOf w (vs.drop (k + 1)) ++ post) ?_ ?_ hhi
  · rw [← List.drop_drop, hdrop, List.drop_append_of_le_length hlen, drop_fieldsOf w hk, List.cons_append]
  · rw [fieldsWidth_append, fieldsWidth_fieldsOf, List.length_drop, hlo]

/-! ### The fields of the information block (R269) -/

/-- What R269 lets a preamble hold: each part within its width, the slots ascending, a step for each of them. -/
structure Geometry.FitsBlock (g : Geometry) (slot step frames : Nat) : Prop where
  num : g.num < 2 ^ 48
  kind : g.kind < 2 ^ 4
  restart : g.restart < 2 ^ 2
  wrap : g.wrap < 2 ^ 8
  chainage : g.chainage < 2 ^ 32
  tiers : g.tiers < 2 ^ 6
  leftover : g.leftover < 2 ^ 12
  slot : slot < 2 ^ 8
  step : step < 2 ^ 4
  frames : frames < 2 ^ 8
  active : g.slots.length ≤ 128
  slots : ∀ n ∈ g.slots, n < 136
  ascending : g.slots.Pairwise (· < ·)
  steps_length : g.steps.length = g.slots.length
  steps : ∀ x ∈ g.steps, x < 2 ^ 3

/-- The fields of [687:538]. -/
def Geometry.headFields (g : Geometry) (slot step frames : Nat) : List (Nat × Nat) :=
  [(8, 0xD7), (4, g.kind), (2, g.restart), (1, natOf (isEdge g.wrap)), (1, natOf (isReverse g.wrap)), (48, g.num),
    (8, g.wrap), (8, slot), (4, step), (8, frames), (6, g.tiers), (8, g.slots.length), (12, g.leftover),
    (32, g.chainage)]

/-- The slot map, [537:402]. -/
def Geometry.slotFields (g : Geometry) : List (Nat × Nat) :=
  fieldsOf 1 ((List.range 136).map fun n => natOf (g.slots.contains n))

/-- The step vector, from bit 401 down, and the zeros after it. -/
def Geometry.stepFields (g : Geometry) : List (Nat × Nat) := fieldsOf 3 g.steps ++ [(402 - g.steps.length * 3, 0)]

/-- All of the block. -/
def Geometry.infoFields (g : Geometry) (slot step frames : Nat) : List (Nat × Nat) :=
  g.headFields slot step frames ++ (g.slotFields ++ g.stepFields)

/-- The sum that makes the slot map, as one-bit fields. -/
theorem sum_two_pow_slots (p : Nat → Bool) {k m : Nat} (h : k + m ≤ 136) :
    (((List.range' k m).filter p).map fun n => 2 ^ (537 - n)).sum =
      fieldsValue (fieldsOf 1 ((List.range' k m).map fun n => natOf (p n))) * 2 ^ (538 - (k + m)) := by
  induction m generalizing k with
  | zero => simp [fieldsOf, fieldsValue]
  | succ m ih =>
    have hexp : m + (538 - (k + 1 + m)) = 537 - k := by omega
    have hrest := ih (k := k + 1) (by omega)
    rw [List.range'_succ, List.map_cons, fieldsOf_cons, fieldsValue, fieldsWidth_fieldsOf, List.length_map,
      List.length_range', Nat.mul_one, Nat.add_mul, Nat.mul_assoc, show k + (m + 1) = k + 1 + m by omega, ← pow_add, hexp,
      ← hrest, List.filter_cons]
    cases p k <;> simp [natOf]

/-- The sum that makes the step vector, as three-bit fields. -/
theorem sum_steps (l : List Nat) {k : Nat} (h : k + l.length ≤ 128) :
    ((l.zipIdx k).map fun x => x.1 * 2 ^ (399 - 3 * x.2)).sum =
      fieldsValue (fieldsOf 3 l) * 2 ^ (402 - (k + l.length) * 3) := by
  induction l generalizing k with
  | nil => simp [fieldsOf, fieldsValue]
  | cons x l ih =>
    rw [List.length_cons] at h ⊢
    have hexp : l.length * 3 + (402 - (k + 1 + l.length) * 3) = 399 - 3 * k := by omega
    rw [List.zipIdx_cons, List.map_cons, List.sum_cons, ih (by omega), fieldsOf_cons, fieldsValue, fieldsWidth_fieldsOf,
      Nat.add_mul (x * _), Nat.mul_assoc x, show k + (l.length + 1) = k + 1 + l.length by omega, ← pow_add, hexp]

theorem natOf_lt_two_pow_one (b : Bool) : natOf b < 2 ^ 1 := by cases b <;> decide

/-- Ascending slots are those that a search through all slots finds in the list. -/
theorem filter_range_contains {l : List Nat} {m : Nat} (hlt : ∀ n ∈ l, n < m) (hasc : l.Pairwise (· < ·)) :
    (List.range m).filter (fun n => l.contains n) = l :=
  (List.pairwise_lt_range.filter _).eq_of_mem_iff hasc fun n => by
    simpa using hlt n

namespace Geometry.FitsBlock

variable {g : Geometry} {slot step frames : Nat}

theorem fieldsFit (h : g.FitsBlock slot step frames) : FieldsFit (g.infoFields slot step frames) := by
  have hactive : g.slots.length < 2 ^ 8 := by have := h.active; omega
  have hhead : FieldsFit (g.headFields slot step frames) := by
    simp only [FieldsFit, headFields, List.forall_mem_cons]
    exact ⟨by decide, h.kind, h.restart, natOf_lt_two_pow_one _, natOf_lt_two_pow_one _, h.num, h.wrap, h.slot, h.step,
      h.frames, h.tiers, hactive, h.leftover, h.chainage, nofun⟩
  have hslots : FieldsFit g.slotFields :=
    List.forall_mem_map.mpr (List.forall_mem_map.mpr fun _ _ => natOf_lt_two_pow_one _)
  have hsteps : FieldsFit g.stepFields :=
    List.forall_mem_append.mpr ⟨List.forall_mem_map.mpr h.steps, List.forall_mem_singleton.mpr (by positivity)⟩
  exact List.forall_mem_append.mpr ⟨hhead, List.forall_mem_append.mpr ⟨hslots, hsteps⟩⟩

theorem steps_le (h : g.FitsBlock slot step frames) : g.steps.length ≤ 128 := h.steps_length.trans_le h.active

theorem width_stepFields (h : g.FitsBlock slot step frames) : fieldsWidth g.stepFields = 402 := by
  have := h.steps_le
  rw [stepFields, fieldsWidth_append, fieldsWidth_fieldsOf, fieldsWidth_cons, fieldsWidth_nil]
  omega

theorem width_maps (h : g.FitsBlock slot step frames) : fieldsWidth (g.slotFields ++ g.stepFields) = 538 := by
  rw [fieldsWidth_append, h.width_stepFields, slotFields, fieldsWidth_fieldsOf, List.length_map, List.length_range]

theorem width_infoFields (h : g.FitsBlock slot step frames) : fieldsWidth (g.infoFields slot step frames) = 688 := by
  simp [infoFields, headFields, h.width_maps]

/-- The model's sum is the value of the row of fields. -/
theorem infoValue_eq (h : g.FitsBlock slot step frames) :
    g.infoValue slot step frames = fieldsValue (g.infoFields slot step frames) := by
  have hslots : (g.slots.map fun n => 2 ^ (537 - n)).sum = fieldsValue g.slotFields * 2 ^ 402 := by
    have hsum := sum_two_pow_slots (fun n => g.slots.contains n) (k := 0) (m := 136) le_rfl
    rwa [← List.range_eq_range', filter_range_contains h.slots h.ascending,
      show 538 - (0 + 136) = 402 from rfl] at hsum
  have hsteps : (g.steps.zipIdx.map fun x => x.1 * 2 ^ (399 - 3 * x.2)).sum = fieldsValue g.stepFields := by
    rw [sum_steps g.steps (k := 0) ((Nat.zero_add _).trans_le h.steps_le), Nat.zero_add, stepFields, fieldsValue_append]
    simp only [fieldsValue, fieldsWidth_cons, fieldsWidth_nil, Nat.add_zero, Nat.zero_mul]
  have hmaps : fieldsValue (g.slotFields ++ g.stepFields) =
      (g.slots.map fun n => 2 ^ (537 - n)).sum + (g.steps.zipIdx.map fun x => x.1 * 2 ^ (399 - 3 * x.2)).sum := by
    rw [hslots, hsteps, fieldsValue_append, h.width_stepFields]
  rw [infoFields, fieldsValue_append, h.width_maps, hmaps, ← Nat.add_assoc]
  simp only [infoValue, headFields, fieldsValue, fieldsWidth_cons, fieldsWidth_nil, Nat.add_mul, Nat.mul_assoc,
    ← pow_add, Nat.reduceAdd, Nat.add_zero, ← Nat.add_assoc]

/-! ### The block read back -/

theorem natOfBE_block (h : g.FitsBlock slot step frames) :
    natOfBE (bitsBE 688 (g.infoValue slot step frames)) = fieldsValue (g.infoFields slot step frames) := by
  rw [h.infoValue_eq, natOfBE_bitsBE (h.width_infoFields ▸ fieldsValue_lt h.fieldsFit)]

/-- Field `i` of the head of the block, which lies in bits [hi:lo]. -/
theorem bitsOf_headField (h : g.FitsBlock slot step frames) {w x : Nat} {post : List (Nat × Nat)} (i hi lo : Nat)
    (hdrop : (g.headFields slot step frames).drop i = (w, x) :: post) (hlo : fieldsWidth post + 538 = lo)
    (hhi : hi + 1 - lo = w) : bitsOf (fieldsValue (g.infoFields slot step frames)) hi lo = x := by
  have hlt : i < (g.headFields slot step frames).length := by
    by_contra hle
    cases (List.drop_of_length_le (not_lt.mp hle)).symm.trans hdrop
  refine bitsOf_fieldsValue h.fieldsFit (i := i) (post := post ++ (g.slotFields ++ g.stepFields)) ?_ ?_ hhi
  · rw [infoFields, List.drop_append_of_le_length hlt.le, hdrop, List.cons_append]
  · rw [fieldsWidth_append, h.width_maps, hlo]

theorem drop_infoFields_head : (g.infoFields slot step frames).drop 14 = g.slotFields ++ g.stepFields := rfl

theorem testBit_slot (h : g.FitsBlock slot step frames) {n : Nat} (hn : n < 136) :
    (fieldsValue (g.infoFields slot step frames)).testBit (537 - n) = g.slots.contains n := by
  have hlen : ((List.range 136).map fun m => natOf (g.slots.contains m)).length = 136 := by
    rw [List.length_map, List.length_range]
  have hbit : bitsOf _ (537 - n) (537 - n) = _ := bitsOf_fieldsOf h.fieldsFit drop_infoFields_head (hlen.symm ▸ hn)
    (by rw [hlen, h.width_stepFields]; omega) (by omega)
  rw [bitsOf, show 537 - n + 1 - (537 - n) = 1 by omega, pow_one, List.getElem_map, List.getElem_range] at hbit
  rw [Nat.testBit_eq_decide_div_mod_eq, hbit]
  cases g.slots.contains n <;> rfl

theorem bitsOf_step (h : g.FitsBlock slot step frames) {k : Nat} (hk : k < g.steps.length) :
    bitsOf (fieldsValue (g.infoFields slot step frames)) (401 - 3 * k) (399 - 3 * k) = g.steps[k] := by
  have hle := h.steps_le
  have hslots : g.slotFields.length = 136 := by simp [slotFields, fieldsOf]
  have hdrop : (g.infoFields slot step frames).drop (14 + 136) = g.stepFields := by
    rw [← List.drop_drop, drop_infoFields_head, ← hslots, List.drop_left]
  refine bitsOf_fieldsOf h.fieldsFit hdrop hk ?_ (by omega)
  rw [fieldsWidth_cons, fieldsWidth_nil]
  omega

theorem readGeometry_block (h : g.FitsBlock slot step frames) :
    readGeometry (bitsBE 688 (g.infoValue slot step frames)) = g := by
  have hslots : ((List.range 136).filter fun n => (fieldsValue (g.infoFields slot step frames)).testBit (537 - n)) =
      g.slots := by
    rw [List.filter_congr fun n hn => h.testBit_slot (List.mem_range.mp hn)]
    exact filter_range_contains h.slots h.ascending
  have hsteps : ((List.range g.slots.length).map fun k =>
      bitsOf (fieldsValue (g.infoFields slot step frames)) (401 - 3 * k) (399 - 3 * k)) = g.steps := by
    refine List.ext_getElem (by simp [h.steps_length]) fun k _ hk => ?_
    rw [List.getElem_map, List.getElem_range, h.bitsOf_step hk]
  simp only [readGeometry, h.natOfBE_block, hslots, hsteps, h.bitsOf_headField 1 679 676 rfl (by simp) rfl,
    h.bitsOf_headField 2 675 674 rfl (by simp) rfl, h.bitsOf_headField 5 671 624 rfl (by simp) rfl,
    h.bitsOf_headField 6 623 616 rfl (by simp) rfl, h.bitsOf_headField 10 595 590 rfl (by simp) rfl,
    h.bitsOf_headField 12 581 570 rfl (by simp) rfl, h.bitsOf_headField 13 569 538 rfl (by simp) rfl]

theorem format_block (h : g.FitsBlock slot step frames) :
    natOfBE ((bitsBE 688 (g.infoValue slot step frames)).take 8) = 0xD7 := by
  rw [natOfBE_take_bitsBE 680 8, h.infoValue_eq]
  exact h.bitsOf_headField 0 687 680 rfl (by simp) rfl

end Geometry.FitsBlock

/-- Settles O34: the block is a row of fields, and each part of the geometry is read where its field lies. -/
theorem preamblesCarryTheGeometry : Obligations.PreamblesCarryTheGeometry := by
  intro g slot step frames hnum hkind hrestart hwrap hchainage htiers hleftover hslot hstep hframes hactive hslots hasc
    hlength hsteps
  have h : g.FitsBlock slot step frames := ⟨hnum, hkind, hrestart, hwrap, hchainage, htiers, hleftover, hslot, hstep,
    hframes, hactive, hslots, hasc, hlength, hsteps⟩
  exact ⟨h.readGeometry_block, h.format_block⟩

end Sys2Proof.Machine
end

section
/-! Tiers encoded and datasets written (R300, R305, R315, R319, R341): what TIER_ENCODE, WRITE_RUN_START and WRITE_RUN_END
leave where each may go through. -/

namespace Sys2Proof.Machine

-- One theorem at a time: run ahead of the kernel, each would hold a thread and its stack.
set_option Elab.async false

/-! ### A dataset changed -/

/-- The dataset of a number is what a change of that dataset makes of it. -/
theorem State.dataset?_modDataset {s : State} {n : Nat} {d : Dataset} (f : Dataset → Dataset) (hf : ∀ d, (f d).num = d.num)
    (hd : s.dataset? n = some d) : (s.modDataset n f).dataset? n = some (f d) := by
  have hnum : d.num = n := by simpa using List.find?_some hd
  have hsame : ((fun d : Dataset => d.num == n) ∘ fun d => if d.num = n then f d else d) = fun d => d.num == n := by
    funext x
    by_cases hx : x.num = n <;> simp [hx, hf]
  rw [State.dataset?, State.modDataset, List.find?_map, hsame]
  refine (congrArg (Option.map _) hd).trans ?_
  simp [hnum]

theorem State.dataset?_congr {s t : State} (h : t.df.datasets = s.df.datasets) : t.dataset? = s.dataset? := by
  funext n
  rw [State.dataset?, h, State.dataset?]

@[simp] theorem State.dataset?_rewatch (s : State) : s.rewatch.dataset? = s.dataset? := rfl

/-! ### The frames of a tier (R300, R313) -/

theorem State.payloadOf_congr {s t : State} (h : t.pe = s.pe) : t.payloadOf = s.payloadOf := by
  funext d
  rw [State.payloadOf, State.parcelsIn, h]
  rfl

theorem State.emitFrame_regsBut {s : State} {g : Geometry} {p : Nat × Nat} {info : Bytes} :
    State.regsBut [.eeClips] s (s.emitFrame g p info) :=
  State.regsBut_trans (State.regsBut_of_frame State.emit_frame) (State.regsBut_bumpBy (List.mem_singleton_self _))

/-- Errors are injected as EE_INJECT says. -/
theorem State.injectCount_of_regsBut {l : List RegName} {s t : State} (h : State.regsBut l s t)
    (hl : l.contains .eeInject = false) : t.injectCount = s.injectCount := by
  have hfld : t.fld .eeInject 0 0 = s.fld .eeInject 0 0 := by
    funext hi lo
    rw [State.fld, h _ _ _ hl, State.fld]
  rw [State.injectCount, hfld, State.injectCount]

/-- Frames go out one after another, each at its place. -/
theorem State.out_foldl_emitFrame (g : Geometry) (l : List ((Nat × Nat) × Bytes)) (s : State) :
    (l.foldl (fun u x => u.emitFrame g x.1 x.2) s).out = s.out ++ l.map (fun x =>
      Out.frame ⟨g.num, g.restart, x.1.1, x.1.2⟩ (frameBits s.injectCount x.2).1) := by
  induction l generalizing s with
  | nil => simp
  | cons x l ih =>
    rw [List.foldl_cons, ih, State.injectCount_of_regsBut State.emitFrame_regsBut rfl]
    exact List.append_assoc s.out [_] _

/-! ### TIER_ENCODE (R300, R305) -/

/-- A dataset that EE starts is started, and nothing else of it changes. -/
theorem State.dataset?_startEncode {s : State} {d : Dataset} (hd : s.dataset? d.num = some d) :
    (s.startEncode d).dataset? d.num = some { d with started := true } := by
  unfold State.startEncode
  split
  case isTrue h => rw [hd, ← h]
  case isFalse =>
    extract_lets u area
    have hu : u.dataset? d.num = some { d with started := true } :=
      State.dataset?_modDataset (fun d => { d with started := true }) (fun _ => rfl) hd
    split
    · exact hu
    · exact hu

/-- The dataset started, and the frames of one of its tiers sent to their channels. -/
def State.sendTier (s : State) (d : Dataset) (t : Nat) : State :=
  ((d.geo.tierFrames t).zip (c2Encode (tierBytes (s.payloadOf d) t))).foldl (fun u x => u.emitFrame d.geo x.1 x.2)
    (s.startEncode d)

namespace State

variable {s : State} {d : Dataset} {t : Nat}

theorem sendTier_frame : Frame [.regs, .df, .out] s (s.sendTier d t) :=
  Frame.fold (startEncode_frame.mono rfl) (fun _ _ => emitFrame_frame.mono rfl) _

theorem sendTier_regsBut : regsBut [.eeClips] s (s.sendTier d t) :=
  regsBut_trans (regsBut_of_frame startEncode_frame) (regsBut_foldl (fun _ _ => emitFrame_regsBut) _ _)

theorem dataset?_sendTier (hd : s.dataset? d.num = some d) :
    (s.sendTier d t).dataset? d.num = some { d with started := true } := by
  have hframe : Frame [.regs, .out] (s.startEncode d) (s.sendTier d t) :=
    Frame.fold Frame.refl (fun _ _ => emitFrame_frame) _
  rw [dataset?_congr (congrArg DfState.datasets (hframe .df rfl))]
  exact dataset?_startEncode hd

theorem out_sendTier : (s.sendTier d t).out =
    s.out ++ ((d.geo.tierFrames t).zip (c2Encode (tierBytes (s.payloadOf d) t))).map (fun x =>
      Out.frame ⟨d.geo.num, d.geo.restart, x.1.1, x.1.2⟩ (frameBits s.injectCount x.2).1) := by
  have hstart : Frame [.df] s (s.startEncode d) := startEncode_frame
  have hregs : regsBut [] s (s.startEncode d) := regsBut_of_frame hstart
  rw [sendTier, out_foldl_emitFrame, injectCount_of_regsBut hregs rfl]
  exact congrArg (· ++ _) (hstart .out rfl)

/-- A tier before the last, encoded with no fault: its frames are sent and counted, and it joins those encoded. -/
theorem tierEncode_eq (hd : s.dataset? d.num = some d) (hfailed : d.failed = false) (habandoned : d.abandoned = false)
    (ht : t < d.tiers) (hnew : d.encoded.contains t = false) (hmay : s.mayEncode d = true)
    (hlast : d.encoded.length + 1 ≠ d.tiers) : s.tierEncode d.num t 0 =
      (((s.sendTier d t).bump .eeTiers 0 0).modDataset d.num fun d => { d with encoded := d.encoded ++ [t] }).rewatch := by
  have hgo : (d.failed || d.abandoned || decide (d.tiers ≤ t) || d.encoded.contains t || !s.mayEncode d) = false := by
    rw [hfailed, habandoned, hnew, hmay, decide_eq_false (not_le.mpr ht)]
    rfl
  have hpayload : (s.startEncode d).payloadOf = s.payloadOf := payloadOf_congr (startEncode_frame .pe rfl)
  unfold tierEncode
  split
  case h_1 hnone => cases hd.symm.trans hnone
  case h_2 d' hd' =>
    obtain rfl : d = d' := Option.some.inj (hd.symm.trans hd')
    refine (if_neg (Bool.eq_false_iff.mp hgo)).trans ?_
    extract_lets started infos sent counted joined
    rw [if_neg hlast, sendTier, ← hpayload]
    rfl

end State

theorem tierEncode_encodes {s : State} {ds t : Nat} {d : Dataset} (hd : s.dataset? ds = some d) (hfailed : d.failed = false)
    (habandoned : d.abandoned = false) (ht : t < d.tiers) (hnew : d.encoded.contains t = false)
    (hmay : s.mayEncode d = true) (hlast : d.encoded.length + 1 ≠ d.tiers) :
    ∃ u, exec (.tierEncode ds t 0) s = .next u ∧
      u.dataset? ds = some { d with started := true, encoded := d.encoded ++ [t] } ∧
      u.out = s.out ++ ((d.geo.tierFrames t).zip (c2Encode (tierBytes (s.payloadOf d) t))).map (fun x =>
        Out.frame ⟨d.geo.num, d.geo.restart, x.1.1, x.1.2⟩ (frameBits s.injectCount x.2).1) ∧
      u.reg .eeTiers 0 0 = min (s.reg .eeTiers 0 0 + 1) 0xFFFFFFFF ∧ State.regsBut [.eeTiers, .eeClips] s u ∧
      Frame [.regs, .bm, .df, .out] s u := by
  obtain rfl : d.num = ds := by simpa using List.find?_some hd
  have hrun := State.tierEncode_eq hd hfailed habandoned ht hnew hmay hlast
  have hsent : State.regsBut [.eeClips] s (s.sendTier d t) := State.sendTier_regsBut
  have hbump : Frame [.regs] (s.sendTier d t) ((s.sendTier d t).bump .eeTiers 0 0) := State.bump_frame
  have hjoin : Frame [.bm, .df] ((s.sendTier d t).bump .eeTiers 0 0) (s.tierEncode d.num t 0) :=
    hrun ▸ Frame.step (State.modDataset_frame.mono rfl) State.rewatch_frame rfl
  have hregs : State.regsBut [] ((s.sendTier d t).bump .eeTiers 0 0) (s.tierEncode d.num t 0) :=
    State.regsBut_of_frame hjoin
  refine ⟨s.tierEncode d.num t 0, rfl, ?_, ?_, ?_, ?_, ?_⟩
  · have hfound : ((s.sendTier d t).bump .eeTiers 0 0).dataset? d.num = some { d with started := true } :=
      (congrFun (State.dataset?_congr (congrArg DfState.datasets (hbump .df rfl))) _).trans (State.dataset?_sendTier hd)
    have hset := State.dataset?_modDataset (fun d => { d with encoded := d.encoded ++ [t] }) (fun _ => rfl) hfound
    rw [hrun, State.dataset?_rewatch, hset]
  · exact (hjoin .out rfl).trans ((hbump .out rfl).trans State.out_sendTier)
  · rw [hregs .eeTiers 0 0 rfl, State.bump, State.reg_bumpBy_self, hsent .eeTiers 0 0 rfl]
  · exact State.regsBut_trans (State.regsBut_mono hsent (by simp))
      (State.regsBut_trans (State.regsBut_bumpBy (by simp)) (State.regsBut_mono hregs (List.nil_subset _)))
  · exact Frame.step (Frame.step (State.sendTier_frame.mono rfl) hbump rfl) hjoin rfl

/-! ### WRITE_RUN_START (R315, R319) -/

/-- A run that may start raises the gates of the dataset it writes, and moves the tape. -/
theorem State.startRun_starts {s : State} {d : Dataset} (hd : s.df.queue.head?.bind s.dataset? = some d)
    (hmay : s.mayRun = true) : s.startRun.df.running = true ∧ s.startRun.wc.gates = d.groups ∧
      s.startRun.wc.wmod = (if isReverse d.geo.wrap then 2 else 1) ∧ s.startRun.wc.inhibited = false ∧
      s.startRun.sm.state = 2 ∧ s.startRun.sm.brake = false := by
  unfold State.startRun
  split
  case h_1 hnone => cases hd.symm.trans hnone
  case h_2 d' hd' =>
    obtain rfl : d = d' := Option.some.inj (hd.symm.trans hd')
    rw [if_neg (by simp [hmay])]
    exact ⟨rfl, rfl, rfl, rfl, rfl, rfl⟩

theorem writeRunStart_starts {s : State} {d : Dataset} (hd : s.df.queue.head?.bind s.dataset? = some d)
    (hmay : s.mayRun = true) :
    ∃ t, exec .writeRunStart s = .next t ∧ t.df.running = true ∧ t.wc.gates = d.groups ∧
      t.wc.wmod = (if isReverse d.geo.wrap then 2 else 1) ∧ t.wc.inhibited = false ∧ t.sm.state = 2 ∧ t.sm.brake = false ∧
      t.df.datasets = s.df.datasets ∧ t.df.queue = s.df.queue ∧ Frame [.df, .wc, .sm] s t := by
  obtain ⟨hrunning, hgates, hwmod, hinhibited, hstate, hbrake⟩ := State.startRun_starts hd hmay
  obtain ⟨_, hsets, hqueue⟩ := s.df_startRun
  exact ⟨_, rfl, hrunning, hgates, hwmod, hinhibited, hstate, hbrake, hsets, hqueue, State.startRun_frame⟩

/-! ### WRITE_RUN_END (R319, R341) -/

theorem State.bump48_regsBut {s : State} {lo hi : RegName} {i k n : Nat} :
    State.regsBut [lo, hi] s (s.bump48 lo hi i k n) :=
  State.regsBut_trans (State.regsBut_setReg (by simp)) (State.regsBut_setReg (by simp))

/-- Counting a dataset's fill bytes keeps the rest below a MiB and counts whole MiB. -/
theorem State.countFill_cases (s : State) (d : Dataset) : s.countFill d = s ∨
    ∃ m n, s.countFill d = ({ s with df := { s.df with fillRest := m } }).bumpBy .peFillBytes 0 0 n := by
  unfold State.countFill
  split
  · exact .inl rfl
  · exact .inr ⟨_, _, rfl⟩

/-- Counting a dataset's fill bytes leaves the datasets and their queue, and counts in PE_FILL_BYTES alone. -/
theorem State.countFill_keeps (s : State) (d : Dataset) : (s.countFill d).df.datasets = s.df.datasets ∧
    (s.countFill d).df.queue = s.df.queue ∧ State.regsBut [.peFillBytes] s (s.countFill d) := by
  obtain h | ⟨m, n, h⟩ := s.countFill_cases d
  · rw [h]
    exact ⟨rfl, rfl, State.regsBut_refl⟩
  · have hrest : State.regsBut [.peFillBytes] s { s with df := { s.df with fillRest := m } } :=
      State.regsBut_of_frame (Frame.df (l := [.df]) Frame.refl rfl)
    rw [h]
    exact ⟨rfl, rfl, State.regsBut_trans hrest (State.regsBut_bumpBy (List.mem_singleton_self _))⟩

/-- The backhitch that may begin leaves the datasets, their queue and the end of the run, and counts in SM_BH_COUNT alone. -/
theorem State.maybeBackhitch_keeps (s : State) : s.maybeBackhitch.df.datasets = s.df.datasets ∧
    s.maybeBackhitch.df.queue = s.df.queue ∧ s.maybeBackhitch.df.running = s.df.running ∧
    State.regsBut [.smBhCount] s s.maybeBackhitch := by
  unfold State.maybeBackhitch
  extract_lets start
  split
  · have hflag : State.regsBut [.smBhCount] s { s with df := { s.df with backhitch := true } } :=
      State.regsBut_of_frame (Frame.df (l := [.df]) Frame.refl rfl)
    exact ⟨rfl, rfl, rfl, State.regsBut_trans hflag (State.regsBut_bumpBy (List.mem_singleton_self _))⟩
  · exact ⟨rfl, rfl, rfl, State.regsBut_refl⟩

/-- A dataset not yet written is marked and leaves the queue, its rewrites counted. -/
theorem State.markWritten_writes {s : State} {q : Nat} {d : Dataset} (hd : s.dataset? q = some d)
    (hnew : d.written = false) : (s.markWritten q).dataset? q = some { d with written := true } ∧
      (s.markWritten q).df.queue = s.df.queue.filter (· != q) ∧
      (s.markWritten q).reg .dfRewrites 0 0 = min (s.reg .dfRewrites 0 0 + d.rewrites.length) 0xFFFFFFFF := by
  unfold State.markWritten
  split
  case h_1 hnone => cases hd.symm.trans hnone
  case h_2 d' hd' =>
    obtain rfl : d = d' := Option.some.inj (hd.symm.trans hd')
    rw [if_neg (by simp [hnew])]
    extract_lets marked df left counted
    have hleft : Frame [.df] s left := Frame.df State.modDataset_frame rfl
    have hcounted : Frame [.regs] left counted := Frame.fold Frame.refl (fun _ _ => State.bump48_frame) _
    have hslots : State.regsBut [.wcChFramesLo, .wcChFramesHi] s counted :=
      State.regsBut_trans (State.regsBut_of_frame hleft) (State.regsBut_foldl (fun _ _ => State.bump48_regsBut) _ _)
    obtain ⟨hsets, hqueue, hfill⟩ := (counted.bumpBy .dfRewrites 0 0 d.rewrites.length).countFill_keeps d
    refine ⟨?_, hqueue.trans (congrArg DfState.queue (hcounted .df rfl)), ?_⟩
    · rw [State.dataset?_rewatch, State.dataset?_congr (hsets.trans (congrArg DfState.datasets (hcounted .df rfl)))]
      exact State.dataset?_modDataset (fun d => { d with written := true }) (fun _ => rfl) hd
    · rw [← hslots .dfRewrites 0 0 rfl]
      exact (hfill .dfRewrites 0 0 rfl).trans (State.reg_bumpBy_self ..)

/-- The part with every gate low and the run over. -/
def State.lowerGates (s : State) : State :=
  { s with wc := { s.wc with gates := [], wmod := 0, inhibited := false }
           df := { s.df with running := false } }

theorem State.lowerGates_frame {s : State} : Frame [.df, .wc] s s.lowerGates := by
  have hgates : Frame [.df, .wc] s { s with wc := { s.wc with gates := [], wmod := 0, inhibited := false } } :=
    Frame.wc Frame.refl rfl
  exact Frame.df hgates rfl

/-- A run that wrote the first dataset of the queue ends: the dataset, whole, is marked. -/
theorem State.endRun_one {s : State} {q : Nat} {rest : List Nat} {d : Dataset} (hrun : s.df.running = true)
    (hqueue : s.df.queue = q :: rest) (hd : s.dataset? q = some d) (hwhole : d.encoded.length = d.tiers) :
    s.endRun 1 = (s.markWritten q).lowerGates.maybeBackhitch := by
  simp [State.endRun, State.lowerGates, hrun, hqueue, hd, hwhole]

theorem writeRunEnd_writes {s : State} {q : Nat} {rest : List Nat} {d : Dataset} (hrun : s.df.running = true)
    (hqueue : s.df.queue = q :: rest) (hd : s.dataset? q = some d) (hwhole : d.encoded.length = d.tiers)
    (hnew : d.written = false) :
    ∃ t, exec (.writeRunEnd 1) s = .next t ∧ t.df.running = false ∧ t.wc.gates = [] ∧ t.wc.wmod = 0 ∧
      t.df.queue = rest.filter (· != q) ∧ t.dataset? q = some { d with written := true } ∧
      t.reg .dfRewrites 0 0 = min (s.reg .dfRewrites 0 0 + d.rewrites.length) 0xFFFFFFFF ∧
      Frame [.regs, .bm, .df, .wc] s t := by
  have hend := State.endRun_one hrun hqueue hd hwhole
  obtain ⟨hfound, hleft, hcount⟩ := State.markWritten_writes hd hnew
  obtain ⟨hsets, hkept, hover, hregs⟩ := (s.markWritten q).lowerGates.maybeBackhitch_keeps
  have hwc : ((s.markWritten q).lowerGates.maybeBackhitch).wc = (s.markWritten q).lowerGates.wc :=
    State.maybeBackhitch_frame .wc rfl
  have hlow : State.regsBut [] (s.markWritten q) (s.markWritten q).lowerGates :=
    State.regsBut_of_frame State.lowerGates_frame
  refine ⟨_, congrArg Host.Outcome.next hend, hover, congrArg WcState.gates hwc, congrArg WcState.wmod hwc, ?_, ?_, ?_,
    hend ▸ State.endRun_frame⟩
  · rw [hkept, State.lowerGates, hleft, hqueue]
    simp
  · exact (congrFun (State.dataset?_congr hsets) q).trans hfound
  · rw [hregs .dfRewrites 0 0 rfl, hlow .dfRewrites 0 0 rfl, hcount]

/-- Settles O30: TIER_ENCODE of a tier before the last, WRITE_RUN_START and WRITE_RUN_END, each by its own theorem above. That
frames go out as they are encoded, and that the run's count marks what it wrote, are the model's choices (log entries 44 and
39). -/
theorem tiersAreEncodedAndWritten : Obligations.TiersAreEncodedAndWritten := by
  refine ⟨fun s ds t d hd hfailed habandoned ht hnew hmay hlast => ?_, fun s d hd hmay => writeRunStart_starts hd hmay,
    fun s q rest d hrun hqueue hd hwhole hnew => writeRunEnd_writes hrun hqueue hd hwhole hnew⟩
  obtain ⟨u, hexec, hset, hrest⟩ := tierEncode_encodes hd hfailed habandoned ht hnew hmay hlast
  exact ⟨u, hexec, ⟨_, hset, rfl⟩, hrest⟩

end Sys2Proof.Machine
end

section
/-! Time that passes with no command waiting (R439, R452), and trips of the transport (R397, R406 to R408): what a trip does at
once, a trip that meets a trip in progress, and the steps to the safe state. -/

namespace Sys2Proof.Machine

-- One theorem at a time: run ahead of the kernel, each would hold a thread and its stack.
set_option Elab.async false

/-! ### Time (R439, R452) -/

theorem State.tryEnter_of_unasked {s : State} (h : s.fld .msPwrReq 0 0 1 0 = 0) : s.tryEnter = s := by
  unfold State.tryEnter
  rw [h]
  exact if_neg (by simp [State.mayEnter])

/-- Settles O2: a tick keeps the queue, and enters no power state that nothing asks for. That it lasts 20 ns is the model's
choice (log entry 2). -/
theorem anEmptyQueueLetsTimePass : Obligations.AnEmptyQueueLetsTimePass := by
  intro s hs
  refine ⟨s.tick, ?_, (State.tick_frame .pending rfl).trans hs, fun hphase hasked => ?_⟩
  · unfold step
    rw [hs]
  · unfold State.tick
    rw [if_neg hphase]
    exact State.tryEnter_of_unasked hasked

/-! ### The log's entry (R492) -/

theorem State.mem_log_storeLog (s : State) (e : LogEntry) : e ∈ (s.storeLog e).ms.log := by
  unfold State.storeLog
  extract_lets full src u
  have hu : e ∈ u.ms.log := List.mem_append_right _ (List.mem_singleton_self e)
  split
  · exact hu
  · exact hu

/-- An event whose severity MS_LOG_CFG lets in is stored under the number it takes. -/
theorem State.logEv_stores {s : State} {ev : Ev} (h : s.fld .msLogCfg 0 0 1 0 ≤ ev.code.2) (tenant unit value : Nat) :
    ∃ e ∈ (s.logEv ev tenant unit value).ms.log,
      e.seq = s.ms.seq ∧ e.code = ev.code.1 ∧ e.unit = unit ∧ e.value = value := by
  obtain ⟨b, n, q, c, hms⟩ := s.reserveLog_ms
  have hcfg : s.takeSeq.fld .msLogCfg 0 0 1 0 = s.fld .msLogCfg 0 0 1 0 := by
    have hregs : State.regsBut [] s s.takeSeq := State.regsBut_of_frame (Frame.ms State.reserveLog_frame rfl)
    rw [State.fld, State.fld, hregs .msLogCfg 0 0 rfl]
  have hlog : s.logEv ev tenant unit value = s.takeSeq.storeLog
      ⟨s.reserveLog.ms.seq, s.takeSeq.ms.time, ev.code.1, ev.code.2, tenant, unit, value⟩ :=
    if_neg (Nat.not_lt.mpr (hcfg.trans_le h))
  rw [hlog]
  exact ⟨_, State.mem_log_storeLog _ _, (congrArg MsState.seq hms :), rfl, rfl, rfl⟩

/-! ### What a trip does (R406, R407, R408) -/

/-- A trip that meets a trip in progress is logged (R407). -/
theorem State.trip_of_tripped {s : State} (h : 3 ≤ s.sm.state) (cause engine : Nat) :
    s.trip cause engine = s.logEv .trip 0 engine cause :=
  if_pos (by rwa [State.logEv_frame .sm rfl])

/-- SM_TRIP as a trip latches it (R406). -/
def tripWord (cause engine : Nat) : Nat := 2 ^ 31 + engine * 2 ^ 28 + cause * 2 ^ 24

theorem tripWord_lt {cause engine : Nat} (hc : cause < 16) (he : engine < 8) : tripWord cause engine < 2 ^ 32 := by
  unfold tripWord
  omega

/-- The trip latched, unless SM_TRIP holds one already (R407). -/
def State.latchTrip (s : State) (cause engine : Nat) : State :=
  if s.fld .smTrip 0 0 31 31 = 0 then s.setReg .smTrip 0 0 (tripWord cause engine) else s

theorem State.latchTrip_frame {s : State} {cause engine : Nat} : Frame [.regs] s (s.latchTrip cause engine) :=
  Frame.ite State.setReg_frame Frame.refl

theorem State.latchTrip_regsBut {s : State} {cause engine : Nat} : State.regsBut [.smTrip] s (s.latchTrip cause engine) := by
  unfold State.latchTrip
  split
  · exact State.regsBut_setReg (List.mem_singleton_self _)
  · exact State.regsBut_refl

theorem State.reg_latchTrip {s : State} {cause engine : Nat} (hc : cause < 16) (he : engine < 8) :
    (s.latchTrip cause engine).reg .smTrip 0 0 =
      if s.fld .smTrip 0 0 31 31 = 0 then tripWord cause engine else s.reg .smTrip 0 0 := by
  unfold State.latchTrip
  split
  · rw [State.reg_setReg_self, Nat.mod_eq_of_lt (tripWord_lt hc he)]
  · rfl

theorem State.contains_raiseTrigger (s : State) (k : Nat) : (s.raiseTrigger k).wc.triggers.contains k = true := by
  unfold State.raiseTrigger
  extract_lets new u
  have hu : u.wc = s.wc := by
    unfold u
    split
    · split <;> rfl
    · rfl
  dsimp only
  rw [hu]
  by_cases hk : k ∈ s.wc.triggers
  · simp [new, hk]
  · simp [new, hk]

/-- Trigger 4, a trip, has no counter of its own (R341). -/
theorem State.raiseTrigger_four_frame {s : State} : Frame [.wc] s (s.raiseTrigger 4) := Frame.wc Frame.refl rfl

/-- A trip of a transport that was not tripped, once it is logged, latched and has lowered the gates (R406, R408). -/
def State.tripNow (s : State) (engine : Nat) : State :=
  { s with
    wc := { s.wc with wmod := 0, inhibited := false }
    df := { s.df with running := false, backhitch := false }
    sm := { s.sm with
      state := 3, tripEngine := engine, tripStep := 1, inject := none
      reels := if engine = 3 ∨ engine = 4 then 2 else s.sm.reels
      cap := { s.sm.cap with trig := s.sm.cap.trig || (s.sm.cap.armed && s.fld .smCapCfg 0 0 30 28 == 2) } } }

theorem State.tripNow_frame {s : State} {engine : Nat} : Frame [.df, .wc, .sm] s (s.tripNow engine) := by
  have hdf : Frame [.df, .wc, .sm] s { s with df := { s.df with running := false, backhitch := false } } :=
    Frame.df Frame.refl rfl
  have hwc := Frame.wc (x := { s.wc with wmod := 0, inhibited := false }) hdf rfl
  exact Frame.sm hwc rfl

theorem State.trip_of_untripped {s : State} (h : s.sm.state < 3) (cause engine : Nat) :
    s.trip cause engine = (((s.logEv .trip 0 engine cause).latchTrip cause engine).raiseTrigger 4).tripNow engine :=
  if_neg (by rw [State.logEv_frame .sm rfl]; omega)

/-- What a trip of a transport that was not tripped leaves. -/
structure State.Tripped (s : State) (cause engine : Nat) (t : State) : Prop where
  state : t.sm.state = 3
  tripEngine : t.sm.tripEngine = engine
  step : t.sm.tripStep = 1
  inject : t.sm.inject = none
  engines : t.sm.engines = s.sm.engines
  wrap : t.sm.wrap = s.sm.wrap
  gates : t.wc.gates = []
  trigger : t.wc.triggers.contains 4 = true
  running : t.df.running = false
  queue : t.df.queue = s.df.queue
  seq : t.ms.seq = s.ms.seq + 1
  latched : t.reg .smTrip 0 0 = if s.fld .smTrip 0 0 31 31 = 0 then tripWord cause engine else s.reg .smTrip 0 0
  regs : State.regsBut [.smTrip, .msLogLost] s t
  frame : Frame [.regs, .df, .wc, .sm, .ms] s t

theorem State.tripped_trip {s : State} {cause engine : Nat} (h : s.sm.state < 3) (hc : cause < 16) (he : engine < 8) :
    s.Tripped cause engine (s.trip cause engine) := by
  have hframe : Frame [.regs, .df, .wc, .sm, .ms] s (s.trip cause engine) := State.trip_frame
  rw [State.trip_of_untripped h] at hframe ⊢
  let u := s.logEv .trip 0 engine cause
  let v := u.latchTrip cause engine
  let w := v.raiseTrigger 4
  have hlog : Frame [.regs, .ms] s u := State.logEv_frame
  have hlatch : Frame [.regs] u v := State.latchTrip_frame
  have hraise : Frame [.wc] v w := State.raiseTrigger_four_frame
  have hnow : Frame [.df, .wc, .sm] w (w.tripNow engine) := State.tripNow_frame
  have hsm : w.sm = s.sm := (hraise .sm rfl).trans ((hlatch .sm rfl).trans (hlog .sm rfl))
  have hdf : w.df = s.df := (hraise .df rfl).trans ((hlatch .df rfl).trans (hlog .df rfl))
  have hms : (w.tripNow engine).ms = u.ms := (hnow .ms rfl).trans ((hraise .ms rfl).trans (hlatch .ms rfl))
  have hlogged : State.regsBut [.msLogLost] s u := State.logEv_regsBut
  have hafter : State.regsBut [] v (w.tripNow engine) :=
    State.regsBut_trans (State.regsBut_of_frame hraise) (State.regsBut_of_frame hnow)
  refine ⟨rfl, rfl, rfl, rfl, (congrArg SmState.engines hsm :), (congrArg SmState.wrap hsm :), rfl, v.contains_raiseTrigger 4, rfl,
    (congrArg DfState.queue hdf :), ?_, ?_, ?_, hframe⟩
  · rw [show (w.tripNow engine).ms = u.ms from hms, State.logEv_seq]
  · rw [hafter .smTrip 0 0 rfl, State.reg_latchTrip hc he, State.fld, State.fld, hlogged .smTrip 0 0 rfl]
  · exact State.regsBut_trans (State.regsBut_mono hlogged (by simp))
      (State.regsBut_trans (State.regsBut_mono State.latchTrip_regsBut (by simp)) (State.regsBut_mono hafter (by simp)))

/-! ### The causes (R397, R406) -/

/-- The commands that bring a trip by themselves, with the cause and the engine of each (R406). -/
def State.MeetsCause (s : State) (c : Instr) (cause eng : Nat) : Prop :=
  (∃ e, c = .overrunTrip e ∧ e < 6 ∧ 3 ≤ (s.engine e).overruns ∧ cause = 1 ∧ eng = e) ∨
  (c = .missingSampleTrip ∧ 64 ≤ s.sm.missing ∧ 500 < s.sm.speed ∧ cause = 2 ∧ eng = 0) ∨
  (∃ l : List Nat, c = .vmotUndervoltage l ∧ l.length = 3 ∧ (∀ v ∈ l, v < 10 * s.fld .smLimits 0 0 15 0) ∧ cause = 5 ∧ eng = 7) ∨
  (∃ (e : Nat) (l : List Nat), c = .hallCodeFault e l ∧ (e = 3 ∨ e = 4) ∧ l.length = 3 ∧ (∀ v ∈ l, v = 0 ∨ v = 7) ∧
    cause = 6 ∧ eng = e) ∨
  (∃ (e : Nat) (l : List Nat), c = .overcurrent e l ∧ (e = 3 ∨ e = 4) ∧ l.length = 3 ∧
    (∀ v ∈ l, 10 * s.fld .smLimits 0 0 31 16 < v) ∧ cause = 7 ∧ eng = e) ∨
  (∃ (o : Nat) (v : Word), c = .smTransportSafeReq (.fn o) v ∧ s.serves (.fn o) ∧ s.isOwner o = true ∧
    bitOf v.toNat 3 = true ∧ cause = 8 ∧ eng = 7)

theorem threeOf_of_all {l : List Nat} {p : Nat → Bool} (hl : l.length = 3) (h : ∀ v ∈ l, p v = true) : threeOf l p = true := by
  unfold threeOf
  rw [List.take_of_length_le hl.le, List.all_eq_true.mpr h]
  simp [hl]

theorem State.reachesBlock_of_owner {s : State} {o : Nat} (h : s.isOwner o = true) : s.reachesBlock (.fn o) = true := h

/-- Each cause trips. -/
theorem State.MeetsCause.exec {s : State} {c : Instr} {cause eng : Nat} (h : s.MeetsCause c cause eng) :
    exec c s = .next (s.trip cause eng) ∧ cause < 16 ∧ eng < 8 := by
  rcases h with ⟨e, rfl, he, hover, rfl, rfl⟩ | ⟨rfl, hmiss, hfast, rfl, rfl⟩ | ⟨l, rfl, hl, hlow, rfl, rfl⟩ |
    ⟨e, l, rfl, he, hl, hbad, rfl, rfl⟩ | ⟨e, l, rfl, he, hl, hhigh, rfl, rfl⟩ | ⟨o, v, rfl, hs, ho, hv, rfl, rfl⟩
  case inl => exact ⟨congrArg Host.Outcome.next (if_pos ⟨he, hover⟩), by decide, by omega⟩
  case inr.inl => exact ⟨congrArg Host.Outcome.next (if_pos ⟨hmiss, hfast⟩), by decide, by decide⟩
  case inr.inr.inl =>
    exact ⟨congrArg Host.Outcome.next (if_pos (threeOf_of_all hl (by simpa using hlow))), by decide, by decide⟩
  case inr.inr.inr.inl =>
    exact ⟨congrArg Host.Outcome.next (if_pos ⟨he, threeOf_of_all hl (by simpa using hbad)⟩), by decide, by omega⟩
  case inr.inr.inr.inr.inl =>
    exact ⟨congrArg Host.Outcome.next (if_pos ⟨he, threeOf_of_all hl (by simpa using hhigh)⟩), by decide, by omega⟩
  case inr.inr.inr.inr.inr =>
    have hreach : (s.reachesBlock (.fn o) && bitOf v.toNat 3) = true := by rw [State.reachesBlock_of_owner ho, hv]; rfl
    exact ⟨congrArg Host.Outcome.next ((State.regWrite_of_serves hs _ _ _ _).trans (if_pos hreach)), by decide, by decide⟩

/-! ### The steps to the safe state (R408) -/

theorem State.tripSafe_of_held {s : State} (h : s.sm.state = 3) (hstep : s.sm.tripStep = 2) : s.tripSafe.sm =
    { s.sm with state := 4, tripStep := 0, brake := true, reels := 0 } := by
  unfold State.tripSafe
  rw [if_pos ⟨h, hstep⟩, State.cutOff_frame .sm rfl]

/-- Settles O40: what a trip does, by the cause that each command meets; a further cause; and the three steps. -/
theorem tripsBringTheTapeToItsSafeState : Obligations.TripsBringTheTapeToItsSafeState := by
  refine ⟨fun s c cause eng h3 h => ?_, fun s h3 hmiss hfast => ?_, fun s h3 => ⟨fun hstep hslow => ?_, fun hstep => ?_,
    fun hreels => ?_⟩⟩
  · obtain ⟨hexec, hc, he⟩ := State.MeetsCause.exec (s := s) h
    have ht := State.tripped_trip h3 hc he
    exact ⟨_, hexec, ht.state, ht.tripEngine, ht.step, ht.inject, ht.engines, ht.gates, ht.trigger, ht.running, ht.queue, ht.seq,
      ht.latched, ht.regs, ht.frame⟩
  · have hexec : exec .missingSampleTrip s = .next (s.logEv .trip 0 0 2) :=
      congrArg Host.Outcome.next ((if_pos ⟨hmiss, hfast⟩).trans (State.trip_of_tripped h3 2 0))
    exact ⟨_, hexec, State.logEv_seq .., State.logEv_regsBut, State.logEv_frame⟩
  · exact congrArg Host.Outcome.next (if_pos ⟨h3, hstep, hslow⟩)
  · exact ⟨_, rfl, State.tripSafe_of_held h3 hstep, State.tripSafe_frame⟩
  · exact congrArg Host.Outcome.next (if_pos ⟨h3, hreels⟩)

/-! ### Errors that a trip defers (R132, R323): the registers they may write -/

/-- The registers that completions, chimes and the log write. -/
def noticeRegs : List RegName := [.msLogLost, .qeEvtLost, .taskParam, .taskStatus]

/-- Only these registers change between two states. -/
abbrev State.Notices (s t : State) : Prop := State.regsBut noticeRegs s t

namespace State.Notices

variable {s t u : State}

theorem ite {c : Prop} [Decidable c] (h1 : s.Notices t) (h2 : s.Notices u) : s.Notices (if c then t else u) := by
  split <;> assumption

theorem trans (h1 : s.Notices t) (h2 : t.Notices u) : s.Notices u := State.regsBut_trans h1 h2

theorem logEv {ev : Ev} {tenant unit value : Nat} : s.Notices (s.logEv ev tenant unit value) :=
  State.regsBut_mono State.logEv_regsBut (by simp [noticeRegs])

theorem setReg {r : RegName} {i k v : Nat} (hr : r ∈ noticeRegs) : s.Notices (s.setReg r i k v) := State.regsBut_setReg hr

theorem loseChime {f : Fn} : s.Notices (s.loseChime f) :=
  State.regsBut_trans (State.regsBut_of_frame State.modFctx_frame) (State.regsBut_bumpBy (by simp [noticeRegs]))

theorem chime {f : Fn} {code arg arg2 seq : Nat} : s.Notices (s.chime f code arg arg2 seq) := by
  have hkept (m : Chime) : s.Notices
      ((if (s.fctx f).chimes.any (·.code == code) then s.loseChime f else s).modFctx f
        fun x => { x with chimes := insertChime m x.chimes }) :=
    (ite loseChime State.regsBut_refl).trans (State.regsBut_of_frame State.modFctx_frame)
  unfold State.chime
  refine ite State.regsBut_refl (ite State.regsBut_refl (ite loseChime ?_))
  extract_lets m
  split
  · exact ite (State.regsBut_of_frame State.postEntry_frame) (hkept m)
  · exact hkept m

theorem chimeOwner {code arg arg2 seq : Nat} : s.Notices (s.chimeOwner code arg arg2 seq) := by
  unfold State.chimeOwner
  split
  · exact chime
  · exact State.regsBut_refl

theorem makeReady {f ring tag status detail result : Nat} {devrst : Bool} :
    s.Notices (s.makeReady f ring tag status detail result devrst) := by
  have hqe (v : State) (x : QeState) : v.Notices { v with qe := x } := State.regsBut_of_frame (Frame.qe (l := [.qe]) Frame.refl rfl)
  have hwindow : s.Notices (s.windowDone f status detail result) :=
    ((setReg (by simp [noticeRegs])).trans (setReg (by simp [noticeRegs]))).trans
      ((setReg (by simp [noticeRegs])).trans chime)
  unfold State.makeReady
  exact ite (ite (hqe s _) State.regsBut_refl) (ite (hwindow.trans (hqe _ _)) (hqe s _))

theorem changeOwner {next : Option Nat} : s.Notices (s.changeOwner next) := by
  have hhi (x : HiState) : s.Notices { s with hi := x } := State.regsBut_of_frame (Frame.hi (l := [.hi]) Frame.refl rfl)
  have hms (v : State) (x : MsState) : v.Notices { v with ms := x } :=
    State.regsBut_of_frame (Frame.ms (l := [.ms]) Frame.refl rfl)
  have habandon (v : State) : v.Notices (v.abandonUpdate 2) := ite State.regsBut_refl ((hms v _).trans chimeOwner)
  unfold State.changeOwner
  extract_lets old h s1 s2 pfs s3 s4 m s5 m'
  have h4 : s.Notices s4 := (((hhi _).trans (habandon s1)).trans (State.regsBut_of_frame State.kltTrigger_frame)).trans
    (State.regsBut_foldl (fun _ _ => chime) _ _)
  have h5 : s.Notices s5 := by
    unfold s5
    split
    · exact (h4.trans (hms _ _)).trans chimeOwner
    · exact h4
  exact ite (hhi _) (h5.trans (hms _ _))

theorem settleOwner : s.Notices s.settleOwner := by
  unfold State.settleOwner
  split
  · exact State.regsBut_refl
  · exact ite State.regsBut_refl changeOwner

theorem finishCmd {c : Cmd} {status detail result : Nat} : s.Notices (s.finishCmd c status detail result) := by
  unfold State.finishCmd
  extract_lets wc s1 res s2 s3 s4
  have h1 : s.Notices s1 := by
    unfold s1
    split
    · exact ite State.regsBut_refl (State.regsBut_of_frame State.giveBack_frame)
    · exact State.regsBut_refl
  have h2 : s1.Notices s2 := by
    unfold s2
    split
    · exact ite (State.regsBut_of_frame State.tellCredit_frame) State.regsBut_refl
    · exact State.regsBut_refl
  have h4 : s2.Notices s4 :=
    trans (State.regsBut_of_frame State.dropCmd_frame) (State.regsBut_of_frame State.countReset_frame)
  exact ((h1.trans h2).trans h4).trans (makeReady.trans settleOwner)

theorem recredit : s.Notices s.recredit := by
  refine State.regsBut_foldl (fun u k => ?_) _ _
  unfold State.creditChime
  split
  · extract_lets v
    have hv : u.Notices v := State.regsBut_of_frame State.setStream_frame
    refine ite ?_ State.regsBut_refl
    split
    · exact hv.trans chime
    · exact hv
  · exact State.regsBut_refl

theorem logDeferred {k : Nat} : s.Notices (s.logDeferred k) := by
  unfold State.logDeferred
  split
  · split
    · exact ite (trans (State.regsBut_of_frame State.setStream_frame) logEv) State.regsBut_refl
    · exact State.regsBut_refl
  · exact State.regsBut_refl

theorem deferError {k l detail : Nat} : s.Notices (s.deferError k l detail) := by
  unfold State.deferError
  split
  · exact State.regsBut_refl
  extract_lets e s1 hit s2 s3 s4 s5 s6
  have hmod (v : State) (g : Stream → Stream) : v.Notices (v.modStream k g) := State.regsBut_of_frame State.modStream_frame
  have h2 : s.Notices s2 := trans (State.regsBut_of_frame State.setStream_frame) (State.regsBut_of_frame State.truncate_frame)
  have h4 : s2.Notices s4 := (hmod s2 _).trans (State.regsBut_foldl (fun _ _ => finishCmd) _ _)
  have h5 : s4.Notices s5 := ite State.regsBut_refl (hmod s4 _)
  have h6 : s5.Notices s6 := ite logDeferred State.regsBut_refl
  exact ((h2.trans h4).trans (h5.trans h6)).trans recredit

theorem cutOff : s.Notices s.cutOff := State.regsBut_foldl (fun _ _ => deferError) _ _

end State.Notices

/-! ### Later trips (R407) -/

/-- A write fault that persists during a trip is logged, as a trip and as itself, and defers the errors of what can no longer
reach tape (R323). -/
theorem wfaultPersist_tripped {s : State} (h3 : s.sm.state = 3) (hstands : s.wc.triggers.contains 3 = true)
    (hnew : s.wc.wfault = false) : ∃ t, exec .wfaultPersist s = .next t ∧ t.sm = s.sm ∧
      t.reg .smTrip 0 0 = s.reg .smTrip 0 0 ∧ s.ms.seq + 2 ≤ t.ms.seq := by
  let u := { s with wc := { s.wc with wfault := true } }
  let v := (u.logEv .trip 0 7 4).logEv .wfault 0 0 0
  have hexec : exec .wfaultPersist s = .next v.cutOff := by
    refine congrArg Host.Outcome.next ((if_pos (by rw [hstands, hnew]; rfl)).trans ?_)
    exact congrArg (fun w : State => (w.logEv .wfault 0 0 0).cutOff) (State.trip_of_tripped (s := u) h3.ge 4 7)
  have hlog : Frame [.regs, .ms] u v := Frame.trans State.logEv_frame State.logEv_frame
  have hmark : s.Notices u := State.regsBut_of_frame (Frame.wc (l := [.wc]) Frame.refl rfl)
  have hregs : s.Notices v.cutOff := (hmark.trans (State.Notices.logEv.trans State.Notices.logEv)).trans State.Notices.cutOff
  refine ⟨_, hexec, ?_, hregs .smTrip 0 0 rfl, ?_⟩
  · exact (State.cutOff_frame .sm rfl).trans (hlog .sm rfl)
  · have hseq : v.ms.seq = s.ms.seq + 2 := by rw [State.logEv_seq, State.logEv_seq]
    exact hseq.ge.trans State.Upholds.cutOff.seq

/-- Settles O59: during a trip, every further cause is an entry of the log. -/
theorem laterTripsAreOnlyLogged : Obligations.LaterTripsAreOnlyLogged := by
  refine ⟨fun s c cause eng h3 h => ?_, fun s h3 hstands hnew => wfaultPersist_tripped h3 hstands hnew,
    fun s cause eng h3 => ?_⟩
  · have hexec := (State.MeetsCause.exec (s := s) h).1
    rw [State.trip_of_tripped h3.ge] at hexec
    exact ⟨_, hexec, State.logEv_frame .sm rfl, State.logEv_regsBut .smTrip 0 0 rfl, State.logEv_seq ..,
      fun hcfg => State.logEv_stores (ev := .trip) hcfg 0 eng cause, State.logEv_regsBut, State.logEv_frame⟩
  · rw [State.trip_of_tripped h3.ge]
    exact ⟨State.logEv_frame .sm rfl, State.logEv_regsBut .smTrip 0 0 rfl, State.logEv_seq ..⟩

end Sys2Proof.Machine
end

section
/-! The loop engines (R393 to R401, R404, R405, R409, R410): what a sample, a switch of mode and a change of wrap leave, and the
owner's writes to the engine that SM_LOOP_SEL selects, to SM_INJ_CFG and to SM_CAP_CFG. -/

namespace Sys2Proof.Machine

-- One theorem at a time: run ahead of the kernel, each would hold a thread and its stack.
set_option Elab.async false

/-! ### Engines -/

@[simp] theorem State.engine_setEngine_self (s : State) (e : Nat) (g : Engine) : (s.setEngine e g).engine e = g := by
  simp [State.engine, State.setEngine]

theorem State.engine_setEngine_ne (s : State) {e j : Nat} (g : Engine) (h : j ≠ e) :
    (s.setEngine e g).engine j = s.engine j := by
  simp [State.engine, State.setEngine, Tab.get_set_ne _ _ _ h]

theorem State.engine_congr {s t : State} (h : t.sm.engines = s.sm.engines) : t.engine = s.engine := by
  funext e
  simp only [State.engine, h]

theorem State.engine_of_frame {l : List Part} {s t : State} (h : Frame l s t) (hl : l.contains .sm = false := by rfl) :
    t.engine = s.engine := State.engine_congr (congrArg SmState.engines (h .sm hl))

/-- A capture takes its record, and nothing of the engines. -/
theorem State.engine_capture (s : State) (e : Nat) (late hand : Bool) : (s.capture e late hand).engine = s.engine := by
  refine State.engine_congr ?_
  unfold State.capture
  extract_lets c g now flags r recs left
  split <;> rfl

theorem State.engine_tickInject (s : State) (e : Nat) : (s.tickInject e).engine = s.engine := rfl

/-- A set is planned for a closed engine, and no other engine is touched (R404). -/
theorem State.engine_planMode_self {s : State} {e : Nat} (mode : Nat) (h : (s.engine e).closed = true) :
    (s.planMode e mode engine0).engine e = { s.engine e with next := some mode } := by
  have hplan : (s.planMode e mode engine0).engine e =
      if (s.engine e).closed then { s.engine e with next := some mode } else s.engine e := Tab.get_set_self ..
  rw [hplan, if_pos h]

theorem State.engine_planMode_ne (s : State) {e j : Nat} (mode : Nat) (h : j ≠ e) :
    (s.planMode e mode engine0).engine j = s.engine j := Tab.get_set_ne _ _ _ h

/-! ### A computed sample (R394, R395) -/

theorem State.enterSet_keeps (s : State) (e : Nat) (g : Engine) :
    (s.enterSet e g).limited = g.limited ∧ (s.enterSet e g).closed = g.closed := by
  unfold State.enterSet
  split <;> exact ⟨rfl, rfl⟩

theorem natAbs_clamp_le {l : Int} (x : Int) (h : 0 ≤ l) : (max (-l) (min l x)).natAbs ≤ l.natAbs := by omega

theorem natAbs_slew_le (g x : Int) (n : Nat) : (max (g - n) (min (g + n) x) - g).natAbs ≤ n := by omega

/-- An engine after a sample in set `m`: no set is planned, the integrator is within its limit, and the output has moved by
no more than the slew limit. -/
structure State.Sampled (s : State) (e m : Nat) (g h : Engine) : Prop where
  mode : h.mode = m
  next : h.next = none
  closed : h.closed = g.closed
  overruns : h.overruns = 0
  integ : h.integ.natAbs ≤ (max 0 (s.coef e m 53)).natAbs
  limited : (h.limited - g.limited).natAbs ≤ (s.coef e m 56).natAbs

theorem State.sampled_computed (s : State) (e : Nat) (g : Engine) (meas ext vmot : Int) :
    s.Sampled e (g.next.getD g.mode) g (s.computed e g meas ext vmot).1 := by
  obtain ⟨hlimited, hclosed⟩ := s.enterSet_keeps e g
  refine ⟨rfl, rfl, hclosed, rfl, natAbs_clamp_le _ (le_max_left _ _), ?_⟩
  rw [← hlimited]
  exact natAbs_slew_le _ _ _

/-- A sample of an engine of tension, reel or band: the engine takes what is computed, the injection and the capture go on,
and a rough hand-over is counted and logged. -/
theorem State.runSample_of_closed {s : State} {e : Nat} (meas ext vmot : Int) (h2 : 2 ≤ e) (hc : (s.engine e).closed = true)
    (htrip : ¬ (s.sm.state = 3 ∧ s.sm.tripEngine = e)) :
    ∃ u, Frame [.regs, .ms] (s.setEngine e (s.computed e (s.engine e) meas ext vmot).1) u ∧
      s.runSample e meas ext vmot = (u.tickInject e).capture e false (s.engine e).next.isSome := by
  unfold State.runSample
  extract_lets g r s1 s2 wc s3 sm s4
  have h3 : s3 = s2 := if_neg fun h => absurd h.1 (by omega)
  have h4 : s4 = s3 := if_neg (by omega)
  rw [if_neg (by simp [g, hc]), if_neg htrip, h4, h3]
  exact ⟨s2, Frame.ite State.rough_frame Frame.refl, rfl⟩

theorem State.loopSample_of_drive (s : State) {e : Nat} (meas ext vmot : Int) (h2 : 2 ≤ e) (h6 : e < 6) :
    s.loopSample e meas ext vmot false = s.runSample e (Config.scaled e meas) ext vmot := by
  obtain ⟨n, rfl⟩ : ∃ n, e = n + 2 := ⟨e - 2, by omega⟩
  exact if_neg (by omega)

/-- LOOP_SAMPLE of a closed TEN, TKU, SUP or AUX engine outside a trip. -/
theorem loopSample_computes {s : State} {e : Nat} (meas ext vmot : Int) (h2 : 2 ≤ e) (h6 : e < 6)
    (hc : (s.engine e).closed = true) (htrip : ¬ (s.sm.state = 3 ∧ s.sm.tripEngine = e)) :
    ∃ t, exec (.loopSample e meas ext vmot false) s = .next t ∧
      s.Sampled e ((s.engine e).next.getD (s.engine e).mode) (s.engine e) (t.engine e) ∧
      (∀ j, j ≠ e → t.engine j = s.engine j) ∧ Frame [.regs, .sm, .ms] s t := by
  have hexec : exec (.loopSample e meas ext vmot false) s = .next (s.runSample e (Config.scaled e meas) ext vmot) :=
    congrArg Host.Outcome.next (s.loopSample_of_drive meas ext vmot h2 h6)
  obtain ⟨u, hu, hrun⟩ := State.runSample_of_closed (Config.scaled e meas) ext vmot h2 hc htrip
  have hengine : (s.runSample e (Config.scaled e meas) ext vmot).engine =
      (s.setEngine e (s.computed e (s.engine e) (Config.scaled e meas) ext vmot).1).engine := by
    rw [hrun, State.engine_capture, State.engine_tickInject]
    exact State.engine_of_frame hu
  refine ⟨_, hexec, ?_, fun j hj => ?_, ?_⟩
  · rw [hengine, State.engine_setEngine_self]
    exact s.sampled_computed e _ _ ext vmot
  · rw [hengine, State.engine_setEngine_ne _ _ hj]
  · rw [hrun]
    have hset : Frame [.regs, .sm, .ms] s u := Frame.trans (State.setEngine_frame.mono rfl) (hu.mono rfl)
    exact (hset.step State.tickInject_frame rfl).step State.capture_frame rfl

/-! ### A late sample (R397), and an engine that is open -/

theorem State.loopSample_of_late (s : State) {e : Nat} (meas ext vmot : Int) (h6 : e < 6) :
    s.loopSample e meas ext vmot true = s.overrun e := if_neg (by omega)

theorem loopSample_late {s : State} {e : Nat} (meas ext vmot : Int) (h6 : e < 6) (hc : (s.engine e).closed = true) :
    ∃ t, exec (.loopSample e meas ext vmot true) s = .next t ∧
      t.engine e = { s.engine e with overruns := (s.engine e).overruns + 1 } ∧ (∀ j, j ≠ e → t.engine j = s.engine j) ∧
      t.reg .smOverruns 0 0 = min (s.reg .smOverruns 0 0 + 1) 0xFFFFFFFF ∧ State.regsBut [.smOverruns] s t ∧
      Frame [.regs, .sm] s t := by
  let g : Engine := { s.engine e with overruns := (s.engine e).overruns + 1 }
  let u := (s.setEngine e g).bump .smOverruns 0 0
  have hover : s.overrun e = u.capture e true false := if_neg (by simp [hc])
  have hexec : exec (.loopSample e meas ext vmot true) s = .next (u.capture e true false) :=
    congrArg Host.Outcome.next ((s.loopSample_of_late meas ext vmot h6).trans hover)
  have hframe : Frame [.regs, .sm] s (s.overrun e) := State.overrun_frame
  have hcap : State.regsBut [] u (u.capture e true false) := State.regsBut_of_frame State.capture_frame
  have hset : State.regsBut [] s (s.setEngine e g) := State.regsBut_of_frame State.setEngine_frame
  have hengine : (u.capture e true false).engine = (s.setEngine e g).engine :=
    (u.engine_capture e true false).trans (State.engine_of_frame State.bump_frame)
  refine ⟨_, hexec, ?_, fun j hj => ?_, ?_, ?_, ?_⟩
  · rw [hengine, State.engine_setEngine_self]
  · rw [hengine, State.engine_setEngine_ne _ _ hj]
  · rw [hcap .smOverruns 0 0 rfl, show u.reg .smOverruns 0 0 = _ from State.reg_bumpBy_self .., hset .smOverruns 0 0 rfl]
  · exact State.regsBut_trans (State.regsBut_mono hset (by simp))
      (State.regsBut_trans (State.regsBut_bumpBy (by simp)) (State.regsBut_mono hcap (by simp)))
  · rwa [← hover]

theorem loopSample_open {s : State} {e : Nat} (meas ext vmot : Int) (late : Bool) (h2 : 2 ≤ e) (h6 : e < 6)
    (hopen : (s.engine e).closed = false) : exec (.loopSample e meas ext vmot late) s = .next s := by
  have hover : s.overrun e = s := if_pos (by simp [hopen])
  have hrun (m : Int) : s.runSample e m ext vmot = s := if_pos (by simp [hopen])
  refine congrArg Host.Outcome.next ?_
  cases late with
  | true => exact (s.loopSample_of_late meas ext vmot h6).trans hover
  | false => exact (s.loopSample_of_drive meas ext vmot h2 h6).trans (hrun _)

theorem loopModeSwitch_plans {s : State} {e mode : Nat} (hdue : s.modeDue e mode = true) (hc : (s.engine e).closed = true) :
    ∃ t, exec (.loopModeSwitch e mode) s = .next t ∧ t.engine e = { s.engine e with next := some mode } ∧
      (∀ j, j ≠ e → t.engine j = s.engine j) ∧ Frame [.sm] s t :=
  ⟨_, congrArg Host.Outcome.next (if_pos hdue), State.engine_planMode_self mode hc,
    fun _ hj => s.engine_planMode_ne mode hj, State.planMode_frame⟩

/-! ### Changing wrap (R405) -/

/-- The wrap and its band are set, every gate is low, and the tape is ready to move (R405). -/
def State.setWrap (s : State) (w : Nat) : State :=
  { s with
    wc := { s.wc with gates := [], wmod := 0, inWindow := 0 }
    df := { s.df with running := false }
    sm := { s.sm with wrap := some w, band := some (bandOf w), reverse := isReverse w, state := 2, brake := false, reels := 1 } }

theorem State.setWrap_frame {s : State} {w : Nat} : Frame [.df, .wc, .sm] s (s.setWrap w) := by
  have hdf : Frame [.df, .wc, .sm] s { s with df := { s.df with running := false } } := Frame.df Frame.refl rfl
  have hwc := Frame.wc (x := { s.wc with gates := [], wmod := 0, inWindow := 0 }) hdf rfl
  exact Frame.sm hwc rfl

/-- What the looks at the band tell of it (R405). -/
def State.bandFound (s : State) (w : Nat) (bands : List Nat) : Option Bool :=
  if s.sm.band = some (bandOf w) then some true else bandConfirmed (bandOf w) bands

theorem State.bandFound_of_seen {s : State} {w : Nat} {bands : List Nat}
    (h : s.sm.band = some (bandOf w) ∨ bandOf w ∈ bands.take 4) : s.bandFound w bands = some true := by
  unfold State.bandFound
  split
  case isTrue => rfl
  case isFalse hband => exact if_pos (List.contains_iff_mem.mpr (h.resolve_left hband))

theorem State.bandFound_of_wrong {s : State} {w : Nat} {bands : List Nat} (hband : s.sm.band ≠ some (bandOf w))
    (hlong : 4 ≤ bands.length) (hwrong : bandOf w ∉ bands.take 4) : s.bandFound w bands = some false := by
  unfold State.bandFound bandConfirmed
  rw [if_neg hband, if_neg (by simpa using hwrong), if_pos hlong]

section wrapChange

variable {s : State} {w : Nat} {bands : List Nat} (hm : s.ct.mounted = true) (hw : w < 256) (hup : s.transportDown = false)

include hm hw hup

theorem State.wrapChange_of_found (h : s.bandFound w bands = some true) :
    ∃ u, Frame [.pe, .vc] s u ∧ s.wrapChange w bands = (u.setWrap w).planMode 0 0 engine0 := by
  unfold State.wrapChange
  rw [if_neg (by simp [hm, hup, hw])]
  extract_lets goal s1 s2
  split
  case h_1 hfound => cases h.symm.trans hfound
  case h_2 hfound => cases h.symm.trans hfound
  case h_3 => exact ⟨s1, Frame.ite State.endWindow_frame Frame.refl, rfl⟩

theorem State.wrapChange_of_wrong (h : s.bandFound w bands = some false) : s.wrapChange w bands = s.trip 6 5 := by
  unfold State.wrapChange
  rw [if_neg (by simp [hm, hup, hw])]
  extract_lets goal s1 s2
  split
  case h_1 hfound => cases h.symm.trans hfound
  case h_2 => rfl
  case h_3 hfound => cases h.symm.trans hfound

theorem wrapChange_changes (h : s.sm.band = some (bandOf w) ∨ bandOf w ∈ bands.take 4) :
    ∃ t, exec (.wrapChange w bands) s = .next t ∧ t.sm.wrap = some w ∧ t.sm.band = some (bandOf w) ∧
      t.sm.reverse = isReverse w ∧ t.wc.gates = [] ∧ t.wc.inWindow = 0 ∧ t.df.running = false ∧
      t.df.datasets = s.df.datasets ∧ Frame [.pe, .df, .wc, .vc, .sm] s t := by
  obtain ⟨u, hu, hrun⟩ := State.wrapChange_of_found hm hw hup (State.bandFound_of_seen h)
  refine ⟨_, congrArg Host.Outcome.next hrun, rfl, rfl, rfl, rfl, rfl, rfl,
    (congrArg DfState.datasets (hu .df rfl) :), ?_⟩
  exact ((hu.mono rfl).step State.setWrap_frame rfl).step State.planMode_frame rfl

theorem wrapChange_trips (hband : s.sm.band ≠ some (bandOf w)) (hlong : 4 ≤ bands.length)
    (hwrong : bandOf w ∉ bands.take 4) : ∃ t, exec (.wrapChange w bands) s = .next t ∧ s.Tripped 6 5 t := by
  have hrun := State.wrapChange_of_wrong hm hw hup (State.bandFound_of_wrong hband hlong hwrong)
  have h3 : s.sm.state < 3 := by
    have h : ¬ 3 ≤ s.sm.state := fun h => by simp [State.transportDown, h] at hup
    omega
  exact ⟨_, congrArg Host.Outcome.next hrun, State.tripped_trip h3 (by decide) (by decide)⟩

end wrapChange

/-- Settles O39: a sample that computes, one that is late, one of an open engine, a switch of mode, and a change of wrap. -/
theorem loopSamplesStayWithinTheirLimits : Obligations.LoopSamplesStayWithinTheirLimits := by
  refine ⟨fun s e meas ext vmot h2 h6 hc htrip => ?_, fun s e meas ext vmot h6 hc => loopSample_late meas ext vmot h6 hc,
    fun s e meas ext vmot late h2 h6 hopen => loopSample_open meas ext vmot late h2 h6 hopen,
    fun s e mode hdue hc => loopModeSwitch_plans hdue hc,
    fun s w bands hm hw hup => ⟨fun hseen => ?_, fun hband hlong hwrong => ?_⟩⟩
  · obtain ⟨t, hexec, h, hother, hframe⟩ := loopSample_computes meas ext vmot h2 h6 hc htrip
    exact ⟨t, hexec, h.mode, h.next, h.closed.trans hc, h.overruns, h.integ, h.limited, hother, hframe⟩
  · exact wrapChange_changes hm hw hup hseen
  · obtain ⟨t, hexec, h⟩ := wrapChange_trips hm hw hup hband hlong hwrong
    exact ⟨t, hexec, h.state, h.tripEngine, h.wrap, h.seq, h.frame⟩

/-! ### Closing and opening (R399, R401) -/

/-- The source that a write of SM_LOOP_CTRL names (R399). -/
def sourceOf (v : Nat) : Nat := if bitsOf v 9 8 = 3 then 0 else bitsOf v 9 8

theorem sourceOf_lt (v : Nat) : sourceOf v < 3 := by
  have h : bitsOf v 9 8 < 4 := Nat.mod_lt _ (by decide)
  unfold sourceOf
  split <;> omega

theorem bitsOf_source {n : Nat} (h : n < 4) : bitsOf (n * 256 % 2 ^ 32) 9 8 = n := by
  unfold bitsOf
  omega

/-- SM_LOOP_CTRL of an open engine takes the source written, and no other register changes. -/
theorem State.writeSource_of_open {s : State} {e : Nat} (v : Nat) (hopen : (s.engine e).closed = false) :
    (s.writeSource e v).loopSource e = sourceOf v ∧ State.regsBut [.smLoopCtrl] s (s.writeSource e v) ∧
      Frame [.regs] s (s.writeSource e v) := by
  have hrun : s.writeSource e v = if sourceOf v = s.loopSource e then s else s.setReg .smLoopCtrl 0 e (sourceOf v * 256) := by
    unfold State.writeSource
    rw [hopen]
    rfl
  rw [hrun]
  split
  case isTrue h => exact ⟨h.symm, State.regsBut_refl, Frame.refl⟩
  case isFalse =>
    have hlt := sourceOf_lt v
    refine ⟨?_, State.regsBut_setReg (List.mem_singleton_self _), State.setReg_frame⟩
    have hfld : (s.setReg .smLoopCtrl 0 e (sourceOf v * 256)).fld .smLoopCtrl 0 e 9 8 = sourceOf v := by
      rw [State.fld, State.reg_setReg_self, bitsOf_source (by omega)]
    unfold State.loopSource
    rw [hfld]
    exact if_neg (by omega)

section selected

variable {s : State} {o : Nat} {v : Word} (hs : s.serves (.fn o)) (ho : s.isOwner o = true) (h6 : s.selEngine < 6)

include hs ho h6

theorem smLoopClose_closes (hv : bitOf v.toNat 0 = true) (hopen : (s.engine s.selEngine).closed = false) :
    ∃ t, exec (.smLoopClose (.fn o) v) s = .next t ∧
      t.engine s.selEngine = { engine0 with closed := true, next := some 0 } ∧
      (∀ j, j ≠ s.selEngine → t.engine j = s.engine j) ∧ t.loopSource s.selEngine = sourceOf v.toNat ∧
      State.regsBut [.smLoopCtrl] s t ∧ Frame [.regs, .sm] s t := by
  obtain ⟨hsource, hregs, hframe⟩ := State.writeSource_of_open v.toNat hopen
  let u := s.writeSource s.selEngine v.toNat
  have hengine : u.engine = s.engine := State.engine_of_frame hframe
  have hrun : s.closeLoop (.fn o) v.toNat = u.setEngine s.selEngine { engine0 with closed := true, next := some 0 } := by
    unfold State.closeLoop
    extract_lets e u'
    rw [if_neg (by simp [State.reachesBlock_of_owner ho, hv, e, h6])]
    exact if_neg (by simp [show u'.engine = s.engine from hengine, e, hopen])
  have hset : Frame [.sm] u (u.setEngine s.selEngine { engine0 with closed := true, next := some 0 }) :=
    State.setEngine_frame
  refine ⟨_, congrArg Host.Outcome.next ((State.regWrite_of_serves hs _ _ _ _).trans hrun), State.engine_setEngine_self ..,
    fun j hj => ?_, hsource, State.regsBut_trans hregs (State.regsBut_of_frame hset), (hframe.mono rfl).trans (hset.mono rfl)⟩
  rw [State.engine_setEngine_ne _ _ hj, hengine]

theorem smLoopOpen_opens (hv : bitOf v.toNat 0 = false) (hc : (s.engine s.selEngine).closed = true)
    (hmay : s.mayOpen s.selEngine = true) :
    ∃ t, exec (.smLoopOpen (.fn o) v) s = .next t ∧ t.engine s.selEngine = engine0 ∧
      (∀ j, j ≠ s.selEngine → t.engine j = s.engine j) ∧ State.regsBut [.smLoopCtrl] s t ∧ Frame [.regs, .sm] s t := by
  let u := s.setEngine s.selEngine engine0
  have hrun : s.openLoop (.fn o) v.toNat = u.writeSource s.selEngine v.toNat := by
    unfold State.openLoop
    extract_lets e
    rw [if_neg (by simp [State.reachesBlock_of_owner ho, hv, e, h6]), if_neg (by simp [e, hc]), if_pos hmay]
  have hopen : (u.engine s.selEngine).closed = false := by rw [State.engine_setEngine_self]; rfl
  have hset : Frame [.sm] s u := State.setEngine_frame
  obtain ⟨-, hregs, hframe⟩ := State.writeSource_of_open v.toNat hopen
  have hengine : (u.writeSource s.selEngine v.toNat).engine = u.engine := State.engine_of_frame hframe
  refine ⟨_, congrArg Host.Outcome.next ((State.regWrite_of_serves hs _ _ _ _).trans hrun), ?_, fun j hj => ?_,
    State.regsBut_trans (State.regsBut_of_frame hset) hregs, (hset.mono rfl).trans (hframe.mono rfl)⟩
  · rw [hengine, State.engine_setEngine_self]
  · rw [hengine, State.engine_setEngine_ne _ _ hj]

theorem smLoopOpen_refused (hv : bitOf v.toNat 0 = false) (hc : (s.engine s.selEngine).closed = true)
    (hmay : s.mayOpen s.selEngine = false) :
    ∃ t, exec (.smLoopOpen (.fn o) v) s = .next t ∧ t.sm = s.sm ∧ t.ms.seq = s.ms.seq + 1 ∧
      State.regsBut [.msLogLost] s t ∧ Frame [.regs, .ms] s t := by
  have hrun : s.openLoop (.fn o) v.toNat = s.logEv .openReject 0 s.selEngine 0 := by
    unfold State.openLoop
    extract_lets e
    rw [if_neg (by simp [State.reachesBlock_of_owner ho, hv, e, h6]), if_neg (by simp [e, hc]), if_neg (by simp [e, hmay])]
  exact ⟨_, congrArg Host.Outcome.next ((State.regWrite_of_serves hs _ _ _ _).trans hrun), State.logEv_frame .sm rfl,
    State.logEv_seq .., State.logEv_regsBut, State.logEv_frame⟩

/-! ### Rates and coefficients (R396, R397, R401) -/

theorem State.writeRate_of_open (hopen : (s.engine s.selEngine).closed = false) (h0 : s.selEngine ≠ 0)
    (hv : v.toNat < 2 ^ 20) : exec (.smLoopRateWrite (.fn o) v) s = .next (
      if maxRate s.selEngine < v.toNat ∨ rateFits v.toNat (s.loopCycles s.selEngine) = false then
        s.logEv .rateReject 0 s.selEngine v.toNat
      else s.setReg .smLoopRate 0 s.selEngine v.toNat) := by
  refine congrArg Host.Outcome.next ((State.regWrite_of_serves hs _ _ _ _).trans ?_)
  unfold State.writeRate
  extract_lets e hz
  rw [if_neg (by simp [State.reachesBlock_of_owner ho, e, h6, h0]), if_neg (by simp [e, hopen])]
  simp only [hz, e, Nat.mod_eq_of_lt (show v.toNat < 1048576 from hv)]

theorem smLoopRateWrite_taken (hopen : (s.engine s.selEngine).closed = false) (h0 : s.selEngine ≠ 0)
    (hv : v.toNat < 2 ^ 20) (hmax : v.toNat ≤ maxRate s.selEngine)
    (hfits : v.toNat * (600 + 2 * s.loopCycles s.selEngine) ≤ 1000000000) :
    ∃ t, exec (.smLoopRateWrite (.fn o) v) s = .next t ∧ t.reg .smLoopRate 0 s.selEngine = v.toNat ∧
      (∀ r i k, (r, i, k) ≠ (.smLoopRate, 0, s.selEngine) → t.reg r i k = s.reg r i k) ∧ Frame [.regs] s t := by
  have hexec := State.writeRate_of_open hs ho h6 hopen h0 hv
  rw [if_neg (by simp [rateFits, hmax, hfits])] at hexec
  refine ⟨_, hexec, ?_, fun r i k h => State.reg_setReg_ne _ _ h, State.setReg_frame⟩
  rw [State.reg_setReg_self, Nat.mod_eq_of_lt (by omega)]

theorem smLoopRateWrite_rejected (hopen : (s.engine s.selEngine).closed = false) (h0 : s.selEngine ≠ 0)
    (hv : v.toNat < 2 ^ 20)
    (hbad : maxRate s.selEngine < v.toNat ∨ 1000000000 < v.toNat * (600 + 2 * s.loopCycles s.selEngine)) :
    ∃ t, exec (.smLoopRateWrite (.fn o) v) s = .next t ∧
      t.reg .smLoopRate 0 s.selEngine = s.reg .smLoopRate 0 s.selEngine ∧ t.ms.seq = s.ms.seq + 1 ∧
      State.regsBut [.msLogLost] s t ∧ Frame [.regs, .ms] s t := by
  have hexec := State.writeRate_of_open hs ho h6 hopen h0 hv
  rw [if_pos (by simpa [rateFits] using hbad)] at hexec
  exact ⟨_, hexec, State.logEv_regsBut _ _ _ rfl, State.logEv_seq .., State.logEv_regsBut, State.logEv_frame⟩

/-- A word below 60 takes the value written as it is; word 60 alone holds the numbers of stages (R401). -/
theorem smCoefDataWrite_writes (hopen : (s.engine s.selEngine).closed = false) (hword : s.fld .smCoefAddr 0 0 5 0 < 60) :
    ∃ t, exec (.smCoefDataWrite (.fn o) v) s = .next t ∧
      t.coefWord s.selEngine (s.fld .smCoefAddr 0 0 7 6) (s.fld .smCoefAddr 0 0 5 0) = v ∧
      (∀ e' m w, coefPlace e' m w ≠ coefPlace s.selEngine (s.fld .smCoefAddr 0 0 7 6) (s.fld .smCoefAddr 0 0 5 0) →
        t.coefWord e' m w = s.coefWord e' m w) ∧ t.regs = s.regs ∧ t.sm.engines = s.sm.engines ∧ Frame [.sm] s t := by
  let k := coefPlace s.selEngine (s.fld .smCoefAddr 0 0 7 6) (s.fld .smCoefAddr 0 0 5 0)
  have hrun : s.writeCoef (.fn o) v.toNat = { s with sm := { s.sm with coef := s.sm.coef.set k v } } := by
    unfold State.writeCoef
    extract_lets e set word p coef sm t
    have hcoef : coef = s.sm.coef.set k v := by
      unfold coef
      rw [if_neg (show word ≠ 60 from by omega), BitVec.ofNat_toNat, BitVec.setWidth_eq]
    rw [if_neg (by simp [State.reachesBlock_of_owner ho, e, h6, word]; omega), if_neg (by simp [e, hopen]), if_pos (by omega)]
    unfold t
    rw [hcoef]
  refine ⟨_, congrArg Host.Outcome.next ((State.regWrite_of_serves hs _ _ _ _).trans hrun), ?_, fun e' m w h => ?_, rfl, rfl,
    Frame.sm Frame.refl rfl⟩
  · unfold State.coefWord
    rw [Tab.find_set_self]
  · unfold State.coefWord
    rw [Tab.find_set_ne _ _ h]

end selected

/-- Settles O41: SM_LOOP_CTRL with close set and clear, SM_LOOP_RATE, and SM_COEF_DATA. -/
theorem loopEnginesOpenAndClose : Obligations.LoopEnginesOpenAndClose := fun _ _ _ hs ho h6 =>
  ⟨fun hv hopen => smLoopClose_closes hs ho h6 hv hopen,
    fun hv hc => ⟨fun hmay => smLoopOpen_opens hs ho h6 hv hc hmay, fun hmay => smLoopOpen_refused hs ho h6 hv hc hmay⟩,
    fun hopen h0 hv => ⟨fun hmax hfits => smLoopRateWrite_taken hs ho h6 hopen h0 hv hmax hfits,
      fun hbad => smLoopRateWrite_rejected hs ho h6 hopen h0 hv hbad⟩,
    fun hopen hword => smCoefDataWrite_writes hs ho h6 hopen hword⟩

/-! ### Injection and capture (R409, R410) -/

/-- The injection that a write of SM_INJ_CFG starts, with a PRBS register that is not 0 (R409). -/
def injectOf (v fresh : Nat) : Inject :=
  { engine := bitsOf v 30 28, point := if bitsOf v 27 26 = 3 then 0 else bitsOf v 27 26, kind := min 2 (bitsOf v 25 24)
    left := bitsOf v 23 0, run := 0, lfsr := Config.freeNat 1 fresh % 2047 + 1 }

theorem lfsr_injectOf (v fresh : Nat) : 1 ≤ (injectOf v fresh).lfsr ∧ (injectOf v fresh).lfsr ≤ 2047 := by
  have h : Config.freeNat 1 fresh % 2047 < 2047 := Nat.mod_lt _ (by decide)
  exact ⟨Nat.le_add_left .., h⟩

theorem State.writeInject_starts {s : State} {o v : Nat} (ho : s.isOwner o = true) (hstart : bitOf v 31 = true)
    (hnone : s.sm.inject = none) (hc : (s.engine (bitsOf v 30 28)).closed = true) (hn : bitsOf v 23 0 ≠ 0)
    (h3 : s.sm.state < 3) : ∃ c, s.writeInject (.fn o) v =
      { (s.setReg .smInjCfg 0 0 (v % 2 ^ 31)).draw with
        sm := { s.sm with inject := some (injectOf v s.fresh), cap := c } } := by
  unfold State.writeInject
  rw [if_neg (by simp [State.reachesBlock_of_owner ho])]
  extract_lets u e n
  have hengine : u.engine = s.engine := State.engine_of_frame State.setReg_frame
  have hinject : u.sm.inject = none := hnone
  have hstate : ¬ 3 ≤ u.sm.state := Nat.not_le.mpr h3
  rw [if_neg (by simp [hstart, hinject, hengine, e, hc, n, hn, hstate])]
  exact ⟨_, rfl⟩

theorem smInjStart_starts {s : State} {o : Nat} {v : Word} (hs : s.serves (.fn o)) (ho : s.isOwner o = true)
    (hstart : bitOf v.toNat 31 = true) (hnone : s.sm.inject = none)
    (hc : (s.engine (bitsOf v.toNat 30 28)).closed = true) (hn : bitsOf v.toNat 23 0 ≠ 0) (h3 : s.sm.state < 3) :
    ∃ t, exec (.smInjStart (.fn o) v) s = .next t ∧ t.sm.inject = some (injectOf v.toNat s.fresh) ∧
      t.sm.engines = s.sm.engines ∧ State.regsBut [.smInjCfg] s t ∧ Frame [.regs, .sm, .fresh] s t := by
  obtain ⟨c, hrun⟩ := State.writeInject_starts ho hstart hnone hc hn h3
  let u := s.setReg .smInjCfg 0 0 (v.toNat % 2 ^ 31)
  have hframe : Frame [.sm, .fresh] u (s.writeInject (.fn o) v.toNat) := by
    rw [hrun]
    have hfresh : Frame [.sm, .fresh] u u.draw := Frame.fresh Frame.refl rfl
    exact Frame.sm hfresh rfl
  refine ⟨s.writeInject (.fn o) v.toNat, congrArg Host.Outcome.next (State.regWrite_of_serves hs _ _ _ _), ?_, ?_,
    State.regsBut_trans (State.regsBut_setReg (List.mem_singleton_self _)) (State.regsBut_of_frame hframe),
    State.writeInject_frame⟩
  · rw [hrun]
  · rw [hrun]

theorem smCapArm_arms {s : State} {o : Nat} {v : Word} (hs : s.serves (.fn o)) (ho : s.isOwner o = true)
    (harm : bitOf v.toNat 31 = true) :
    ∃ t, exec (.smCapArm (.fn o) v) s = .next t ∧ t.sm.cap.armed = true ∧ t.sm.cap.done = false ∧ t.sm.cap.recs = [] ∧
      t.sm.engines = s.sm.engines ∧ State.regsBut [.smCapCfg] s t ∧ Frame [.regs, .sm] s t := by
  let u := s.setReg .smCapCfg 0 0 (v.toNat % 2 ^ 31)
  have hrun : s.writeCapture (.fn o) v.toNat = { u with sm := { u.sm with
      cap := { armed := true, done := false, trig := false, left := none, index := 0, recs := [] } } } :=
    (if_neg (by simp [State.reachesBlock_of_owner ho])).trans (if_pos harm)
  have hset : State.regsBut [.smCapCfg] s u := State.regsBut_setReg (List.mem_singleton_self _)
  have hframe : Frame [.regs, .sm] s u := State.setReg_frame.mono rfl
  exact ⟨_, congrArg Host.Outcome.next ((State.regWrite_of_serves hs _ _ _ _).trans hrun), rfl, rfl, rfl, rfl,
    State.regsBut_trans hset (State.regsBut_of_frame (Frame.sm (l := [.sm]) Frame.refl rfl)), Frame.sm hframe rfl⟩

/-- Settles O42: SM_INJ_CFG and SM_CAP_CFG as the owner writes them, and the ends of an injection and of a capture. That the
kind is cut at 2 and that point 3 is read as 0 are the model's readings (log entry 45). -/
theorem injectionsAndCapturesStartAndEnd : Obligations.InjectionsAndCapturesStartAndEnd := by
  refine ⟨fun s o v hs ho => ⟨fun hstart hnone hc hn h3 => ?_, fun harm => smCapArm_arms hs ho harm⟩,
    fun s j hj hleft => ?_, fun s harmed hfull => ?_⟩
  · obtain ⟨t, hexec, hinject, hengines, hregs, hframe⟩ := smInjStart_starts hs ho hstart hnone hc hn h3
    obtain ⟨hlow, hhigh⟩ := lfsr_injectOf v.toNat s.fresh
    exact ⟨t, _, hexec, hinject, rfl, rfl, rfl, rfl, rfl, hlow, hhigh, hengines, hregs, hframe⟩
  · refine congrArg Host.Outcome.next ?_
    unfold State.injectEnd
    rw [hj]
    exact if_pos hleft
  · exact ⟨_, congrArg Host.Outcome.next (if_pos (by rw [harmed, hfull]; rfl)), rfl, rfl, rfl, rfl,
      Frame.sm Frame.refl rfl⟩

end Sys2Proof.Machine
end

section
/-! Servo channels (R389, R391): what a reader holds after a frame. -/

namespace Sys2Proof.Machine

-- One theorem at a time: run ahead of the kernel, each would hold a thread and its stack.
set_option Elab.async false

/-! ### Readers -/

@[simp] theorem State.reader_setReader_self (s : State) (k : Nat) (r : Reader) : (s.setReader k r).reader k = r := by
  simp [State.reader, State.setReader]

theorem State.reader_setReader_ne (s : State) {k j : Nat} (r : Reader) (h : j ≠ k) :
    (s.setReader k r).reader j = s.reader j := by
  simp [State.reader, State.setReader, Tab.get_set_ne _ _ _ h]

theorem State.reader_congr {s t : State} (h : t.sm.readers = s.sm.readers) : t.reader = s.reader := by
  funext k
  simp only [State.reader, h]

/-- SM_CHAIN follows the readers and leaves them as they are (R391). -/
theorem State.readers_followChain (s : State) : s.followChain.sm.readers = s.sm.readers := by
  unfold State.followChain
  split <;> rfl

/-- A servo word moves the chainage alone (R391). -/
theorem Reader.advance_keeps (r : Reader) : ∃ c d, r.advance.1 = { r with chain := c, reverse := d } := by
  unfold Reader.advance
  split
  · exact ⟨_, _, rfl⟩
  · split
    · exact ⟨_, _, rfl⟩
    · exact ⟨_, _, rfl⟩

/-- A rejected frame counts once in SM_RDR_FAIL, and writes no other register (R389). -/
theorem State.countReject_spec (s : State) {k : Nat} {r : Reader} {t : State}
    (h : Frame [.sm] ((s.setReader k r).bump .smRdrFail 0 0) t) :
    t.reg .smRdrFail 0 0 = min (s.reg .smRdrFail 0 0 + 1) 0xFFFFFFFF ∧ State.regsBut [.smRdrFail] s t := by
  have hset : State.regsBut [] s (s.setReader k r) := State.regsBut_of_frame State.setReader_frame
  have hrest : State.regsBut [] ((s.setReader k r).bump .smRdrFail 0 0) t := State.regsBut_of_frame h
  refine ⟨?_, State.regsBut_trans (State.regsBut_mono hset (by simp))
    (State.regsBut_trans (State.regsBut_bumpBy (by simp)) (State.regsBut_mono hrest (by simp)))⟩
  rw [hrest .smRdrFail 0 0 rfl, ← hset .smRdrFail 0 0 rfl]
  exact State.reg_bumpBy_self ..

/-! ### A frame with all eight stripes (R389) -/

/-- A frame of this period and position is good: the period is above 0 and near the last one, the position within 80 um. -/
def Reader.Accepts (r : Reader) (per y : Int) : Prop :=
  0 < per ∧ (∀ q, r.period = some q → 10 * (per - q).natAbs ≤ q.natAbs) ∧ y.natAbs ≤ 80000

theorem Reader.frame_of_known {r : Reader} {p t2 per y : Int} {refs bias : List Int} (h : r.prevRef = some p)
    (ht : refs.getD 0 0 + refs.getD 3 0 = t2) (hper : t2 - p = per) (hy : lateral (bias.sum - 2 * t2) per = y) :
    ∃ bad bits, (bad = false ↔ r.Accepts per y) ∧ r.frame refs bias =
      ({ r with prevRef := some t2, period := some per, age := 0, y := if bad then none else some y, bits := bits }, bad) := by
  subst ht hper hy
  unfold Reader.frame
  simp only [h]
  refine ⟨_, _, ?_, rfl⟩
  unfold Reader.Accepts
  cases r.period with
  | none => simp
  | some q => simp [and_assoc]

/-- After a frame with all stripes the reader holds what the frame gives, with its chainage moved; a rejected one counts; the
rest is the band seen and SM_CHAIN. -/
theorem State.servoFrame_of_whole {s : State} {k : Nat} {refs bias : List Int} {r : Reader} {bad : Bool} (hk : k < 6)
    (hr : refs.length = 4) (hb : bias.length = 4) (hf : (s.reader k).frame refs bias = (r, bad)) :
    (s.servoFrame k refs bias).sm.readers = (s.setReader k r.advance.1).sm.readers ∧
      Frame [.sm] (if bad then (s.setReader k r.advance.1).bump .smRdrFail 0 0 else s.setReader k r.advance.1)
        (s.servoFrame k refs bias) := by
  unfold State.servoFrame
  rw [if_neg (by omega), if_neg (by simp [hr, hb]), hf]
  extract_lets f a s1 s2 sm s3
  have h2 : s2.sm = s1.sm := by
    unfold s2
    split <;> rfl
  have h3 : Frame [.sm] s2 s3 ∧ s3.sm.readers = s2.sm.readers := by
    unfold s3
    split
    · exact ⟨Frame.sm Frame.refl rfl, rfl⟩
    · exact ⟨Frame.refl, rfl⟩
  refine ⟨?_, h3.1.trans State.followChain_frame⟩
  rw [State.readers_followChain, h3.2, h2]

section whole

variable {s : State} {k : Nat} {refs bias : List Int} {p t2 per y : Int} (hk : k < 6) (hr : refs.length = 4)
  (hb : bias.length = 4) (hp : (s.reader k).prevRef = some p) (ht : refs.getD 0 0 + refs.getD 3 0 = t2)
  (hper : t2 - p = per) (hy : lateral (bias.sum - 2 * t2) per = y)

include hk hr hb hp ht hper hy

theorem servoFrame_accepted (h : (s.reader k).Accepts per y) :
    ∃ t, exec (.servoFrame k refs bias) s = .next t ∧ (t.reader k).y = some y ∧ (t.reader k).prevRef = some t2 ∧
      (t.reader k).period = some per ∧ (∀ j, j ≠ k → t.reader j = s.reader j) ∧ Frame [.sm] s t := by
  obtain ⟨bad, bits, hbad, hf⟩ := Reader.frame_of_known hp ht hper hy
  obtain rfl := hbad.mpr h
  obtain ⟨hreaders, hframe⟩ := State.servoFrame_of_whole hk hr hb hf
  obtain ⟨c, d, hadv⟩ := Reader.advance_keeps { s.reader k with
    prevRef := some t2, period := some per, age := 0, y := if false then none else some y, bits := bits }
  have hreader := State.reader_congr hreaders
  refine ⟨_, rfl, ?_, ?_, ?_, fun j hj => ?_, State.setReader_frame.trans hframe⟩
  · rw [hreader, State.reader_setReader_self, hadv]
    rfl
  · rw [hreader, State.reader_setReader_self, hadv]
  · rw [hreader, State.reader_setReader_self, hadv]
  · rw [hreader, State.reader_setReader_ne _ _ hj]

theorem servoFrame_rejected (h : ¬ (s.reader k).Accepts per y) :
    ∃ t, exec (.servoFrame k refs bias) s = .next t ∧ (t.reader k).y = none ∧ (t.reader k).prevRef = some t2 ∧
      t.reg .smRdrFail 0 0 = min (s.reg .smRdrFail 0 0 + 1) 0xFFFFFFFF ∧ (∀ j, j ≠ k → t.reader j = s.reader j) ∧
      State.regsBut [.smRdrFail] s t ∧ Frame [.regs, .sm] s t := by
  obtain ⟨bad, bits, hbad, hf⟩ := Reader.frame_of_known hp ht hper hy
  obtain rfl : bad = true := Bool.eq_true_of_not_eq_false fun hfalse => h (hbad.mp hfalse)
  obtain ⟨hreaders, hframe⟩ := State.servoFrame_of_whole hk hr hb hf
  obtain ⟨c, d, hadv⟩ := Reader.advance_keeps { s.reader k with
    prevRef := some t2, period := some per, age := 0, y := if true then none else some y, bits := bits }
  have hreader := State.reader_congr hreaders
  obtain ⟨hcount, hregs⟩ := s.countReject_spec hframe
  refine ⟨_, rfl, ?_, ?_, hcount, fun j hj => ?_, hregs, State.servoFrame_frame⟩
  · rw [hreader, State.reader_setReader_self, hadv]
    rfl
  · rw [hreader, State.reader_setReader_self, hadv]
  · rw [hreader, State.reader_setReader_ne _ _ hj]

end whole

/-- A frame with stripes missing is counted, and leaves the reader without a reference and a position (R389). -/
theorem servoFrame_missing {s : State} {k : Nat} {refs bias : List Int} (hk : k < 6)
    (h : refs.length ≠ 4 ∨ bias.length ≠ 4) : ∃ t, exec (.servoFrame k refs bias) s = .next t ∧
      t.reader k = { s.reader k with prevRef := none, y := none } ∧ (∀ j, j ≠ k → t.reader j = s.reader j) ∧
      t.reg .smRdrFail 0 0 = min (s.reg .smRdrFail 0 0 + 1) 0xFFFFFFFF ∧ State.regsBut [.smRdrFail] s t ∧
      Frame [.regs, .sm] s t := by
  let u := s.setReader k { s.reader k with prevRef := none, y := none }
  have hrun : s.servoFrame k refs bias = u.bump .smRdrFail 0 0 := by
    unfold State.servoFrame
    rw [if_neg (by omega), if_pos h]
  have hreader : (u.bump .smRdrFail 0 0).reader = u.reader := State.reader_congr rfl
  obtain ⟨hcount, hregs⟩ := s.countReject_spec (k := k) (r := { s.reader k with prevRef := none, y := none }) Frame.refl
  refine ⟨_, congrArg Host.Outcome.next hrun, ?_, fun j hj => ?_, hcount, hregs,
    (State.setReader_frame.mono rfl).trans (State.bump_frame.mono rfl)⟩
  · rw [hreader, State.reader_setReader_self]
  · rw [hreader, State.reader_setReader_ne _ _ hj]

/-- Settles O38: a frame with all stripes that is good, one that is not, and one with stripes missing. That a rejected frame
still moves the reference is the model's choice (log entry 45). -/
theorem servoFramesGivePositions : Obligations.ServoFramesGivePositions := fun _ _ _ _ hk =>
  ⟨fun hr hb _ hp => ⟨fun h => servoFrame_accepted hk hr hb hp rfl rfl rfl h,
      fun h => servoFrame_rejected hk hr hb hp rfl rfl rfl h⟩,
    fun h => servoFrame_missing hk h⟩

end Sys2Proof.Machine
end

section
/-! The read channels (R343 to R367): what a lane and a channel make of a frame, and a channel of a preamble. -/

namespace Sys2Proof.Machine

-- One theorem at a time: run ahead of the kernel, each would hold a thread and its stack.
set_option Elab.async false

/-! ### Adaptation (R346, R347) -/

/-- The loops of other channels, and those that a freeze bit holds, stand as they were. -/
theorem State.adapted_adapt {s : State} {n m l : Nat} (hl : l < 5)
    (h : m ≠ n ∨ bitOf (s.reg .rcChFreeze (m / 17) (m % 17)) l = true) :
    (s.adapt n).rc.adapted.find (8 * m + l) = s.rc.adapted.find (8 * m + l) := by
  unfold State.adapt
  split
  case isTrue => rfl
  case isFalse =>
    extract_lets ls
    have hfold : ls.foldl (fun t l => t.set (8 * n + l) s.rc.adapts) s.rc.adapted =
        (ls.map fun l => (8 * n + l, s.rc.adapts)).foldl (fun t e => t.set e.1 e.2) s.rc.adapted := by
      rw [List.foldl_map]
    refine (congrArg (fun t => Tab.find t (8 * m + l)) hfold).trans (Tab.find_foldl_set _ _ fun e he => ?_)
    obtain ⟨l', hl', rfl⟩ := List.mem_map.mp he
    obtain ⟨hlt, hfree⟩ := List.mem_filter.mp hl'
    have hlt : l' < 5 := List.mem_range.mp hlt
    intro hkey
    obtain ⟨rfl, rfl⟩ : m = n ∧ l' = l := by dsimp only at hkey; omega
    rw [h.resolve_left (not_not_intro rfl)] at hfree
    cases hfree

/-! ### Frames (R354, R355, R361, R366, R367) -/

/-- Marks and the limit on iterations are read from registers alone. -/
theorem State.isMarked_congr {s t : State} (h : t.reg .rcDefect = s.reg .rcDefect) : t.isMarked = s.isMarked := by
  funext f
  unfold State.isMarked State.fld
  rw [h]

theorem State.c1Good_congr {s t : State} (h : t.reg = s.reg) : t.c1Good = s.c1Good := by
  funext f
  unfold State.c1Good State.frameLimit State.readLimit State.verifyLimit State.retryLimit State.fld
  rw [State.isMarked_congr (congrFun h _), h]

/-- What is held of a frame, with its information field where C1 was good. -/
def gotOf (f : FrameRead) (good : Bool) : FrameGot :=
  ⟨f.place, if good then some (packMSB (f.code.take 15360)) else none, f.iters, f.corrected, f.missed, min 255 f.mse⟩

theorem State.last_holdFrame (s : State) (verify : Bool) (g : FrameGot) :
    (if verify then (s.holdFrame verify g).ed.verify else (s.holdFrame verify g).ed.frames).getLast? = some g := by
  cases verify <;> exact List.getLast?_concat ..

theorem State.tiers_holdFrame (s : State) (verify : Bool) (g : FrameGot) : (s.holdFrame verify g).ed.tiers = s.ed.tiers := by
  cases verify <;> rfl

/-- Before a frame is judged, its channel has adapted on it and counted it. -/
def State.channelTook (s : State) (f : FrameRead) : State := (s.adapt f.place.slot).countChannel f

theorem State.channelTook_regsBut {s : State} {f : FrameRead} :
    State.regsBut [.rcChFramesLo, .rcChFramesHi, .rcChMse, .rcChMiss, .rcChDefect] s (s.channelTook f) := by
  refine State.regsBut_trans (t := s.adapt f.place.slot) (State.regsBut_of_frame State.adapt_frame) ?_
  refine State.regsBut_trans ?_ (State.regsBut_bumpBy (by simp))
  refine State.regsBut_trans ?_ (State.regsBut_bumpBy (by simp))
  exact State.regsBut_trans (State.regsBut_mono State.bump48_regsBut (by simp)) (State.regsBut_setReg (by simp))

/-- What a lane counts of its frame: a decoded one for itself, a failed one for the slot unless it is marked (R367). -/
theorem State.countFrame_of_lane {s : State} {f : FrameRead} {n : Nat} (hl : f.lane = some n) (good : Bool) :
    (s.countFrame f good).reg .edLaneFrames 0 n =
      (if good then min (s.reg .edLaneFrames 0 n + 1) 0xFFFFFFFF else s.reg .edLaneFrames 0 n) ∧
    (s.countFrame f good).reg .edSlotC1fail 0 f.place.slot = (if good || s.isMarked f then s.reg .edSlotC1fail 0 f.place.slot
      else min (s.reg .edSlotC1fail 0 f.place.slot + 1) 0xFFFFFFFF) ∧ (s.countFrame f good).ed.tiers = s.ed.tiers := by
  unfold State.countFrame
  simp only [hl]
  cases good with
  | false =>
    cases s.isMarked f with
    | true => exact ⟨rfl, rfl, rfl⟩
    | false => exact ⟨State.reg_bumpBy_ne _ _ (by simp), State.reg_bumpBy_self .., rfl⟩
  | true =>
    let u := (s.bump .edLaneFrames 0 n).noteIters f.place.slot f.iters
    have hu : u.reg = (s.bump .edLaneFrames 0 n).reg := State.reg_congr rfl rfl
    have hlane : u.reg .edLaneFrames 0 n = min (s.reg .edLaneFrames 0 n + 1) 0xFFFFFFFF := by
      rw [hu]
      exact State.reg_bumpBy_self ..
    have hfail : u.reg .edSlotC1fail 0 f.place.slot = s.reg .edSlotC1fail 0 f.place.slot := by
      rw [hu]
      exact State.reg_bumpBy_ne _ _ (by simp)
    cases f.retried with
    | false => exact ⟨hlane, hfail, rfl⟩
    | true => exact ⟨(State.reg_bumpBy_ne _ _ (by simp)).trans hlane, (State.reg_bumpBy_ne _ _ (by simp)).trans hfail, rfl⟩

/-- The channel adapts on a frame and counts it, the lane counts it, and it is held. -/
def State.frameTaken (s : State) (f : FrameRead) (good : Bool) : State :=
  ((s.channelTook f).countFrame f good).holdFrame f.verify (gotOf f good)

theorem State.decodeFrame_of_free {s : State} {f : FrameRead} (hslot : f.place.slot < 136) (hok : s.laneOk f = true)
    (hfree : ∀ n, f.lane = some n → s.ms.slice ≠ some (2, n)) :
    s.decodeFrame f = s.frameTaken f (f.lane.isSome && s.c1Good f) := by
  have hgood : (s.adapt f.place.slot).c1Good = s.c1Good :=
    State.c1Good_congr (State.reg_congr (State.adapt_frame .regs rfl) (State.adapt_frame .board rfl))
  unfold State.decodeFrame
  rw [if_neg (by simp [hok, hslot])]
  extract_lets u v good w
  have hu : u = s := by
    unfold u
    split
    case h_1 n hn => exact State.yieldUnit_of_free (hfree n hn)
    case h_2 => rfl
  have hv : good = (f.lane.isSome && s.c1Good f) := by
    unfold good v
    rw [hu, hgood]
  unfold w
  rw [hv]
  unfold v
  rw [hu]
  rfl

/-- A frame taken moves the loops alone in RC, and RC's registers and ED's beside it. -/
theorem State.frameTaken_spec (s : State) (f : FrameRead) (good : Bool) :
    (s.frameTaken f good).rc = (s.adapt f.place.slot).rc ∧ Frame [.regs, .rc, .ed] s (s.frameTaken f good) := by
  have hcount : Frame [.regs, .ed] (s.adapt f.place.slot) (s.frameTaken f good) :=
    ((State.countChannel_frame.mono rfl).trans (State.countFrame_frame.mono rfl)).trans (State.holdFrame_frame.mono rfl)
  exact ⟨hcount .rc rfl, (State.adapt_frame.mono rfl).trans (hcount.mono rfl)⟩

theorem State.chans_frameTaken (s : State) (f : FrameRead) (good : Bool) :
    (s.frameTaken f good).rc.chans = s.rc.chans ∧ (s.frameTaken f good).rc.geos = s.rc.geos := by
  have hadapt : s.Measured (s.adapt f.place.slot) := State.Measured.adapt
  rw [(s.frameTaken_spec f good).1]
  exact ⟨hadapt.chans, hadapt.geos⟩

/-- FRAME_DECODE on a lane in service. -/
theorem frameDecode_lane {s : State} {f : FrameRead} {n : Nat} (hslot : f.place.slot < 136) (hl : f.lane = some n)
    (hok : s.laneOk f = true) (hfree : s.ms.slice ≠ some (2, n)) :
    ∃ t, exec (.frameDecode f) s = .next t ∧
      (if f.verify then t.ed.verify else t.ed.frames).getLast? = some (gotOf f (s.c1Good f)) ∧
      t.reg .edLaneFrames 0 n = (if s.c1Good f then min (s.reg .edLaneFrames 0 n + 1) 0xFFFFFFFF else s.reg .edLaneFrames 0 n) ∧
      t.reg .edSlotC1fail 0 f.place.slot = (if s.c1Good f || s.isMarked f then s.reg .edSlotC1fail 0 f.place.slot
        else min (s.reg .edSlotC1fail 0 f.place.slot + 1) 0xFFFFFFFF) ∧ t.ed.tiers = s.ed.tiers ∧
      t.rc.chans = s.rc.chans ∧ t.rc.geos = s.rc.geos ∧
      (∀ m l, l < 5 → m ≠ f.place.slot ∨ bitOf (s.reg .rcChFreeze (m / 17) (m % 17)) l = true →
        t.rc.adapted.find (8 * m + l) = s.rc.adapted.find (8 * m + l)) ∧ Frame [.regs, .rc, .ed] s t := by
  have hrun : s.decodeFrame f = s.frameTaken f (s.c1Good f) := by
    have hfree' : ∀ k, f.lane = some k → s.ms.slice ≠ some (2, k) := by
      rintro k hk
      obtain rfl : n = k := Option.some.inj (hl.symm.trans hk)
      exact hfree
    rw [State.decodeFrame_of_free hslot hok hfree', hl]
    rfl
  obtain ⟨hrc, hframe⟩ := s.frameTaken_spec f (s.c1Good f)
  obtain ⟨hchans, hgeos⟩ := s.chans_frameTaken f (s.c1Good f)
  let u := s.channelTook f
  obtain ⟨hlane, hfail, htiers⟩ := State.countFrame_of_lane (s := u) hl (s.c1Good f)
  have hu : State.regsBut _ s u := State.channelTook_regsBut
  have hmarked : u.isMarked = s.isMarked := State.isMarked_congr (funext₂ fun i k => hu .rcDefect i k rfl)
  have hed : u.ed = s.ed := (State.countChannel_frame .ed rfl).trans (State.adapt_frame .ed rfl)
  have hhold : State.regsBut [] (u.countFrame f (s.c1Good f)) (s.frameTaken f (s.c1Good f)) :=
    State.regsBut_of_frame State.holdFrame_frame
  refine ⟨_, congrArg Host.Outcome.next hrun, State.last_holdFrame .., ?_, ?_, ?_, hchans, hgeos, fun m l hlt h => ?_, hframe⟩
  · rw [hhold .edLaneFrames 0 n rfl, hlane, hu .edLaneFrames 0 n rfl]
  · rw [hhold .edSlotC1fail 0 _ rfl, hfail, hmarked, hu .edSlotC1fail 0 _ rfl]
  · exact (State.tiers_holdFrame ..).trans (htiers.trans (congrArg EdState.tiers hed))
  · rw [hrc]
    exact State.adapted_adapt hlt h

/-- FRAME_DECODE of a frame that found no lane (R355). -/
theorem frameDecode_dropped {s : State} {f : FrameRead} (hslot : f.place.slot < 136) (hl : f.lane = none) :
    ∃ t, exec (.frameDecode f) s = .next t ∧ t.reg .edOverrun 0 0 = min (s.reg .edOverrun 0 0 + 1) 0xFFFFFFFF ∧
      (if f.verify then t.ed.verify else t.ed.frames).getLast? = some (gotOf f false) ∧
      t.rc.chans = s.rc.chans ∧ t.rc.geos = s.rc.geos ∧ Frame [.regs, .rc, .ed] s t := by
  have hrun : s.decodeFrame f = s.frameTaken f false := by
    have hok : s.laneOk f = true := by rw [State.laneOk, hl]
    rw [State.decodeFrame_of_free hslot hok (fun n hn => absurd (hl.symm.trans hn) (by simp)), hl]
    rfl
  obtain ⟨-, hframe⟩ := s.frameTaken_spec f false
  obtain ⟨hchans, hgeos⟩ := s.chans_frameTaken f false
  let u := s.channelTook f
  have hcount : u.countFrame f false = u.bump .edOverrun 0 0 := by
    unfold State.countFrame
    rw [hl]
  have hu : State.regsBut _ s u := State.channelTook_regsBut
  have hhold : State.regsBut [] (u.countFrame f false) (s.frameTaken f false) := State.regsBut_of_frame State.holdFrame_frame
  refine ⟨_, congrArg Host.Outcome.next hrun, ?_, State.last_holdFrame .., hchans, hgeos, hframe⟩
  rw [hhold .edOverrun 0 0 rfl, hcount, ← hu .edOverrun 0 0 rfl]
  exact State.reg_bumpBy_self ..

/-! ### Channels (R349, R350) -/

theorem State.chan_congr {s t : State} (h : t.rc.chans = s.rc.chans) : t.chan = s.chan := by
  funext n
  simp only [State.chan, h]

theorem State.chan_modChan_self {s : State} {n : Nat} (hn : n < 136) (g : RcChan → RcChan) :
    (s.modChan n g).chan n = g (s.chan n) := by
  unfold State.modChan
  rw [if_pos hn]
  exact Tab.get_set_self ..

theorem State.chan_modChan_ne (s : State) {n m : Nat} (g : RcChan → RcChan) (h : m ≠ n) :
    (s.modChan n g).chan m = s.chan m := by
  unfold State.modChan
  split
  · exact Tab.get_set_ne _ _ _ h
  · rfl

theorem State.geos_modChan (s : State) (n : Nat) (g : RcChan → RcChan) : (s.modChan n g).rc.geos = s.rc.geos := by
  unfold State.modChan
  split <;> rfl

/-- Channels changed one after another, each once. -/
theorem State.chan_foldl_modChan (g : Nat → RcChan → RcChan) {l : List Nat} (hl : l.Nodup) (s : State) {m : Nat}
    (hm : m < 136) : (l.foldl (fun s n => s.modChan n (g n)) s).chan m = if m ∈ l then g m (s.chan m) else s.chan m := by
  induction l generalizing s with
  | nil => rfl
  | cons n l ih =>
    obtain ⟨hn, hl⟩ := List.nodup_cons.mp hl
    rw [List.foldl_cons, ih hl]
    by_cases h : m = n
    · subst h
      rw [if_neg hn, if_pos (List.mem_cons_self ..), State.chan_modChan_self hm]
    · rw [State.chan_modChan_ne _ _ h]
      simp only [List.mem_cons, h, false_or]

theorem State.geos_foldl_modChan (g : Nat → RcChan → RcChan) (l : List Nat) (s : State) :
    (l.foldl (fun s n => s.modChan n (g n)) s).rc.geos = s.rc.geos := by
  induction l generalizing s with
  | nil => rfl
  | cons n l ih => exact (ih _).trans (s.geos_modChan n _)

/-- Every slot takes its place in the active set, and its lock stays (R350). -/
theorem State.spreadSteps_spec (s : State) (g : Geometry) {n : Nat} (hn : n < 136) :
    ((s.spreadSteps g).chan n).active = (g.stepOf n).isSome ∧ ((s.spreadSteps g).chan n).locked = (s.chan n).locked := by
  unfold State.spreadSteps
  rw [State.chan_foldl_modChan _ List.nodup_range s hn, if_pos (List.mem_range.mpr hn)]
  cases g.stepOf n with
  | none => exact ⟨rfl, rfl⟩
  | some st => exact ⟨rfl, rfl⟩

theorem State.geos_spreadSteps (s : State) (g : Geometry) : (s.spreadSteps g).rc.geos = s.rc.geos := State.geos_foldl_modChan ..

/-! ### Preambles (R274, R350, R366) -/

theorem State.geometry?_congr {s t : State} (h : t.rc.geos = s.rc.geos) : t.geometry? = s.geometry? := by
  funext n
  simp only [State.geometry?, h]

theorem State.chans_keepGeometry (s : State) (g : Geometry) : (s.keepGeometry g).rc.chans = s.rc.chans := by
  unfold State.keepGeometry
  split
  · split <;> rfl
  · rfl

/-- The geometry of a dataset not known yet is kept (R274). -/
theorem State.geometry?_keepGeometry {s : State} {g : Geometry} (h : s.geometry? g.num = none) :
    (s.keepGeometry g).geometry? g.num = some g := by
  have hrun : s.keepGeometry g = { s with rc := { s.rc with geos := s.rc.geos ++ [g] } } := by
    unfold State.keepGeometry
    rw [h]
  rw [hrun]
  unfold State.geometry? at h ⊢
  rw [List.find?_append, h]
  simp

/-- The channel locks, every slot takes its step, and a dataset's geometry is kept. -/
def State.lockOn (s : State) (slot : Nat) (g : Geometry) : State :=
  let u := ((s.adapt slot).modChan slot fun c => { c with locked := true }).spreadSteps g
  if g.kind < 3 then u.keepGeometry g else u

theorem State.lockOn_spec (s : State) {slot : Nat} (g : Geometry) (hslot : slot < 136) :
    ((s.lockOn slot g).chan slot).locked = true ∧
      (∀ n, n < 136 → ((s.lockOn slot g).chan n).active = (g.stepOf n).isSome) ∧
      (g.kind < 3 → s.geometry? g.num = none → (s.lockOn slot g).geometry? g.num = some g) := by
  let v := (s.adapt slot).modChan slot fun c => { c with locked := true }
  have hchan : (s.lockOn slot g).chan = (v.spreadSteps g).chan := by
    unfold State.lockOn
    extract_lets u
    split
    · exact State.chan_congr (u.chans_keepGeometry g)
    · rfl
  have hgeos : (v.spreadSteps g).geometry? = s.geometry? := by
    refine State.geometry?_congr ((v.geos_spreadSteps g).trans ((State.geos_modChan ..).trans ?_))
    exact State.Measured.adapt.geos
  rw [hchan]
  refine ⟨?_, fun n hn => (v.spreadSteps_spec g hn).1, fun hkind hnew => ?_⟩
  · rw [(v.spreadSteps_spec g hslot).2, State.chan_modChan_self hslot]
  · unfold State.lockOn
    rw [if_pos hkind]
    exact State.geometry?_keepGeometry ((congrFun hgeos _).trans hnew)

theorem State.lockOn_frame {s : State} {slot : Nat} {g : Geometry} : Frame [.rc] s (s.lockOn slot g) := by
  have h : Frame [.rc] s (((s.adapt slot).modChan slot fun c => { c with locked := true }).spreadSteps g) :=
    (State.adapt_frame.trans State.modChan_frame).trans State.spreadSteps_frame
  exact Frame.ite (h.trans State.keepGeometry_frame) h

/-- A preamble is the 1,216 bits that it brings. -/
theorem take_preamble {bits : Bits} (h : bits.length = 1216) : (bits ++ List.replicate 1216 false).take 1216 = bits :=
  List.take_left' h

theorem State.preamble_of_info {s : State} {slot : Nat} {bits info : Bits} (verify : Bool) (hslot : slot < 136)
    (hlen : bits.length = 1216) (hinfo : preambleInfo bits = some info) (hformat : natOfBE (info.take 8) = 0xD7) :
    s.preamble slot bits verify = (s.lockOn slot (readGeometry info)).resumeVector (readGeometry info) := by
  unfold State.preamble
  rw [if_neg (by omega), take_preamble hlen, hinfo]
  exact if_neg (not_not_intro hformat)

/-- PREAMBLE_DECODE of a preamble that decodes. -/
theorem State.preamble_locks {s : State} {slot : Nat} {bits info : Bits} (verify : Bool) (hslot : slot < 136)
    (hlen : bits.length = 1216) (hinfo : preambleInfo bits = some info) (hformat : natOfBE (info.take 8) = 0xD7) :
    let t := s.preamble slot bits verify
    let g := readGeometry info
    (t.chan slot).locked = true ∧ (∀ n, n < 136 → (t.chan n).active = (g.stepOf n).isSome) ∧ t.regs = s.regs ∧
      (g.kind < 3 → s.geometry? g.num = none → t.geometry? g.num = some g) := by
  intro t g
  have hrun : t = (s.lockOn slot g).resumeVector g := State.preamble_of_info verify hslot hlen hinfo hformat
  obtain ⟨hlocked, hactive, hkept⟩ := s.lockOn_spec g hslot
  have hresume : Frame [.pe, .vc] (s.lockOn slot g) t := hrun ▸ State.resumeVector_frame
  have hrc : t.rc = (s.lockOn slot g).rc := hresume .rc rfl
  have hchan : t.chan = (s.lockOn slot g).chan := State.chan_congr (congrArg RcState.chans hrc)
  have hgeo : t.geometry? = (s.lockOn slot g).geometry? := State.geometry?_congr (congrArg RcState.geos hrc)
  rw [hchan, hgeo]
  exact ⟨hlocked, hactive, (hresume .regs rfl).trans (State.lockOn_frame .regs rfl), hkept⟩

/-- PREAMBLE_DECODE of a preamble that does not decode. -/
theorem State.preamble_counts {s : State} {slot : Nat} {bits : Bits} (verify : Bool) (hslot : slot < 136)
    (hlen : bits.length = 1216) (hinfo : preambleInfo bits = none) :
    let t := s.preamble slot bits verify
    Frame [.regs, .rc] s t ∧ t.rc.chans = s.rc.chans ∧ t.rc.geos = s.rc.geos ∧ State.regsBut [.rcChPreFail, .vcPreFail] s t ∧
      t.reg .rcChPreFail (slot / 17) (slot % 17) = min (s.reg .rcChPreFail (slot / 17) (slot % 17) + 1) 0xFFFFFFFF := by
  let u := (s.adapt slot).bump .rcChPreFail (slot / 17) (slot % 17)
  have hrun : s.preamble slot bits verify = if verify then u.bump .vcPreFail 0 0 else u := by
    unfold State.preamble
    rw [if_neg (by omega), take_preamble hlen, hinfo]
  intro t
  have hadapt : s.Measured (s.adapt slot) := State.Measured.adapt
  have hsame : State.regsBut [] s (s.adapt slot) := State.regsBut_of_frame State.adapt_frame
  have hcount : Frame [.regs] (s.adapt slot) t := by
    unfold t
    rw [hrun]
    exact Frame.ite (State.bump_frame.trans State.bump_frame) State.bump_frame
  have hlast : State.regsBut [.vcPreFail] u t := by
    unfold t
    rw [hrun]
    split
    · exact State.regsBut_bumpBy (List.mem_singleton_self _)
    · exact State.regsBut_refl
  have hu : State.regsBut [.rcChPreFail] (s.adapt slot) u := State.regsBut_bumpBy (List.mem_singleton_self _)
  have hrc : t.rc = (s.adapt slot).rc := hcount .rc rfl
  refine ⟨(State.adapt_frame.mono rfl).trans (hcount.mono rfl), ?_, ?_, ?_, ?_⟩
  · rw [hrc, hadapt.chans]
  · rw [hrc, hadapt.geos]
  · exact State.regsBut_trans (State.regsBut_mono hsame (by simp))
      (State.regsBut_trans (State.regsBut_mono hu (by simp)) (State.regsBut_mono hlast (by simp)))
  · rw [hlast .rcChPreFail _ _ rfl, ← hsame .rcChPreFail _ _ rfl]
    exact State.reg_bumpBy_self ..

/-- LOSS_OF_LOCK and TIMING_LOCK_REACQUIRE (R349). -/
theorem exec_lock (s : State) {slot : Nat} (b : Bool) (hslot : slot < 136) :
    ∃ t, exec (if b then .timingLockReacquire slot else .lossOfLock slot) s = .next t ∧
      t.chan slot = { s.chan slot with locked := b } ∧ (∀ n, n ≠ slot → t.chan n = s.chan n) ∧ t.rc.geos = s.rc.geos ∧
      Frame [.rc] s t := by
  refine ⟨s.modChan slot fun c => { c with locked := b }, ?_, State.chan_modChan_self hslot _,
    fun n hn => State.chan_modChan_ne s _ hn, s.geos_modChan slot _, State.modChan_frame⟩
  cases b with
  | true => rfl
  | false => rfl

/-- Settles O33: a frame on a lane, a frame without one, a preamble that decodes or does not, and the lock of a channel. That
ED_LANE_FRAMES counts decoded frames alone, and how loops adapt, are the model's choices (log entries 43 and 77). -/
theorem framesAndPreamblesAreDecoded : Obligations.FramesAndPreamblesAreDecoded := by
  refine ⟨fun s f n hslot hl hok hfree => frameDecode_lane hslot hl hok hfree, fun s f hslot hl => ?_,
    fun s slot bits verify hslot hlen => ?_, fun s slot b hslot => exec_lock s b hslot⟩
  · obtain ⟨t, hexec, hcount, hlast, hrest⟩ := frameDecode_dropped (s := s) hslot hl
    exact ⟨t, hexec, hcount, ⟨_, hlast, rfl, rfl⟩, hrest⟩
  · exact ⟨_, rfl, State.preamble_frame, fun info hinfo hformat => State.preamble_locks verify hslot hlen hinfo hformat,
      fun hinfo => State.preamble_counts verify hslot hlen hinfo⟩

end Sys2Proof.Machine
end
